-- ==== Sys2Proof/Word.lean ====
section
/-!
DEFINITION. Sys2Proof/Word.lean: the word types of the W7 (R2 to R4, R13, R223) and their plainest arithmetic.
-/
namespace Sys2Proof

/-- One byte (R4). -/
abbrev Byte := BitVec 8
/-- A register word (R13). -/
abbrev Word := BitVec 32
/-- A 64-bit quantity: two registers (R13), a general register, a stitch counter, a timebase value (R35). -/
abbrev Dword := BitVec 64
/-- The 32-byte payload of a cell (R223). -/
abbrev Payload := BitVec 256
/-- A 48-byte cell (R223), byte 0 in the low bits. -/
abbrev CellBits := BitVec 384
/-- A 64-byte descriptor, Sieve record or table unit (R183), byte 0 in the low bits. -/
abbrev Line := BitVec 512
/-- A table held by key: the keys strictly rising, and no entry equal to what an unlisted key reads as. -/
abbrev Sparse (α : Type) := List (Nat × α)

end Sys2Proof
end

