-- ==== Sys2Proof/Syntax.lean ====
section
/-!
DEFINITION. Sys2Proof/Syntax.lean: the commands the W7 takes, one constructor per row of the command table, with their operands.
Who sends a command and what its operands are is said at each group; R<n> names the numbered rule of the spec.
-/
namespace Sys2Proof

/-- Who starts a register transaction: the initiator field of R234. -/
inductive Initiator where
  | keeper (k : Fin 3) (tag : Byte := 0) | fabM7 | fabM15 | i3c | site (n : Fin 59) | tally
deriving DecidableEq, Repr

/-- The page types of R534. -/
inductive PageType where
  | core | cdie | xe | pager | rows | clkreg | mport | mchan | sieve | phoHome | phoSite | xport | fab | rankmap
  | region | kettle | fdoor | lsm | pwr | therm | cal | age | timebase | keeper | tally | folio
deriving DecidableEq, Repr

/-- The two contexts of a core (R35). -/
inductive Ctx where
  | d | p
deriving DecidableEq, Repr

/-- The three engines that take commands from a bundle (R42). -/
inductive Engine where
  | me | ve | rm
deriving DecidableEq, Repr

/-- The four bundle slots of R42. -/
inductive BundleSlot where
  | sq | rm | ve | me
deriving DecidableEq, Repr

/-- A ring with a lock loop (R254, R257 to R260, R264): of a receive lane, of a writer's modulator for a slot, of a site's relay of
the arbitration stream of a waveguide, or of a port's TX or RX slot. -/
inductive Ring where
  | receive (grp : Fin 1158) (off : Fin 10)
  | modulator (site : Fin 59) (grp : Fin 1158) (off : Fin 10)
  | arbitration (site : Fin 59) (wave : Fin 291)
  | portTx (port : Fin 6) (off : Fin 10)
  | portRx (port : Fin 6) (off : Fin 10)
deriving DecidableEq, Repr

/-- The classes of bond group of a stack (R119), in the order of ROWS.BOND_LOG. -/
inductive BondClass where
  | data | control | clock | power | cell
deriving DecidableEq, Repr

/-- A bond position of a stack (R119, R121): the class of its group, whether that is on the base–S interface, the group's number within the class there,
and the position 0 to 63. -/
structure Bond where
  cls : BondClass
  base : Bool
  grp : Nat
  pos : Nat
deriving DecidableEq, Repr

/-- A character of the line code (R206): a K or a D character with its byte. -/
structure LineChar where
  k : Bool
  b : Byte
deriving DecidableEq, Repr

/-- A training set as received on a slot of a group (R208, R226): for how many nanoseconds it has come without a break. -/
structure TsSeen where
  off : Fin 10
  set : List LineChar
  held : Nat
deriving DecidableEq, Repr

/-- A token character as it reaches a site (R210, R212): the character as received, none for a code violation, and when the site's request was made, in
timebase nanoseconds. -/
structure TokenSeen where
  char : Option Byte
  asked : Nat
deriving DecidableEq, Repr

/-- The end of a burst (R213): its group, and whether the transmitter went on past 16 cells. -/
structure BurstEnd where
  grp : Fin 1158
  ranOn : Bool
deriving DecidableEq, Repr

/-- What a lane's receiver shows (R227): for how many nanoseconds its tap has shown loss of light, and in how many of the last 32 bursts a port's lane has
shown code violations (a lane of the base counts its own). -/
structure LaneLoss where
  dark : Nat
  bad : Nat
deriving DecidableEq, Repr

/-- An IDENT asked of a site (R237), with the physical cores of the site's compute die that fail the self-test that firmware runs in Larva (R37). -/
structure IdentAsk where
  site : BitVec 6
  failed : BitVec 52
deriving DecidableEq, Repr

/-- What Identify reads of an LSM beside its names (R246): the serial number, the output count and the laser-pair map. -/
structure LsmRead where
  serial : BitVec 128
  outputs : Nat
  pairs : List (BitVec 4)
deriving DecidableEq, Repr

/-- A received line of a port (R264, R289): its slot offset, its offset from the device's own grid channel, in 10 MHz, and the sets received on it. -/
structure PortLine where
  off : Fin 10
  light : Int
  sets : List (List LineChar)
deriving DecidableEq, Repr

/-- What a reader hears in a writer's turn of a sweep (R261, R262): the writer, the ordered set, how often it came without a code violation, and the times of its
first and last. -/
structure MarkRun where
  site : Fin 59
  set : List LineChar
  count : Nat
  first : Nat
  last : Nat
deriving DecidableEq, Repr

/-- A sweep that started at timebase nanosecond `start`, and what was heard in it (R262). -/
structure SweepHeard where
  start : Nat
  marks : List MarkRun
deriving DecidableEq, Repr

/-- Where a front-door datagram comes from (R360): the port it arrives on, IPv6 or IPv4, and its source address and UDP port. -/
structure Peer where
  port : Fin 2
  v6 : Bool
  ip : BitVec 128
  udp : BitVec 16
deriving DecidableEq, Repr

/-- A received Ethernet frame (R358, R359): its source, its length, whether it is of a kind that R358 does not support, whether its
datagram has options, extension headers or is a fragment, and whether a checksum in it is wrong. -/
structure Frame where
  peer : Peer
  length : Nat
  unsupported : Bool
  options : Bool
  badSum : Bool
deriving DecidableEq, Repr

/-- A figure set that the power monitors report each millisecond (R439, R441): input voltage in 10 mV, current in 10 mA, window in W, energy in
J since the last report, die powers by position code and memory powers by die, in 10 mW. -/
structure PowerFigures where
  volt : Nat
  amp : Nat
  watt : Nat
  joule : Nat
  dies : List (Nat × Nat)
  mem : List Nat
deriving DecidableEq, Repr

/-- What the ageing monitors read at the end of an epoch (R464): slowdown by region in 0.01 %, resistance rise by site in 0.01 %, heater
efficiency change by site in 0.1 %. -/
structure AgeFigures where
  slow : List Nat
  rise : List Nat
  heater : List Int
deriving DecidableEq, Repr

/-- The commands of the block: one constructor per row of the command table. -/
inductive Instr where
  -- Register access (chapters Register access and Register Pages). `ep` is the role epoch of the header word (R234).
  | registerWrite (ini : Initiator) (ep : BitVec 8) (addr data : Word)
  | rcRead (ini : Initiator) (addr : Word)
  | lowHalfRead (ini : Initiator) (addr : Word)
  | highHalfRead (ini : Initiator) (addr : Word)
  | highHalfWrite (ini : Initiator) (ep : BitVec 8) (addr data : Word)
  | lowHalfWrite (ini : Initiator) (ep : BitVec 8) (addr data : Word)
  | softReset (ini : Initiator) (ep : BitVec 8) (page : BitVec 16)
  | pageLock (ini : Initiator) (ep : BitVec 8) (page : BitVec 16)
  | pageUnlock (ini : Initiator) (ep : BitVec 8) (page : BitVec 16)
  | pageIrqForce (ini : Initiator) (ep : BitVec 8) (page : BitVec 16) (bits : Word)
  | bcastWrite (ini : Initiator) (ep : BitVec 8) (addr data : Word)
  | irqTelemetry (page : BitVec 16)
  | irqPeriodicMessage (page : BitVec 16)
  | i3cPointerWrite (addr : Word)
  | i3cWordWrite (addr : Word) (words : List Word)
  | i3cPrivateRead (n : Nat)
  | entdaa (dyn : BitVec 7)
  | setdasa (dyn : BitVec 7)
  -- The sequencer (R44, R54). Each row but BUNDLE_ISSUE names one SQ command with its fields: a bundle that carries
  -- it with NOPs in the other bundle slots, offered for issue at the context's present PC.
  | bundleIssue (core : Fin 2000) (ctx : Ctx)
  | nop (core : Fin 2000) (ctx : Ctx) (slot : BundleSlot) (low : BitVec 56)
  | endCmd (core : Fin 2000) (ctx : Ctx)
  | fence (core : Fin 2000) (ctx : Ctx)
  | wait (core : Fin 2000) (ctx : Ctx) (ra : Fin 16) (ctr : Fin 32)
  | sig (core : Fin 2000) (ctx : Ctx) (ctr : Fin 32)
  | rdctr (core : Fin 2000) (ctx : Ctx) (rd : Fin 16) (ctr : Fin 32)
  | cwait (core : Fin 2000) (ctx : Ctx) (n : Word)
  | twait (core : Fin 2000) (ctx : Ctx) (ra : Fin 16)
  | rdtb (core : Fin 2000) (ctx : Ctx) (rd : Fin 16)
  | ldi (core : Fin 2000) (ctx : Ctx) (rd : Fin 16) (imm : BitVec 48)
  | addi (core : Fin 2000) (ctx : Ctx) (rd ra : Fin 16) (imm : BitVec 48)
  | add (core : Fin 2000) (ctx : Ctx) (rd ra rb : Fin 16)
  | sub (core : Fin 2000) (ctx : Ctx) (rd ra rb : Fin 16)
  | and (core : Fin 2000) (ctx : Ctx) (rd ra rb : Fin 16)
  | or (core : Fin 2000) (ctx : Ctx) (rd ra rb : Fin 16)
  | xor (core : Fin 2000) (ctx : Ctx) (rd ra rb : Fin 16)
  | shl (core : Fin 2000) (ctx : Ctx) (rd ra rb : Fin 16)
  | shr (core : Fin 2000) (ctx : Ctx) (rd ra rb : Fin 16)
  | mul (core : Fin 2000) (ctx : Ctx) (rd ra rb : Fin 16)
  | jmp (core : Fin 2000) (ctx : Ctx) (target : BitVec 12)
  | br (core : Fin 2000) (ctx : Ctx) (ra rb : Fin 16) (cond : BitVec 4) (target : BitVec 12)
  | dbnz (core : Fin 2000) (ctx : Ctx) (ra : Fin 16) (target : BitVec 12)
  | hld (core : Fin 2000) (ctx : Ctx) (rd ra : Fin 16) (size : Bool)
  | hst (core : Fin 2000) (ctx : Ctx) (rs ra : Fin 16) (size : Bool)
  | hatAdd (core : Fin 2000) (ctx : Ctx) (rd ra rb : Fin 16) (size : Bool)
  | hatMin (core : Fin 2000) (ctx : Ctx) (rd ra rb : Fin 16) (size : Bool)
  | hatMax (core : Fin 2000) (ctx : Ctx) (rd ra rb : Fin 16) (size : Bool)
  | hatSwap (core : Fin 2000) (ctx : Ctx) (rd ra rb : Fin 16) (size : Bool)
  | hatCas (core : Fin 2000) (ctx : Ctx) (rd ra rb : Fin 16) (size : Bool)
  | hatFadd (core : Fin 2000) (ctx : Ctx) (rd ra rb : Fin 16) (size : Bool)
  | xpost (core : Fin 2000) (ctx : Ctx) (ra : Fin 16)
  | kinc (core : Fin 2000) (ctx : Ctx) (kettle : BitVec 8)
  -- The engines (R47): the engine looks at the head of that context's queue and starts it if it is this command.
  | mcfg (core : Fin 2000) (ctx : Ctx)
  | mlcb (core : Fin 2000) (ctx : Ctx)
  | mma (core : Fin 2000) (ctx : Ctx)
  | mst (core : Fin 2000) (ctx : Ctx)
  | mld (core : Fin 2000) (ctx : Ctx)
  | rmld (core : Fin 2000) (ctx : Ctx)
  | rmst (core : Fin 2000) (ctx : Ctx)
  | rmx (core : Fin 2000) (ctx : Ctx)
  | vadd (core : Fin 2000) (ctx : Ctx)
  | vsub (core : Fin 2000) (ctx : Ctx)
  | vmul (core : Fin 2000) (ctx : Ctx)
  | vmax (core : Fin 2000) (ctx : Ctx)
  | vmin (core : Fin 2000) (ctx : Ctx)
  | vfma (core : Fin 2000) (ctx : Ctx)
  | vsmul (core : Fin 2000) (ctx : Ctx)
  | vsadd (core : Fin 2000) (ctx : Ctx)
  | vexp2 (core : Fin 2000) (ctx : Ctx)
  | vlog2 (core : Fin 2000) (ctx : Ctx)
  | vrcp (core : Fin 2000) (ctx : Ctx)
  | vrsqrt (core : Fin 2000) (ctx : Ctx)
  | vabs (core : Fin 2000) (ctx : Ctx)
  | vneg (core : Fin 2000) (ctx : Ctx)
  | vmov (core : Fin 2000) (ctx : Ctx)
  | vcvt (core : Fin 2000) (ctx : Ctx)
  | vrsum (core : Fin 2000) (ctx : Ctx)
  | vrmax (core : Fin 2000) (ctx : Ctx)
  | vtopk (core : Fin 2000) (ctx : Ctx)
  | vsamp (core : Fin 2000) (ctx : Ctx)
  | vrng (core : Fin 2000) (ctx : Ctx)
  -- Core events and firmware's writes to the CORE page (R51, R53, R75, R78).
  | engineCommandComplete (core : Fin 2000) (eng : Engine)
  | waitTmo (core : Fin 2000) (ctx : Ctx) (slot : BundleSlot)
  | dStart (ini : Initiator) (ep : BitVec 8) (core : Fin 2000)
  | pStart (ini : Initiator) (ep : BitVec 8) (core : Fin 2000)
  | dAbort (ini : Initiator) (ep : BitVec 8) (core : Fin 2000)
  | pPreempt (ini : Initiator) (ep : BitVec 8) (core : Fin 2000)
  | pResume (ini : Initiator) (ep : BitVec 8) (core : Fin 2000)
  | clearCtr (ini : Initiator) (ep : BitVec 8) (core : Fin 2000)
  | abortDrainComplete (core : Fin 2000)
  | parkComplete (core : Fin 2000)
  | ctxBanksWrite (ini : Initiator) (ep : BitVec 8) (core : Fin 2000) (dBanks pBanks : Byte)
  | gRegisterWrite (ini : Initiator) (ep : BitVec 8) (core : Fin 2000) (ctx : Ctx) (reg : Fin 16) (v : Dword)
  -- The row store and the stack governor (R107 to R135).
  | rowGrant (stack : Fin 40) (bank : Fin 32)
  | rowScrub (stack : Fin 40)
  | spareRowRemap (stack : Fin 40) (bank : Fin 32) (row : BitVec 16)
  -- The group's class and whether it is on the base–S interface; its number there and the bond's position (R119, R121).
  | bondFailDeclare (stack : Fin 40) (kind : BondClass × Bool) (grp pos : Nat)
  | bondRepair (stack : Fin 40) (kind : BondClass × Bool) (place : Nat × Nat)
  | halfRowEntry (stack : Fin 40)
  | governorTick (stack : Fin 40)
  | powerSample (stack : Fin 40) (compute rowStore base : BitVec 10)
  | capLimitWrite (ini : Initiator) (ep : BitVec 8) (stack : Fin 40) (sustained surge : Byte)
  | surgeGrantWrite (ini : Initiator) (ep : BitVec 8) (stack : Fin 40) (grant : Bool)
  -- Main memory (R136 to R166). `src` is the position code of the requesting die, `grp` the group of the home channel
  -- on which the cell arrived, `blk` physical address bits [41:10].
  | mrd (src : Byte) (tag : BitVec 16) (grp : BitVec 5) (blk : BitVec 32) (first : BitVec 4) (count : BitVec 4)
  | mwr (src : Byte) (tag : BitVec 16) (grp : BitVec 5) (blk : BitVec 32) (chunk : BitVec 5) (data : Payload)
  | mwrp (src : Byte) (tag : BitVec 16) (grp : BitVec 5) (addr : Dword) (len : BitVec 8) (data : BitVec 128)
  | mcas (src : Byte) (tag : BitVec 16) (addr expected new : Dword)
  | memCommandIssue (chan : Fin 384)
  | mrsp (dst : Byte) (tag : BitVec 16) (chunk : BitVec 5) (data : Payload)
  | mwack (dst : Byte) (tag : BitVec 16) (chunk : BitVec 5)
  | mpoison (dst : Byte) (tag : BitVec 16) (chunk : BitVec 5)
  | mcasr (dst : Byte) (tag : BitVec 16) (found : Dword) (success : Bool)
  | memScrub (chan : Fin 384)
  | refreshDue (chan : Fin 384) (bank : Fin 16)
  | refreshRateChange (chan : Fin 384) (rate : Fin 3)
  | channelRetrain (chan : Fin 384) (good : Bool)
  | retrainDeadline (chan : Fin 384) (good : Bool)
  | memoryTraining (tries : List (Fin 384 × Fin 4))
  | phyPllAlarm (phy : Fin 32) (persists : Bool)
  | sieveSeal (unit : Fin 64)
  | sieveQuery (unit : Fin 64)
  | svop (unit : Fin 64) (src : Byte) (tag : BitVec 16) (blk : BitVec 32) (chunk : BitVec 5) (data : Payload)
  | svdone (stack : Fin 40) (tag : BitVec 16) (status : Byte)
  -- The XE and the Pager (R167 to R199).
  | chainActivate (stack : Fin 40)
  | descriptorFetched (stack : Fin 40) (place : Fin 16)
  | pieceIssue (stack : Fin 40)
  | walkStep (unit : Fin 42) (walk : Fin 8)
  | pagerFaultReceive (stack : Fin 40)
  | zeroFill (stack : Fin 40)
  -- `data` is the content of the segment that the ticket delivers where its source is a peer rank (R392).
  | ticketDone (ticket : BitVec 16) (data : List Byte)
  | resume (stack : Fin 40) (entry : BitVec 42)
  | loadTmo (stack : Fin 40)
  | poolPush (ini : Initiator) (ep : BitVec 8) (stack : Fin 40) (page : Dword)
  | pieceComplete (stack : Fin 40) (tag : BitVec 16)
  | recordWriteComplete (stack : Fin 40) (seq : Nat)
  | tableBaseWrite (ini : Initiator) (ep : BitVec 8) (stack : Fin 40) (v : Dword)
  | tagLimitWrite (ini : Initiator) (ep : BitVec 8) (stack : Fin 40) (v : BitVec 12)
  -- The photonic base (R200 to R232). `grp` is the device-wide group number (R200), `site` a base site, `off` a slot offset.
  -- The token character of a group reaches a site (R210 to R212); `cells` is what the site has to send.
  | tokenCapture (site : Fin 59) (grp : Fin 1158) (seen : TokenSeen) (cells : List CellBits)
  | tokenRelease (site : Fin 59) (ended : BurstEnd)
  -- The code groups received on logical lanes 0 to 3 and 4 to 7, from SOB to EOB (R206, R209).
  | burstReceive (grp : Fin 1158) (site : Fin 59) (lower upper : List (List (BitVec 10)))
  | burstAck (site : Fin 59) (grp : Fin 1158) (id : BitVec 4)
  | burstNak (site : Fin 59) (grp : Fin 1158) (id idx : BitVec 4)
  | statusTimeout (site : Fin 59) (grp : Fin 1158)
  | retryLimitExpiry (site : Fin 59) (grp : Fin 1158)
  | groupBlock (ini : Initiator) (ep : BitVec 8) (grp : Fin 1158)
  | groupBlocked (grp : Fin 1158)
  | groupUnblock (ini : Initiator) (ep : BitVec 8) (grp : Fin 1158)
  | groupSleep (ini : Initiator) (ep : BitVec 8) (grp : Fin 1158)
  | groupWake (ini : Initiator) (ep : BitVec 8) (grp : Fin 1158)
  | groupSpare (ini : Initiator) (ep : BitVec 8) (grp : Fin 1158) (lane : Fin 8) (off : BitVec 4)
  | tokenRegenerate (grp : Fin 1158)
  | groupSleepEntry (grp : Fin 1158)
  | wake (grp : Fin 1158)
  | ready (grp : Fin 1158)
  | wakeFailure (grp : Fin 1158)
  | laneLockAchieved (grp : Fin 1158) (off : Fin 10)
  | tsMatch (grp : Fin 1158) (seen : TsSeen)
  | tsWrongSlot (grp : Fin 1158) (seen : TsSeen)
  | trainingTimeout (grp : Fin 1158) (off : Fin 10)
  -- The lane of a receive ring.
  | laneHardFail (ring : Ring) (loss : LaneLoss)
  | groupStart (grp : Fin 1158)
  | sparingSwitch (grp : Fin 1158)
  | sparingEnd (grp : Fin 1158)
  -- `cause` is that of PHO_SITE.TX_LOG: 1 lock lost, 2 serialiser PLL, 3 retry limit.
  | transmitterWithdraw (site : Fin 59) (tx : BitVec 7) (cause : BitVec 2)
  -- A word that a site's hop sends, and what arrives of it, attempt by attempt, with its parity bits (R233).
  | spineHopRetry (ini : Initiator) (site : Fin 59) (word : Dword) (got : List (Dword × Byte))
  | ident (ask : IdentAsk)
  | identTimeout (die : Byte)
  -- Kettles on the spine (R349 to R351).
  | kettleIncrement (kettle : BitVec 8)
  | kettleRelease (kettle : BitVec 8)
  | krel (kettle : BitVec 8)
  -- Light sources and rings (R246 to R279). Powers are in 0.01 dB, frequency offsets in 10 MHz, line 40 is line A.
  -- What Identify reads (R246), and the outputs whose probe succeeds.
  | lsmIdentify (lsm : Fin 7) (present : Bool) (names : BitVec 256) (read : LsmRead) (probes : BitVec 4)
  | cmisFail (lsm : Fin 7) (retries : Fin 4) (good : Bool)
  -- The offset is against the reference resonance, without its residual offset (R251).
  | lineMonitorVisit (fibre : Fin 26) (line : Fin 41) (power offset : Int)
  | refLightLoss
  | refLightRestored
  | holdoverExpiry
  | lockLoopUpdate (ring : Ring) (err : Int)
  | calPassStart
  | laneCal (grp : Fin 1158)
  -- The slot of a receive ring, or of a port's TX ring.
  | calTimeout (ring : Ring)
  | blockingCal (grp : Fin 1158) (good : BitVec 10)
  | markSweep (grp : Fin 1158) (off : Fin 10) (heard : SweepHeard)
  | sweepOutcome (grp : Fin 1158) (off : Fin 10)
  | commissioning (fibre : Fin 26) (line : Fin 41) (power : Int)
  | fadeCrossing (fibre : Fin 26) (line : Fin 41)
  | fadeRecovery (fibre : Fin 26) (line : Fin 41)
  -- The output of the LSM names the fibre (R244).
  | rapidFade (lsm : Fin 7) (out : Fin 4) (line : Fin 41)
  -- A laser pair is named by its LSM, the outputs it feeds and its line.
  | swapTrigger (lsm : Fin 7) (outs : BitVec 4) (line : Fin 41)
  | swapPauseStart (lsm : Fin 7) (outs : BitVec 4) (line : Fin 41)
  | swapPauseEnd (lsm : Fin 7) (outs : BitVec 4) (line : Fin 41)
  | swapCheck (lsm : Fin 7) (outs : BitVec 4) (line : Fin 41) (power offset : Int)
  -- `disabled` is whether the LSM has read back that the output is disabled.
  | interlockUnmated (fibre : Fin 26) (tap : Int) (disabled : Bool)
  | interlockEnableDrop (fibre : Fin 26)
  | probe (fibre : Fin 26) (tap : Int)
  | safetyRestore (ini : Initiator) (ep : BitVec 8) (lsm : Fin 7) (outs : BitVec 4)
  | lsmRemoval (lsm : Fin 7)
  | lineSelWrite (ini : Initiator) (ep : BitVec 8) (lsm : Fin 7) (v : Word)
  -- Hall fabric links (R280 to R327). `off` is a slot offset; a cell is an external cell of R303.
  | codewordDecode (port : Fin 6) (off : Fin 10) (chars : List Byte) (bad disp : BitVec 136)
  | alignmentLoss (port : Fin 6) (off : Fin 10)
  | portTrainStart (port : Fin 6)
  -- Sixteen valid XTS received on a slot, with the fields of R289.
  | xtsReceive (port : Fin 6) (lane : PortLine) (slot role sender flags : Byte) (coord dims : BitVec 12) (serial : Dword) (expect : BitVec 12)
  | xstart (port : Fin 6)
  | trainAttemptTimeout (port : Fin 6)
  | xtsAtBoundary (port : Fin 6) (lanes : BitVec 8)
  | discoveryTimeout
  | portSleep (port : Fin 6)
  | sleep (port : Fin 6)
  | portWake (port : Fin 6)
  | portRetrain (port : Fin 6)
  | retrainTimeout (port : Fin 6)
  | pausedEntry (port : Fin 6)
  | pausedEnd (port : Fin 6)
  | spareReq (port : Fin 6) (lane : Fin 8)
  | spareBegin (port : Fin 6) (lane : Fin 8) (off : Fin 10)
  -- `same` is whether the codewords on the spare matched the lane's own.
  | spareSwitch (port : Fin 6) (same : Bool)
  | spareDone (port : Fin 6) (lane : Fin 8)
  | spareShadowTimeout (port : Fin 6)
  | calReq (port : Fin 6)
  | pauseReq (port : Fin 6)
  | retrainReq (port : Fin 6)
  -- `whole` is whether no byte of the cell was in an uncorrectable codeword (R287).
  | linkCellReceive (port : Fin 6) (cell : CellBits) (whole : Bool)
  | xtrh (out : Fin 6) (vc : Fin 5) (data : Payload)
  | xtrt (out : Fin 6) (vc : Fin 5) (data : BitVec 96)
  | cellSend (port : Fin 6)
  | lack (port : Fin 6) (seq : BitVec 12)
  | lnak (port : Fin 6) (seq : BitVec 12)
  | lcredit (port : Fin 6) (counts : BitVec 40)
  | lackDue (port : Fin 6)
  | lcreditDue (port : Fin 6)
  | lnakRepeat (port : Fin 6)
  | replayTimeout (port : Fin 6)
  -- FMGMT cells delivered at a network interface; `tag` is the request tag of R303.
  | fmgmtRead (m15 : Bool) (src : BitVec 12) (tag : BitVec 17) (addr : BitVec 28)
  | fmgmtWrite (m15 : Bool) (src : BitVec 12) (tag : BitVec 17) (addr : BitVec 28) (data : Word)
  | fmgmtReply (tag : BitVec 17) (addr : BitVec 28) (data : Word)
  | fmgmtError (tag : BitVec 17) (addr : BitVec 28) (code : Byte)
  | portRetrainCmd (ini : Initiator) (ep : BitVec 8) (port : Fin 6)
  | portSpareCmd (ini : Initiator) (ep : BitVec 8) (port : Fin 6) (lane : Fin 8) (off : BitVec 4)
  | portDisable (ini : Initiator) (ep : BitVec 8) (port : Fin 6)
  | portEnable (ini : Initiator) (ep : BitVec 8) (port : Fin 6)
  | rankmapWrite (ini : Initiator) (ep : BitVec 8) (page : Fin 4) (reg : Fin 512) (v : Word)
  | rankmapMismatch (page : Fin 4)
  -- Hall requests at a network interface and hall replies at a stack (R328 to R346); `job`, `src`, `cls` and `tag` are header fields of R303.
  | hrd (m15 : Bool) (job : BitVec 16) (src : BitVec 12) (cls : BitVec 2) (tag : BitVec 17) (addr : Dword) (size : Bool)
  | hwr (m15 : Bool) (job : BitVec 16) (src : BitVec 12) (cls : BitVec 2) (tag : BitVec 17) (addr : Dword) (size : Bool) (lo hi : Dword)
  | hatm (m15 : Bool) (job : BitVec 16) (src : BitVec 12) (cls : BitVec 2) (tag : BitVec 17) (addr : Dword) (size : Bool) (op : Byte) (lo hi : Dword)
  | hatx (m15 : Bool) (job : BitVec 16) (src : BitVec 12) (tag : BitVec 17) (lo hi : Dword)
  | hbrd (m15 : Bool) (job : BitVec 16) (src : BitVec 12) (cls : BitVec 2) (tag : BitVec 17) (addr : Dword) (units : BitVec 4)
  | hbwr (m15 : Bool) (job : BitVec 16) (src : BitVec 12) (cls : BitVec 2) (tag : BitVec 17) (addr : Dword) (units : BitVec 4)
  -- `die` is the die that takes the cell: a network interface for a request's data, a compute die for a reply's.
  | hbdat (die : Byte) (job : BitVec 16) (src : BitVec 12) (tag : BitVec 17) (data : Payload)
  | hrsp (stack : Fin 40) (tag : BitVec 11) (status : Byte) (flags : BitVec 4) (lo hi : Dword)
  | hwack (stack : Fin 40) (tag : BitVec 11) (status : Byte)
  | hbrsp (stack : Fin 40) (tag : BitVec 11) (status : Byte) (units : BitVec 4)
  | hangWatchdogExpiry (stack : Fin 40) (tag : BitVec 11)
  | krelay (job : BitVec 16) (kettle : BitVec 8) (gen : Word)
  | quarantineRelease (stack : Fin 40) (tag : BitVec 11)
  -- The front door (R358 to R373): a frame and the UDP payload it carries, on port 7410 but for FDATA, which comes on port 7411.
  | arpRequest (f : Frame) (target : BitVec 32) (mac : BitVec 48)
  | neighbourSolicitation (f : Frame) (target : BitVec 128) (mac : BitVec 48)
  | echoRequest (f : Frame) (dst : BitVec 128) (data : List Byte)
  | submit (f : Frame) (msg : List Byte)
  | cancel (f : Frame) (msg : List Byte)
  | status (f : Frame) (msg : List Byte)
  | ack (f : Frame) (msg : List Byte)
  | assemblyTimeout (id : Dword)
  | tokensResend (id : Dword)
  | lingerExpiry (id : Dword)
  | wingbeatBoundary
  | boundaryCommit
  | idleIntervalEnd
  | fdata (f : Frame) (msg : List Byte)
  | fetchChunkTimeout (seg : Word) (chunk : Nat)
  -- Clocks and time (R394 to R418). Input 0 is REFCLK_A; a region is 4n + r; `cause` is that of TIMEBASE.PLL_LOG.
  | refclkInvalid (inp : Fin 2)
  | refclkValid (inp : Fin 2)
  | refHoldoverStop
  | refCtlWrite (ini : Initiator) (ep : BitVec 8) (v : Word)
  | basePllUnlock
  -- A transmitter of a base site, or, with site 59, the transmit direction of port `tx`.
  | serialiserAlarm (site : Fin 60) (tx : BitVec 7) (cause : BitVec 3)
  | rowstorePllFailover (stack : Fin 40)
  -- `ref` is whether the reference was lost, otherwise the lock.
  | regionGenFail (region : Fin 160) (ref : Bool)
  | fSetChange (region : Fin 160)
  | droopLimitLower (region : Fin 160)
  | droopLimitRaise (region : Fin 160)
  | crossingError (region : Fin 160)
  | syncEdge
  | secSet (ini : Initiator) (ep : BitVec 8) (n : Dword)
  | syncHoldover
  | syncHoldoverExpiry
  | clkSrcWrite (ini : Initiator) (ep : BitVec 8) (region : Fin 160) (v : Word)
  -- Power (R419 to R441). Voltages are in mV, windows in W.
  | stateCmdD0 (ini : Initiator) (ep : BitVec 8)
  | stateCmdD1 (ini : Initiator) (ep : BitVec 8)
  | stateCmdD2 (ini : Initiator) (ep : BitVec 8)
  | stateCmdD3 (ini : Initiator) (ep : BitVec 8)
  | d1Wake
  | d2IdleExpiry
  | portLightWake (port : Fin 6)
  | wakeAtReached
  | d2Wake
  -- The input has stayed at or below this voltage for 1 ms; at this voltage for the times of R431.
  | inputUndervolt (mv : Nat)
  | inputFault (mv : Nat)
  | inputTrim (window : Nat)
  | surgeEntry (mv : Nat)
  -- Ended by demand, or by the state of R436 cause 7.
  | surgeEnd
  | surgeAllowanceExpiry
  | wearBudgetExhaust
  | surgeInhibitWrite (ini : Initiator) (ep : BitVec 8) (v : Word)
  | grantWithdraw (stack : Fin 40)
  | capFloorFault (stack : Fin 40)
  | powerTelemetry (p : PowerFigures)
  -- Heat, calibration and ageing (R442 to R470). Temperatures are in 0.1 °C; `check` is the two-current check.
  | diodeSample (die : Byte) (raw : Int) (check : Bool)
  | throttleStep
  | orderlyStop
  | parkDeadline
  | orderlyStopReturn
  | predictedTrip (die : Byte)
  | thermalTrip (die : Byte)
  | middleModelUpdate (stack : Fin 40)
  | diodeBroken (die : Byte)
  | regionRecal (die : Fin 40)
  | calStart (ini : Initiator) (ep : BitVec 8) (v : Word)
  | hourCount
  | ageingEpoch (m : AgeFigures)
  -- Boot, Keepers and the Tally (R471 to R491). `good` and `pass` are what the Keeper itself found.
  | resetRelease
  | imageVerify (k : Fin 3)
  | roleAssign
  | eclosion
  | goWaitTimeout
  | rchunk (f : Frame) (msg : List Byte)
  | rcommit (f : Frame) (msg : List Byte)
  | rstat (f : Frame) (msg : List Byte)
  | recoveryWriteComplete
  | imageFlashWrite
  | heartbeat (k : Fin 3) (ep : BitVec 8) (window : Word)
  | heartbeatWindowEnd
  | digest (k : Fin 3) (round : Word) (d : Dword)
  | decisionRoundCompare
  | health (k : Fin 3) (word : Dword)
  | healthTimeout (k : Fin 3)
  | demotion
  | role (k : Fin 3)
  | hold (k : Fin 3)
  | epochBump
  | successorRewrite
  | promote (ini : Initiator) (ep : BitVec 8) (v : Word)
  | keeperSelfTest (k : Fin 3) (pass : Bool)
  | keeperRestart (k : Fin 3) (good : Bool)
  -- Firmware objects (R474 to R512).
  | objBegin (ini : Initiator) (ep : BitVec 8) (kind : BitVec 3)
  | objDataWrite (ini : Initiator) (ep : BitVec 8) (v : Word)
  | objDataRead (ini : Initiator)
  | objCommit (ini : Initiator) (ep : BitVec 8)
  | objAbort (ini : Initiator) (ep : BitVec 8)
  | folioApply
  | foldBack
  | foldBackCmd (ini : Initiator) (ep : BitVec 8)
  | unload (ini : Initiator) (ep : BitVec 8)
  | resetToOvum (ini : Initiator) (ep : BitVec 8)
  -- Job restart and rejoin (R513 to R532): the job tag, sender rank and number of a notice, and what else it carries.
  | jobRestart
  | restartNotice (job : BitVec 16) (rank : BitVec 16) (num : Word) (cls code : Byte)
  | readyNotice (job : BitVec 16) (rank : BitVec 16) (num : Word)
  | goNotice (job : BitVec 16) (rank : BitVec 16) (num : Word) (k : Word)
  | abandonNotice (job : BitVec 16) (rank : BitVec 16) (num : Word)
  | readyRepeat
  | rejoinTimeout
  | healthReportForm
  -- Power-up, reset and the TAP (R557, R564, R566). `pins` are the boundary pins as captured, `load` what is shifted in.
  | inputRise
  | alwaysOnStart
  | resetAssert
  | tapBypass
  | tapIdcode
  | tapSamplePreload (pins load : BitVec 80)
  | tapExtest
  | frontDoorLinkDown (port : Fin 2) (pll : Bool)
  | frontDoorLinkUp (port : Fin 2)
  | ibiDelivery
  | lsmStandbyReady (lsm : Fin 7) (outs : BitVec 4) (line : Fin 41)
  -- `added` is what the cycle is longer than its period, in ps.
  | stretch (region : Fin 160) (noticed : Bool) (added : Nat)
  | orderlyStopDeadline
  | testLogicReset
deriving DecidableEq, Repr

end Sys2Proof
end

