-- ==== Sys2Proof/Decode.lean ====
section
/-!
DEFINITION. Sys2Proof/Decode.lean: the command that a word of the command table spells.
-/
namespace Sys2Proof

/-- The command that `nbits` bits `w` spell: none, since the command table gives no row of this device any bits (its commands are bus
accesses, cells, messages and events, whose operands stand in the constructor). -/
def decodeTableWord (nbits w : Nat) : Option Instr :=
  match nbits, w with
  | _, _ => none

end Sys2Proof
end

