-- ==== Sys2Proof/Config.lean ====
section
/-!
DEFINITION. Sys2Proof/Config.lean: the free values, one constant without a body for each point the spec leaves open, and the
few figures the spec fixes for the whole device. A free value is applied to what it may depend on, or to the counter
`State.free`, which a step that reads one advances.
-/
namespace Sys2Proof.Config

/-- How far a timebase replica stands behind the base count at one reading, before it is held to R408's 0 to 4 ns. -/
opaque replicaLag : Nat → Nat
/-- The order in which an MMA adds its blocks (R89), by layout revision and command: a list read as a permutation. -/
opaque blockOrder : Nat → Dword → List Nat
/-- The result a special function returns (R102, R103), by layout revision, opcode and operand, before R102's bound. -/
opaque specialFn : Nat → Byte → Word → Word
/-- The number of refreshes of a bank that a package lets be postponed (R150). -/
opaque refreshLimit : Nat
/-- A 64-bit value the spec does not fix. -/
opaque freeWord : Nat → Dword
/-- A natural number the spec does not fix. -/
opaque freeNat : Nat → Nat
/-- A choice the spec does not fix. -/
opaque freeBool : Nat → Bool

/-! Objects (R474 to R508): what the two signature schemes, the fused secrets and the sections whose layout the spec does not give answer. -/

/-- Whether an Ed25519 signature (64 bytes) over a message verifies under a public key (RFC 8032, named by R474). -/
opaque edVerify : List Byte → List Byte → List Byte → Bool
/-- Whether an ML-DSA-65 signature (3,309 bytes) over a message verifies under a public key (FIPS 204, named by R474). -/
opaque mlVerify : List Byte → List Byte → List Byte → Bool
/-- The Aethund image keys of a key generation, held in ROM (R475): Ed25519, then ML-DSA-65. -/
opaque imageKeys : Nat → List Byte × List Byte
/-- The Ed25519 signature that the device makes over a message with its attestation key (R507). -/
opaque attestEd : List Byte → List Byte
/-- The ML-DSA-65 signature that the device makes over a message with its attestation key (R507). -/
opaque attestMl : List Byte → List Byte
/-- Aethund's manufacturer code in the provisional ID of the management target (R545), which the spec does not give. -/
opaque i3cMaker : Nat
/-- The endorsement record (R507). -/
opaque endorsement : List Byte
/-- The SHA-512 of the Keeper ROM (R508). -/
opaque romDigest : List Byte
/-- The SHA-512 of the amendments area (R508), by the half in use and the bytes of the records stored in it: the spec does not say how the rest of the area reads. -/
opaque areaDigest : Bool → List Byte → List Byte
/-- Whether an image carries Aethund's revocation flag (R479), whose place the spec does not give. -/
opaque revokes : List Word → Bool
/-- A value of a folio's PROFILE body (R493), whose layout the spec does not give: 0 active stacks, 1 Surge enable, 2 W, 3 WB_IDLE, 4 IDLE_WB, 5 LINGER,
6 d2_idle_s, 7 lsm_off. -/
opaque profileField : List Word → Nat → Nat
/-- A value of a folio's NET body (R493) for a port: 0 IPv4 address, 1 prefix length, 2 IPv4 enable, 3 IPv6 address, 4 rs_fec. -/
opaque netField : List Word → Nat → Nat → Nat
/-- A value of a folio's FABRIC body (R493): 0 DIMS, 1 g4, 2 DISC_TMO. -/
opaque fabricField : List Word → Nat → Nat
/-- Whether a folio's section of a type holds a value out of its range, where the spec gives its layout not at all (R495). -/
opaque sectionBad : Nat → List Word → Bool
/-- Whether a folio's CAL body (R493) sets the user calibration value of an item (R499), by the number an amendment names it with. -/
opaque calSets : List Word → Nat → Bool
/-- The user calibration values that a folio's CAL body (R493) sets: item number and value. -/
opaque calItems : List Word → List (Nat × Nat)
/-- The factory code of a calibration item at a calibration point (R457, R458). -/
opaque factoryCode : Nat → Nat → Int
/-- The factory selection of a calibration item at a calibration point (R458). -/
opaque factoryPick : Nat → Nat → Nat
/-- The range of the code of an item that is no ring position (R458). -/
opaque calRange : Nat → Int × Int
/-- How far a ring of a ring position resonates above its slot at 25 °C with no heater power, in 0.01 GHz (R254). -/
opaque ringRest : Nat → Nat → Int
/-- The residual offset of the reference resonance nearest a line, in 10 MHz (R251), a factory value. -/
opaque residual : Nat → Int
/-- The heater power that a modulating ring's absorbed light stands for, in 0.01 GHz of shift (R258). -/
opaque absorbed : Nat → Int
/-- The device storage key (R497). -/
opaque storageKey : List Byte
/-- theta of a stack in K/W (R453), a factory value. -/
opaque theta : Nat → Rat
/-- beta of a stack (R453), a factory value. -/
opaque beta : Nat → Rat
/-- The IDCODE that Aethund supplies with the module (R557). -/
opaque idcode : Word

end Sys2Proof.Config
end

