-- ==== Sys2Proof/Machine/Sparse.lean ====
section
/-!
DEFINITION. Sys2Proof/Machine/Sparse.lean: reading and writing a table held by key in canonical form, and the bit-field and
saturation helpers every unit uses.
-/
namespace Sys2Proof.Machine

/-- The value at key `k`; `d` is what an unlisted key reads as. -/
def sget {α : Type} (d : α) : Sparse α → Nat → α
  | [], _ => d
  | (j, v) :: t, k => if j = k then v else sget d t k

/-- Write `v` at key `k`, keeping the canonical form: keys rising, and no entry equal to `d`, what `k` reads as unlisted. -/
def sset {α : Type} [DecidableEq α] (d : α) : Sparse α → Nat → α → Sparse α
  | [], k, v => if v = d then [] else [(k, v)]
  | (j, w) :: t, k, v =>
    if k < j then (if v = d then (j, w) :: t else (k, v) :: (j, w) :: t)
    else if j = k then (if v = d then t else (k, v) :: t)
    else (j, w) :: sset d t k v

/-- Update the value at key `k`. -/
def smod {α : Type} [DecidableEq α] (d : α) (m : Sparse α) (k : Nat) (f : α → α) : Sparse α :=
  sset d m k (f (sget d m k))

/-- Map the values of a sparse table; one that becomes the default leaves it. -/
def smapv {α : Type} [DecidableEq α] (d : α) (f : α → α) (m : Sparse α) : Sparse α :=
  m.filterMap (fun e => if f e.2 = d then none else some (e.1, f e.2))

/-- Whether key `k` is listed. -/
def shas {α : Type} : Sparse α → Nat → Bool
  | [], _ => false
  | (j, _) :: t, k => decide (j = k) || shas t k

/-- Remove key `k`. -/
def serase {α : Type} : Sparse α → Nat → Sparse α
  | [], _ => []
  | (j, v) :: t, k => if j = k then t else (j, v) :: serase t k

/-- The value listed at key `k`, if one is. -/
def sfind {α : Type} : Sparse α → Nat → Option α
  | [], _ => none
  | (j, v) :: t, k => if j = k then some v else sfind t k

/-- Insert or replace the entry at key `k` of a table that has no default value. -/
def sput {α : Type} : Sparse α → Nat → α → Sparse α
  | [], k, v => [(k, v)]
  | (j, w) :: t, k, v =>
    if k < j then (k, v) :: (j, w) :: t
    else if j = k then (k, v) :: t
    else (j, w) :: sput t k v

/-- The least key below `n` that is not listed, counting up from `i` with `fuel` steps. -/
def sfreeFrom {α : Type} (m : Sparse α) (i : Nat) : Nat → Option Nat
  | 0 => none
  | fuel + 1 => if shas m i then sfreeFrom m (i + 1) fuel else some i

/-- The least free key below `n`. -/
def sfree {α : Type} (m : Sparse α) (n : Nat) : Option Nat := sfreeFrom m 0 n

/-- The keys are strictly rising from above `lo` on, and no entry equals what its key reads as unlisted. -/
def swfFrom {α : Type} [DecidableEq α] (d : Nat → α) : Option Nat → Sparse α → Bool
  | _, [] => true
  | lo, (j, v) :: t =>
    (match lo with | none => true | some l => decide (l < j)) && decide (v ≠ d j) && swfFrom d (some j) t

/-- The canonical form of a table. -/
def swf {α : Type} [DecidableEq α] (d : Nat → α) (m : Sparse α) : Bool := swfFrom d none m

/-- Bits [lsb + w - 1 : lsb] of a natural number. -/
def bits (v lsb w : Nat) : Nat := (v / 2 ^ lsb) % 2 ^ w

/-- Bit `i` of a natural number. -/
def bitOf (v i : Nat) : Bool := (v / 2 ^ i) % 2 == 1

/-- `v` with bits [lsb + w - 1 : lsb] replaced by `x`. -/
def putBits (v lsb w x : Nat) : Nat :=
  v - bits v lsb w * 2 ^ lsb + (x % 2 ^ w) * 2 ^ lsb

/-- `v` held between `lo` and `hi`: a value outside the range is stored as the nearer limit. -/
def clamp (lo hi v : Nat) : Nat := if v < lo then lo else if hi < v then hi else v

/-- A Boolean as a bit. -/
def b2n (b : Bool) : Nat := if b then 1 else 0

/-- Replace the first element that satisfies `p`. -/
def modFirst {α : Type} (p : α → Bool) (f : α → α) : List α → List α
  | [] => []
  | x :: t => if p x then f x :: t else x :: modFirst p f t

/-- Drop the first element that satisfies `p`. -/
def dropFirst {α : Type} (p : α → Bool) : List α → List α
  | [] => []
  | x :: t => if p x then t else x :: dropFirst p t

/-- The first element that has the least key. -/
def minBy {α : Type} (key : α → Nat) : List α → Option α
  | [] => none
  | x :: t =>
    match minBy key t with
    | none => some x
    | some y => if key y < key x then some y else some x

/-- The population count of the low `n` bits. -/
def popCount (v : Nat) : Nat → Nat
  | 0 => 0
  | n + 1 => b2n (bitOf v n) + popCount v n

/-- Byte `i` of a natural number, little-endian (R4). -/
def byteOf (v i : Nat) : Byte := BitVec.ofNat 8 (v / 2 ^ (8 * i))

end Sys2Proof.Machine
end

