-- ==== Sys2Proof/Machine/State.lean ====
section
/-!
DEFINITION. Sys2Proof/Machine/State.lean: the state of the W7 as plain data, the reasons a step can stop, and the state
right after reset. Every unit is a structure of its own; a table of many like units is a sparse table whose unlisted keys
read as that unit's state after reset. A register that no other field holds lives in `regs`, by its 28-bit address (R533).
-/
namespace Sys2Proof.Machine

/-! ## Cores (R35) -/

/-- The states of a context (R75); DRAIN is split by what began it. -/
inductive CtxMode where
  | idle | run | drainAbort | drainPark | parked | halted
deriving DecidableEq, Repr

/-- The type tag of an accumulator (R35, R59). -/
inductive AccTag where
  | invalid | fp32 | int32
deriving DecidableEq, Repr

/-- The exception record (R73, R78 EXC_D); code 0 is no exception. -/
structure ExcRec where
  code : Byte := 0
  pc : BitVec 12 := 0
  slot : BitVec 3 := 0
  multiple : Bool := false
deriving DecidableEq, Repr

/-- A queued engine command with what it captured at issue (R45, R194): its wait target, the registers it uses and the
PC of its bundle. `a` is g[rd] of a VE command or g[rb] of an RM command, `b` and `c` are g[rs1] and g[rs2]. -/
structure QEntry where
  cmd : Dword
  target : Dword := 0
  a : Dword := 0
  b : Dword := 0
  c : Dword := 0
  pc : BitVec 12 := 0
deriving DecidableEq, Repr

/-- The ME configuration (R56): format pair and codebook select. -/
structure MeCfg where
  aFmt : BitVec 4
  bFmt : BitVec 4
  cb : BitVec 2
deriving DecidableEq, Repr

/-- One context of a core (R35): its registers, counters, queues and ME state. The three `…Since` times and `sqSince`
start the wait timeouts of R53; `notBefore` is the core cycle CWAIT or a taken branch holds the next bundle to; `saveAt` is the SAVE_BASE
that a pre-emption found when its DRAIN began (R194, R195). -/
structure Context where
  mode : CtxMode := .idle
  pc : BitVec 13 := 0
  g : Vector Dword 16 := Vector.replicate 16 0
  ctr : Vector Dword 32 := Vector.replicate 32 0
  pend : BitVec 16 := 0
  qMe : List QEntry := []
  qVe : List QEntry := []
  qRm : List QEntry := []
  meSince : Dword := 0
  veSince : Dword := 0
  rmSince : Dword := 0
  sqSince : Dword := 0
  cfg : Option MeCfg := none
  issueCfg : Option (BitVec 4 × BitVec 4) := none
  cbk : Vector (BitVec 16) 64 := Vector.replicate 64 0
  acc : Sparse Word := []
  tag : Vector AccTag 4 := Vector.replicate 4 .invalid
  exc : ExcRec := {}
  notBefore : Nat := 0
  saveAt : Nat := 0
  lastTb : Dword := 0
deriving DecidableEq, Repr

/-- A command an engine is running (R47). The further fields are of an RM command (R63 to R66, R116): its row count, the
next row to present to the row port, the rows presented and not yet granted, the rows moved, the rows landed or read from the
core buffer and not yet moved, and the first row found uncorrectable. -/
structure Running where
  ctx : Ctx
  entry : QEntry
  total : Nat := 0
  next : Nat := 0
  out : Nat := 0
  moved : Nat := 0
  buf : Sparse (BitVec 4096) := []
  bad : Option Nat := none
deriving DecidableEq, Repr

/-- One core (R35). `cycles` counts the sequencer's issue attempts, the core's own cycles in this model. -/
structure Core where
  d : Context := {}
  p : Context := {}
  me : Option Running := none
  ve : Option Running := none
  rm : Option Running := none
  cycles : Nat := 0
deriving DecidableEq, Repr

/-! ## Memories -/

/-- A memory: its data bytes and the check byte of each 64-bit word (R41, R108, R143, R144), the latter at the word's
byte address divided by 8. Both lists are canonical; an unlisted byte reads 0, and 0 is the check byte of a zero word. -/
structure Mem where
  data : List Host.Cell := []
  check : List Host.Cell := []
deriving DecidableEq, Repr

/-! ## Stacks (R107 to R135) -/

/-- The classes of a bank arbiter (R116). -/
inductive RowClass where
  | d | xe | p | s
deriving DecidableEq, Repr

/-- Who a row request is for: a row of an RM command, a row of an XE piece, a corrected-row write-back, a scrub read. -/
inductive RowUse where
  | rm (core : Fin 50) (ctx : Ctx) (idx : Nat)
  | xe (tag : Nat) (idx : Nat)
  | writeBack (words : List (Nat × Nat))
  | scrub
deriving DecidableEq, Repr

/-- A row request in its bank's queues (R116); `born` is the bank cycle at which it joined. -/
structure RowReq where
  use : RowUse
  row : Nat
  write : Bool
  born : Nat
deriving DecidableEq, Repr

/-- One stack: row port, bonds and governor (R107 to R133). `busHist` holds the times of the last 16 words corrected at each bond position of the data
groups (R122), `bondFailed` the positions that no bond serves, `repaired` the groups repaired in the field with their repair positions (R121), `exhausted`
the data groups with an unserved position and no spare left, `cellDue` the photonic group directions to retire at the restart (R129). Powers are in 0.1 W,
the ceiling in 25 MHz, duty in eighths. -/
structure Stack where
  bankCycle : Vector Nat 32 := Vector.replicate 32 0
  lastD : Vector (Fin 50) 32 := Vector.replicate 32 49
  lastP : Vector (Fin 50) 32 := Vector.replicate 32 49
  reqs : List RowReq := []
  scrubNext : Nat := 0
  ceHist : Sparse Nat := []
  remapDue : List Nat := []
  spareRows : Sparse Nat := []
  busHist : Sparse (List Nat) := []
  bondFailed : List Bond := []
  repaired : List Bond := []
  exhausted : List Nat := []
  cellDue : List Nat := []
  halfDue : Bool := false
  half : Bool := false
  retired : Bool := false
  retireDue : Bool := false
  samples : List Nat := []
  ceiling : Nat := 80
  duty : Nat := 0
  brake : Bool := false
  floor : Bool := false
  overSince : Option Nat := none
  floorSince : Option Nat := none
  limiting : Bool := false
  limitSince : Option Nat := none
  brakes : List Nat := []
deriving DecidableEq, Repr

/-! ## The XE and the Pager (R167 to R199) -/

/-- The states of a chain that holds its post queue entry (R179, R190): a DONE, CANCELLED or FAILED chain has left it. -/
inductive ChainState where
  | queued | active | faultWait | suspending | suspended
deriving DecidableEq, Repr

/-- A descriptor of a chain that is not yet notified: where it stands (R185 to R187). `rep` and `off` name the next piece
to issue; `recSent` and `recDone` say how far its completion record is; `doneAt` is the timebase at its completion (R188). -/
structure DescState where
  idx : Nat
  jva : Dword
  raw : Line
  rep : Nat := 0
  off : Nat := 0
  issued : Bool := false
  status : Byte := 0
  recSent : Bool := false
  recDone : Bool := false
  doneAt : Option Nat := none
deriving DecidableEq, Repr

/-- A descriptor chain (R179, R190): its post, its place, its descriptors in progress and what it must fetch next.
`toNotify` is the index of the first descriptor whose notifications are not made; `faultCode` and `faultVa` are those of the
progress record (R191); `recWait` says that its record write waits for the Pager (R187), `requeue` that its context has resumed while it is SUSPENDING (R192). -/
structure Chain where
  core : Fin 50
  ctx : Ctx
  seq : Nat
  state : ChainState := .queued
  place : Option (Fin 16) := none
  fetch : Option Dword := none
  fetchIdx : Nat := 0
  asked : Bool := false
  descs : List DescState := []
  rep : Nat := 0
  off : Nat := 0
  faultCode : Byte := 0
  faultVa : Dword := 0
  recWait : Bool := false
  walking : Bool := false
  requeue : Bool := false
deriving DecidableEq, Repr

/-- A piece in flight (R185): its chain, descriptor and posting context, its operands as spaces and local addresses, and how much of it has
landed: `got` marks the 32-byte chunks received or acknowledged, `rows` the rows not yet written or read. -/
structure Piece where
  seq : Nat
  idx : Nat
  rep : Nat
  off : Nat
  src : Nat
  dst : Nat
  srcSpace : Fin 4
  dstSpace : Fin 4
  len : Nat
  core : Fin 50 := 0
  ctx : Ctx := .d
  sieve : Bool := false
  got : BitVec 32 := 0
  acked : BitVec 32 := 0
  rows : Nat := 0
  data : Sparse Payload := []
  poison : Bool := false
  finished : Bool := false
deriving DecidableEq, Repr

/-- What a remote tag of a stack stands for (R55, R182): a hall operation of a core or a remote piece of the XE. For an
operation, `rd` is its destination, `kind` 0 load, 1 store, 2 atomic; `born` starts the hang watchdog (R343); `drop` discards its reply (R75),
`quarantined` is R521. -/
structure TagUse where
  xe : Bool
  core : Fin 50 := 0
  ctx : Ctx := .d
  kind : Nat := 0
  op : Nat := 0
  rd : Fin 16 := 0
  size : Bool := false
  addr : Dword := 0
  lo : Dword := 0
  hi : Dword := 0
  cmpLo : Dword := 0
  cmpHi : Dword := 0
  pc : BitVec 12 := 0
  born : Nat := 0
  drop : Bool := false
  seq : Nat := 0
  piece : Nat := 0
  quarantined : Bool := false
deriving DecidableEq, Repr

/-- Who waits for a translation (R168, R174, R187, R190). -/
inductive Client where
  | chain (seq : Nat)
  | record (seq : Nat)
  | hall (tag : Nat)
  | target (req : Nat)
deriving DecidableEq, Repr

/-- A walk in progress (R172, R174): an address, the level to read, the entry's physical address, and the clients whose walks it carries, each with its own address. -/
structure Walk where
  jva : Nat
  level : Nat
  entry : Nat
  born : Nat
  clients : List (Client × Nat)
deriving DecidableEq, Repr

/-- A TLB entry (R173): a present leaf with its level. -/
structure TlbEntry where
  vpn : Nat
  level : Nat
  entry : Dword
deriving DecidableEq, Repr

/-- The XE of a stack. -/
structure Xe where
  chains : List Chain := []
  walkWait : List (Client × Nat) := []
  nextSeq : Nat := 0
  tlb : Sparse TlbEntry := []
  plru : BitVec 1024 := 0
  walks : Sparse Walk := []
  pieces : Sparse Piece := []
  tags : Sparse TagUse := []
  lastD : Fin 16 := 15
  lastP : Fin 16 := 15
deriving DecidableEq, Repr

/-- A DEFER fault at a Pager (R176 to R178): the entry, and its stage. `page` is the pool page taken for a zero fill; `noted` says that what settles it came while the Pager was
disabled (R199). -/
structure PFault where
  tag : Nat := 0
  entryPa : Nat
  jva : Nat
  level : Nat
  entry : Dword
  born : Nat
  zero : Bool
  page : Option Nat := none
  settled : Bool := false
  clients : List (Client × Nat) := []
  noted : Bool := false
deriving DecidableEq, Repr

/-- The Pager of a stack (R176 to R178): its fault queue, its pools, and the faults sent but not yet received. -/
structure Pager where
  inbox : List PFault := []
  faults : List PFault := []
  pool64K : List Nat := []
  pool2M : List Nat := []
deriving DecidableEq, Repr

/-! ## Main memory and the Sieve (R136 to R166) -/

/-- The states of a channel (R165). -/
inductive ChanMode where
  | off | training | service | selfRefresh | retrain | failed
deriving DecidableEq, Repr

/-- What a request to a channel does (R148, R333): unit and byte positions are within the block. -/
inductive MemOp where
  | read (first count : Nat)
  | write (chunk : Nat) (cells : List Payload)
  | part (off len : Nat) (data : BitVec 128)
  | hall (tag off : Nat) (kind op : Nat) (size : Bool) (lo hi cmpLo cmpHi : Dword)
  | scrub
  | writeBack (unit : Nat) (words : List (Nat × Dword))
deriving DecidableEq, Repr

/-- A queued request (R148): its source, tag and block within the channel, and its age. -/
structure MemReq where
  op : MemOp
  src : Byte
  tag : BitVec 16
  blk : Nat
  pa : Nat
  born : Nat
  grp : Nat
deriving DecidableEq, Repr

/-- One LPDDR6 channel (R136 to R153). -/
structure Chan where
  mode : ChanMode := .off
  failedTrain : Nat := 0
  queue : List MemReq := []
  openRow : Vector (Option Nat) 16 := Vector.replicate 16 none
  refresh : Vector Nat 16 := Vector.replicate 16 0
  rate : Fin 3 := 0
  scrubNext : Nat := 0
  passes : Byte := 0
  ueUnits : List Nat := []
  retrainDue : Option Nat := none
  lastRetrain : Nat := 0
  retrainFails : Nat := 0
  outDue : Bool := false
deriving DecidableEq, Repr

/-- An operation in a Sieve's queue (R154, R161): its 64-byte record in two chunks, the record's physical address, and who
posted it. `full` says that both chunks have come. -/
structure SieveOp where
  src : Byte
  tag : BitVec 16
  pa : Nat
  chunk0 : Payload := 0
  chunk1 : Payload := 0
  full : Bool := false
deriving DecidableEq, Repr

/-! ## The photonic base (R200 to R232) and the light (R240 to R279) -/

/-- The states of a receive lane (R226). -/
inductive LaneState where
  | dark | locking | training | standby | active | shadow | cal | failed
deriving DecidableEq, Repr

/-- A receive lane (R226, R261 to R263): code violations since it last became ACTIVE, its training and lock attempts, and
its sweep: the time T, the writers still to check, and the MARKs counted by writer. `hist` says which of the last 32 bursts
had code violations on it, the latest at bit 0 (R227). -/
structure Lane where
  state : LaneState := .dark
  viol : Nat := 0
  since : Nat := 0
  tries : Nat := 0
  locks : Nat := 0
  sweeps : Nat := 0
  sweepAt : Option Nat := none
  check : List Nat := []
  marks : List (Nat × Nat) := []
  confirmed : Bool := false
  again : Bool := false
  calDue : Bool := false
  hist : BitVec 32 := 0
deriving DecidableEq, Repr

/-- The states of a group (R228). -/
inductive GroupState where
  | off | training | service | blocked | asleep | waking | faulted | retired
deriving DecidableEq, Repr

/-- Where the token of a group is (R211, R218): in the stream as FREE or SLEEP, with a holder, kept by the master, or nowhere. -/
inductive Token where
  | absent | free | sleep | held (site : Nat) | kept
deriving DecidableEq, Repr

/-- A sparing in progress (R229): logical lane, old and new slot offset, t1, and whether t2 has passed. -/
structure Sparing where
  lane : Fin 8
  old : Fin 10
  new : Fin 10
  t1 : Nat
  switched : Bool := false
deriving DecidableEq, Repr

/-- A group of a home channel. `tokenAt` is the upstream distance at which the token last started, `passOnce` the writers that
must let it pass once (R214), `seen` each writer's last burst id and next index (R220), `away` the writers that have taken the
group out of their reach, each with the slot offset of the ring that failed (R260, R263), `blockFor` 1 a block, 2 sleep, 3 calibration; `paused` is a swap's pause (R272). -/
structure Group where
  state : GroupState := .off
  lanes : Vector Lane 10 := Vector.replicate 10 {}
  map : Vector (Fin 10) 8 := #v[0, 1, 2, 3, 4, 5, 6, 7]
  token : Token := .absent
  tokenAt : Nat := 58
  tokenSeen : Nat := 0
  lastBurst : Nat := 0
  passOnce : List Nat := []
  seen : Sparse (Nat × Nat) := []
  away : List (Nat × Nat) := []
  blockFor : Nat := 0
  paused : Bool := false
  sparing : Option Sparing := none
  attempts : Nat := 0
  wakeFails : Nat := 0
  wakeAt : Nat := 0
  calTodo : List (Fin 10) := []
  calFresh : Option (Fin 10) := none
  inPlace : List (Fin 10) := []
deriving DecidableEq, Repr

/-- A burst that awaits its status at its writer (R221): its cells, the index it goes on from, attempts made, when it was last
sent, why it is still to be sent (0 it is not, 1 a NAK, 2 a timeout, 3 its transmitter is gone, 4 its group is waking), and when it
reached the retry limit. `why` keeps 1 to 3 while its group is waking; `expired` says that the millisecond after the limit has passed. -/
structure Burst where
  grp : Nat
  id : Nat
  cells : List CellBits
  start : Nat := 0
  tx : Nat
  tries : Nat := 0
  sentAt : Nat := 0
  due : Nat := 0
  why : Nat := 0
  limitAt : Option Nat := none
  expired : Bool := false
deriving DecidableEq, Repr

/-- A writer site (R202, R220 to R222, R232): unacknowledged bursts, the next burst id by group, withdrawn transmitters, and the
groups on which each transmitter reached the retry limit with the times, the running disparities of its eight lanes by group (R206), and the last four words that
its spine hop has sent (R233). -/
structure Site where
  bursts : List Burst := []
  nextId : Sparse Nat := []
  gone : List Nat := []
  limits : List (Nat × Nat × Nat) := []
  disp : Sparse (BitVec 8) := []
  hop : List Dword := []
deriving DecidableEq, Repr

/-- A status message that a master has still to send (R210, R220). -/
structure StatusMsg where
  wave : Nat
  grp : Nat
  site : Nat
  id : Nat
  nak : Option Nat
deriving DecidableEq, Repr

/-- A ring position with its lock loop (R254, R259): the selected ring of the triplet, heater shift in 0.01 GHz and since when it has been out of bounds. -/
structure RingSt where
  pick : Nat := 0
  shift : Nat := 1500
  errSince : Option Nat := none
  endSince : Option Nat := none
  lost : Bool := false
deriving DecidableEq, Repr

/-- The states of an LSM (R279). -/
inductive LsmMode where
  | absent | ident | probe | lit | shut | fault
deriving DecidableEq, Repr

/-- An LSM (R245 to R249, R276 to R278): `outputs` and `pairs` are the output count and the outputs that each laser pair feeds, as Identify reads them. -/
structure Lsm where
  mode : LsmMode := .absent
  approved : Bool := false
  enabled : BitVec 4 := 0
  shut : BitVec 4 := 0
  enHigh : Bool := true
  cmisRow : Nat := 0
  outputs : Nat := 0
  pairs : List (BitVec 4) := []
  swapping : Option (BitVec 4 × Nat) := none
deriving DecidableEq, Repr

/-- The status of a line (R279 LINE_STAT). -/
inductive LineMode where
  | normal | warning | standbyLit | swapping | noStandby | spent
deriving DecidableEq, Repr

/-- A swap of a line (R272, R273): its steps' times, whether it is a swap back, and the commissioning value of the old laser. -/
structure Swap where
  decided : Nat
  trigger : Option Nat := none
  paused : Bool := false
  resumed : Bool := false
  back : Bool := false
deriving DecidableEq, Repr

/-- A line of a laser input (R251, R252, R269 to R274): powers in 0.01 dB, offsets in 10 MHz. `hist` holds the powers measured in the last 200 ms with their
times, newest first; `spent` says that the laser the line had before is spent. -/
structure LaserLine where
  mode : LineMode := .normal
  power : Int := 0
  offset : Int := 0
  first : Option Nat := none
  base : Option Int := none
  oldBase : Option Int := none
  tune : Int := 0
  steered : Option Nat := none
  lit : Bool := false
  standbyLit : Bool := false
  ready : Bool := false
  standbyGone : Bool := false
  recoverAt : Option Nat := none
  hist : List (Nat × Int) := []
  spent : Bool := false
  swap : Option Swap := none
deriving DecidableEq, Repr

/-- A laser input (R251, R276, R277): tap power against what is expected, in 0.01 dB, the interlock's times, and the line that its monitor visits next. -/
structure Input where
  tap : Int := 0
  mated : Bool := true
  lowSince : Option Nat := none
  disabledAt : Option Nat := none
  confirmed : Bool := false
  probeAt : Nat := 0
  visit : Nat := 0
deriving DecidableEq, Repr

/-- REF_LIGHT (R250, R253): whether it is valid, that is its power in range and the reference resonator locked to it, since when, and the holdover, in which the
resonator is held from its temperature table. -/
structure RefLight where
  valid : Bool := false
  since : Nat := 0
  holdover : Option Nat := none
  expired : Bool := false
deriving DecidableEq, Repr

/-- The rolling calibration (R265 to R268): whether a pass runs or is asked for, and the groups and ports still to do. -/
structure CalPass where
  running : Bool := false
  pending : Bool := false
  groups : List Nat := []
  ports : List Nat := []
  began : Nat := 0
  baseTemp : Int := 0
  /-- A D2 wake waits for the pass before it goes on to D0 (R462). -/
  first : Bool := false
  /-- The device goes on to Imago once the pass is over (R449, R471 t6). -/
  awaited : Bool := false
deriving DecidableEq, Repr

/-! ## The device as a whole (R419 to R423, R471) -/

/-- The boot stages (R471, R480). -/
inductive Stage where
  | ovum | larva | pupa | imago | recovery
deriving DecidableEq, Repr

/-- The device states (R422). -/
inductive DevState where
  | d0 | d1 | d2 | d3
deriving DecidableEq, Repr

/-- What is fused into a die after assembly (R8, R21, R37, R237): whether it is fitted, its serial number, layout revision,
and for a compute die the physical cores fused good and those firmware has marked failed. `eccSeen` and `ueSeen` are what this ageing epoch
has seen of each physical core (R37): words corrected, and job restarts that its CB_UE or IS_UE began. For a row-store die, `fusedRows` and `fusedBonds` are
the spare-row mappings by bank and the bond repairs that the factory fused (R110, R121). -/
structure Die where
  fitted : Bool := true
  claimed : Option Byte := none
  serial : Dword := 0
  rev : Byte := 0
  good : BitVec 52 := BitVec.allOnes 52
  bad : BitVec 52 := 0
  badDue : BitVec 52 := 0
  eccSeen : Sparse Nat := []
  ueSeen : Sparse Nat := []
  fusedRows : Sparse Nat := []
  fusedBonds : List Bond := []
deriving DecidableEq, Repr

/-- A job fault or a fault record (R513, R531). -/
structure FaultRec where
  cls : Nat
  code : Nat
  die : Byte
  inst : Nat
  flags : BitVec 4 := 1
  rank : Nat := 0
  t0 : Nat := 0
deriving DecidableEq, Repr

/-! ## Keepers, Tally and firmware objects (R474 to R512) -/

/-- The roles of a Keeper (R483). -/
inductive Role where
  | standby | active | held | failed | starting
deriving DecidableEq, Repr

/-- One Keeper (R477, R478, R483 to R491): its role, its ROM's verdict on the image, its health, the digest it has submitted
with the number of its round, and the role it takes when a restart ends. -/
structure Keeper where
  role : Role := .starting
  verdict : Option Bool := none
  measured : Nat := 0
  passed : Bool := false
  inSync : Bool := false
  healthy : Bool := true
  dissents : List Nat := []
  testFails : Nat := 0
  restartFails : Nat := 0
  lastTest : Nat := 0
  lastHealth : Nat := 0
  word : Dword := 0
  digest : Option (Nat × Dword) := none
  after : Role := .standby
  tripped : Bool := false
  since : Nat := 0
deriving DecidableEq, Repr

/-- A demotion under way (R487): its t0, the two Keepers and its cause; the epoch in force moves on at t2. -/
structure Demotion where
  t0 : Nat
  old : Fin 3
  new : Fin 3
  cause : Nat
  answered : Bool := false
deriving DecidableEq, Repr

/-- The Tally (R484 to R490): the heartbeat window and the decision round that end next, and what it has counted. -/
structure Tally where
  active : Option (Fin 3) := none
  epoch : Byte := 0
  demotion : Option Demotion := none
  window : Nat := 0
  beat : Bool := false
  missed : Nat := 0
  round : Nat := 0
  outRow : Nat := 0
  promote : Option (Fin 3) := none
  rewrite : Option (Fin 3) := none
deriving DecidableEq, Repr

/-- The status of the object window (R476, FOLIO.OBJ_STAT). -/
structure Staging where
  state : Nat := 0
  ini : Nat := 0
  kind : Nat := 0
  code : Nat := 0
  secType : Nat := 0
  reason : Nat := 0
  words : List Word := []
deriving DecidableEq, Repr

/-- An amendment (R497): kind, class, the folio version it was recorded under, power-on hour, resource and value. -/
structure Amend where
  kind : Nat
  bound : Bool
  folio : Nat
  hour : Nat
  res : Nat
  value : Nat
deriving DecidableEq, Repr

/-- A record of the amendments area (R497): an amendment and its chain tag. -/
structure Stored where
  amend : Amend
  tag : Nat
deriving DecidableEq, Repr
/-- The amendments area (R482, R500): which half is in use, and the records stored in it. -/
structure AmendArea where
  second : Bool := false
  recs : List Stored := []
deriving DecidableEq, Repr

/-- The flash (R482), the fuses (R477, R492) and what firmware keeps of objects: an object is the list of its words. -/
structure Vault where
  image : List Word := []
  folio : List Word := []
  prior : List Word := []
  priorRejected : Bool := false
  pendingFolio : List Word := []
  folioHwm : Nat := 0
  manifestHwm : Nat := 0
  foldBackAsked : Bool := false
  failedStep : Nat := 0
  amends : List Amend := []
  area : AmendArea := {}
  amendDue : List Amend := []
  hours : Nat := 0
  surgeSecs : List Nat := []
  fusedMin : Nat := 0
  revoked0 : Bool := false
  enrolled : List (Nat × Nat) := []
  enrolKeys : List Word := []
  running : List Word := []
  imageDue : List Word := []
  newFolio : Bool := false
  userDue : List Nat := []
  user : Sparse Nat := []
deriving DecidableEq, Repr

/-- The management port (R545 to R547): dynamic address, pointer, the status of the last private write, and the IBI queue as
(page, word); page 65536 is an overflow entry, with the assertions lost. -/
structure Mgmt where
  dyn : Option (BitVec 7) := none
  ptr : Nat := 0
  wrStatus : Nat := 0
  ibi : List (Nat × Word) := []
deriving DecidableEq, Repr

/-! ## The ports (R280 to R323) -/

/-- The states of a port direction (R293), in the order of their codes. -/
inductive PortMode where
  | off | training | service | asleep | waking | retrain | paused | down | out
deriving DecidableEq, Repr

/-- A receive lane of a port (R284, R288, R291, R326 LANE_STAT): the role its XTS announced, whether sixteen valid XTS confirmed it,
and how many codewords in a row were uncorrectable or good. -/
structure PortLane where
  state : LaneState := .dark
  viol : Nat := 0
  role : Byte := 0xFF
  confirmed : Bool := false
  bad : Nat := 0
  good : Nat := 0
deriving DecidableEq, Repr

/-- A sparing in a port direction (R295): logical lane, old and new slot offset, and t1. -/
structure PortSpare where
  lane : Fin 8
  old : Fin 10
  new : Fin 10
  t1 : Nat
deriving DecidableEq, Repr

/-- Where the receiver of a port stands in the message of its codewords (R287): between bursts, in a burst, or in one whose rest is discarded. -/
inductive RxPlace where
  | between | burst | lost
deriving DecidableEq, Repr

/-- What the receiver of a port finds in the message of its codewords (R287): a cell, a cell that is lost, or SLEEP. -/
inductive RxItem where
  | cell (c : CellBits)
  | lost
  | sleep
deriving DecidableEq, Repr

/-- One port (R280 to R323). `spareWant` holds the lanes still to be spared, with the slot that XPORT.CMD names, `inPlace` the STANDBY slots that a calibration is
still to relock in place, and `calFresh` the one calibrated last. `txMsg` are the characters across the lanes that wait for a codeword to be full, `rxMsg` the
bytes released on each logical lane, none for one of an uncorrectable codeword, `rxBurst` and `rxItems` what the receiver makes of them. Cells stand with their VC (0 REQ-A, 1 REQ-B, 2 RSP-A, 3 RSP-B, 4 MGMT); a cell in `inBuf` also with the
port it leaves by. `replay` holds each unacknowledged cell with its sequence number, `resend` the number a resend goes on from, `resendStart` the one
it began at, `advanced` the time since which the oldest has waited, `base` the credits the other network interface holds for this
port's egress buffers (R311), `starve` the slots that REQ-A and REQ-B have been passed over, `turn` the
source that each VC served last. -/
structure Port where
  tx : PortMode := .off
  rx : PortMode := .off
  txLanes : Vector LaneState 10 := Vector.replicate 10 .dark
  rxLanes : Vector PortLane 10 := Vector.replicate 10 {}
  txMap : Vector (Fin 10) 8 := #v[0, 1, 2, 3, 4, 5, 6, 7]
  rxMap : Vector (Fin 10) 8 := #v[0, 1, 2, 3, 4, 5, 6, 7]
  cause : Nat := 0
  t0 : Nat := 0
  attempts : Nat := 0
  oneTry : Bool := false
  disabled : Bool := false
  receiving : Bool := false
  peerRecv : Bool := false
  bothSince : Option Nat := none
  peerSeq : Nat := 0
  retrains : Nat := 0
  since : Nat := 0
  spare : Option PortSpare := none
  rxSpare : Option PortSpare := none
  spareWant : List (Fin 8 × Option (Fin 10)) := []
  inPlace : List (Fin 10) := []
  calFresh : Option (Fin 10) := none
  calSince : Sparse Nat := []
  calDue : List (Fin 10) := []
  lastCell : Nat := 0
  txNext : Nat := 0
  replay : List (Nat × CellBits) := []
  resend : Option Nat := none
  resendStart : Nat := 0
  advanced : Nat := 0
  timeouts : Nat := 0
  rxNext : Nat := 0
  nakSince : Option Nat := none
  nakDue : Bool := false
  unacked : Nat := 0
  unackedSince : Option Nat := none
  ackDue : Bool := false
  credits : Vector Nat 5 := Vector.replicate 5 0
  owed : Vector Nat 5 := Vector.replicate 5 0
  owedSince : Option Nat := none
  creditDue : Bool := false
  txMsg : List (List LineChar) := []
  rxMsg : Vector (List (Option Byte)) 8 := Vector.replicate 8 []
  rxBurst : RxPlace := .between
  rxItems : List RxItem := []
  inBuf : List (Nat × Nat × CellBits) := []
  inject : List (Nat × CellBits) := []
  egress : List (Nat × CellBits) := []
  halves : Sparse Payload := []
  base : Vector Nat 5 := Vector.replicate 5 32
  starve : Vector Nat 2 := Vector.replicate 2 0
  turn : Vector Nat 5 := Vector.replicate 5 0
deriving DecidableEq, Repr

/-! ## Job restart and rejoin (R516 to R525) -/

/-- A job restart (R516 to R525): the restart number, whether one is in progress (from t1 to t7, with its t0, t5 and class), the ranks
whose READY rank 0 holds, the last READY sent, the resume wingbeat once fixed, the times of the restarts counted by R525, and whether the
last job was abandoned. -/
structure Restart where
  num : Nat := 0
  busy : Bool := false
  cls : Nat := 0
  code : Nat := 0
  t0 : Nat := 0
  t5 : Nat := 0
  ready : List Nat := []
  sentAt : Nat := 0
  resume : Option Nat := none
  counted : List Nat := []
  abandoned : Bool := false
deriving DecidableEq, Repr

/-! ## Serving (R358 to R393) -/

/-- The states of a request that has one (R371). -/
inductive ReqState where
  | assembling | queued | prefill | decode | ended
deriving DecidableEq, Repr

/-- A request (R371): the key and source of its most recent authenticated message, its first part's time, bytes 2 to 63 of its parts, the parts
held, and once queued its prompt and committed tokens, of which the first `ext` count as prompt since a restart. `pos` is P. `cancel` is
how many boundaries had begun when a CANCEL was accepted, `final` the body of its final TOKENS, with the sequence numbers under which it was sent. -/
structure Request where
  id : Dword
  state : ReqState := .assembling
  key : Nat
  peer : Peer
  born : Nat
  head : List Byte
  parts : Sparse (List Word) := []
  prompt : List Word := []
  toks : List Word := []
  ext : Nat := 0
  slot : Nat := 0
  adm : Nat := 0
  pos : Nat := 0
  cancel : Option Nat := none
  endCode : Nat := 0
  final : List Byte := []
  finalAt : Nat := 0
  sentAt : Nat := 0
  resends : Nat := 0
  seqs : List (Nat × Nat) := []
  acked : Bool := false
deriving DecidableEq, Repr

/-- What the active Keeper copies to the standbys at each t2 (R388): request records, queue, send numbers, and the TOKENS of the commit. -/
structure Copy where
  reqs : List Request := []
  queue : List Dword := []
  tx : Sparse Nat := []
  sent : List (Dword × List Byte) := []
deriving DecidableEq, Repr

/-- The front door and the wingbeat (R358 to R388): the next admission number, the first wingbeat that runs work, the last boundary begun, the
wingbeat of the last record written, where the boundary stands (1 from t0 to t2, 2 from t2 to t4), how many have begun, wingbeats passed idle, whether D1 is
asked for and since when the device is in it, and for each key the highest number received, the bitmap of those below it and the last number sent. -/
structure Serving where
  reqs : List Request := []
  queue : List Dword := []
  nextAdm : Nat := 1
  first : Option Nat := none
  last : Option Nat := none
  recK : Nat := 0
  phase : Nat := 0
  begun : Nat := 0
  idleSince : Option Nat := none
  idleRuns : Nat := 0
  d1Asked : Bool := false
  d1Since : Nat := 0
  eclosed : Nat := 0
  rx : Sparse (Nat × Nat) := []
  tx : Sparse Nat := []
  copy : Copy := {}
  sent : List (Dword × List Byte) := []
deriving DecidableEq, Repr

/-- A segment's fetch (R390, R391): its place in the manifest, the source in use, the chunks held, the chunks asked for with their times, requests
in a row that went unanswered, digest mismatches, and whether it is delivered. -/
structure Seg where
  idx : Nat
  src : Nat := 0
  got : Sparse (List Byte) := []
  asked : List (Nat × Nat) := []
  silent : Nat := 0
  misses : Nat := 0
  delivered : Bool := false
deriving DecidableEq, Repr

/-- The job in force (R501 to R506): its manifest, the unwrapped session keys and fetch key, and its segments. -/
structure Job where
  manifest : List Word := []
  keys : List (List Byte) := []
  fetchKey : List Byte := []
  accepted : Nat := 0
  segs : List Seg := []
  w : Nat := 0
deriving DecidableEq, Repr

/-! ## Clocks and time (R394 to R418) -/

/-- A compute clock region (R400 to R402, R415, R464): its source, whether its generator is locked, f_set, droop limit and frequency table top in
25 MHz, when it powered up, its stretches of the last microsecond with their lengths in ps, and its voltage guard band in 5 mV steps. -/
structure Region where
  gen : Bool := false
  locked : Bool := true
  fset : Nat := 80
  droop : Nat := 80
  ftop : Nat := 80
  ftopDue : Nat := 80
  guard : Nat := 0
  failed : Nat := 0
  stretches : List (Nat × Nat) := []
  unannounced : Bool := false
  lastStretch : Nat := 0
  lowered : Nat := 0
  raised : Nat := 0
  recalDue : Bool := false
  slow : Nat := 0
deriving DecidableEq, Repr

/-- A register write that the spine applied (R19, R235): when, its place in arbitration order, the register and the data. -/
structure SpineWrite where
  at_ : Nat
  rank : Nat
  addr : Nat
  data : Nat
deriving DecidableEq, Repr

/-- The references, the base PLL and the timebase (R394 to R412). `acc` gathers the rate correction in 0.001 ppm of a nanosecond, `slew` what is
left of the phase error in the same unit; `rowPll` counts failed row-store PLLs by stack, `wrote` holds the register writes that the spine has applied in a cycle. -/
structure Clock where
  valid : Vector Bool 2 := #v[false, false]
  inUse : Fin 2 := 0
  holdover : Option Nat := none
  locked : Bool := false
  aligned : Bool := false
  armed : Option Dword := none
  lastEdge : Option Nat := none
  syncLost : Bool := false
  rate : Int := 0
  slew : Int := 0
  acc : Int := 0
  rowPll : Sparse Nat := []
  wrote : List SpineWrite := []
deriving DecidableEq, Repr

/-! ## Power (R419 to R441) -/

/-- The Surge manager, the input and the device state's changes: the cause of a wake under way (R441), the input trim in steps of 25 MHz, since
when the input window has been over its limit, the intervals of past Surges, and since when fewer than four stacks have been limiting. -/
structure Power where
  wake : Option Nat := none
  surge : Bool := false
  surgeAt : Nat := 0
  spans : List (Nat × Nat) := []
  trim : Nat := 0
  trimOn : Bool := false
  overSince : Option Nat := none
  trimAt : Nat := 0
  voltLowAt : Option Nat := none
  rising : Bool := false
  demandSince : Option Nat := none
deriving DecidableEq, Repr

/-! ## Heat (R442 to R456) -/

/-- A die's diode (R442 to R456), in 0.1 °C: raw and in use, the flags of DIODE_STAT, the readings in use of the last 50 ms (latest first), runs of
samples out of range or failing the check, since when the model stands above and back near it, throttle steps in force, and the row-store
model. -/
structure Diode where
  raw : Int := 0
  valid : Bool := false
  use : Int := 0
  warn : Bool := false
  throttle : Bool := false
  stop : Bool := false
  broken : Bool := false
  suspect : Bool := false
  subst : Bool := false
  hist : List Int := []
  histAt : Nat := 0
  badRun : Nat := 0
  checkRun : Nat := 0
  overSince : Option Nat := none
  nearSince : Option Nat := none
  suspectSince : Nat := 0
  tripSince : Option Nat := none
  steps : Nat := 0
  stepAt : Nat := 0
  calTemp : Int := 0
  model : Option Rat := none
deriving DecidableEq, Repr

/-- An orderly stop (R447 to R449): its cause (1 to 5 as in STOP_LOG, 6 an unload, 7 the application of a folio), die and t0, whether t1 and t2 are past, whether the
device stands stopped in Pupa, and since when every die has been cool. `abandon` marks an unload asked for while another stop was under way. -/
structure Stop where
  cause : Nat := 0
  die : Nat := 0
  t0 : Nat := 0
  begun : Bool := false
  committed : Bool := false
  stopped : Bool := false
  coolSince : Option Nat := none
  abandon : Bool := false
deriving DecidableEq, Repr

/-- The trip record of the base (R452). -/
structure Trip where
  die : Byte
  predicted : Bool
deriving DecidableEq, Repr

/-! ## Health report and Recovery -/

/-- The health report (R528 to R531): its number, the counter totals, the last report's words, the fault records, newest first, and for the present
period the input peak, the sum and number of input windows, and the BUSY sent. -/
structure Health where
  num : Nat := 0
  totals : List Nat := []
  report : List Word := []
  records : List FaultRec := []
  inputPeak : Nat := 0
  figs : List Nat := []
  busy : Nat := 0
deriving DecidableEq, Repr

/-- The Recovery service (R480): the chunks staged by number, its state and refusal code, and the bytes written. -/
structure Recov where
  chunks : Sparse (List Byte) := []
  state : Nat := 1
  code : Nat := 0
  written : Nat := 0
  image : List Word := []
deriving DecidableEq, Repr

/-! ## The TAP (R557) -/

/-- The instructions of the TAP. -/
inductive TapIr where
  | bypass | idcode | sample | extest
deriving DecidableEq, Repr

/-- The TAP: its instruction, the boundary-scan register as captured and as loaded. -/
structure Tap where
  ir : TapIr := .idcode
  captured : BitVec 80 := 0
  loaded : BitVec 80 := 0
deriving DecidableEq, Repr

/-! ## Hall requests at the target (R334, R342) -/

/-- A hall request at a network interface: `kind` 0 load, 1 store, 2 atomic, 3 block read, 4 block write; its source
coordinates, path class and request tag return in the reply. `bulk` gathers the data cells that follow a header cell; `waits` says that it
waits for a walk or the Pager, `fail` is the fatal fault that ended its walk. -/
structure HallReq where
  id : Nat := 0
  m15 : Bool
  kind : Nat
  op : Nat := 0
  size : Bool := false
  src : BitVec 12
  cls : BitVec 2
  tag : BitVec 17
  addr : Dword
  lo : Dword := 0
  hi : Dword := 0
  cmpLo : Dword := 0
  cmpHi : Dword := 0
  units : Nat := 0
  bulk : List Payload := []
  waits : Bool := false
  fail : Nat := 0
deriving DecidableEq, Repr

/-! ## How a step can stop -/

/-- The faults of a step. -/
inductive Fault where
  /-- Raised by no command: the machine takes the faults the spec describes as effects of its own (safe). -/
  | none
deriving DecidableEq, Repr

/-- The refusals of a step. -/
inductive Refusal where
  /-- Raised by a dispatch arm whose command has no meaning yet (safe: the machine stops). -/
  | notModelled (mnemonic : String)
deriving DecidableEq, Repr

/-! ## Messages the block sends -/

/-- A message the block has sent, in the order of sending: spine answers and telemetry (R234, R538), cells of the base
(R224) and of the hall (R346), Tally and front-door messages. -/
inductive Msg where
  | reply (ini : Initiator) (data : Option Word)
  | error (ini : Initiator) (code : Nat)
  | i3cRead (bytes : List Byte)
  | i3cNack
  /-- What the management target sends in ENTDAA (R545): the manufacturer code and instance of its provisional ID, and from its BCR whether it raises IBIs,
  whether they carry a payload, and the most bytes of that. -/
  | i3cIdent (maker : Nat) (inst : BitVec 16) (ibi payload : Bool) (bytes : Nat)
  | baseCell (cell : CellBits)
  | telemetry (page : Nat) (data : Dword)
  | burst (grp site id : Nat) (cells : List CellBits) (slots : List (Nat × List (BitVec 10)))
  | lineSet (site grp : Nat) (set : List LineChar)
  | accepted (home : Nat) (cell : CellBits)
  | ident (word serial : Dword)
  | krel (data : Dword)
  | krelay (rank : Nat) (kettle : Nat) (gen : Word)
  | portSets (port : Nat) (sets : List (Nat × List LineChar))
  | codewords (port : Nat) (lanes : List (List LineChar))
  | portCell (port : Nat) (cell : CellBits)
  | released (port off : Nat) (bytes : List Byte)
  | delivered (die : Byte) (cell : CellBits)
  | fmgmt (tag : BitVec 17) (op addr data code : Nat)
  | arp (peer : Peer) (ip : BitVec 32) (mac : BitVec 48)
  | neighbour (peer : Peer) (ip : BitVec 128) (mac : BitVec 48)
  | echo (peer : Peer) (data : List Byte)
  | datagram (peer : Peer) (srcPort : Nat) (bytes : List Byte)
  | ticketDone (ticket : Nat)
  | tally (kind subject : Nat) (epoch : Byte) (number : Nat) (word : Dword)
  | ibi (bytes : List Byte)
  | bpins (pins : BitVec 80)
  | fetchPeer (rank seg : Nat)
deriving DecidableEq, Repr

/-- The whole machine. -/
structure State where
  pending : List Instr := []
  timebase : Dword := 0
  free : Nat := 0
  out : List Msg := []
  stage : Stage := .ovum
  dst : DevState := .d0
  spineUp : Bool := false
  activeStacks : Nat := 40
  dies : Sparse Die := []
  keepers : Vector Keeper 3 := Vector.replicate 3 {}
  tally : Tally := {}
  staging : Staging := {}
  vault : Vault := {}
  mgmt : Mgmt := {}
  jobPhase : Nat := 0
  bootWait : Nat := 0
  stopAsked : Option (Nat × Nat) := none
  idleInterval : Bool := false
  faultsDue : List FaultRec := []
  regs : Sparse Word := []
  irqSent : Sparse (Nat × Nat) := []
  latched : Sparse Word := []
  highHeld : Sparse Word := []
  lateReads : List (Initiator × Nat × Option (Nat × Nat)) := []
  cores : Sparse Core := []
  coreBuf : Mem := {}
  instStore : Mem := {}
  stks : Sparse Stack := []
  rowStore : Mem := {}
  xes : Sparse Xe := []
  pagers : Sparse Pager := []
  chans : Sparse Chan := []
  mainMem : Mem := {}
  thirds : List Nat := [0, 1, 2]
  sieves : Sparse (List SieveOp) := []
  kettleIn : Sparse (List Nat) := []
  groups : Sparse Group := []
  sites : Sparse Site := []
  statusQ : List StatusMsg := []
  statusHeld : List Nat := []
  krelDue : List (Nat × Dword) := []
  rings : Sparse RingSt := []
  lsms : Vector Lsm 7 := Vector.replicate 7 {}
  lines : Sparse LaserLine := []
  inputs : Sparse Input := []
  refLight : RefLight := {}
  calPass : CalPass := {}
  identAt : Sparse Nat := []
  hallWait : List HallReq := []
  hallAsm : List HallReq := []
  hallSeq : Nat := 0
  ports : Vector Port 6 := Vector.replicate 6 {}
  originLow : Bool := false
  discStart : Nat := 0
  restart : Restart := {}
  serving : Serving := {}
  job : Job := {}
  regions : Sparse Region := []
  clock : Clock := {}
  power : Power := {}
  diodes : Sparse Diode := []
  stop : Stop := {}
  trip : Option Trip := none
  reportOut : Health := {}
  recov : Recov := {}
  tap : Tap := {}
  rstLow : Bool := true
  warm : Bool := false
  epochs : Nat := 0
  surgeNow : Nat := 0
  jobPool64 : List Nat := []
  jobPool2M : List Nat := []
deriving DecidableEq, Repr

/-- The machine right after reset. -/
def State.reset : State := {}

end Sys2Proof.Machine
end

