-- ==== Sys2Proof/Machine/Ecc.lean ====
section
/-!
DEFINITION. Sys2Proof/Machine/Ecc.lean: the (72,64) SEC-DED code of R143 and reading and writing the protected memories. A block
of memory is handled as one natural number, its first byte in the low bits (R4).
-/
namespace Sys2Proof.Machine

/-- The columns h[0] to h[63] of R143: the 8-bit values with three bits set in ascending order, then eight with five. -/
def eccColumns : List Nat :=
  [0x07, 0x0B, 0x0D, 0x0E, 0x13, 0x15, 0x16, 0x19, 0x1A, 0x1C, 0x23, 0x25, 0x26, 0x29, 0x2A, 0x2C] ++
  [0x31, 0x32, 0x34, 0x38, 0x43, 0x45, 0x46, 0x49, 0x4A, 0x4C, 0x51, 0x52, 0x54, 0x58, 0x61, 0x62] ++
  [0x64, 0x68, 0x70, 0x83, 0x85, 0x86, 0x89, 0x8A, 0x8C, 0x91, 0x92, 0x94, 0x98, 0xA1, 0xA2, 0xA4] ++
  [0xA8, 0xB0, 0xC1, 0xC2, 0xC4, 0xC8, 0xD0, 0xE0, 0x1F, 0x2F, 0x37, 0x3B, 0x3D, 0x3E, 0x4F, 0x57]

/-- The check byte of a data word: the XOR of the columns of its set bits. -/
def eccFold (d : Nat) : List Nat → Nat
  | [] => 0
  | h :: t => (if d % 2 = 1 then h else 0) ^^^ eccFold (d / 2) t

/-- The check byte of a 64-bit word (R143). -/
def eccEncode (d : Nat) : Nat := eccFold d eccColumns

/-- What the syndrome of a word says (R143). -/
inductive EccResult where
  | clean
  | corrected (data : Nat)
  | bad
deriving DecidableEq, Repr

/-- Decode a word with its stored check byte (R143). -/
def eccDecode (d c : Nat) : EccResult :=
  let syn := c ^^^ eccEncode d
  if syn = 0 then .clean
  else if popCount syn 8 = 1 then .corrected d
  else
    match eccColumns.idxOf? syn with
    | some i => .corrected (d ^^^ 2 ^ i)
    | none => .bad

/-- One byte of a memory. -/
def Mem.byte (m : Mem) (a : Nat) : Byte := sget 0 m.data a

/-- Bytes `a` to `a + n - 1` as stored, without the code. -/
def Mem.raw (m : Mem) (a : Nat) : Nat → Nat
  | 0 => 0
  | n + 1 => (m.byte a).toNat + 256 * Mem.raw m (a + 1) n

/-- The stored check byte of the word at byte address 8w. -/
def Mem.chk (m : Mem) (w : Nat) : Nat := (sget 0 m.check w).toNat

/-- Store the low `n` bytes of `v` from byte address `a` on. -/
def putBytes (l : List Host.Cell) (a v : Nat) : Nat → List Host.Cell
  | 0 => l
  | n + 1 => putBytes (sset 0 l a (BitVec.ofNat 8 v)) (a + 1) (v / 256) n

/-- Write the 64-bit word `w` with its check byte. -/
def Mem.putWord (m : Mem) (w v : Nat) : Mem :=
  { data := putBytes m.data (8 * w) v 8, check := sset 0 m.check w (BitVec.ofNat 8 (eccEncode (v % 2 ^ 64))) }

/-- Write `n` whole words from word `w` on. -/
def Mem.putWords (m : Mem) (w v : Nat) : Nat → Mem
  | 0 => m
  | n + 1 => Mem.putWords (m.putWord w v) (w + 1) (v / 2 ^ 64) n

/-- Set one stored bit of a word, of its data (0 to 63) or of its check byte (64 to 71). -/
def Mem.setBit (m : Mem) (w bit : Nat) (v : Bool) : Mem :=
  if bit < 64 then { m with data := putBytes m.data (8 * w) (putBits (m.raw (8 * w) 8) bit 1 (b2n v)) 8 }
  else { m with check := sset 0 m.check w (BitVec.ofNat 8 (putBits (m.chk w) (bit - 64) 1 (b2n v))) }

/-- Replace bytes of one word: the check byte moves by the change, so that a syndrome already there stays as it is. -/
def Mem.patchWord (m : Mem) (w lo n v : Nat) : Mem :=
  let old := m.raw (8 * w) 8
  let new := putBits old (8 * lo) (8 * n) v
  { data := putBytes m.data (8 * w + lo) v n,
    check := sset 0 m.check w (BitVec.ofNat 8 (m.chk w ^^^ eccEncode old ^^^ eccEncode new)) }

/-- Write `n` bytes from byte address `a` on: whole words with fresh check bytes, parts of words by a patch. -/
def Mem.putPart (m : Mem) (a v n : Nat) : Nat → Mem
  | 0 => m
  | fuel + 1 =>
    if n = 0 then m
    else
      let lo := a % 8
      let k := min n (8 - lo)
      let m' := if k = 8 then m.putWord (a / 8) v else m.patchWord (a / 8) lo k v
      Mem.putPart m' (a + k) (v / 2 ^ (8 * k)) (n - k) fuel

/-- Write `n` bytes from byte address `a` on. -/
def Mem.put (m : Mem) (a v n : Nat) : Mem := m.putPart a v n (n / 8 + 2)

/-- What a checked read of whole words gives: the data with every correctable word corrected, the words corrected, and
the index of the first uncorrectable word. -/
structure EccRead where
  val : Nat
  fixed : List (Nat × Nat)
  bad : Option Nat
deriving DecidableEq, Repr

/-- Read `n` words from word `w` on through the code (R41, R108, R145). -/
def Mem.get (m : Mem) (w : Nat) : Nat → EccRead
  | 0 => ⟨0, [], none⟩
  | n + 1 =>
    let d := m.raw (8 * w) 8
    let rest := Mem.get m (w + 1) n
    match eccDecode d (m.chk w) with
    | .clean => ⟨d + 2 ^ 64 * rest.val, rest.fixed, rest.bad.map (· + 1)⟩
    | .corrected v => ⟨v + 2 ^ 64 * rest.val, (w, v) :: rest.fixed, rest.bad.map (· + 1)⟩
    | .bad => ⟨d + 2 ^ 64 * rest.val, rest.fixed, some 0⟩

/-- Write corrected words back (R41). -/
def Mem.fix (m : Mem) : List (Nat × Nat) → Mem
  | [] => m
  | (w, v) :: t => Mem.fix (m.putWord w v) t

/-- Drop every cell of a memory whose byte address lies in [lo, hi): contents lost with power, or zeroed. -/
def Mem.clear (m : Mem) (lo hi : Nat) : Mem :=
  { data := m.data.filter (fun c => decide (c.1 < lo ∨ hi ≤ c.1)),
    check := m.check.filter (fun c => decide (8 * c.1 < lo ∨ hi ≤ 8 * c.1)) }

/-- The canonical form of a memory's two lists. -/
def Mem.wf (m : Mem) : Bool := swf (fun _ => (0 : Byte)) m.data && swf (fun _ => (0 : Byte)) m.check

end Sys2Proof.Machine
end

