-- ==== Sys2Proof/Machine/RegMap.lean ====
section
/-!
DEFINITION. Sys2Proof/Machine/RegMap.lean: the address map of the register space (R533, R534), what the common header says of
each page type (R535), the reset values of the registers (R15 and the page rules), and for each register which of its bits
carry which access code (R15).
-/
namespace Sys2Proof.Machine

/-- What R534 and R535 say of a page type: code, base address, slots, instances, holder (R535 codes), the interrupt bits
defined, the highest block offset used, whether it holds RWL fields, and whether a soft reset has an action of its own. -/
structure PageInfo where
  code : Nat
  base : Nat
  slots : Nat
  insts : Nat
  holder : Nat
  irqBits : Nat
  top : Nat
  hasRwl : Bool
  resetAction : Bool
deriving DecidableEq, Repr

/-- The address map of R534 with the header figures of R535; the last column names the field map's rule. -/
def pageInfo : PageType → PageInfo
  | .core     => ⟨0x01, 0x00000000, 2048, 2000, 1, 6, 0x3FC, true, true⟩    -- R78
  | .cdie     => ⟨0x02, 0x00800000, 64, 40, 1, 3, 0x094, false, false⟩      -- R548
  | .xe       => ⟨0x03, 0x00840000, 64, 40, 1, 4, 0x2FC, false, true⟩       -- R198
  | .pager    => ⟨0x04, 0x00880000, 64, 40, 1, 3, 0x064, false, true⟩       -- R199
  | .rows     => ⟨0x05, 0x008C0000, 64, 40, 3, 8, 0x070, true, false⟩       -- R135
  | .clkreg   => ⟨0x06, 0x00900000, 256, 160, 1, 4, 0x064, false, false⟩    -- R417
  | .mport    => ⟨0x07, 0x00A00000, 64, 16, 2, 0, 0x048, false, false⟩      -- R164
  | .mchan    => ⟨0x08, 0x00A40000, 512, 384, 2, 6, 0x068, false, false⟩    -- R165
  | .sieve    => ⟨0x09, 0x00C40000, 64, 64, 2, 2, 0x054, true, false⟩       -- R166
  | .phoHome  => ⟨0x0A, 0x00C80000, 64, 59, 3, 8, 0x5BC, false, false⟩      -- R238
  | .phoSite  => ⟨0x0B, 0x00CC0000, 64, 59, 3, 5, 0x068, true, false⟩       -- R239
  | .xport    => ⟨0x0C, 0x00D00000, 16, 6, 2, 7, 0x124, false, false⟩        -- R326
  | .fab      => ⟨0x0D, 0x00D10000, 16, 1, 2, 5, 0x05C, true, false⟩        -- R325
  | .rankmap  => ⟨0x0E, 0x00D20000, 16, 4, 2, 1, 0xFFC, true, false⟩        -- R327
  | .region   => ⟨0x0F, 0x00D30000, 16, 8, 2, 4, 0xFFC, true, false⟩        -- R356
  | .kettle   => ⟨0x10, 0x00D40000, 256, 256, 4, 2, 0x1F8, true, true⟩      -- R357
  | .fdoor    => ⟨0x11, 0x00E40000, 16, 2, 5, 6, 0x0B0, true, false⟩        -- R393
  | .lsm      => ⟨0x12, 0x00E50000, 16, 7, 4, 9, 0x07C, true, false⟩        -- R279
  | .pwr      => ⟨0x13, 0x00E60000, 16, 1, 4, 7, 0x69C, true, false⟩        -- R441
  | .therm    => ⟨0x14, 0x00E70000, 16, 1, 4, 7, 0xA9C, true, false⟩        -- R468
  | .cal      => ⟨0x15, 0x00E80000, 16, 1, 5, 3, 0x054, false, false⟩        -- R469
  | .age      => ⟨0x16, 0x00E90000, 16, 1, 5, 3, 0x058, false, false⟩       -- R470
  | .timebase => ⟨0x17, 0x00EA0000, 16, 1, 4, 6, 0x074, false, false⟩       -- R418
  | .keeper   => ⟨0x18, 0x00EB0000, 16, 3, 6, 3, 0x05C, false, false⟩       -- R510
  | .tally    => ⟨0x19, 0x00EC0000, 16, 1, 4, 4, 0x064, false, false⟩       -- R511
  | .folio    => ⟨0x1A, 0x00ED0000, 16, 1, 5, 7, 0x070, false, false⟩       -- R512

/-- The page types in the order of R534. -/
def pageTypes : List PageType :=
  [.core, .cdie, .xe, .pager, .rows, .clkreg, .mport, .mchan, .sieve, .phoHome, .phoSite, .xport, .fab, .rankmap,
   .region, .kettle, .fdoor, .lsm, .pwr, .therm, .cal, .age, .timebase, .keeper, .tally, .folio]

/-- The address of offset `off` in page `i` of type `t` (R533). -/
def regAddr (t : PageType) (i off : Nat) : Nat := (pageInfo t).base + i * 0x1000 + off

/-- The page type, instance and offset of a 28-bit address, none where no page answers (R533). -/
def decodeAddr (a : Nat) : Option (PageType × Nat × Nat) :=
  match pageTypes.find? (fun t => decide ((pageInfo t).base ≤ a ∧ a < (pageInfo t).base + (pageInfo t).slots * 0x1000)) with
  | none => none
  | some t =>
    let i := (a - (pageInfo t).base) / 0x1000
    if i < (pageInfo t).insts then some (t, i, a % 0x1000) else none

/-- A row of a page's field map: `count` registers from `off`, `stride` bytes apart, with the masks of the bits that are
RW, RWL, RW1C and RC (R15); `pair` says that the register and the next form a 64-bit quantity (R13), and then the masks are of
all 64 bits. Every other bit reads what the unit holds and is not written. -/
structure RegRow where
  off : Nat
  count : Nat := 1
  stride : Nat := 4
  rw : Nat := 0
  rwl : Nat := 0
  rw1c : Nat := 0
  rc : Nat := 0
  pair : Bool := false
deriving DecidableEq, Repr

/-- The low 64 bits set. -/
def all64 : Nat := 0xFFFFFFFFFFFFFFFF
/-- The low 32 bits set. -/
def all32 : Nat := 0xFFFFFFFF

/-- The CORE page (R78). -/
def coreRows : List RegRow :=
  [{ off := 0x044, rw := 0xFFFF }, { off := 0x050, rw := 0x0FFF0FFF }, { off := 0x060, rw := all64, pair := true },
   { off := 0x068, rwl := all64, pair := true }, { off := 0x070, rw1c := 0x0F0F }, { off := 0x074, rc := all32 },
   { off := 0x078, rw := 0x3FFF }, { off := 0x100, count := 64, stride := 8, pair := true },
   { off := 0x300, count := 32, stride := 8, rw := all64, pair := true }]
/-- The CDIE page (R548). -/
def cdieRows : List RegRow :=
  [{ off := 0x044, pair := true }, { off := 0x04C, pair := true }, { off := 0x094, rc := all32 }]
/-- The XE page (R198). -/
def xeRows : List RegRow :=
  [{ off := 0x044, rw := 0x3FFFFE00001, pair := true }, { off := 0x04C, rw := 0xFFF }, { off := 0x05C, rc := all32 },
   { off := 0x060, rc := all32 }, { off := 0x068, pair := true }, { off := 0x070, rc := all32 }, { off := 0x078, rc := all32 },
   { off := 0x108, count := 16, stride := 32, pair := true }, { off := 0x118, count := 16, stride := 32, pair := true }]
/-- The PAGER page (R199). -/
def pagerRows : List RegRow :=
  [{ off := 0x044, rw := 1 }, { off := 0x048, rw := 0xFFFF }, { off := 0x054, rc := all32 }, { off := 0x058, rc := 0xFFFF },
   { off := 0x05C, rc := 0xFFFF }, { off := 0x060, pair := true }]
/-- The ROWS page (R135). -/
def rowsRows : List RegRow :=
  [{ off := 0x050, rc := all32 }, { off := 0x05C, rw := 0xFFFF01 }, { off := 0x060, rwl := 0xFFFF }, { off := 0x064, rw := 1 },
   { off := 0x070, rc := all32 }]
/-- The CLKREG page (R417). -/
def clkregRows : List RegRow :=
  [{ off := 0x044, rw := 1 }, { off := 0x054, pair := true }, { off := 0x05C, rc := all32 }, { off := 0x060, rc := 0xFF },
   { off := 0x064, rc := all32 }]
/-- The MCHAN page (R165). -/
def mchanRows : List RegRow :=
  [{ off := 0x048, rc := all32 }, { off := 0x04C, pair := true }, { off := 0x054, rw := 0xFF01 }, { off := 0x060, rw := 0xFFFF },
   { off := 0x064, rc := 0xFFFF }]
/-- The SIEVE page (R166). -/
def sieveRows : List RegRow := [{ off := 0x044, rwl := 1 }, { off := 0x04C, rc := all32 }, { off := 0x050, rc := all32 }]
/-- The PHO_HOME page (R238). -/
def phoHomeRows : List RegRow :=
  [{ off := 0x050, rw := all32 }, { off := 0x054, rw := 0xFFFF }, { off := 0x058, count := 4, rc := all32 }]
/-- The PHO_SITE page (R239). -/
def phoSiteRows : List RegRow :=
  [{ off := 0x048, rwl := 0xF }, { off := 0x04C, rw := 1 }, { off := 0x050, rw := 0xFFFF }, { off := 0x054, rc := all32 },
   { off := 0x058, rc := all32 }, { off := 0x05C, rc := 0xFFFF }, { off := 0x060, rc := 0xFFFF }, { off := 0x064, rc := all32 }]
/-- The REGION page (R356). -/
def regionRows : List RegRow :=
  [{ off := 0x044, rw := 0xFFFF }, { off := 0x04C, pair := true }, { off := 0x054, rc := all32 }, { off := 0x058, rc := 0xFFFF },
   { off := 0x05C, rc := 0xFFFF }, { off := 0x800, count := 128, stride := 16, rwl := 0xFFFFFFE00001, pair := true },
   { off := 0x808, count := 128, stride := 16, rwl := 0x1FFF3F }]
/-- The KETTLE page (R357). -/
def kettleRows : List RegRow :=
  [{ off := 0x040, rwl := 0x11F03 }, { off := 0x044, rwl := all32 }, { off := 0x054, rc := all32 }, { off := 0x058, rc := all32 },
   { off := 0x060, count := 8, rwl := 0x800FFFFF }, { off := 0x100, count := 62, rwl := all32 },
   { off := 0x1F8, rwl := 0xFFFF }]
/-- The TIMEBASE page (R418). -/
def timebaseRows : List RegRow :=
  [{ off := 0x040, pair := true }, { off := 0x048, rw := 1 }, { off := 0x050, rw := 0xFF01 }, { off := 0x054, pair := true },
   { off := 0x068, rc := all32 }, { off := 0x074, rc := all32 }]
/-- The XPORT page (R326). -/
def xportRows : List RegRow :=
  [{ off := 0x04C, pair := true }, { off := 0x060, rw := all32 }, { off := 0x064, rc := all32 }, { off := 0x068, rc := all32 },
   { off := 0x06C, rc := all32 }, { off := 0x078, rw := 0xFFFF }, { off := 0x07C, rc := all32 }]
/-- The FAB page (R325). -/
def fabRows : List RegRow :=
  [{ off := 0x040, rwl := 0x10FFF }, { off := 0x048, rw := 0xFFFF }, { off := 0x050, rwl := 0xFFFF }, { off := 0x054, rc := all32 },
   { off := 0x058, rc := all32 }]
/-- The RANKMAP page (R327). -/
def rankmapRows : List RegRow :=
  [{ off := 0x800, count := 512, rwl := all32 }]
/-- The FDOOR page (R393). -/
def fdoorRows : List RegRow :=
  [{ off := 0x048, rwl := 3 }, { off := 0x04C, pair := true }, { off := 0x054, rwl := all32 }, { off := 0x058, rwl := 0x13F },
   { off := 0x060, count := 4, rwl := all32 }, { off := 0x070, count := 4, rc := all32 }, { off := 0x080, rwl := 0xFFFFF },
   { off := 0x084, rwl := 0x7FF }, { off := 0x088, pair := true }, { off := 0x090, pair := true }, { off := 0x0A0, rc := all32 },
   { off := 0x0A4, rc := all32 }, { off := 0x0A8, rw := 0x3FF }, { off := 0x0AC, rw := 0xFFFF }]
/-- The LSM page (R279). -/
def lsmRows : List RegRow :=
  [{ off := 0x048, pair := true }, { off := 0x060, rw := 0x13F }, { off := 0x068, rc := all32 }, { off := 0x06C, rwl := 1 },
   { off := 0x074, rc := all32 }, { off := 0x07C, rc := all32 }]
/-- The PWR page (R441). -/
def pwrRows : List RegRow :=
  [{ off := 0x048, rw := 0x1FFFF }, { off := 0x04C, rw := all64, pair := true }, { off := 0x054, rwl := 0xFFFFFF01 }, { off := 0x058, rw := 1 },
   { off := 0x070, rc := 0xFFFF }, { off := 0x074, pair := true }, { off := 0x07C, rc := all32 }, { off := 0x080, rc := all32 }]
/-- The THERM page (R468). -/
def thermRows : List RegRow :=
  [{ off := 0x054, rc := all32 }, { off := 0x060, count := 3, rwl := all32 }, { off := 0x06C, rwl := 0xFF0000FF }]
/-- The CAL page (R469). -/
def calRows : List RegRow :=
  [{ off := 0x040, rw := 0xFF }, { off := 0x050, rc := all32 }, { off := 0x054, rc := all32 }]
/-- The AGE page (R470). -/
def ageRows : List RegRow :=
  []
/-- The KEEPER page (R510). -/
def keeperRows : List RegRow :=
  [{ off := 0x054, rc := all32 }, { off := 0x058, rc := all32 }]
/-- The TALLY page (R511). -/
def tallyRows : List RegRow :=
  [{ off := 0x050, pair := true }, { off := 0x058, rc := all32 }, { off := 0x05C, rc := all32 }, { off := 0x060, rc := 0xFFFFFF },
   { off := 0x064, rc := 0xFFFF }]
/-- The FOLIO page (R512). -/
def folioRows : List RegRow :=
  []

/-- The field map of a page type. -/
def regRows : PageType → List RegRow
  | .core => coreRows
  | .cdie => cdieRows
  | .xe => xeRows
  | .pager => pagerRows
  | .rows => rowsRows
  | .clkreg => clkregRows
  | .mport => []
  | .mchan => mchanRows
  | .sieve => sieveRows
  | .phoHome => phoHomeRows
  | .phoSite => phoSiteRows
  | .xport => xportRows
  | .fab => fabRows
  | .rankmap => rankmapRows
  | .region => regionRows
  | .kettle => kettleRows
  | .fdoor => fdoorRows
  | .lsm => lsmRows
  | .pwr => pwrRows
  | .therm => thermRows
  | .cal => calRows
  | .age => ageRows
  | .timebase => timebaseRows
  | .keeper => keeperRows
  | .tally => tallyRows
  | .folio => folioRows

/-- Whether register offset `off` belongs to a row: as its register, or as the high half of its pair. -/
def RegRow.covers (r : RegRow) (off : Nat) : Bool :=
  decide (r.off ≤ off) &&
  (let k := (off - r.off) / r.stride
   let x := (off - r.off) % r.stride
   if r.pair && decide (r.count = 1) then decide (off - r.off = 0 ∨ off - r.off = 4)
   else decide (k < r.count) && (decide (x = 0) || (r.pair && decide (x = 4))))

/-- Whether `off` is the high half of a pair of the row. -/
def RegRow.isHigh (r : RegRow) (off : Nat) : Bool := r.pair && decide ((off - r.off) % 8 = 4)

/-- The row of a register, a reserved one where the page names none. -/
def regRow (t : PageType) (off : Nat) : RegRow :=
  ((regRows t).find? (fun r => r.covers off)).getD { off := off }

/-- The 32 bits of a mask that stand in the half of a pair that `off` names. -/
def RegRow.half (r : RegRow) (off mask : Nat) : Nat := if r.isHigh off then mask / 2 ^ 32 else mask % 2 ^ 32

/-- The reset value of a register, zero where none is stated (R135, R165, R198, R199, R238, R239, R356, R357, R418, R78, R325 to R327, R393, R441, R443, R469). -/
def resetWord (t : PageType) (off : Nat) : Nat :=
  match t, off with
  | .core, 0x060 => 250000000
  | .xe, 0x04C => 1536
  | .pager, 0x044 => 1
  | .pager, 0x048 => 2000
  | .rows, 0x05C => 1 + 1000 * 256
  | .rows, 0x060 => 55 + 68 * 256
  | .mchan, 0x054 => 1 + 24 * 256
  | .mchan, 0x060 => 1000
  | .sieve, 0x044 => 1
  | .phoHome, 0x054 => 2000
  | .phoSite, 0x048 => 8
  | .phoSite, 0x050 => 1000
  | .region, 0x044 => 250
  | .kettle, 0x044 => 1
  | .timebase, 0x050 => 1 + 60 * 256
  | .xport, 0x078 => 2000
  | .fab, 0x048 => 10000
  | .rankmap, 0x040 => 256
  | .fdoor, 0x048 => 1
  | .fdoor, 0x080 => 40000
  | .fdoor, 0x084 => 250
  | .fdoor, 0x0A8 => 10
  | .fdoor, 0x0AC => 25
  | .pwr, 0x054 => 36000 * 256
  | .therm, 0x060 => 92 + 97 * 2 ^ 8 + 103 * 2 ^ 16 + 110 * 2 ^ 24
  | .therm, 0x064 => 85 + 90 * 2 ^ 8 + 95 * 2 ^ 16 + 100 * 2 ^ 24
  | .therm, 0x068 => 80 + 85 * 2 ^ 8 + 90 * 2 ^ 16 + 95 * 2 ^ 24
  | .therm, 0x06C => 95 + 115 * 2 ^ 24
  | .cal, 0x040 => 30
  | _, _ => 0

/-- What a register reads as that nothing has written since its domain came on. -/
def regReset (a : Nat) : Word :=
  match decodeAddr a with
  | none => 0
  | some (t, _, off) => BitVec.ofNat 32 (resetWord t off)

end Sys2Proof.Machine
end

