-- ==== Sys2Proof/Machine/Ops.lean ====
section
/-!
DEFINITION. Sys2Proof/Machine/Ops.lean: the named operations every family uses: units by number, registers and their fields,
saturating counters, interrupts and latched logs, messages, job faults, exceptions of a context (R73), the interleave (R139).
-/
namespace Sys2Proof.Machine

/-! ## Units by number -/

/-- The timebase as a number of nanoseconds (R407). -/
def State.now (s : State) : Nat := s.timebase.toNat

/-- Core `n`. -/
def State.core (s : State) (n : Nat) : Core := sget {} s.cores n
/-- Replace core `n`. -/
def State.setCore (s : State) (n : Nat) (c : Core) : State := { s with cores := sset {} s.cores n c }
/-- One context of a core. -/
def Core.ctx (c : Core) : Ctx → Context
  | .d => c.d
  | .p => c.p
/-- Replace one context of a core. -/
def Core.setCtx (c : Core) (x : Ctx) (k : Context) : Core :=
  match x with
  | .d => { c with d := k }
  | .p => { c with p := k }
/-- Context `x` of core `n`. -/
def State.ctx (s : State) (n : Nat) (x : Ctx) : Context := (s.core n).ctx x
/-- Replace context `x` of core `n`. -/
def State.setCtx (s : State) (n : Nat) (x : Ctx) (k : Context) : State := s.setCore n ((s.core n).setCtx x k)
/-- Update context `x` of core `n`. -/
def State.modCtx (s : State) (n : Nat) (x : Ctx) (f : Context → Context) : State := s.setCtx n x (f (s.ctx n x))
/-- Stack `n`. -/
def State.stk (s : State) (n : Nat) : Stack := sget {} s.stks n
/-- Replace stack `n`. -/
def State.setStk (s : State) (n : Nat) (k : Stack) : State := { s with stks := sset {} s.stks n k }
/-- The XE of stack `n`. -/
def State.xe (s : State) (n : Nat) : Xe := sget {} s.xes n
/-- Replace the XE of stack `n`. -/
def State.setXe (s : State) (n : Nat) (x : Xe) : State := { s with xes := sset {} s.xes n x }
/-- The Pager of stack `n`. -/
def State.pager (s : State) (n : Nat) : Pager := sget {} s.pagers n
/-- Replace the Pager of stack `n`. -/
def State.setPager (s : State) (n : Nat) (p : Pager) : State := { s with pagers := sset {} s.pagers n p }
/-- Channel `n`. -/
def State.chan (s : State) (n : Nat) : Chan := sget {} s.chans n
/-- Replace channel `n`. -/
def State.setChan (s : State) (n : Nat) (c : Chan) : State := { s with chans := sset {} s.chans n c }
/-- The die with position code `c` (R21). -/
def State.die (s : State) (c : Nat) : Die := sget {} s.dies c
/-- Replace the die with position code `c`. -/
def State.setDie (s : State) (c : Nat) (d : Die) : State := { s with dies := sset {} s.dies c d }

/-! ## Registers -/

/-- The word a register holds. -/
def State.rd (s : State) (a : Nat) : Word := sget (regReset a) s.regs a
/-- Make a register hold a word. -/
def State.wr (s : State) (a : Nat) (v : Word) : State := { s with regs := sset (regReset a) s.regs a v }
/-- A register's word as a number. -/
def State.rdn (s : State) (a : Nat) : Nat := (s.rd a).toNat
/-- A field of a register. -/
def State.fld (s : State) (a lsb w : Nat) : Nat := bits (s.rdn a) lsb w
/-- Set a field of a register. -/
def State.setFld (s : State) (a lsb w v : Nat) : State := s.wr a (BitVec.ofNat 32 (putBits (s.rdn a) lsb w v))
/-- A 64-bit pair of registers (R13). -/
def State.rd64 (s : State) (a : Nat) : Dword := BitVec.ofNat 64 (s.rdn a + 2 ^ 32 * s.rdn (a + 4))
/-- Set a 64-bit pair in one step (R13). -/
def State.wr64 (s : State) (a : Nat) (v : Dword) : State :=
  (s.wr a (BitVec.ofNat 32 v.toNat)).wr (a + 4) (BitVec.ofNat 32 (v.toNat / 2 ^ 32))
/-- Add to a counter field that saturates at all ones (R15). -/
def State.bump (s : State) (a lsb w n : Nat) : State := s.setFld a lsb w (min (2 ^ w - 1) (s.fld a lsb w + n))
/-- Raise a counter field to `v` where that is higher. -/
def State.raiseTo (s : State) (a lsb w v : Nat) : State :=
  s.setFld a lsb w (max (s.fld a lsb w) (min (2 ^ w - 1) v))
/-- A hardware event sets an interrupt bit of a page (R15, R535). -/
def State.irq (s : State) (t : PageType) (i bit : Nat) : State := s.setFld (regAddr t i 0x010) bit 1 1
/-- Count an event in PAGE_ERR_CNT with its cause (R539). -/
def State.errCount (s : State) (t : PageType) (i cause : Nat) : State :=
  (s.bump (regAddr t i 0x01C) 0 16 1).setFld (regAddr t i 0x01C) 24 8 cause
/-- Latch a word in a log register whose valid bit is [31], unless one is latched. -/
def State.latchLog (s : State) (a v : Nat) : State :=
  if bitOf (s.rdn a) 31 then s else s.wr a (BitVec.ofNat 32 (v + 2 ^ 31))

/-- Send a message. -/
def State.emit (s : State) (m : Msg) : State := { s with out := s.out ++ [m] }
/-- Read a free value: the counter it was taken at, and the state with the counter advanced. -/
def State.fresh (s : State) : Nat × State := (s.free, { s with free := s.free + 1 })
/-- Report a job fault (R513): its record waits for the active Keeper's restart. -/
def State.jobFault (s : State) (cls code : Nat) (die : Nat) (inst : Nat) : State :=
  { s with faultsDue := s.faultsDue ++ [{ cls := cls, code := code, die := BitVec.ofNat 8 die, inst := inst, t0 := s.now }] }

/-! ## Which units are on -/

/-- Whether a stack takes part in the job: not retired, and among the active stacks (R29, R421). -/
def State.stackActive (s : State) (n : Nat) : Bool :=
  !(s.stk n).retired && decide (((List.range n).filter (fun i => !(s.stk i).retired)).length < s.activeStacks)
/-- Whether the domains of a stack's compute die and bank groups are on (R112, R419): D0, the spine trained, an active stack. -/
def State.stackOn (s : State) (n : Nat) : Bool :=
  s.spineUp && (decide (s.dst = .d0) || decide (s.dst = .d1)) && s.stackActive n
/-- The physical cores of die `n` that are enabled, in ascending order: at most 50 of those fused good and unmarked (R37). -/
def State.enabledCores (s : State) (n : Nat) : List Nat :=
  let d := s.die (0x40 + n)
  ((List.range 52).filter (fun p => d.good.getLsbD p && !d.bad.getLsbD p)).take 50
/-- The physical core of a logical core (R8), none where the logical number is out of service (R37). -/
def State.physCore (s : State) (core : Nat) : Option Nat := (s.enabledCores (core / 50))[core % 50]?
/-- The clock region that holds a logical core: region r of a compute die holds its physical cores 13r to 13r + 12 (R8, R400). -/
def State.coreRegion (s : State) (core : Nat) : Option Nat := (s.physCore core).map (fun p => 4 * (core / 50) + p / 13)
/-- Whether a region's power domain is on (R419). -/
def State.regionOn (s : State) (r : Nat) : Bool := s.stackOn (r / 4) && decide (s.dst = .d0)
/-- Whether a core is in service and runs: its logical number is enabled, and the region of its physical core is on. -/
def State.coreOn (s : State) (core : Nat) : Bool :=
  match s.coreRegion core with
  | some r => s.regionOn r
  | none => false

/-! ## The interleave (R139, R140) -/

/-- The number of thirds in service, w. -/
def State.w (s : State) : Nat := s.thirds.length
/-- fold7 of R139. -/
def fold7 (q : Nat) : Nat := (q ^^^ (q / 2 ^ 7) ^^^ (q / 2 ^ 14) ^^^ (q / 2 ^ 21)) % 128
/-- The channel of a local physical address (R139). -/
def State.chanOf (s : State) (addr : Nat) : Nat :=
  let p := addr / 1024
  let q := p / 128
  128 * s.thirds.getD (q % s.w) 0 + ((p % 128) ^^^ fold7 q)
/-- The block within the channel (R139). -/
def State.blkOf (s : State) (addr : Nat) : Nat := addr / 1024 / 128 / s.w
/-- Whether an address lies in the capacity in service (R140). -/
def State.inCapacity (s : State) (addr : Nat) : Bool := decide (addr < s.w * 2 ^ 40)
/-- Where main memory keeps the byte at offset `off` of block `a` of a channel. -/
def memKey (chan a off : Nat) : Nat := chan * 2 ^ 33 + a * 1024 + off
/-- Where main memory keeps a local physical address. -/
def State.keyOf (s : State) (addr : Nat) : Nat := memKey (s.chanOf addr) (s.blkOf addr) (addr % 1024)
/-- The memory-port die position code of a channel (R21, R30). -/
def chanDie (chan : Nat) : Nat := 0x10 + chan / 24
/-- The bank of a block within its channel (R138). -/
def bankOf (a : Nat) : Nat := (a % 16) ^^^ (a / 2 ^ 19 % 16)
/-- The row of a block within its bank (R138). -/
def rowOf (a : Nat) : Nat := a / 64 % 2 ^ 17
/-- The column slot of a block in its row (R138). -/
def slotOf (a : Nat) : Nat := a / 16 % 4
/-- Where unit `u` of a block begins in its row, on each subchannel (R138): it takes 32 bytes there. -/
def placeOf (a u : Nat) : Nat := 512 * slotOf a + 32 * u

/-- Where the core buffers keep byte `off` of core `n` (R38). -/
def bufKey (core off : Nat) : Nat := core * 786432 + off
/-- Where the instruction stores keep byte `off` of core `n` (R35). -/
def instKey (core off : Nat) : Nat := core * 131072 + off
/-- Where the row stores keep byte `off` of stack `n` (R107). -/
def rowKey (stack off : Nat) : Nat := stack * 2 ^ 30 + off

/-- The CORE page registers of core `n`. -/
def coreReg (n off : Nat) : Nat := regAddr .core n off
/-- The bank mask of a context (R40, R78). -/
def State.banks (s : State) (n : Nat) (x : Ctx) : Nat :=
  match x with
  | .d => s.fld (coreReg n 0x044) 0 8
  | .p => s.fld (coreReg n 0x044) 8 8
/-- Whether a line lies in a bank the context owns (R38, R40). -/
def State.ownsLine (s : State) (n : Nat) (x : Ctx) (line : Nat) : Bool := bitOf (s.banks n x) (line / 1536)

/-! ## Chains and remote tags of a context -/

/-- Cancel the unfinished chains of a context (R190): their entries go, issued pieces complete, nothing is notified. -/
def State.cancelChains (s : State) (core : Nat) (x : Ctx) : State :=
  let n := core / 50
  let e := s.xe n
  let mine := fun c : Chain => decide (c.core.val = core % 50) && decide (c.ctx = x)
  if e.chains.any mine then
    (s.setXe n { e with chains := e.chains.filter (fun c => !mine c) }).irq .xe n 3
  else s

/-- The outstanding hall operations of a context. -/
def State.hallOps (s : State) (core : Nat) (x : Ctx) : List (Nat × TagUse) :=
  (s.xe (core / 50)).tags.filter (fun t => !t.2.xe && decide (t.2.core.val = core % 50) && decide (t.2.ctx = x))

/-! ## Exceptions (R72 to R74) -/

/-- Whether an engine runs a command of context `x`. -/
def runsFor (r : Option Running) (x : Ctx) : Bool :=
  match r with
  | some q => decide (q.ctx = x)
  | none => false

/-- The job fault of a core exception (R513): class 2 for uncorrectable data, class 4 for a refused hall operation with its
status, class 1 with the exception code otherwise. -/
def State.excFault (s : State) (core code status : Nat) : State :=
  let die := 0x40 + core / 50
  if code = 0x10 then s.jobFault 2 1 die core
  else if code = 0x12 then s.jobFault 2 2 die core
  else if code = 0x11 then s.jobFault 2 3 die core
  else if code = 0x18 then s.jobFault 4 status die core
  else s.jobFault 1 code die core

/-- Raise an exception in a context (R73): stop issuing, record it, discard what has not started, enter HALTED, set the
interrupt, cancel its chains (R190), report a job fault. A context already HALTED records nothing (R74), and only CTR_SAT
is raised in a context that is IDLE or PARKED (R75). -/
def State.exception (s : State) (core : Nat) (x : Ctx) (code pc slot : Nat) (multiple : Bool) (status : Nat) : State :=
  let k := s.ctx core x
  if k.mode = .halted ∨ ((k.mode = .idle ∨ k.mode = .parked) ∧ code ≠ 0x0A) then s
  else
    let rec_ : ExcRec := ⟨BitVec.ofNat 8 code, BitVec.ofNat 12 pc, BitVec.ofNat 3 slot, multiple⟩
    let k' := { k with mode := .halted, exc := rec_, qMe := [], qVe := [], qRm := [] }
    let s1 := (s.setCtx core x k').irq .core core (match x with | .d => 2 | .p => 3)
    (s1.cancelChains core x).excFault core code status

/-- Raise the lowest of several exceptions met at once, with the multiple bit where there are two or more (R74). -/
def State.exceptions (s : State) (core : Nat) (x : Ctx) (es : List (Nat × Nat)) (pc : Nat) : State :=
  match minBy Prod.fst es with
  | none => s
  | some e => s.exception core x e.1 pc e.2 (decide (2 ≤ es.length)) 0

/-- The PC as CORE.PC shows it: a fall through from bundle 4,095 reads 4,095 (R72 code 0x09). -/
def Context.pcShown (k : Context) : Nat := min k.pc.toNat 4095

/-- Add to a stitch counter (R49); one already at 2^64 − 1, or passing it, stays there and raises CTR_SAT (R52). -/
def State.signal (s : State) (core : Nat) (x : Ctx) (ctr : Fin 32) : State :=
  let k := s.ctx core x
  if k.ctr.get ctr = BitVec.allOnes 64 then s.exception core x 0x0A k.pcShown 5 false 0
  else s.setCtx core x { k with ctr := k.ctr.set ctr (k.ctr.get ctr + 1) }

/-- Set sticky numeric flags of a context (R87, R78 NUM_FLAGS). -/
def State.numFlags (s : State) (core : Nat) (x : Ctx) (f : BitVec 4) : State :=
  let lsb := match x with | .d => 0 | .p => 8
  if f = 0 then s else s.setFld (coreReg core 0x070) lsb 4 (s.fld (coreReg core 0x070) lsb 4 ||| f.toNat)

/-! ## Checked reads of the core buffer -/

/-- Count words corrected in a core's buffer (`lsb` 0) or instruction store (`lsb` 16): in CORE.ECC_CNT, and for its physical core over
the ageing epoch (R37, R41, R78). -/
def State.coreEcc (s : State) (core lsb n : Nat) : State :=
  let s1 := s.bump (coreReg core 0x074) lsb 16 n
  match s.physCore core with
  | none => s1
  | some p =>
    let c := 0x40 + core / 50
    s1.setDie c { s.die c with eccSeen := smod 0 (s.die c).eccSeen p (· + n) }
/-- Read `n` words of a core's buffer from byte offset `off` (a multiple of 8) through the code (R41): single errors are
corrected, written back and counted. -/
def State.bufRead (s : State) (core off n : Nat) : EccRead × State :=
  let r := s.coreBuf.get (bufKey core off / 8) n
  if r.fixed = [] then (r, s)
  else (r, { s with coreBuf := s.coreBuf.fix r.fixed }.coreEcc core 0 r.fixed.length)

/-- Write `n` bytes of a core's buffer from byte offset `off`. -/
def State.bufWrite (s : State) (core off v n : Nat) : State :=
  { s with coreBuf := s.coreBuf.put (bufKey core off) v n }

/-- The counter of kettle increments on their way to the spine controller (R349). -/
def State.kettleSend (s : State) (k n : Nat) : State :=
  { s with kettleIn := sset [] s.kettleIn k (sget [] s.kettleIn k ++ [n]) }

end Sys2Proof.Machine
end

