-- ==== Sys2Proof/Machine/Crypto.lean ====
section
/-!
DEFINITION. Sys2Proof/Machine/Crypto.lean: the digests of FIPS 180-4 and the keyed digest of RFC 2104 that the front door, the signed
objects and the amendments use (R362, R474, R497, R503, R508).
-/
namespace Sys2Proof.Machine

/-- A big-endian field of a list of bytes (R4, R361). -/
def beNat (l : List Byte) : Nat := l.foldl (fun a b => 256 * a + b.toNat) 0
/-- `n` bytes of a number, most significant first. -/
def beBytes (n v : Nat) : List Byte := (List.range n).map (fun i => byteOf v (n - 1 - i))
/-- A little-endian field of a list of bytes (R4). -/
def leNat (l : List Byte) : Nat := l.foldr (fun b a => b.toNat + 256 * a) 0
/-- `n` bytes of a number, least significant first. -/
def leBytes (n v : Nat) : List Byte := (List.range n).map (byteOf v)
/-- `n` bytes of a list from offset `off`. -/
def slice (l : List Byte) (off n : Nat) : List Byte := (l.drop off).take n
/-- Cut a list into pieces of `n`, with fuel. -/
def chunks (n : Nat) : Nat → List Byte → List (List Byte)
  | 0, _ => []
  | _, [] => []
  | fuel + 1, l => l.take n :: chunks n fuel (l.drop n)
/-- The bytes of an object's words (R476). -/
def wordBytes (ws : List Word) : List Byte := ws.flatMap (fun w => leBytes 4 w.toNat)

/-- Constants 0 to 19 of FIPS 180-4. -/
def shaK0 : List Dword :=
  [0x428A2F98D728AE22, 0x7137449123EF65CD, 0xB5C0FBCFEC4D3B2F, 0xE9B5DBA58189DBBC, 0x3956C25BF348B538,
   0x59F111F1B605D019, 0x923F82A4AF194F9B, 0xAB1C5ED5DA6D8118, 0xD807AA98A3030242, 0x12835B0145706FBE,
   0x243185BE4EE4B28C, 0x550C7DC3D5FFB4E2, 0x72BE5D74F27B896F, 0x80DEB1FE3B1696B1, 0x9BDC06A725C71235,
   0xC19BF174CF692694, 0xE49B69C19EF14AD2, 0xEFBE4786384F25E3, 0x0FC19DC68B8CD5B5, 0x240CA1CC77AC9C65]
/-- Constants 20 to 39 of FIPS 180-4. -/
def shaK1 : List Dword :=
  [0x2DE92C6F592B0275, 0x4A7484AA6EA6E483, 0x5CB0A9DCBD41FBD4, 0x76F988DA831153B5, 0x983E5152EE66DFAB,
   0xA831C66D2DB43210, 0xB00327C898FB213F, 0xBF597FC7BEEF0EE4, 0xC6E00BF33DA88FC2, 0xD5A79147930AA725,
   0x06CA6351E003826F, 0x142929670A0E6E70, 0x27B70A8546D22FFC, 0x2E1B21385C26C926, 0x4D2C6DFC5AC42AED,
   0x53380D139D95B3DF, 0x650A73548BAF63DE, 0x766A0ABB3C77B2A8, 0x81C2C92E47EDAEE6, 0x92722C851482353B]
/-- Constants 40 to 59 of FIPS 180-4. -/
def shaK2 : List Dword :=
  [0xA2BFE8A14CF10364, 0xA81A664BBC423001, 0xC24B8B70D0F89791, 0xC76C51A30654BE30, 0xD192E819D6EF5218,
   0xD69906245565A910, 0xF40E35855771202A, 0x106AA07032BBD1B8, 0x19A4C116B8D2D0C8, 0x1E376C085141AB53,
   0x2748774CDF8EEB99, 0x34B0BCB5E19B48A8, 0x391C0CB3C5C95A63, 0x4ED8AA4AE3418ACB, 0x5B9CCA4F7763E373,
   0x682E6FF3D6B2B8A3, 0x748F82EE5DEFB2FC, 0x78A5636F43172F60, 0x84C87814A1F0AB72, 0x8CC702081A6439EC]
/-- Constants 60 to 79 of FIPS 180-4. -/
def shaK3 : List Dword :=
  [0x90BEFFFA23631E28, 0xA4506CEBDE82BDE9, 0xBEF9A3F7B2C67915, 0xC67178F2E372532B, 0xCA273ECEEA26619C,
   0xD186B8C721C0C207, 0xEADA7DD6CDE0EB1E, 0xF57D4F7FEE6ED178, 0x06F067AA72176FBA, 0x0A637DC5A2C898A6,
   0x113F9804BEF90DAE, 0x1B710B35131C471B, 0x28DB77F523047D84, 0x32CAAB7B40C72493, 0x3C9EBE0A15C9BEBC,
   0x431D67C49C100D4C, 0x4CC5D4BECB3E42B6, 0x597F299CFC657E2A, 0x5FCB6FAB3AD6FAEC, 0x6C44198C4A475817]
/-- The round constants of SHA-512. -/
def shaK : List Dword := shaK0 ++ shaK1 ++ shaK2 ++ shaK3
/-- The initial hash value of SHA-512. -/
def shaH : List Dword :=
  [0x6A09E667F3BCC908, 0xBB67AE8584CAA73B, 0x3C6EF372FE94F82B, 0xA54FF53A5F1D36F1,
   0x510E527FADE682D1, 0x9B05688C2B3E6C1F, 0x1F83D9ABFB41BD6B, 0x5BE0CD19137E2179]

/-- Pad a message to blocks of `blk` bytes with a length field of `lf` bytes. -/
def shaPad (blk lf : Nat) (m : List Byte) : List Byte :=
  let n := m.length
  m ++ [0x80] ++ List.replicate ((2 * blk - 1 - lf - n % blk) % blk) 0 ++ beBytes lf (8 * n)

/-! ## SHA-512 -/

/-- Rotate right. -/
def ror64 (x : Dword) (n : Nat) : Dword := x.rotateRight n
/-- The message schedule, latest word first: `n` words are still to come. -/
def sched512 (w : List Dword) : Nat → List Dword
  | 0 => w
  | n + 1 =>
    let a := w.getD 1 0
    let b := w.getD 14 0
    let s1 := ror64 a 19 ^^^ ror64 a 61 ^^^ (a >>> 6)
    let s0 := ror64 b 1 ^^^ ror64 b 8 ^^^ (b >>> 7)
    sched512 ((s1 + w.getD 6 0 + s0 + w.getD 15 0) :: w) n
/-- One round. -/
def round512 (h : List Dword) (kw : Dword × Dword) : List Dword :=
  match h with
  | [a, b, c, d, e, f, g, k] =>
    let t1 := k + (ror64 e 14 ^^^ ror64 e 18 ^^^ ror64 e 41) + ((e &&& f) ^^^ (~~~e &&& g)) + kw.1 + kw.2
    let t2 := (ror64 a 28 ^^^ ror64 a 34 ^^^ ror64 a 39) + ((a &&& b) ^^^ (a &&& c) ^^^ (b &&& c))
    [t1 + t2, a, b, c, d + t1, e, f, g]
  | _ => h
/-- One block. -/
def block512 (h : List Dword) (b : List Byte) : List Dword :=
  let w0 := (List.range 16).map (fun i => BitVec.ofNat 64 (beNat (slice b (8 * i) 8)))
  let w := (sched512 w0.reverse 64).reverse
  List.zipWith (· + ·) h ((shaK.zip w).foldl round512 h)
/-- SHA-512 (FIPS 180-4). -/
def sha512 (m : List Byte) : List Byte :=
  let p := shaPad 128 16 m
  ((chunks 128 p.length p).foldl block512 shaH).flatMap (fun x => beBytes 8 x.toNat)

/-! ## SHA-256: its constants are the high halves of those of SHA-512 -/

/-- The high half of a word. -/
def high32 (x : Dword) : Word := BitVec.ofNat 32 (x.toNat / 2 ^ 32)
/-- The message schedule, latest word first. -/
def sched256 (w : List Word) : Nat → List Word
  | 0 => w
  | n + 1 =>
    let a := w.getD 1 0
    let b := w.getD 14 0
    let s1 := a.rotateRight 17 ^^^ a.rotateRight 19 ^^^ (a >>> 10)
    let s0 := b.rotateRight 7 ^^^ b.rotateRight 18 ^^^ (b >>> 3)
    sched256 ((s1 + w.getD 6 0 + s0 + w.getD 15 0) :: w) n
/-- One round. -/
def round256 (h : List Word) (kw : Word × Word) : List Word :=
  match h with
  | [a, b, c, d, e, f, g, k] =>
    let t1 := k + (e.rotateRight 6 ^^^ e.rotateRight 11 ^^^ e.rotateRight 25) + ((e &&& f) ^^^ (~~~e &&& g)) + kw.1 + kw.2
    let t2 := (a.rotateRight 2 ^^^ a.rotateRight 13 ^^^ a.rotateRight 22) + ((a &&& b) ^^^ (a &&& c) ^^^ (b &&& c))
    [t1 + t2, a, b, c, d + t1, e, f, g]
  | _ => h
/-- One block. -/
def block256 (h : List Word) (b : List Byte) : List Word :=
  let w0 := (List.range 16).map (fun i => BitVec.ofNat 32 (beNat (slice b (4 * i) 4)))
  let w := (sched256 w0.reverse 48).reverse
  List.zipWith (· + ·) h (((shaK.take 64).map high32 |>.zip w).foldl round256 h)
/-- SHA-256 (FIPS 180-4). -/
def sha256 (m : List Byte) : List Byte :=
  let p := shaPad 64 8 m
  ((chunks 64 p.length p).foldl block256 (shaH.map high32)).flatMap (fun x => beBytes 4 x.toNat)
/-- HMAC-SHA-256 (RFC 2104). -/
def hmac256 (key m : List Byte) : List Byte :=
  let k0 := if 64 < key.length then sha256 key else key
  let k := k0 ++ List.replicate (64 - k0.length) 0
  sha256 (k.map (· ^^^ 0x5C) ++ sha256 (k.map (· ^^^ 0x36) ++ m))

end Sys2Proof.Machine
end

