-- ==== Sys2Proof/Machine/Objects.lean ====
section
/-!
DEFINITION. Sys2Proof/Machine/Objects.lean: reading the container of signed objects (R474, R475): a 128-byte header, sections in
ascending type, each an 8-byte section header and a padded body. An object is the list of its 32-bit words, in byte order.
-/
namespace Sys2Proof.Machine

/-- Word `i` of an object. -/
def objWord (o : List Word) (i : Nat) : Nat := (o.getD i 0).toNat
/-- A little-endian field of `n` bytes at byte offset `b` of an object (R4). -/
def objField (o : List Word) (b : Nat) : Nat → Nat
  | 0 => 0
  | n + 1 => bits (objWord o (b / 4)) (8 * (b % 4)) 8 + 256 * objField o (b + 1) n

/-- A section: its type, its length in bytes and the words of its body. -/
structure Section where
  ty : Nat
  len : Nat
  body : List Word
deriving DecidableEq, Repr

/-- The sections in a list of words (R475), none where a section header or the padding is wrong, or a type does not ascend. -/
def readSections : Nat → Nat → List Word → Option (List Section)
  | _, _, [] => some []
  | 0, _, _ => none
  | fuel + 1, after, w0 :: w1 :: t =>
    let ty := w0.toNat % 2 ^ 16
    let n := (w1.toNat + 7) / 8 * 2
    if w0.toNat / 2 ^ 16 ≠ 0 ∨ ty ≤ after ∨ t.length < n then none
    else if (List.range (4 * n - w1.toNat)).any (fun i => decide (objField (t.take n) (w1.toNat + i) 1 ≠ 0)) then none
    else
      match readSections fuel ty (t.drop n) with
      | none => none
      | some ss => some ({ ty := ty, len := w1.toNat, body := t.take n } :: ss)
  | _, _, [_] => none

/-- The words of an object's sections: after the header, as many bytes as its length field says. -/
def objSectionWords (o : List Word) : List Word := (o.drop 32).take (objWord o 3 / 4)
/-- An object's sections. -/
def objSections (o : List Word) : Option (List Section) := readSections 64 0 (objSectionWords o)
/-- The section of a type. -/
def objSection (o : List Word) (ty : Nat) : Option Section := ((objSections o).getD []).find? (fun x => decide (x.ty = ty))

/-- A little-endian field of a section's body. -/
def Section.field (x : Section) (b n : Nat) : Nat := objField x.body b n

/-- An access window of a folio (R493, R494): first and last register address, and what it opens. -/
structure Window where
  first : Nat
  last : Nat
  i3c : Bool
  fab : Bool
  write : Bool
deriving DecidableEq, Repr

/-- The windows that a folio opens (R493): up to 64 entries of 12 bytes. -/
def folioWindows (o : List Word) : List Window :=
  match objSection o 0x08 with
  | none => []
  | some x => (List.range (min 64 (x.len / 12))).map (fun i =>
      let f := x.field (12 * i + 8) 4
      { first := x.field (12 * i) 4, last := x.field (12 * i + 4) 4, i3c := bitOf f 0, fab := bitOf f 1, write := bitOf f 8 })

/-- The version field of an object, 0 for none (R474). -/
def objVersion (o : List Word) : Nat := objWord o 2

/-! ## Amendments (R497, R499, R500) -/

/-- Bytes 0 to 23 of an amendment's record (R497). -/
def Amend.bytes (a : Amend) : List Byte :=
  leBytes 2 a.kind ++ [if a.bound then 1 else 0, 0] ++ leBytes 4 a.folio ++ leBytes 4 a.hour ++ leBytes 4 a.res ++ leBytes 8 a.value
/-- The chain tag of a record that follows one with chain tag `prev` (R497). -/
def chainTag (prev : Nat) (a : Amend) : Nat := leNat ((hmac256 Config.storageKey (leBytes 8 prev ++ a.bytes)).take 8)
/-- A record after those stored; the first chains from 8 zero bytes (R497). -/
def chainNext (l : List Stored) (a : Amend) : List Stored := l ++ [⟨a, chainTag ((l.getLast?.map Stored.tag).getD 0) a⟩]
/-- The other half of the area, with the live records written to it (R500). -/
def AmendArea.moved (x : AmendArea) (live : List Amend) : AmendArea := { second := !x.second, recs := live.foldl chainNext [] }
/-- Append a record: a full half, of 65,536 records, first has its live records written to the other (R500). -/
def AmendArea.put (x : AmendArea) (live : List Amend) (a : Amend) : AmendArea :=
  let y := if x.recs.length < 65536 then x else x.moved live
  { y with recs := chainNext y.recs a }
/-- Append amendments to the area, one after the other. -/
def Vault.record (v : Vault) (l : List Amend) : Vault :=
  { v with amends := v.amends ++ l, area := (l.foldl (fun (p : List Amend × AmendArea) a => (p.1 ++ [a], p.2.put p.1 a)) (v.amends, v.area)).2 }
/-- Drop amendments (R499): the others are written to the other half (DESIGN CHOICE, log entry 113). -/
def Vault.drop (v : Vault) (hit : Amend → Bool) : Vault :=
  { v with amends := v.amends.filter (fun a => !hit a), area := v.area.moved (v.amends.filter (fun a => !hit a)) }
/-- The stored records before the first whose chain tag is wrong. -/
def intactFrom : Nat → List Stored → List Stored
  | _, [] => []
  | prev, x :: t => if x.tag = chainTag prev x.amend then x :: intactFrom x.tag t else []
/-- The live records among those stored: a user calibration value stands in place of an earlier one of its item and folio. -/
def liveOf : List Stored → List Amend
  | [] => []
  | x :: t => if x.amend.kind = 0x0E ∧ t.any (fun y => decide (y.amend.kind = 0x0E ∧ y.amend.res = x.amend.res ∧ y.amend.folio = x.amend.folio)) then liveOf t else x.amend :: liveOf t
/-- The stored records up to the last that was made under a folio version. -/
def upTo (ver : Nat) (l : List Stored) : List Stored := (l.reverse.dropWhile (fun x => decide (x.amend.folio ≠ ver))).reverse
/-- Larva checks the chain (R500): where it breaks, the records up to the last made under the prior folio are tried (DEDUCED, log entry 113); none where they break too. -/
def Vault.chained (v : Vault) : Option Vault :=
  let good := intactFrom 0 v.area.recs
  let old := upTo (objVersion v.prior) v.area.recs
  if good.length = v.area.recs.length then some v
  else if !v.prior.isEmpty ∧ old.length ≤ good.length then some { v with area := { v.area with recs := old }, amends := liveOf old }
  else none
/-- Append an amendment (R497). -/
def State.amend (s : State) (kind : Nat) (bound : Bool) (res value : Nat) : State :=
  { s with vault := s.vault.record [⟨kind, bound, objVersion s.vault.folio, s.vault.hours, res, value⟩] }

/-- Firmware marks a physical core of compute die `n` failed in service (R37, R548): recorded at once, in effect from the next Larva. -/
def State.markCore (s : State) (n p : Nat) : State :=
  let d := s.die (0x40 + n)
  if d.bad.getLsbD p || d.badDue.getLsbD p then s
  else ((s.setDie (0x40 + n) { d with badDue := d.badDue ||| BitVec.twoPow 52 p }).amend 0x0D false (64 * n + p) 0).irq .cdie n 2
/-- Firmware marks the physical cores that have corrected more than 1,000 words in this ageing epoch (R37). -/
def State.eccMarks (s : State) : State :=
  (List.range 40).foldl (fun t n => (((t.die (0x40 + n)).eccSeen.filter (fun e => decide (1000 < e.2))).map Prod.fst).foldl (fun u p => u.markCore n p) t) s
/-- A job restart that CB_UE or IS_UE of core `c` begins (R37, R513): the second in an ageing epoch marks the core. -/
def State.coreUe (s : State) (c : Nat) : State :=
  match s.physCore c with
  | none => s
  | some p =>
    let n := c / 50
    let seen := smod 0 (s.die (0x40 + n)).ueSeen p (· + 1)
    let s1 := s.setDie (0x40 + n) { s.die (0x40 + n) with ueSeen := seen }
    if 2 ≤ sget 0 seen p then s1.markCore n p else s1
/-- The cores whose CB_UE or IS_UE is among some faults, each once. -/
def ueCores (fs : List FaultRec) : List Nat := ((fs.filter (fun f => decide (f.cls = 2 ∧ (f.code = 1 ∨ f.code = 3)))).map (fun f => f.inst)).eraseDups
/-- A new ageing epoch counts a core's errors afresh (R37). -/
def State.coresAnew (s : State) : State := { s with dies := smapv {} (fun (d : Die) => { d with eccSeen := [], ueSeen := [] }) s.dies }

/-! ## Calibration sets (R256, R457 to R459) -/

/-- The calibration temperatures in 0.1 °C (R457). -/
def calPoints : List Int := [250, 450, 650, 850, 1000]
/-- The item number of a ring position. -/
def ringItem (k : Nat) : Nat := 0x1000000 + k
/-- The range of an item's code: of a ring's heater in 0.01 GHz (R254, R257), of another item a free value. -/
def codeRange (item : Nat) : Int × Int :=
  if ringItem 1000000 ≤ item ∧ item < ringItem 2000000 then (0, 13000) else if ringItem 0 ≤ item then (0, 6000) else Config.calRange item
/-- The signed offset of a user value, bits [15:0] (DESIGN CHOICE, log entry 112). -/
def userOffset (v : Nat) : Int := (BitVec.ofNat 16 v).toInt
/-- The selection of a user value, bits [18:16] less 1; 0 is none. -/
def userPick (v : Nat) : Option Nat := if bits v 16 3 = 0 then none else some (bits v 16 3 - 1)
/-- A user value. -/
def userValue (pick : Option Nat) (off : Int) : Nat := (BitVec.ofInt 16 off).toNat + (match pick with | some p => (p + 1) * 2 ^ 16 | none => 0)
/-- A number held in an item's range (R458). -/
def inRange (item : Nat) (v : Int) : Int := max (codeRange item).1 (min (codeRange item).2 v)
/-- The calibration points at which a user value takes an item's code out of its range (R458). -/
def codesOut (item v : Nat) : Nat := ((List.range 5).filter (fun i => decide (inRange item (Config.factoryCode item i + userOffset v) ≠ Config.factoryCode item i + userOffset v))).length
/-- The point at which the segment of a temperature begins (R457). -/
def calSegment (t : Int) : Nat := if t < 450 then 0 else if t < 650 then 1 else if t < 850 then 2 else 3
/-- Linear interpolation between the calibration points, and extrapolation beyond them (R457). -/
def lerp (f : Nat → Int) (t : Int) : Int :=
  let i := calSegment t
  f i + (f (i + 1) - f i) * (t - calPoints.getD i 0) / (calPoints.getD (i + 1) 0 - calPoints.getD i 0)
/-- The code of an item at a temperature: factory and user values at the points, each sum in its range (R457, R458). -/
def State.codeFor (s : State) (item : Nat) (t : Int) : Int := lerp (fun i => inRange item (Config.factoryCode item i + userOffset (sget 0 s.vault.user item))) t
/-- The selection of an item at a temperature: the user value's, or the factory's at the lower point of the segment. -/
def State.pickFor (s : State) (item : Nat) (t : Int) : Nat := (userPick (sget 0 s.vault.user item)).getD (Config.factoryPick item (calSegment t))
/-- Put user values in force: sums outside a range are counted, and raise clamp (R458, R469). -/
def State.userForce (s : State) (vs : List (Nat × Nat)) : State :=
  let n := (vs.map (fun (e : Nat × Nat) => codesOut e.1 e.2)).sum
  let s1 := ({ s with vault := { s.vault with user := vs.foldl (fun t (e : Nat × Nat) => sput t e.1 e.2) s.vault.user } }).bump (regAddr .cal 0 0x050) 16 16 n
  s1.setFld (regAddr .cal 0 0x010) 2 1 (if n = 0 then s1.fld (regAddr .cal 0 0x010) 2 1 else 1)
/-- User values are measured anew (R459): they are in force at once, and recorded at the next job boundary. -/
def State.userMeasured (s : State) (vs : List (Nat × Nat)) : State :=
  ({ s with vault := { s.vault with userDue := s.vault.userDue ++ vs.map Prod.fst } }.bump (regAddr .cal 0 0x050) 0 16 vs.length).userForce vs
/-- Items whose measure lies outside the model are calibrated: each value is free. -/
def State.userChanged (s : State) (items : List Nat) : State :=
  let x := s.fresh
  x.2.userMeasured ((List.range items.length).map (fun i => (items.getD i 0, (Config.freeWord (x.1 * 64 + i)).toNat % 2 ^ 16)))
/-- The user values in force at Pupa (R459): the folio's set, overlaid by the values that its amendments record. -/
def State.userSet (s : State) : State :=
  let cal := match objSection s.vault.folio 0x05 with | some x => x.body | none => []
  let mine := s.vault.amends.filter (fun (a : Amend) => decide (a.kind = 0x0E) && decide (a.folio = objVersion s.vault.folio))
  ({ s with vault := { s.vault with user := [] } }).userForce (Config.calItems cal ++ mine.map (fun (a : Amend) => (a.res, a.value)))
/-- The user values measured since the last job boundary are recorded (R459), each in the place of the item's earlier record under this folio (R500). -/
def State.userRecord (s : State) : State :=
  s.vault.userDue.dedup.foldl (fun t r =>
    let rest := t.vault.amends.filter (fun (a : Amend) => !(decide (a.kind = 0x0E) && decide (a.res = r) && decide (a.folio = objVersion s.vault.folio)))
    ({ t with vault := { t.vault with amends := rest } }).amend 0x0E true r (sget 0 s.vault.user r)) { s with vault := { s.vault with userDue := [] } }

end Sys2Proof.Machine
end

