-- ==== Sys2Proof/Machine/Access.lean ====
section
/-!
DEFINITION. Sys2Proof/Machine/Access.lean: what decides whether a write transaction of the spine is applied (R18, R234, R236, R494,
R533, R536, R540, R541), and the wrapper by which a register command of any family takes effect.
-/
namespace Sys2Proof.Machine

/-- Whether the initiator is a Keeper (R234). -/
def isKeeper : Initiator → Bool
  | .keeper _ _ => true
  | _ => false
/-- The initiator code of R234. -/
def iniCode : Initiator → Nat
  | .keeper k _ => k.val
  | .fabM7 => 3
  | .fabM15 => 4
  | .i3c => 5
  | .site _ => 6
  | .tally => 7
/-- The tag of an initiator's transaction (R234), which its answer returns. -/
def iniTag : Initiator → Nat
  | .keeper _ tag => tag.toNat
  | _ => 0

/-- The fields of a spine transaction's header word (R234): kind, initiator, role epoch, tag, site and register address. -/
structure SpineHeader where
  kind : Nat
  ini : Nat
  epoch : Nat := 0
  tag : Nat := 0
  site : Nat := 0
  addr : Nat := 0
deriving DecidableEq, Repr
/-- The header word (R234). -/
def SpineHeader.word (h : SpineHeader) : Dword :=
  BitVec.ofNat 64 (h.addr % 2 ^ 28 + h.site % 64 * 2 ^ 34 + h.tag % 256 * 2 ^ 40 + h.epoch % 256 * 2 ^ 48 + h.ini % 16 * 2 ^ 56 + h.kind % 16 * 2 ^ 60)
/-- The fields of a header word. -/
def spineHeader (w : Dword) : SpineHeader :=
  let n := w.toNat
  { kind := bits n 60 4, ini := bits n 56 4, epoch := bits n 48 8, tag := bits n 40 8, site := bits n 34 6, addr := bits n 0 28 }
/-- The initiator of a header; a transaction of the site unit names its site. -/
def SpineHeader.initiator (h : SpineHeader) : Option Initiator :=
  match h.ini with
  | 0 => some (.keeper 0 (BitVec.ofNat 8 h.tag))
  | 1 => some (.keeper 1 (BitVec.ofNat 8 h.tag))
  | 2 => some (.keeper 2 (BitVec.ofNat 8 h.tag))
  | 3 => some .fabM7
  | 4 => some .fabM15
  | 5 => some .i3c
  | 6 => if h.site < 59 then some (.site (Fin.ofNat 59 h.site)) else none
  | 7 => some .tally
  | _ => none
/-- The words of the answer to a transaction (R234): a REPLY, with a data word where it is to a READ, or an ERROR with its code; the tag is the transaction's. -/
def Msg.spineWords : Msg → List Dword
  | .reply ini d => (SpineHeader.word { kind := 3, ini := iniCode ini, tag := iniTag ini }) :: (match d with | some v => [BitVec.ofNat 64 v.toNat] | none => [])
  | .error ini code => [SpineHeader.word { kind := 4, ini := iniCode ini, tag := iniTag ini }, BitVec.ofNat 64 (code % 256)]
  | _ => []

/-- The site that keeps a page (R8, R30, R534), none for a page held in the always-on domain or by the active Keeper. -/
def pageSite (t : PageType) (i : Nat) : Option Nat :=
  match t with
  | .core => some (i / 50)
  | .cdie => some i
  | .xe => some i
  | .pager => some i
  | .rows => some i
  | .clkreg => some (i / 4)
  | .mport => some (40 + i)
  | .mchan => some (40 + i / 24)
  | .sieve => some (40 + i / 4)
  | .phoHome => some i
  | .phoSite => some i
  | .xport => some (if i % 2 = 1 then 55 else 47)
  | .fab => some 47
  | .rankmap => some 47
  | .region => some 47
  | .keeper => some (56 + i)
  | _ => none

/-- Whether the holder of a page is on (R419, R540). -/
def State.holderOn (s : State) (t : PageType) (i : Nat) : Bool :=
  match t with
  | .core => s.stackOn (i / 50) && (s.physCore i).isSome
  | .cdie => s.stackOn i
  | .xe => s.stackOn i
  | .pager => s.stackOn i
  | .clkreg => s.stackOn (i / 4)
  | .mport => s.spineUp && (decide (s.dst = .d0) || decide (s.dst = .d1))
  | .mchan => s.spineUp && (decide (s.dst = .d0) || decide (s.dst = .d1))
  | .sieve => s.spineUp && (decide (s.dst = .d0) || decide (s.dst = .d1))
  | .xport => s.spineUp && (decide (s.dst = .d0) || decide (s.dst = .d1))
  | .fab => s.spineUp && (decide (s.dst = .d0) || decide (s.dst = .d1))
  | .rankmap => s.spineUp && (decide (s.dst = .d0) || decide (s.dst = .d1))
  | .region => s.spineUp && (decide (s.dst = .d0) || decide (s.dst = .d1))
  | .keeper => decide ((s.keepers.toList.getD i {}).role ≠ .failed) && decide (s.dst ≠ .d3)
  | _ => decide (s.dst ≠ .d3)

/-- Whether a page answers in the present stage and device state (R541). -/
def State.pageAnswers (s : State) (t : PageType) (i : Nat) : Bool :=
  match s.dst with
  | .d3 => false
  | .d2 =>
    [PageType.pwr, .timebase, .therm, .lsm, .tally, .folio].contains t ||
      (decide (t = .keeper) && decide (s.tally.active.map Fin.val = some i))
  | _ =>
    if s.stage = .recovery ∨ !s.spineUp then [PageType.folio, .tally, .pwr, .timebase].contains t else true

/-- Whether the folio in force opens an address to writes of an initiator (R494). -/
def State.windowOpen (s : State) (ini : Initiator) (t : PageType) (a : Nat) : Bool :=
  let w := (folioWindows s.vault.folio).any (fun w => decide (w.first ≤ a ∧ a ≤ w.last) && w.write &&
    (match ini with | .i3c => w.i3c | _ => w.fab))
  match ini with
  | .i3c => w || decide (t = .folio) || decide (t = .tally) || (s.vault.folio.isEmpty && decide (t = .pwr))
  | .fabM7 => w
  | .fabM15 => w
  | _ => true

/-- Whether the Tally accepts a Keeper's role epoch (R236, R487): between t0 and t2 of a demotion, the next epoch as well. -/
def nextEpoch (e : Byte) : Byte := if e + 1 = 0 then 1 else e + 1
def State.epochOk (s : State) (ini : Initiator) (ep : Byte) : Bool :=
  !isKeeper ini || decide (ep = s.tally.epoch) || (s.tally.demotion.isSome && decide (ep = nextEpoch s.tally.epoch))

/-- The address of a register of a page's header. -/
def hdr (t : PageType) (i off : Nat) : Nat := regAddr t i off
/-- Whether a page is locked (R18). -/
def State.locked (s : State) (t : PageType) (i : Nat) : Bool := bitOf (s.rdn (hdr t i 0x008)) 2

/-- Whether a bit mask has bits that are RWL in the register at `off`. -/
def touchesRwl (t : PageType) (off : Nat) : Bool :=
  decide ((regRow t off).rwl ≠ 0)

/-- The ERROR code of a write transaction (R18, R234, R236, R533, R536, R541), 0 where it is taken. `own` is whether its own rule
decides who may write, and not the window (R536). A register that both FDOOR instances share (R393) is guarded by the lock of the instance that the write addresses
(R18; DESIGN CHOICE, log entry 92). -/
def State.writeError (s : State) (ini : Initiator) (ep : Byte) (a : Nat) (own : Bool) : Nat :=
  if 2 ^ 28 ≤ a ∨ a % 4 ≠ 0 then 1
  else
    match decodeAddr a with
    | none => 1
    | some (t, i, off) =>
      if !s.pageAnswers t i then 5
      else if !s.epochOk ini ep then 2
      else if !own && !s.windowOpen ini t a then 3
      else if s.locked t i && touchesRwl t off then 4
      else 0

/-- What a refused write counts (R18, R236, R239, R511). -/
def State.countRefused (s : State) (a code : Nat) : State :=
  match decodeAddr a with
  | none => s
  | some (t, i, _) =>
    let atSite := fun (u : State) =>
      match pageSite t i with
      | some n => u.bump (regAddr .phoSite n 0x064) 16 16 1
      | none => u
    if code = 2 then atSite (s.bump (regAddr .tally 0 0x064) 0 16 1)
    else if code = 3 then atSite s
    else if code = 4 then s.errCount t i 1
    else s

/-- A REPLY without data or an ERROR answers every write of the spine (R542); a write over the management port is answered in
its status byte instead (R546). -/
def State.answer (s : State) (ini : Initiator) (code : Nat) : State :=
  match ini with
  | .i3c => s
  | _ => s.emit (if code = 0 then .reply ini none else .error ini code)

/-- Apply a register command: refused, counted and answered, or taken by `f`; a write to the block registers of a page whose
holder is off is ignored and counted (R540). The ERROR code is returned beside the state. -/
def State.busWrite (s : State) (ini : Initiator) (ep : Byte) (a : Nat) (own : Bool) (f : PageType → Nat → State → State) : Nat × State :=
  let code := s.writeError ini ep a own
  if code ≠ 0 then (code, (s.countRefused a code).answer ini code)
  else
    match decodeAddr a with
    | none => (1, s)
    | some (t, i, off) =>
      if 0x040 ≤ off ∧ !s.holderOn t i then (0, (s.errCount t i 3).answer ini 0)
      else (0, (f t i s).answer ini 0)

/-- A write to one register of a unit's page: the state it leaves. -/
def State.busDo (s : State) (ini : Initiator) (ep : Byte) (t : PageType) (i off : Nat) (f : State → State) : State :=
  (s.busWrite ini ep (regAddr t i off) false (fun _ _ => f)).2

end Sys2Proof.Machine
end

