-- ==== Sys2Proof/Machine/Route.lean ====
section
/-!
DEFINITION. Sys2Proof/Machine/Route.lean: the rank map, path classes and routes (R306 to R311, R314), the external cell (R303), and how a
cell that this device originates comes to the output port of its first hop (R307, R311).
-/
namespace Sys2Proof.Machine

/-- The rank map entry of a rank (R306, R327): coordinates [11:0], class mask [14:12], valid [15]. -/
def State.rankEntry (s : State) (r : Nat) : Nat :=
  bits (s.rdn (regAddr .rankmap (r / 1024) (0x800 + 4 * (r % 1024 / 2)))) (16 * (r % 2)) 16
/-- A FAB register (R325). -/
def fabReg (off : Nat) : Nat := regAddr .fab 0 off
/-- The device's own coordinates (R325 COORD). -/
def State.coord (s : State) : Nat := s.fld (fabReg 0x044) 0 12
/-- Whether the device has coordinates. -/
def State.coordValid (s : State) : Bool := decide (s.fld (fabReg 0x044) 16 1 = 1)
/-- Whether the hall runs in G4 mode (R314). -/
def State.g4 (s : State) : Bool := decide (s.fld (fabReg 0x040) 16 1 = 1)
/-- The size of an axis (R325 DIMS): 0 X, 1 Y, 2 Z. -/
def State.axisSize (s : State) (axis : Nat) : Nat := s.fld (fabReg 0x040) (4 * axis) 4 + 1
/-- The coordinate of a device on an axis. -/
def coordOn (c axis : Nat) : Nat := bits c (4 * axis) 4
/-- Whether coordinates lie within FAB.DIMS. -/
def State.inDims (s : State) (c : Nat) : Bool := [0, 1, 2].all (fun a => decide (coordOn c a < s.axisSize a))

/-- The path class that R308 computes from a hall address, before the class mask. -/
def hashClass (addr : Nat) : Nat :=
  let v := addr / 2 ^ 12 % 2 ^ 51
  ((v ^^^ (v / 2 ^ 12) ^^^ (v / 2 ^ 24) ^^^ (v / 2 ^ 36) ^^^ (v / 2 ^ 48)) % 4096) % 3
/-- The first class from `c` on that an entry's class mask permits (R308). -/
def permitted (entry c : Nat) : Nat :=
  if bitOf entry (12 + c) then c else if bitOf entry (12 + (c + 1) % 3) then (c + 1) % 3 else (c + 2) % 3
/-- The path class of a request (R308); class 0 in G4 mode (R314). -/
def State.classOf (s : State) (addr entry : Nat) : Nat := if s.g4 then 0 else permitted entry (hashClass addr)

/-- The axes in the order of a path class (R309). -/
def axisOrder (cls : Nat) : List Nat := if cls = 0 then [0, 1, 2] else if cls = 1 then [1, 2, 0] else [2, 0, 1]
/-- The port of the next hop toward `dst` (R309, R280), none at the destination itself; in G4 mode negative-first (R314). -/
def State.nextPort (s : State) (dst cls : Nat) : Option Nat :=
  if s.g4 then
    match [0, 1, 2].find? (fun a => decide (coordOn dst a < coordOn s.coord a)) with
    | some a => some (2 * a + 1)
    | none => ([0, 1, 2].find? (fun a => decide (coordOn s.coord a < coordOn dst a))).map (2 * ·)
  else
    ((axisOrder cls).find? (fun a => decide (coordOn dst a ≠ coordOn s.coord a))).map (fun a =>
      let size := s.axisSize a
      let d := (coordOn dst a + size - coordOn s.coord a) % size
      2 * a + (if 2 * d ≤ size then 0 else 1))
/-- The network interface of a port: M7 for the + ports and for the device itself, M15 for the − ports (R280, R307). -/
def niDie (port : Option Nat) : Nat := match port with | some p => if p % 2 = 1 then 0x1F else 0x17 | none => 0x17
/-- Whether the link of a port joins the ends of its axis (R310). -/
def State.wrapLink (s : State) (port : Nat) : Bool :=
  decide (coordOn s.coord (port / 2) = if port % 2 = 0 then s.axisSize (port / 2) - 1 else 0)
/-- A device one step along the axis of a port (R300, R301). -/
def State.stepTo (s : State) (c port : Nat) (up : Bool) : Nat :=
  let a := port / 2
  let size := s.axisSize a
  putBits c (4 * a) 4 ((coordOn c a + (if up then 1 else size - 1)) % size)

/-! ## The external cell (R303) -/

/-- A field of a cell's header. -/
def hf (c : CellBits) (lsb w : Nat) : Nat := bits c.toNat lsb w
/-- A cell with a header field set. -/
def setHf (c : CellBits) (lsb w v : Nat) : CellBits := BitVec.ofNat 384 (putBits c.toNat lsb w v)
/-- An external cell without its link fields and CRC (R303). -/
def extCell (ty dst src job vc cls tag : Nat) (pay : Payload) : CellBits :=
  BitVec.ofNat 384 (ty % 256 + dst % 4096 * 2 ^ 8 + src % 4096 * 2 ^ 20 + job % 65536 * 2 ^ 32 + vc % 8 * 2 ^ 48 + cls % 4 * 2 ^ 52 + tag % 2 ^ 17 * 2 ^ 55 + pay.toNat * 2 ^ 96)
/-- The payload of a cell. -/
def cellPay (c : CellBits) : Payload := BitVec.ofNat 256 (c.toNat / 2 ^ 96)

/-- A cell as it leaves by a port (R310, R314): on each axis it starts on A with dateline 0, crosses the wrap link on B with dateline 1
and stays there. `inPort` is the port it came by, none where this device originates it. -/
def State.hop (s : State) (c : CellBits) (inPort : Option Nat) (out : Nat) : CellBits :=
  let vc := hf c 48 3
  if vc = 4 then setHf c 51 1 0
  else
    let kept := match inPort with | some i => decide (i / 2 = out / 2) && bitOf (hf c 51 1) 0 | none => false
    let dl := !s.g4 && (s.wrapLink out || kept)
    setHf (setHf c 48 3 (vc / 2 * 2 + b2n dl)) 51 1 (b2n dl)

/-- A port. -/
def State.port (s : State) (p : Nat) : Port := s.ports.toList.getD p {}
/-- Replace a port. -/
def State.setPort (s : State) (p : Nat) (x : Port) : State := { s with ports := s.ports.setIfInBounds p x }
/-- Update a port. -/
def State.modPort (s : State) (p : Nat) (f : Port → Port) : State := s.setPort p (f (s.port p))

/-- A dropped cell is counted and latched (R304, R305, R313, R325): cause 1 counts as a foreign tag, the others beside it. -/
def State.dropCell (s : State) (c : CellBits) (cause : Nat) : State :=
  ((s.bump (fabReg 0x054) (if cause = 1 then 0 else 16) 16 1).latchLog (fabReg 0x05C) (hf c 0 8 + hf c 8 12 * 2 ^ 8 + hf c 48 3 * 2 ^ 20 + cause * 2 ^ 23)).irq .fab 0 4

/-- Whether a cell may go to an output port: in SERVICE or ASLEEP (R313), or on the way between them or PAUSED, where cells wait (R294, R297). -/
def Port.open_ (x : Port) : Bool :=
  decide (x.tx = .service) || decide (x.tx = .asleep) || decide (x.tx = .waking) || decide (x.tx = .paused)

/-- Hand a cell that this device originates to the output port of its first hop, or deliver it where it is for this device itself
(R307, R311). -/
def State.sendCell (s : State) (c : CellBits) : State :=
  match s.nextPort (hf c 8 12) (hf c 52 2) with
  | none => s.emit (.delivered 0x17 c)
  | some p =>
    if !s.inDims (hf c 8 12) then s.dropCell c 4
    else if !(s.port p).open_ then s.dropCell c 3
    else
      let c1 := s.hop c none p
      s.modPort p (fun x => { x with inject := x.inject ++ [(hf c1 48 3, c1)] })

/-- Send messages in order. -/
def State.emits (s : State) : List Msg → State
  | [] => s
  | m :: t => State.emits (s.emit m) t

/-- The job tag in force (R325 JOB_TAG). -/
def State.jobTag (s : State) : Nat := s.fld (fabReg 0x050) 0 16

/-- Send the cells of a hall request or reply across the base (R346), and on to the port of their first hop. `vc` is 0 for requests and 2
for replies; the request tag holds the stack in its high bits. -/
def State.sendHall (s : State) (n tag dst cls vc : Nat) (ms : List Msg) : State :=
  ms.foldl (fun t m =>
    match m with
    | .baseCell c => (t.emit m).sendCell (extCell (bits c.toNat 0 8) dst t.coord t.jobTag vc cls (tag % 2048 + n * 2048) (BitVec.ofNat 256 (bits c.toNat 96 256)))
    | _ => t.emit m) s

end Sys2Proof.Machine
end

