-- ==== Sys2Proof/Machine/Flags.lean ====
section
/-!
DEFINITION. Sys2Proof/Machine/Flags.lean: number formats, arithmetic and the numeric flags of R87 (chapter Number Formats and
Arithmetic). Arithmetic is exact on `Num` and is rounded once, to nearest with ties to even, into a format (R93).
-/
namespace Sys2Proof.Machine

/-- A number: NaN, an infinity, or a finite value of the given sign, m × 2^e (R80). -/
inductive Num where
  | nan
  | inf (neg : Bool)
  | fin (neg : Bool) (m : Nat) (e : Int)
deriving DecidableEq, Repr

/-- Numeric flags (R87): bit 0 invalid, 1 overflow, 2 nan_out, 3 div_zero. -/
abbrev Flags := BitVec 4

namespace Flag
/-- R87 bit 0. -/
def invalid : Flags := 1
/-- R87 bit 1. -/
def overflow : Flags := 2
/-- R87 bit 2. -/
def nanOut : Flags := 4
/-- R87 bit 3. -/
def divZero : Flags := 8
end Flag

/-- A floating-point format of R79: exponent bits, mantissa bits, bias, largest finite code, and how it writes infinity
and NaN. `infCode` is none where the format has no infinity. -/
structure FloatFmt where
  eb : Nat
  mb : Nat
  bias : Nat
  maxFin : Nat
  infCode : Option Nat
  nanCode : Nat
deriving DecidableEq, Repr

/-- FP32 (R79, R85). -/
def fmtF32 : FloatFmt := ⟨8, 23, 127, 0x7F7FFFFF, some 0x7F800000, 0x7FC00000⟩
/-- BF16. -/
def fmtBF16 : FloatFmt := ⟨8, 7, 127, 0x7F7F, some 0x7F80, 0x7FC0⟩
/-- FP8 E4M3: no infinity, one NaN magnitude. -/
def fmtE4M3 : FloatFmt := ⟨4, 3, 7, 0x7E, none, 0x7F⟩
/-- FP8 E5M2. -/
def fmtE5M2 : FloatFmt := ⟨5, 2, 15, 0x7B, some 0x7C, 0x7E⟩
/-- FP4 E2M1: no infinity and no NaN; a NaN converts to +0 (R94). -/
def fmtE2M1 : FloatFmt := ⟨2, 1, 1, 7, none, 0⟩

/-- The value of an element (R79, R80). -/
def decodeFloat (f : FloatFmt) (w : Nat) : Num :=
  let mag := w % 2 ^ (f.eb + f.mb)
  let neg := bitOf w (f.eb + f.mb)
  if f.maxFin < mag then
    (match f.infCode with
     | some c => if mag = c then .inf neg else .nan
     | none => .nan)
  else
    let ex := mag / 2 ^ f.mb
    let m := mag % 2 ^ f.mb
    if ex = 0 then .fin neg m (1 - (f.bias : Int) - f.mb)
    else .fin neg (m + 2 ^ f.mb) ((ex : Int) - f.bias - f.mb)

/-- Divide by 2^s, to nearest with ties to even (R93). -/
def shiftRne (m s : Nat) : Nat :=
  let q := m / 2 ^ s
  let r := m % 2 ^ s
  if s = 0 then m
  else if r < 2 ^ (s - 1) then q
  else if 2 ^ (s - 1) < r then q + 1
  else q + q % 2

/-- The magnitude code of m × 2^e in a format, rounded with the exponent unbounded above (R93, R94): a code above
`maxFin` says the value is beyond range. -/
def roundCode (f : FloatFmt) (m : Nat) (e : Int) : Nat :=
  let qmin : Int := 1 - (f.bias : Int) - f.mb
  if m = 0 then 0
  else
    let top : Int := (Nat.log2 m : Int) + e
    let q : Int := max (top - f.mb) qmin
    let k := if q ≤ e then m * 2 ^ (e - q).toNat else shiftRne m (q - e).toNat
    (q - qmin).toNat * 2 ^ f.mb + k

/-- A sign bit over a magnitude code. -/
def withSign (f : FloatFmt) (neg : Bool) (mag : Nat) : Nat := mag + b2n neg * 2 ^ (f.eb + f.mb)

/-- Convert a number into a format with its infinities (R94): FP32 and BF16. -/
def encodeInf (f : FloatFmt) (x : Num) : Nat × Flags :=
  match x with
  | .nan => (f.nanCode, Flag.nanOut)
  | .inf s => (withSign f s (f.infCode.getD f.maxFin), 0)
  | .fin s m e =>
    let c := roundCode f m e
    if f.maxFin < c then (withSign f s (f.infCode.getD f.maxFin), Flag.overflow) else (withSign f s c, 0)

/-- Convert a number into a saturating format (R94): FP8 and FP4. -/
def encodeSat (f : FloatFmt) (x : Num) : Nat × Flags :=
  match x with
  | .nan => if f.nanCode = 0 then (0, Flag.invalid) else (f.nanCode, Flag.nanOut)
  | .inf s => (withSign f s f.maxFin, Flag.overflow)
  | .fin s m e =>
    let c := roundCode f m e
    if f.maxFin < c then (withSign f s f.maxFin, Flag.overflow) else (withSign f s c, 0)

/-- The integer nearest to a finite value, ties to even, as a magnitude. -/
def roundInt (m : Nat) (e : Int) : Nat :=
  if 0 ≤ e then m * 2 ^ e.toNat else shiftRne m (-e).toNat

/-- Convert a number to INT8 (R93, R94, R96). -/
def encodeInt8 (x : Num) : Nat × Flags :=
  match x with
  | .nan => (0, Flag.invalid)
  | .inf s => (if s then 128 else 127, Flag.overflow)
  | .fin s m e =>
    let k := roundInt m e
    if s then (if 128 < k then (128, Flag.overflow) else ((256 - k) % 256, 0))
    else (if 127 < k then (127, Flag.overflow) else (k, 0))

/-- A finite value as a signed integer at exponent `e0`, which is no larger than its own. -/
def toInt (neg : Bool) (m : Nat) (e e0 : Int) : Int :=
  let v : Int := ((m * 2 ^ (e - e0).toNat : Nat) : Int)
  if neg then -v else v

/-- The exact sum (R86, R99): NaN in gives NaN, ∞ − ∞ is invalid, an exact zero is +0 unless both addends are −0. -/
def addNum (a b : Num) : Num × Flags :=
  match a, b with
  | .nan, _ => (.nan, 0)
  | _, .nan => (.nan, 0)
  | .inf s, .inf t => if s = t then (.inf s, 0) else (.nan, Flag.invalid)
  | .inf s, .fin _ _ _ => (.inf s, 0)
  | .fin _ _ _, .inf t => (.inf t, 0)
  | .fin s m e, .fin t n f =>
    let e0 := min e f
    let v := toInt s m e e0 + toInt t n f e0
    if v = 0 then (.fin (s && t && decide (m = 0)) 0 e0, 0)
    else (.fin (decide (v < 0)) v.natAbs e0, 0)

/-- The exact product (R86, R99): 0 × ∞ is invalid. -/
def mulNum (a b : Num) : Num × Flags :=
  match a, b with
  | .nan, _ => (.nan, 0)
  | _, .nan => (.nan, 0)
  | .inf s, .inf t => (.inf (s != t), 0)
  | .inf s, .fin t n _ => if n = 0 then (.nan, Flag.invalid) else (.inf (s != t), 0)
  | .fin s m _, .inf t => if m = 0 then (.nan, Flag.invalid) else (.inf (s != t), 0)
  | .fin s m e, .fin t n f => (.fin (s != t) (m * n) (e + f), 0)

/-- The number with its sign inverted. -/
def negNum : Num → Num
  | .nan => .nan
  | .inf s => .inf !s
  | .fin s m e => .fin (!s) m e

/-- The value of an FP32 word. -/
def numF32 (w : Word) : Num := decodeFloat fmtF32 w.toNat

/-- Round to FP32 with R99's overflow and NaN rules. -/
def toF32 (x : Num × Flags) : Word × Flags :=
  let r := encodeInf fmtF32 x.1
  (BitVec.ofNat 32 r.1, x.2 ||| r.2)

/-- FP32 addition (R99). -/
def addF32 (a b : Word) : Word × Flags := toF32 (addNum (numF32 a) (numF32 b))
/-- FP32 subtraction (R99). -/
def subF32 (a b : Word) : Word × Flags := toF32 (addNum (numF32 a) (negNum (numF32 b)))
/-- FP32 multiplication (R99). -/
def mulF32 (a b : Word) : Word × Flags := toF32 (mulNum (numF32 a) (numF32 b))
/-- FP32 fused multiply-add with one rounding (R99). A product 0 × ∞ sets invalid beside a NaN addend too, as R99 says of VFMA without R87's
condition on the operands (DEDUCED, log entry 101). -/
def fmaF32 (a b d : Word) : Word × Flags :=
  let p := mulNum (numF32 a) (numF32 b)
  let r := addNum p.1 (numF32 d)
  toF32 (r.1, p.2 ||| r.2)

/-- Round m × 2^e ÷ n, for n ≠ 0, to FP32: enough quotient bits with the remainder folded in below them. -/
def divFin (neg : Bool) (m : Nat) (e : Int) (n : Nat) (f : Int) : Num :=
  let s := 80 + Nat.log2 (n + 1)
  let q := m * 2 ^ s / n
  let r := m * 2 ^ s % n
  .fin neg (2 * q + b2n (decide (r ≠ 0))) (e - f - s - 1)

/-- IEEE 754 division (R106): 0 / 0 and ∞ / ∞ are invalid. The divisor of VSAMP is never another zero. -/
def divNum (a b : Num) : Num × Flags :=
  match a, b with
  | .nan, _ => (.nan, 0)
  | _, .nan => (.nan, 0)
  | .inf _, .inf _ => (.nan, Flag.invalid)
  | .inf s, .fin t _ _ => (.inf (s != t), 0)
  | .fin s _ e, .inf t => (.fin (s != t) 0 e, 0)
  | .fin s m e, .fin t n f =>
    if n = 0 then (if m = 0 then (.nan, Flag.invalid) else (.inf (s != t), 0))
    else (divFin (s != t) m e n f, 0)

/-- FP32 division (R106). -/
def divF32 (a b : Word) : Word × Flags := toF32 (divNum (numF32 a) (numF32 b))

/-- Whether an FP32 word is a NaN. -/
def isNanF32 (w : Word) : Bool := decide (0x7F800000 < w.toNat % 2 ^ 31)

/-- The order of FP32 words with −0 below +0 (R101, R105). -/
def orderKey (w : Word) : Int :=
  let mag : Int := ((w.toNat % 2 ^ 31 : Nat) : Int)
  if bitOf w.toNat 31 then -mag - 1 else mag

/-- The value order of FP32 words with −0 and +0 equal (R68, R106). -/
def valueKey (w : Word) : Int :=
  let mag : Int := ((w.toNat % 2 ^ 31 : Nat) : Int)
  if bitOf w.toNat 31 then -mag else mag

/-- IEEE 754 greater-than, false when either side is NaN (R106). -/
def gtF32 (a b : Word) : Bool := !isNanF32 a && !isNanF32 b && decide (valueKey b < valueKey a)
/-- IEEE 754 greater-or-equal, false when either side is NaN (R106). -/
def geF32 (a b : Word) : Bool := !isNanF32 a && !isNanF32 b && decide (valueKey b ≤ valueKey a)

/-- The canonical FP32 NaN (R85). -/
def nanF32 : Word := 0x7FC00000#32

/-- VMAX and VMIN (R101). -/
def maxF32 (a b : Word) : Word × Flags :=
  if isNanF32 a || isNanF32 b then (nanF32, Flag.nanOut)
  else (if orderKey a < orderKey b then b else a, 0)
/-- VMIN (R101). -/
def minF32 (a b : Word) : Word × Flags :=
  if isNanF32 a || isNanF32 b then (nanF32, Flag.nanOut)
  else (if orderKey b < orderKey a then b else a, 0)

/-- Widen BF16 to FP32, exactly (R96). -/
def widen (b : BitVec 16) : Word := BitVec.ofNat 32 (b.toNat * 65536)

/-- Round FP32 to BF16 (R94, R100). -/
def narrow (w : Word) : BitVec 16 × Flags :=
  let r := encodeInf fmtBF16 (numF32 w)
  (BitVec.ofNat 16 r.1, r.2)

/-! ## Special functions (R102, R103) -/

/-- The integer square root of `n` found bit by bit from bit `i - 1` down, starting from `r`. -/
def isqrtBits (n r : Nat) : Nat → Nat
  | 0 => r
  | i + 1 => if (r + 2 ^ i) * (r + 2 ^ i) ≤ n then isqrtBits n (r + 2 ^ i) i else isqrtBits n r i

/-- The integer square root. -/
def isqrt (n : Nat) : Nat := isqrtBits n 0 (Nat.log2 n / 2 + 1)

/-- The fraction bits kept while a special function's exact value is bracketed. -/
def fracBits : Nat := 96

/-- 2^(f / 2^96) in units of 2^-96, by the square roots 2^(1/2), 2^(1/4), …: `root` is 2^(2^-i) and `i` bits remain. -/
def exp2Frac (f root acc : Nat) : Nat → Nat
  | 0 => acc
  | i + 1 =>
    let r := isqrt (root * 2 ^ fracBits)
    exp2Frac f r (if bitOf f i then acc * r / 2 ^ fracBits else acc) i

/-- log2 of x / 2^96, for 1 ≤ x / 2^96 < 2, in units of 2^-i, by repeated squaring. -/
def log2Frac (x acc : Nat) : Nat → Nat
  | 0 => acc
  | i + 1 =>
    let y := x * x / 2 ^ fracBits
    if 2 ^ (fracBits + 1) ≤ y then log2Frac (y / 2) (2 * acc + 1) i else log2Frac y (2 * acc) i

/-- 2^x for a finite x with −150 < x < 128 (R102), to about 80 bits. -/
def exp2Num (neg : Bool) (m : Nat) (e : Int) : Num :=
  let scaled := if 0 ≤ e + fracBits then m * 2 ^ (e + fracBits).toNat else m / 2 ^ (-(e + fracBits)).toNat
  let v : Int := if neg then -(scaled : Int) else scaled
  let fl := v / (2 ^ fracBits : Nat)
  let fr := (v % (2 ^ fracBits : Nat)).toNat
  let r := exp2Frac fr (2 ^ (fracBits + 1)) (2 ^ fracBits) fracBits
  .fin false r (fl - fracBits)

/-- log2 of a finite positive m × 2^e, to about 80 bits. -/
def log2Num (m : Nat) (e : Int) : Num :=
  let t := Nat.log2 m
  let x := m * 2 ^ fracBits / 2 ^ t
  let r := log2Frac x 0 80
  let v : Int := ((t : Int) + e) * (2 ^ 80 : Nat) + r
  .fin (decide (v < 0)) v.natAbs (-80)

/-- 1 / sqrt of a finite positive m × 2^e, to about 80 bits. -/
def rsqrtNum (m : Nat) (e : Int) : Num :=
  let (m2, e2) := if e % 2 = 0 then (m, e) else (m * 2, e - 1)
  let s := isqrt (2 ^ 400 / m2)
  .fin false s (-(e2 / 2) - 200)

/-- The value of a special function at a finite, non-exceptional operand. -/
def specialNum (op : Byte) (neg : Bool) (m : Nat) (e : Int) : Num :=
  if op = 0x88 then exp2Num neg m e
  else if op = 0x89 then log2Num m e
  else if op = 0x8A then divFin neg 1 0 m e
  else rsqrtNum m e

/-- Whether the FP32 word `c` lies within 2 ulp of the number `x` (R81, R102), or within 2 × 2^-149 of it when `x` is
subnormal: the same bound, since the ulp does not fall below 2^-149. -/
def within2Ulp (c : Word) (x : Num) : Bool :=
  match numF32 c, x with
  | .fin s m e, .fin t n f =>
    if n = 0 then decide (m = 0)
    else
      let top : Int := (Nat.log2 n : Int) + f
      let u : Int := max top (-126) - 23 + 1
      let e0 := min (min e f) u
      decide ((toInt s m e e0 - toInt t n f e0).natAbs ≤ 2 ^ (u - e0).toNat)
  | _, _ => false

/-- Whether a finite value is a power of two, and of which exponent. -/
def powerOfTwo (m : Nat) (e : Int) : Option Int :=
  if m ≠ 0 ∧ 2 ^ Nat.log2 m = m then some ((Nat.log2 m : Int) + e) else none

/-- Whether the result of a special function is taken exactly: an integer exponent, a power of two, a power of four (R102). VRCP of a power of
two outside R102's exact range, whose result is a subnormal power of two, is taken exactly as well (DESIGN CHOICE, log entry 102). -/
def exactCase (op : Byte) (m : Nat) (e : Int) : Bool :=
  if op = 0x88 then decide (m = 0) || decide (0 ≤ e) || decide (m % 2 ^ (-e).toNat = 0)
  else
    match powerOfTwo m e with
    | none => false
    | some k => if op = 0x8B then decide (k % 2 = 0) else true

/-- VEXP2, VLOG2, VRCP and VRSQRT in FP32 (R102). Where R102 leaves the result open within 2 ulp, it is the value of the function `f` when
that value meets the bound, and the rounded exact value otherwise. -/
def specialBy (f : Word → Word) (op : Byte) (a : Word) : Word × Flags :=
  match numF32 a with
  | .nan => (nanF32, Flag.nanOut)
  | .inf s =>
    if op = 0x88 then (if s then 0 else 0x7F800000#32, 0)
    else if op = 0x8A then (if s then 0x80000000#32 else 0, 0)
    else if s then (nanF32, Flag.invalid ||| Flag.nanOut)
    else (if op = 0x89 then 0x7F800000#32 else 0, 0)
  | .fin s m e =>
    if op = 0x88 ∧ !s ∧ 128 * 2 ^ 160 ≤ m * 2 ^ (e + 160).toNat then (0x7F800000#32, Flag.overflow)
    else if op = 0x88 ∧ s ∧ 150 * 2 ^ 160 ≤ m * 2 ^ (e + 160).toNat then (0, 0)
    else if op ≠ 0x88 ∧ m = 0 then
      (if op = 0x89 then 0xFF800000#32 else if s then 0xFF800000#32 else 0x7F800000#32, Flag.divZero)
    else if (op = 0x89 ∨ op = 0x8B) ∧ s then (nanF32, Flag.invalid ||| Flag.nanOut)
    else
      let x := specialNum op s m e
      let r := toF32 (x, 0)
      let c := f a
      if exactCase op m e then r
      else if r.2 = 0 ∧ within2Ulp c x then (c, 0)
      else r
/-- The rounded exact value: no NaN meets R102's bound. -/
def specialExact : Byte → Word → Word × Flags := specialBy (fun _ => nanF32)
/-- A word's place in the order of the FP32 values. -/
def orderF32 (a : Word) : Int := if a.toNat < 2 ^ 31 then a.toNat else 2 ^ 31 - (a.toNat : Int)
/-- Whether an operand is one of those over which R103 promises that an operation does not decrease: VEXP2 every number, VLOG2 [+0, +∞]. -/
def risesOn (op : Byte) (a : Word) : Bool :=
  match numF32 a with
  | .nan => false
  | _ => decide (op = 0x88) || (decide (op = 0x89) && decide (a.toNat < 2 ^ 31))
/-- Whether a choice of results keeps VEXP2 or VLOG2 monotonic non-decreasing (R103). -/
def keepsRising (f : Word → Word) (op : Byte) : Bool :=
  decide (∀ a b : Word, risesOn op a = true → risesOn op b = true → orderF32 a ≤ orderF32 b → orderF32 (specialBy f op a).1 ≤ orderF32 (specialBy f op b).1)
/-- VEXP2, VLOG2, VRCP and VRSQRT on compute dies of a layout revision (R102, R103): the free function `Config.specialFn` where it meets R102's
bound, as long as VEXP2 and VLOG2 are monotonic under it, and the rounded exact values otherwise. -/
def specialF32 (rev : Nat) (op : Byte) (a : Word) : Word × Flags :=
  let x := specialBy (Config.specialFn rev op) op a
  let y := specialExact op a
  if x = y ∨ keepsRising (Config.specialFn rev op) op = true then x else y

/-! ## Blocks of the Matrix Engine (R82 to R92) -/

/-- The value of an A or B element by format code (R57, R79, R84); `cb` gives the codebook entry of an index. -/
def elemNum (fmt : Nat) (cb : Nat → BitVec 16) (raw : Nat) : Num :=
  if fmt = 0 ∨ fmt = 1 then decodeFloat fmtE2M1 (raw % 16)
  else if fmt = 2 ∨ fmt = 4 then decodeFloat fmtE4M3 (raw % 256)
  else if fmt = 3 ∨ fmt = 5 then decodeFloat fmtE5M2 (raw % 256)
  else if fmt = 7 then decodeFloat fmtBF16 (raw % 65536)
  else if fmt = 8 then decodeFloat fmtBF16 (cb (raw % 16)).toNat
  else decodeFloat fmtBF16 (cb (raw % 8)).toNat

/-- The exponent E of the largest finite product, when one is not zero (R88 step 3). -/
def topExp : List Num → Option Int
  | [] => none
  | .fin _ m e :: t =>
    if m = 0 then topExp t
    else
      match topExp t with
      | none => some ((Nat.log2 m : Int) + e)
      | some k => some (max k ((Nat.log2 m : Int) + e))
  | _ :: t => topExp t

/-- A finite product truncated toward zero to a multiple of 2^q, in units of 2^q (R88 step 3). -/
def truncTo (q : Int) : Num → Int
  | .fin s m e =>
    let k : Nat := if q ≤ e then m * 2 ^ (e - q).toNat else m / 2 ^ (q - e).toNat
    if s then -(k : Int) else k
  | _ => 0

/-- The block sum of R88 from its 32 exact products with their flags and its two scales. -/
def blockSum (ps : List (Num × Flags)) (sa sb : Nat) : Word × Flags :=
  let ns := ps.map Prod.fst
  let anyNan := ns.any (fun n => n == .nan)
  let pos := ns.any (fun n => n == .inf false)
  let neg := ns.any (fun n => n == .inf true)
  let fl := ps.foldl (fun f p => f ||| p.2) (if pos && neg then Flag.invalid else 0)
  if sa = 255 ∨ sb = 255 ∨ anyNan ∨ (pos && neg) then (nanF32, fl)
  else if pos then (0x7F800000#32, fl)
  else if neg then (0xFF800000#32, fl)
  else
    match topExp ns with
    | none =>
      let allNeg := ns.all (fun n => match n with | .fin s _ _ => s | _ => false)
      (if allNeg then 0x80000000#32 else 0, fl)
    | some e =>
      let q := e - 28
      let v := ns.foldl (fun acc n => acc + truncTo q n) 0
      let r := toF32 (.fin (decide (v < 0)) v.natAbs (q + sa + sb - 254), 0)
      (r.1, fl ||| r.2)

/-- An INT8 element (R79). -/
def int8Val (raw : Nat) : Int := (BitVec.ofNat 8 raw).toInt

/-- Add to an INT32 accumulator element with saturation (R92). -/
def satInt32 (c : Word) (v : Int) : Word × Flags :=
  let r := c.toInt + v
  if r < -2147483648 then (0x80000000#32, Flag.overflow)
  else if 2147483647 < r then (0x7FFFFFFF#32, Flag.overflow)
  else (BitVec.ofInt 32 r, 0)

/-! ## Conversion (R93 to R98) -/

/-- Convert an FP32 word to an element of a non-MX format (R93, R94, R96): FP4, E4M3, E5M2, INT8, BF16, FP32. -/
def convertElem (fmt : Nat) (w : Word) : Nat × Flags :=
  if fmt = 0 then encodeSat fmtE2M1 (numF32 w)
  else if fmt = 2 then encodeSat fmtE4M3 (numF32 w)
  else if fmt = 3 then encodeSat fmtE5M2 (numF32 w)
  else if fmt = 6 then encodeInt8 (numF32 w)
  else if fmt = 7 then encodeInf fmtBF16 (numF32 w)
  else if isNanF32 w then (nanF32.toNat, Flag.nanOut)
  else (w.toNat, 0)

/-- The element format and emax of an MX target (R98). -/
def mxFmt (fmt : Nat) : FloatFmt × Int :=
  if fmt = 1 then (fmtE2M1, 2) else if fmt = 4 then (fmtE4M3, 8) else (fmtE5M2, 15)

/-- Convert one block of up to 32 elements to an MX format (R98): the scale byte, the element codes, the flags. -/
def convertMx (fmt : Nat) (ws : List Word) : Nat × List Nat × Flags :=
  let f := (mxFmt fmt).1
  let emax := (mxFmt fmt).2
  let ns := ws.map numF32
  let special := ns.any (fun n => match n with | .fin _ _ _ => false | _ => true)
  let anyInf := ns.any (fun n => match n with | .inf _ => true | _ => false)
  if special then
    (255, ws.map (fun _ => 0), if anyInf then Flag.nanOut ||| Flag.overflow else Flag.nanOut)
  else
    match topExp ns with
    | none => (0, ws.map (fun _ => 0), 0)
    | some t =>
      let x := max (t - emax) (-127)
      let codes := ns.map (fun n =>
        match n with
        | .fin s m e => (encodeSat f (.fin s m (e - x))).1
        | _ => 0)
      ((x + 127).toNat, codes, 0)

end Sys2Proof.Machine
end

