-- ==== Sys2Proof/Machine/Channel.lean ====
section
/-!
DEFINITION. Sys2Proof/Machine/Channel.lean: a channel's queue and the accesses it performs (R143 to R149), the hall operations
on one unit (R330 to R333), and the cells that answer them (R225, R346).
-/
namespace Sys2Proof.Machine

/-- Pack bytes given as (offset, length, value) into a payload (R4). -/
def payload (fs : List (Nat × Nat × Nat)) : Payload :=
  BitVec.ofNat 256 (fs.foldl (fun acc f => acc + (f.2.2 % 2 ^ (8 * f.2.1)) * 2 ^ (8 * f.1)) 0)
/-- A cell of the base (R223, R224): type, destination, source, order key, 32-byte chunk, request tag, bytes 8 to 11 and payload. Burst id, cell index and CRC
are put in as the writer launches it (`stampCell`). -/
def Msg.cell (type dst src key chunk : Byte) (tag : BitVec 16) (aux : Word) (pay : Payload) : Msg :=
  .baseCell (BitVec.ofNat 384 (type.toNat + dst.toNat * 2 ^ 8 + src.toNat * 2 ^ 16 + key.toNat * 2 ^ 32 + chunk.toNat % 32 * 2 ^ 40 + tag.toNat * 2 ^ 48 +
    aux.toNat * 2 ^ 64 + pay.toNat * 2 ^ 96))
/-- Bytes [off, off + n) of a payload as a number. -/
def payNat (p : Payload) (off n : Nat) : Nat := bits p.toNat (8 * off) (8 * n)

/-- The MCHAN registers of channel `c`. -/
def chanReg (c off : Nat) : Nat := regAddr .mchan c off

/-- The units of its block that a request touches (R148, R149). -/
def MemOp.units : MemOp → List Nat
  | .read first count => (List.range count).map (· + first)
  | .write chunk cells => (List.range ((chunk + cells.length + 1) / 2 - chunk / 2)).map (· + chunk / 2)
  | .part off _ _ => [off / 64]
  | .hall _ off _ _ _ _ _ _ _ => [off / 64]
  | .scrub => List.range 16
  | .writeBack u _ => [u]

/-- Whether a request counts as a write in R148: a hall store does, and an atomic, which writes its unit as a partial write does (DEDUCED, log entry 116). -/
def MemOp.isWrite : MemOp → Bool
  | .write _ _ => true
  | .part _ _ _ => true
  | .hall _ _ kind _ _ _ _ _ _ => decide (kind ≠ 0)
  | _ => false
/-- Whether a request counts as a read in R148. -/
def MemOp.isRead : MemOp → Bool
  | .read _ _ => true
  | .hall _ _ kind _ _ _ _ _ _ => decide (kind = 0)
  | _ => false
/-- Whether a request belongs to rule 7 of R148. -/
def MemOp.isBack : MemOp → Bool
  | .scrub => true
  | .writeBack _ _ => true
  | _ => false

/-- Whether two requests touch one unit. -/
def MemReq.clash (a b : MemReq) : Bool :=
  decide (a.blk = b.blk) && a.op.units.any (fun u => b.op.units.contains u)

/-- Queue a request in arrival order, those of one time ordered by their group (R148). -/
def queueReq (r : MemReq) : List MemReq → List MemReq
  | [] => [r]
  | q :: t => if q.born = r.born ∧ r.grp < q.grp then r :: q :: t else q :: queueReq r t

/-- Whether a write cell continues a queued write request (R148): the next chunk of its block, from the same source under the same tag. -/
def MemReq.joins (q r : MemReq) : Bool :=
  match q.op, r.op with
  | .write c ds, .write c' _ => decide (q.src = r.src) && decide (q.tag = r.tag) && decide (q.blk = r.blk) && decide (c' = c + ds.length)
  | _, _ => false
/-- A queued write request with the cells of another. -/
def MemReq.extend (q r : MemReq) : MemReq :=
  match q.op, r.op with
  | .write c ds, .write _ es => { q with op := .write c (ds ++ es) }
  | _, _ => q
/-- The queue with a write cell in the request it continues (R148), none where there is none, or a later request touches the cell's unit (R149). -/
def joinReq (r : MemReq) : List MemReq → Option (List MemReq)
  | [] => none
  | q :: t =>
    match joinReq r t with
    | some u => some (q :: u)
    | none => if q.joins r ∧ !t.any (fun x => x.clash r) then some (q.extend r :: t) else none

/-- The die position code of the cells of the base that answer `r`, and the answer's common fields. -/
def MemReq.answer (r : MemReq) (chan : Nat) (type : Byte) (chunk : Nat) (pay : Payload) : Msg :=
  .cell type r.src (BitVec.ofNat 8 (chanDie chan)) (BitVec.ofNat 8 (r.pa / 1024)) (BitVec.ofNat 8 chunk) r.tag
    (BitVec.ofNat 32 (r.pa / 1024)) pay

/-- Count corrected words and queue their unit for write-back, at most 16 of them (R145). -/
def State.noteCorrected (s : State) (c : Nat) (blk pa unit : Nat) (fixed : List (Nat × Nat)) : State :=
  if fixed = [] then s
  else
    let s1 := (s.bump (chanReg c 0x048) 0 16 fixed.length).irq .mchan c 0
    let ch := s1.chan c
    if (ch.queue.filter (fun r => match r.op with | .writeBack _ _ => true | _ => false)).length < 16 then
      s1.setChan c { ch with queue := ch.queue ++ [{ op := .writeBack unit (fixed.map (fun f => (f.1, BitVec.ofNat 64 f.2))), src := 0, tag := 0, blk := blk, pa := pa, born := s1.now, grp := 0 }] }
    else s1

/-- Latch and count an uncorrectable unit (R145, R147); more than 4 distinct units take the channel out of service (R141). -/
def State.noteUncorrectable (s : State) (c blk pa unit words : Nat) (scrub : Bool) : State :=
  let s1 := (s.bump (chanReg c 0x048) 16 16 words).irq .mchan c (if scrub then 2 else 1)
  let a := chanReg c 0x04C
  let s2 := if bitOf (s1.rd64 a).toNat 63 then s1
    else s1.wr64 a (BitVec.ofNat 64 (pa + 64 * unit + b2n scrub * 2 ^ 62 + 2 ^ 63))
  let ch := s2.chan c
  let us := if ch.ueUnits.contains (16 * blk + unit) then ch.ueUnits else ch.ueUnits ++ [16 * blk + unit]
  s2.setChan c { ch with ueUnits := us, outDue := ch.outDue || decide (4 < us.length) }

/-- The uncorrectable words of a unit read. -/
def badWords (m : Mem) (w n : Nat) : Nat :=
  ((List.range n).filter (fun i => match eccDecode (m.raw (8 * (w + i)) 8) (m.chk (w + i)) with | .bad => true | _ => false)).length

/-- Read unit `u` of a block through the code: its value, none where it is uncorrectable, and the state with what the
read counted, latched and queued (R145, R147). -/
def State.readUnit (s : State) (c blk pa u : Nat) (scrub : Bool) : Option Nat × State :=
  let w := memKey c blk (64 * u) / 8
  let r := s.mainMem.get w 8
  let s1 := s.noteCorrected c blk pa u r.fixed
  match r.bad with
  | none => (some r.val, s1)
  | some _ => (none, s1.noteUncorrectable c blk pa u (badWords s.mainMem w 8) scrub)

/-- Answer a read request unit by unit: two data cells for a good unit, two poison marks for an uncorrectable one. -/
def State.readUnits (s : State) (c : Nat) (r : MemReq) : List Nat → State
  | [] => s
  | u :: t =>
    let x := s.readUnit c r.blk r.pa u false
    let s1 := match x.1 with
      | some v =>
        (x.2.emit (r.answer c 0x04 (2 * u) (BitVec.ofNat 256 v))).emit (r.answer c 0x04 (2 * u + 1) (BitVec.ofNat 256 (v / 2 ^ 256)))
      | none => (x.2.emit (r.answer c 0x06 (2 * u) 0)).emit (r.answer c 0x06 (2 * u + 1) 0)
    s1.readUnits c r t

/-- Scrub the units of a block (R147). -/
def State.scrubUnits (s : State) (c blk pa : Nat) : List Nat → State
  | [] => s
  | u :: t => ((s.readUnit c blk pa u true).2).scrubUnits c blk pa t

/-- Signed 64-bit minimum or maximum (R330). -/
def sminmax (max : Bool) (a b : Nat) : Nat :=
  let x := (BitVec.ofNat 64 a).toInt
  let y := (BitVec.ofNat 64 b).toInt
  if max then (if x < y then b else a) else (if y < x then b else a)

/-- Two FP32 lanes of an 8-byte half added (R332). -/
def faddHalf (a b : Nat) : Nat × Flags :=
  let lo := addF32 (BitVec.ofNat 32 a) (BitVec.ofNat 32 b)
  let hi := addF32 (BitVec.ofNat 32 (a / 2 ^ 32)) (BitVec.ofNat 32 (b / 2 ^ 32))
  (lo.1.toNat + 2 ^ 32 * hi.1.toNat, lo.2 ||| hi.2)

/-- A hall atomic on an 8-byte half (R330): the new value and numeric flags; `cas` is decided on the whole target. -/
def halfOp (op : Nat) (old operand : Nat) : Nat × Flags :=
  if op = 0 then ((old + operand) % 2 ^ 64, 0)
  else if op = 1 then (sminmax false old operand, 0)
  else if op = 2 then (sminmax true old operand, 0)
  else if op = 5 then faddHalf old operand
  else (operand, 0)

/-- The new target of a hall atomic (R330): `old`, operand and compare value are of the operation's whole width. -/
def atomicNew (op : Nat) (size : Bool) (old operand cmp : Nat) : Nat × Flags :=
  if op = 4 then (if old = cmp then operand else old, 0)
  else if size then
    let l := halfOp op (old % 2 ^ 64) (operand % 2 ^ 64)
    let h := halfOp op (old / 2 ^ 64) (operand / 2 ^ 64)
    (l.1 + 2 ^ 64 * h.1, l.2 ||| h.2)
  else halfOp op old operand

/-- Write `n` bytes at offset `off` of a block: the queued write-backs of the units are dropped, as the memory no longer holds what their reads found (R145, R149). -/
def State.storeAt (s : State) (c blk off v n : Nat) : State :=
  let ch := s.chan c
  let hit := fun (x : MemReq) => match x.op with | .writeBack u _ => decide (x.blk = blk) && decide (off / 64 ≤ u ∧ u ≤ (off + n - 1) / 64) | _ => false
  { (if ch.queue.any hit then s.setChan c { ch with queue := ch.queue.filter (fun x => !hit x) } else s) with mainMem := s.mainMem.put (memKey c blk off) v n }

/-- Perform a hall operation on one unit indivisibly (R333): `kind` 0 load, 1 store, 2 atomic. The answer is the old value
with the numeric flags, none where the unit holds an uncorrectable word and nothing is performed. -/
def State.hallUnit (s : State) (c blk pa off kind op : Nat) (size : Bool) (operand cmp : Nat) : Option (Nat × Flags) × State :=
  let n := if size then 16 else 8
  let x := s.readUnit c blk pa (off / 64) false
  match x.1 with
  | none => (none, x.2)
  | some v =>
    let old := bits v (8 * (off % 64)) (8 * n)
    if kind = 0 then (some (old, 0), x.2)
    else
      let new := if kind = 1 then (operand, 0) else atomicNew op size old operand cmp
      (some (old, new.2), x.2.storeAt c blk off new.1 n)

/-- The reply cell of a hall operation (R346): HWACK for a store, HRSP otherwise. -/
def hallReply (dst src : Byte) (tag : BitVec 16) (kind status : Nat) (flags : Flags) (old : Nat) : Msg :=
  if kind = 1 then .cell 0x29 dst src 0 0 tag 0 (payload [(0, 1, status)])
  else .cell 0x28 dst src 0 0 tag 0 (payload [(0, 1, status), (1, 1, flags.toNat), (16, 16, old)])

/-- Write corrected words back where the unit still holds what was read (R145). -/
def State.backWrite (s : State) (ws : List (Nat × Dword)) : State :=
  { s with mainMem := s.mainMem.fix (ws.map (fun w => (w.1, w.2.toNat))) }

/-- Perform one request of a channel (R144 to R147, R333). -/
def State.performReq (s : State) (c : Nat) (r : MemReq) : State :=
  match r.op with
  | .read first count => s.readUnits c r ((List.range count).map (· + first))
  | .write chunk cells => s.storeAt c r.blk (32 * chunk) (cells.foldr (fun p acc => p.toNat + 2 ^ 256 * acc) 0) (32 * cells.length)
  | .part off len data =>
    let x := s.readUnit c r.blk r.pa (off / 64) false
    match x.1 with
    | none => x.2.emit (r.answer c 0x06 (off / 32) 0)
    | some v =>
      let v' := putBits v (8 * (off % 64)) (8 * len) data.toNat
      (x.2.storeAt c r.blk (off / 64 * 64) v' 64).emit (r.answer c 0x05 (off / 32) 0)
  | .hall _ off kind op size lo hi cmpLo cmpHi =>
    let x := s.hallUnit c r.blk r.pa off kind op size (lo.toNat + 2 ^ 64 * hi.toNat) (cmpLo.toNat + 2 ^ 64 * cmpHi.toNat)
    match x.1 with
    | none => x.2.emit (hallReply r.src (BitVec.ofNat 8 (chanDie c)) r.tag kind 4 0 0)
    | some (old, f) => x.2.emit (hallReply r.src (BitVec.ofNat 8 (chanDie c)) r.tag kind 0 f old)
  | .scrub => s.scrubUnits c r.blk r.pa (List.range 16)
  | .writeBack _ ws => s.backWrite ws

/-- Take the first request equal to `r` from a queue. -/
def takeReq (r : MemReq) (q : List MemReq) : List MemReq := dropFirst (fun x => decide (x = r)) q

/-- Perform a queued request: it leaves the queue, opens its row (R148 rule 3) and notes its wait in LAT_MAX (R165). -/
def State.runReq (s : State) (c : Nat) (r : MemReq) : State :=
  let ch := s.chan c
  let b := bankOf r.blk
  let s1 := s.setChan c { ch with queue := takeReq r ch.queue, openRow := ch.openRow.setIfInBounds b (some (rowOf r.blk)) }
  let s2 := if r.op.isRead then s1.raiseTo (chanReg c 0x064) 0 16 (s1.now - r.born) else s1
  s2.performReq c r

/-- Accept a request at a channel (R574): it joins the queue, or the write request that it continues; a write drops the write-backs of its units (R145). -/
def State.acceptReq (s : State) (c : Nat) (r : MemReq) : State :=
  let ch := s.chan c
  let q := if r.op.isWrite then
      ch.queue.filter (fun x => !(match x.op with | .writeBack _ _ => x.clash r | _ => false))
    else ch.queue
  s.setChan c { ch with queue := (joinReq r q).getD (queueReq r q) }

/-- Perform, in arrival order, every request of `rs` that touches a unit which `r` touches. -/
def State.runClashes (s : State) (c : Nat) (r : MemReq) : List MemReq → State
  | [] => s
  | x :: t => (if x.clash r then s.runReq c x else s).runClashes c r t

/-- Bring a channel up to date for an access made in the present step: requests that arrived before it and touch its unit
are performed first (R149). -/
def State.settle (s : State) (c : Nat) (r : MemReq) : State := s.runClashes c r (s.chan c).queue

/-- Perform everything that a channel has queued, in order, and the write-backs that this queues (R153). -/
def State.flushChan (s : State) (c : Nat) : State :=
  let s1 := (s.chan c).queue.foldl (fun t r => t.runReq c r) s
  (s1.chan c).queue.foldl (fun t r => t.runReq c r) s1
/-- Every channel completes its queued requests. -/
def State.flushChans (s : State) : State :=
  let x := (s.chans.map Prod.fst).foldl (fun t c => t.flushChan c) s
  { s with chans := x.chans, regs := x.regs, mainMem := x.mainMem, out := x.out }

/-- A probe request on the units of a block, for settling. -/
def probe (blk first count : Nat) : MemReq :=
  { op := .read first count, src := 0, tag := 0, blk := blk, pa := 0, born := 0, grp := 0 }

/-- Read an 8-byte entry of main memory in the present step (R172): its value, none where its unit is uncorrectable. -/
def State.readEntry (s : State) (pa : Nat) : Option Dword × State :=
  let c := s.chanOf pa
  let blk := s.blkOf pa
  let s1 := s.settle c (probe blk (pa % 1024 / 64) 1)
  let x := s1.readUnit c blk (pa / 1024 * 1024) (pa % 1024 / 64) false
  (x.1.map (fun v => BitVec.ofNat 64 (bits v (8 * (pa % 64)) 64)), x.2)

/-- Read `n` units from physical address `pa` on (64-byte aligned), in the present step: their value as one number, none
where any of them is uncorrectable. -/
def State.readBulk (s : State) (pa : Nat) : Nat → Option Nat × State
  | 0 => (some 0, s)
  | n + 1 =>
    let c := s.chanOf pa
    let blk := s.blkOf pa
    let s1 := s.settle c (probe blk (pa % 1024 / 64) 1)
    let x := s1.readUnit c blk (pa / 1024 * 1024) (pa % 1024 / 64) false
    let y := State.readBulk x.2 (pa + 64) n
    match x.1, y.1 with
    | some v, some v' => (some (v + 2 ^ 512 * v'), y.2)
    | _, _ => (none, y.2)

/-- Write `n` units from physical address `pa` on, in the present step. -/
def State.writeBulk (s : State) (pa v : Nat) : Nat → State
  | 0 => s
  | n + 1 =>
    let c := s.chanOf pa
    let blk := s.blkOf pa
    let s1 := s.settle c (probe blk (pa % 1024 / 64) 1)
    State.writeBulk (s1.storeAt c blk (pa % 1024) v 64) (pa + 64) (v / 2 ^ 512) n

end Sys2Proof.Machine
end

