-- ==== Sys2Proof/Machine/Operands.lean ====
section
/-!
DEFINITION. Sys2Proof/Machine/Operands.lean: the operand forms: SQ commands and their encoding (R54), the synchronisation
field (R43), engine commands and their checks at issue (R42, R58, R63, R67, R71), hall addresses (R328 to R331).
-/
namespace Sys2Proof.Machine

/-- The three-register operations of opcodes 0x12 to 0x19 (R54). -/
inductive Alu where
  | add | sub | and | or | xor | shl | shr | mul
deriving DecidableEq, Repr

/-- An SQ command with its fields (R54). -/
inductive SqOp where
  | nop
  | fin
  | fence
  | wait (ra : Fin 16) (ctr : Fin 32)
  | sig (ctr : Fin 32)
  | rdctr (rd : Fin 16) (ctr : Fin 32)
  | cwait (n : Nat)
  | twait (ra : Fin 16)
  | rdtb (rd : Fin 16)
  | ldi (rd : Fin 16) (imm : BitVec 48)
  | addi (rd ra : Fin 16) (imm : BitVec 48)
  | alu (f : Alu) (rd ra rb : Fin 16)
  | jmp (target : BitVec 12)
  | br (ra rb : Fin 16) (cond : BitVec 4) (target : BitVec 12)
  | dbnz (ra : Fin 16) (target : BitVec 12)
  | hld (rd ra : Fin 16) (size : Bool)
  | hst (rs ra : Fin 16) (size : Bool)
  | hat (rd ra rb : Fin 16) (op : Nat) (size : Bool)
  | xpost (ra : Fin 16)
  | kinc (k : Byte)
deriving DecidableEq, Repr

/-- A general register number from a field. -/
def reg4 (v lsb : Nat) : Fin 16 := Fin.ofNat 16 (v / 2 ^ lsb)
/-- A stitch counter number from a field. -/
def ctr5 (v lsb : Nat) : Fin 32 := Fin.ofNat 32 (v / 2 ^ lsb)

/-- The three-register operation of an opcode. -/
def aluOf (op : Nat) : Alu :=
  match op with
  | 0x12 => .add
  | 0x13 => .sub
  | 0x14 => .and
  | 0x15 => .or
  | 0x16 => .xor
  | 0x17 => .shl
  | 0x18 => .shr
  | _ => .mul

/-- The bits [55:0] that an SQ opcode uses (R54), none where no table defines the opcode. -/
def sqUsed (op : Nat) : Option Nat :=
  match op with
  | 0x00 => some 0
  | 0x01 => some 0
  | 0x02 => some 0
  | 0x03 => some 0xFF800000000000
  | 0x04 => some 0x0F800000000000
  | 0x05 => some 0xFF800000000000
  | 0x06 => some 0xFFFFFFFF
  | 0x07 => some 0x0F000000000000
  | 0x08 => some 0xF0000000000000
  | 0x10 => some 0xF0FFFFFFFFFFFF
  | 0x11 => some 0xFFFFFFFFFFFFFF
  | 0x12 | 0x13 | 0x14 | 0x15 | 0x16 | 0x17 | 0x18 | 0x19 => some 0xFFF00000000000
  | 0x20 => some 0xFFF
  | 0x21 => some 0x0FFF0000000FFF
  | 0x22 => some 0x0F000000000FFF
  | 0x28 => some 0xFF010000000000
  | 0x29 => some 0xFF010000000000
  | 0x2A => some 0xFFFF0000000000
  | 0x30 => some 0x0F000000000000
  | 0x31 => some 0xFF
  | _ => none

/-- The SQ command that a 64-bit word spells (R54), once its opcode and reserved bits are checked. -/
def sqOf (v : Nat) : SqOp :=
  let op := v / 2 ^ 56
  match op with
  | 0x00 => .nop
  | 0x01 => .fin
  | 0x02 => .fence
  | 0x03 => .wait (reg4 v 52) (ctr5 v 47)
  | 0x04 => .sig (ctr5 v 47)
  | 0x05 => .rdctr (reg4 v 52) (ctr5 v 47)
  | 0x06 => .cwait (bits v 0 32)
  | 0x07 => .twait (reg4 v 48)
  | 0x08 => .rdtb (reg4 v 52)
  | 0x10 => .ldi (reg4 v 52) (BitVec.ofNat 48 v)
  | 0x11 => .addi (reg4 v 52) (reg4 v 48) (BitVec.ofNat 48 v)
  | 0x20 => .jmp (BitVec.ofNat 12 v)
  | 0x21 => .br (reg4 v 48) (reg4 v 44) (BitVec.ofNat 4 (v / 2 ^ 40)) (BitVec.ofNat 12 v)
  | 0x22 => .dbnz (reg4 v 48) (BitVec.ofNat 12 v)
  | 0x28 => .hld (reg4 v 52) (reg4 v 48) (bitOf v 40)
  | 0x29 => .hst (reg4 v 52) (reg4 v 48) (bitOf v 40)
  | 0x2A => .hat (reg4 v 52) (reg4 v 48) (reg4 v 44) (bits v 41 3) (bitOf v 40)
  | 0x30 => .xpost (reg4 v 48)
  | 0x31 => .kinc (BitVec.ofNat 8 v)
  | _ => .alu (aluOf op) (reg4 v 52) (reg4 v 48) (reg4 v 44)

/-- Whether the fields of an SQ command are reserved encodings: a branch condition above 5, a HAT operation above 5, or a
register number that R54 or R331 forbids. -/
def sqReserved : SqOp → Bool
  | .br _ _ cond _ => decide (5 < cond.toNat)
  | .hld rd _ size => size && decide (rd.val % 2 = 1)
  | .hst rs _ size => size && decide (rs.val % 2 = 1)
  | .hat rd _ rb op size =>
    decide (5 < op) || (size && decide (rd.val % 2 = 1)) ||
    (if op = 4 then (if size then decide (rb.val % 4 ≠ 0) else decide (rb.val % 2 = 1))
     else size && decide (rb.val % 2 = 1))
  | _ => false

/-- Decode the SQ bundle slot: the command, or the exception code that its encoding raises (R42, R54). -/
def decodeSq (v : Nat) : Except Nat SqOp :=
  match sqUsed (v / 2 ^ 56) with
  | none => .error 0x01
  | some used =>
    if v % 2 ^ 56 &&& used ≠ v % 2 ^ 56 then .error 0x02
    else if sqReserved (sqOf v) then .error 0x02
    else .ok (sqOf v)

/-- The registers that a HAT's operand and compare value use (R331). -/
def hatRegs (rb : Fin 16) (op : Nat) (size : Bool) : List (Fin 16) :=
  if op = 4 then (if size then [rb, rb + 1, rb + 2, rb + 3] else [rb, rb + 1])
  else (if size then [rb, rb + 1] else [rb])

/-- The general registers an SQ command reads (R45, R55). -/
def sqReads : SqOp → List (Fin 16)
  | .wait ra _ => [ra]
  | .twait ra => [ra]
  | .addi _ ra _ => [ra]
  | .alu _ _ ra rb => [ra, rb]
  | .br ra rb _ _ => [ra, rb]
  | .dbnz ra _ => [ra]
  | .hld _ ra _ => [ra]
  | .hst rs ra size => if size then [rs, rs + 1, ra] else [rs, ra]
  | .hat _ ra rb op size => ra :: hatRegs rb op size
  | .xpost ra => [ra]
  | _ => []

/-- The general registers an SQ command writes (R55). -/
def sqWrites : SqOp → List (Fin 16)
  | .rdctr rd _ => [rd]
  | .rdtb rd => [rd]
  | .ldi rd _ => [rd]
  | .addi rd _ _ => [rd]
  | .alu _ rd _ _ => [rd]
  | .dbnz ra _ => [ra]
  | .hld rd _ size => if size then [rd, rd + 1] else [rd]
  | .hat rd _ _ _ size => if size then [rd, rd + 1] else [rd]
  | _ => []

/-! ## Engine commands (R42, R43) -/

/-- The opcode of a command. -/
def opOf (cmd : Nat) : Nat := cmd / 2 ^ 56
/-- R43 wait_en. -/
def waitEn (cmd : Nat) : Bool := bitOf cmd 55
/-- R43 wait_ctr. -/
def waitCtr (cmd : Nat) : Fin 32 := ctr5 cmd 50
/-- R43 wait_reg. -/
def waitReg (cmd : Nat) : Fin 16 := reg4 cmd 46
/-- R43 sig_en. -/
def sigEn (cmd : Nat) : Bool := bitOf cmd 45
/-- R43 sig_ctr. -/
def sigCtr (cmd : Nat) : Fin 32 := ctr5 cmd 40

/-- The last rule of R43: the counter and register fields of a synchronisation that is off are zero. -/
def syncReserved (cmd : Nat) : Bool :=
  (!waitEn cmd && decide (bits cmd 46 9 ≠ 0)) || (!sigEn cmd && decide (bits cmd 40 5 ≠ 0))

/-- The operand bits [39:0] that an engine opcode uses (R58, R63, R67), none where it is outside its bundle slot's range
or no table defines it (R42). -/
def engUsed : Engine → Nat → Option Nat
  | .me, 0xC0 => some 0xFFC0000000
  | .me, 0xC1 => some 0xFFFF000000
  | .me, 0xC2 => some 0xFFFFFFFFFE
  | .me, 0xC3 => some 0xFFFFF80000
  | .me, 0xC4 => some 0xFFFF000000
  | .rm, 0x40 => some 0xFFFFFFFFFF
  | .rm, 0x41 => some 0xFFFFFFFFFF
  | .rm, 0x42 => some 0xFFFFFFFFFF
  | .ve, op =>
    if 0x80 ≤ op ∧ op ≤ 0x87 then some 0xFFFFFFF000
    else if 0x88 ≤ op ∧ op ≤ 0x8E then some 0xFF0FFFF000
    else if op = 0x90 then some 0xFFFFFFF00F
    else if op = 0x98 ∨ op = 0x99 then some 0xFF0FFFFFFF
    else if op = 0xA0 then some 0xFF0FFFF0FF
    else if op = 0xA1 then some 0xFFFFFFF0FF
    else if op = 0xA2 then some 0xFFFFFFF000
    else none
  | _, _ => none

/-- Whether a format code is an MX format (R57). -/
def isMx (f : Nat) : Bool := decide (f = 1) || decide (f = 4) || decide (f = 5)

/-- The reserved encodings of R63, R67 and R95 beyond unused bits. -/
def engReserved (eng : Engine) (cmd : Nat) : Bool :=
  let op := opOf cmd
  match eng with
  | .me => false
  | .rm => decide (op = 0x42) && decide (2 ≤ bits cmd 4 2)
  | .ve =>
    (decide (op = 0x90) && ((decide (10 ≤ bits cmd 0 4) && decide (bits cmd 0 4 ≤ 14)) ||
      (!isMx (bits cmd 0 4) && decide (bits cmd 28 4 ≠ 0)))) ||
    ((decide (op = 0x98) || decide (op = 0x99)) && decide ((bits cmd 16 12 + 1) % (bits cmd 0 12 + 1) ≠ 0)) ||
    (decide (op = 0xA1) && decide (bits cmd 16 12 ≠ 0))

/-- The cycles per k step of an ME format pair (R56), none for an illegal pair. -/
def pairCycles (a b : Nat) : Option Nat :=
  if a = 0 ∨ a = 1 then (if b = 0 ∨ b = 1 ∨ b = 8 ∨ b = 9 then some 1 else none)
  else if 2 ≤ a ∧ a ≤ 5 then (if b ≤ 5 ∨ b = 8 ∨ b = 9 then some 2 else none)
  else if a = 6 ∧ b = 6 then some 2
  else if a = 7 ∧ b = 7 then some 8
  else none

/-- The counted length of an ME or VE command (R71), none where it has none; `cfg` is the issue configuration. -/
def countedLength (eng : Engine) (cfg : Option (BitVec 4 × BitVec 4)) (cmd : Nat) : Option Nat :=
  let op := opOf cmd
  let n := bits cmd 16 12
  match eng with
  | .rm => none
  | .me =>
    if op = 0xC2 then
      (match cfg with
       | none => none
       | some (a, b) => (pairCycles a.toNat b.toNat).map (fun c => 32 * (bits cmd 4 8 + 1) * c))
    else if op = 0xC3 then
      some (if bits cmd 20 4 = 7 then 16 else if bits cmd 20 4 = 2 ∨ bits cmd 20 4 = 3 then 8 else 32)
    else if op = 0xC4 then some 32
    else some 1
  | .ve =>
    if op = 0xA0 then some (n + 1 + 2 * (bits cmd 0 8 + 1))
    else if op = 0xA1 then some (4 * (bits cmd 0 8 + 1) + 32)
    else some (n + 1)

/-- The exception that a bundle slot's command raises at issue (R42, R43, R67, R71, R72), the lowest where several apply. -/
def engCheck (eng : Engine) (x : Ctx) (cfg : Option (BitVec 4 × BitVec 4)) (cmd : Nat) : Option Nat :=
  if opOf cmd = 0 then (if cmd % 2 ^ 56 = 0 then none else some 0x02)
  else
    match engUsed eng (opOf cmd) with
    | none => some 0x01
    | some used =>
      if syncReserved cmd || decide (cmd % 2 ^ 40 &&& used ≠ cmd % 2 ^ 40) || engReserved eng cmd then some 0x02
      else
        match countedLength eng cfg cmd with
        | none => none
        | some len => if 8192 < len ∨ (x = .p ∧ 2048 < len) then some 0x06 else none

/-- The bundle slot code of an engine (R78 EXC_D). -/
def engSlot : Engine → Nat
  | .rm => 1
  | .ve => 2
  | .me => 3

/-- The general registers an engine command reads at issue (R45): its wait target and its operands. -/
def engReads (eng : Engine) (cmd : Nat) : List (Fin 16) :=
  (if waitEn cmd then [waitReg cmd] else []) ++
  (match eng with
   | .me => []
   | .rm => [reg4 cmd 36]
   | .ve => [reg4 cmd 36, reg4 cmd 32] ++ (match engUsed .ve (opOf cmd) with
      | some u => if bits u 28 4 = 15 ∧ (opOf cmd ≠ 0x90 ∨ isMx (bits cmd 0 4)) then [reg4 cmd 28] else []
      | none => []))

/-! ## Hall addresses (R328, R329) -/

/-- Bit [63] of a hall address. -/
def haGlobal (a : Nat) : Bool := bitOf a 63
/-- The rank field. -/
def haRank (a : Nat) : Nat := bits a 51 12
/-- The space field. -/
def haSpace (a : Nat) : Nat := bits a 48 3
/-- The local field. -/
def haLocal (a : Nat) : Nat := bits a 0 48

/-- Whether an operation breaks R329 but for the rank map: `kind` 0 load, 1 store, 2 atomic with `op`. -/
def haBad (a kind op : Nat) (size : Bool) : Bool :=
  let sp := haSpace a
  let loc := haLocal a
  decide (3 ≤ sp) || (!haGlobal a && decide (sp ≠ 0)) ||
  (if sp = 0 then decide (loc % (if size then 16 else 8) ≠ 0)
   else
     size || decide (kind = 1) || decide ((if sp = 1 then 256 else 1024) ≤ loc) ||
     (decide (kind = 2) && decide (op ≠ (if sp = 1 then 0 else 4))))

end Sys2Proof.Machine
end

