-- ==== Sys2Proof/Machine/Translate.lean ====
section
/-!
DEFINITION. Sys2Proof/Machine/Translate.lean: translation tables, TLBs and walks (R167 to R175), what a fault does to whoever
waits (R168, R187, R190, R334), and the messages to the Pager (R176). Units 0 to 39 are the XEs of the stacks; 40 and 41 are
the hall translators at M7 and M15 (R334), which keep a TLB and walks of their own in the same table.
-/
namespace Sys2Proof.Machine

/-- The XE registers of stack `n`. -/
def xeReg (n off : Nat) : Nat := regAddr .xe n off
/-- The lowest-numbered stack in service: its Pager serves the hall translators (R334). -/
def State.firstStack (s : State) : Nat := ((List.range 40).find? (fun n => s.stackActive n)).getD 0
/-- The stack whose Pager a unit's DEFER faults go to (R176, R334). -/
def State.pagerOf (s : State) (n : Nat) : Nat := if n < 40 then n else s.firstStack
/-- The XE page a unit's tables are named by: its own, or that of the first stack in service for a hall translator. -/
def State.tableReg (s : State) (n : Nat) : Dword := s.rd64 (xeReg (s.pagerOf n) 0x044)

/-- The exponent of the page that a leaf of a level maps (R169). -/
def pageBits (level : Nat) : Nat := if level = 1 then 30 else if level = 2 then 21 else 16
/-- The table index of a JVA at a level (R169). -/
def tableIndex (level jva : Nat) : Nat :=
  if level = 1 then bits jva 30 18 else if level = 2 then bits jva 21 9 else bits jva 16 5
/-- The physical address bits of an entry (R170). -/
def entryAddr (e : Nat) : Nat := bits e 8 34 * 256
/-- R170 defer. -/
def entryDefer (e : Nat) : Nat := bits e 4 2

/-- What an entry is (R170, R172). -/
inductive EntryKind where
  | leaf | pointer | unmapped | malformed | deferZero | deferLoad | range
deriving DecidableEq, Repr

/-- Classify the entry `e` read at `level` (R170); `cap` is the capacity in service (R140). -/
def entryKind (cap level e : Nat) : EntryKind :=
  let present := bitOf e 0
  let leaf := bitOf e 1
  let d := entryDefer e
  let live := present || decide (d ≠ 0)
  let align := if leaf then pageBits level else if level = 1 then 12 else 8
  if bits e 6 2 ≠ 0 ∨ bits e 42 6 ≠ 0 then .malformed
  else if d = 3 ∨ (present ∧ d ≠ 0) then .malformed
  else if !live then .unmapped
  else if !leaf ∧ level = 3 then .malformed
  else if d = 1 ∧ (!leaf ∨ level = 1) then .malformed
  else if entryAddr e % 2 ^ align ≠ 0 then .malformed
  else if d = 1 then .deferZero
  else if d = 2 then .deferLoad
  else if !leaf then .pointer
  else if cap ≤ entryAddr e then .range
  else .leaf

/-- The physical address that a leaf gives a JVA (R169). -/
def leafPhys (level e jva : Nat) : Nat := entryAddr e + jva % 2 ^ pageBits level

/-- Turn the tree bits of a TLB away from slot `i` (R173): from node `n`, `d` levels to go. -/
def plruTouch (t : BitVec 1024) (i n : Nat) : Nat → BitVec 1024
  | 0 => t
  | d + 1 =>
    let b := bitOf i d
    plruTouch (if b then t &&& ~~~(BitVec.twoPow 1024 n) else t ||| BitVec.twoPow 1024 n) i (2 * n + b2n b) d
/-- The slot the tree bits mark as least recently used. -/
def plruVictim (t : BitVec 1024) (n : Nat) : Nat → Nat
  | 0 => n - 1024
  | d + 1 => plruVictim t (2 * n + b2n (t.getLsbD n)) d

/-- The slot and entry of a TLB that maps a JVA (R173). -/
def tlbFind (x : Xe) (jva : Nat) : Option (Nat × TlbEntry) :=
  x.tlb.find? (fun t => decide (t.2.vpn = jva / 2 ^ pageBits t.2.level))

/-- Enter a leaf, in a free slot or in the slot least recently used, which it evicts (R173). -/
def State.tlbInsert (s : State) (n : Nat) (e : TlbEntry) : State :=
  let x := s.xe n
  match sfree x.tlb 1024 with
  | some i => s.setXe n { x with tlb := sput x.tlb i e, plru := plruTouch x.plru i 1 10 }
  | none =>
    let i := plruVictim x.plru 1 10
    let s1 := s.setXe n { x with tlb := sput x.tlb i e, plru := plruTouch x.plru i 1 10 }
    if n < 40 then s1.bump (xeReg n 0x05C) 16 16 1 else s1

/-- What a translation gives at once (R169, R173, R175): a physical address, a fatal fault code, or a miss. -/
inductive Xlat where
  | hit (pa : Nat)
  | fault (code : Nat)
  | miss
deriving DecidableEq, Repr

/-- Translate a JVA for a read or a write by the TLB of unit `n`: bits [63:48] must be zero (R167), a present leaf gives
the address, a write needs its write bit (R175), and a miss while TABLE_BASE is not valid is UNMAPPED (R169). -/
def State.translate (s : State) (n jva : Nat) (write : Bool) : Xlat × State :=
  if 2 ^ 48 ≤ jva then (.fault 0x06, s)
  else
    match tlbFind (s.xe n) jva with
    | some (i, e) =>
      let s1 := s.setXe n { s.xe n with plru := plruTouch (s.xe n).plru i 1 10 }
      if write && !bitOf e.entry.toNat 2 then (.fault 0x02, s1)
      else (.hit (leafPhys e.level e.entry.toNat jva), s1)
    | none =>
      if bitOf (s.tableReg n).toNat 0 then (.miss, s) else (.fault 0x01, s)

/-- The address of a level-1 entry (R169). -/
def State.rootEntry (s : State) (n jva : Nat) : Nat :=
  bits (s.tableReg n).toNat 21 21 * 2 ^ 21 + 8 * tableIndex 1 jva

/-- Put a walk at an entry (R174): into the walk that is reading that entry, else into a free place; with 8 walks in progress its clients wait. -/
def State.placeWalk (s : State) (n level entry : Nat) (cs : List (Client × Nat)) : State :=
  let x := s.xe n
  match x.walks.find? (fun w => decide (w.2.level = level ∧ w.2.entry = entry)) with
  | some (i, w) => s.setXe n { x with walks := sput x.walks i { w with clients := w.clients ++ cs } }
  | none =>
    match sfree x.walks 8 with
    | some i =>
      let s1 := s.setXe n { x with walks := sput x.walks i { jva := ((cs.head?).map Prod.snd).getD 0, level := level, entry := entry, born := s.now, clients := cs } }
      if n < 40 then s1.bump (xeReg n 0x060) 0 16 1 else s1
    | none => s.setXe n { x with walkWait := x.walkWait ++ cs }
/-- A client joins the walk whose path goes through its 64 KiB page, or starts at its level-1 entry (R174). -/
def State.joinWalk (s : State) (n : Nat) (c : Client) (jva : Nat) : State :=
  let x := s.xe n
  match x.walks.find? (fun w => w.2.clients.any (fun k => decide (k.2 / 65536 = jva / 65536))) with
  | some (i, w) => s.setXe n { x with walks := sput x.walks i { w with clients := w.clients ++ [(c, jva)] } }
  | none => s.placeWalk n 1 (s.rootEntry n jva) [(c, jva)]
/-- Begin a walk for a client after a TLB miss, which is counted (R173, R198). -/
def State.startWalk (s : State) (n : Nat) (c : Client) (jva : Nat) : State :=
  (if n < 40 then s.bump (xeReg n 0x05C) 0 16 1 else s).joinWalk n c jva

/-- Send a DEFER fault to the Pager of the unit (R176). -/
def State.sendDefer (s : State) (n : Nat) (entryPa jva level : Nat) (e : Dword) (cs : List (Client × Nat)) : State :=
  let p := s.pagerOf n
  let f : PFault := { entryPa := entryPa, jva := jva, level := level, entry := e, born := s.now, zero := decide (entryDefer e.toNat = 1), clients := cs }
  let s1 := s.setPager p { s.pager p with inbox := (s.pager p).inbox ++ [f] }
  if n < 40 then s1.bump (xeReg n 0x070) 0 16 1 else s1

/-- Update the chain with post number `seq`. -/
def State.modChain (s : State) (n seq : Nat) (f : Chain → Chain) : State :=
  s.setXe n { s.xe n with chains := modFirst (fun c => decide (c.seq = seq)) f (s.xe n).chains }
/-- The chain with post number `seq`. -/
def State.chain (s : State) (n seq : Nat) : Option Chain := (s.xe n).chains.find? (fun c => decide (c.seq = seq))
/-- A chain leaves its post queue entry and its place (R179, R190). -/
def State.dropChain (s : State) (n seq : Nat) : State :=
  s.setXe n { s.xe n with chains := (s.xe n).chains.filter (fun c => decide (c.seq ≠ seq)) }

/-- Log a fatal XE fault (R175, R198) and report its job fault (R513): class 2 for POISON with the code of the memory that
holds the word, class 4 for REMOTE with its status, class 3 otherwise. -/
def State.xeFatal (s : State) (n core : Nat) (x : Ctx) (place : Option (Fin 16)) (code va sub : Nat) : State :=
  let a := xeReg n 0x064
  let s1 := if bitOf (s.rdn a) 31 then s
    else (s.wr a (BitVec.ofNat 32 (code + core * 2 ^ 8 + (match x with | .d => 0 | .p => 2 ^ 14) +
        (match place with | some p => p.val * 2 ^ 15 | none => 2 ^ 19) + 2 ^ 31))).wr64 (xeReg n 0x068) (BitVec.ofNat 64 va)
  let s2 := (s1.bump (xeReg n 0x070) 16 16 1).irq .xe n 0
  let die := 0x40 + n
  if code = 0x07 then s2.jobFault 2 sub die n
  else if code = 0x0D then s2.jobFault 4 sub die n
  else s2.jobFault 3 code die n

/-- A fatal fault fails a chain (R190). -/
def State.failChain (s : State) (n seq code va sub : Nat) : State :=
  match s.chain n seq with
  | none => s
  | some c => (s.xeFatal n c.core.val c.ctx c.place code va sub).dropChain n seq

/-- A fatal fault of an issued piece (R190, R197): it fails the piece's chain, and is logged and reported though the chain is CANCELLED or FAILED already. -/
def State.failPiece (s : State) (n : Nat) (p : Piece) (code va sub : Nat) : State :=
  match s.chain n p.seq with
  | none => s.xeFatal n (50 * n + p.core.val) p.ctx none code va sub
  | some _ => s.failChain n p.seq code va sub

/-- Latch an event in REGION.HALL_LOG and HALL_VA and count it (R356): `role` 0 issuer, 1 target. -/
def State.hallLog (s : State) (status role rank addr bit : Nat) : State :=
  let a := regAddr .region 0 0x048
  let s1 := if bitOf (s.rdn a) 31 then s
    else (s.wr a (BitVec.ofNat 32 (status + role * 16 + rank * 32 + 2 ^ 31))).wr64 (regAddr .region 0 0x04C) (BitVec.ofNat 64 addr)
  (s1.bump (regAddr .region 0 0x054) (if role = 1 then 0 else 16) 16 1).irq .region 0 bit

/-- The peer rank of a hall address for HALL_LOG: 0xFFF when the address names none. -/
def peerRank (addr : Nat) : Nat := if haGlobal addr then haRank addr else 0xFFF

/-- Take a context's pending marks off the destination registers of an operation (R55). -/
def clearPend (k : Context) (rd : Fin 16) (size : Bool) : Context :=
  { k with pend := k.pend &&& ~~~(BitVec.twoPow 16 rd.val ||| (if size then BitVec.twoPow 16 (rd.val + 1) else 0)) }

/-- Complete a core's hall operation as HALL_REFUSED (R335, R343): its tag is freed and the event logged at the issuer. The exception is raised
where the table of R75 lets it be and the reply is not one to discard; otherwise the job fault alone is reported, which R335 asks for either way
(DEDUCED, log entry 103). -/
def State.hallRefused (s : State) (n tag : Nat) (u : TagUse) (status bit : Nat) : State :=
  let core := 50 * n + u.core.val
  let s1 := s.setXe n { s.xe n with tags := serase (s.xe n).tags tag }
  let s2 := s1.hallLog status 0 (peerRank u.addr.toNat) u.addr.toNat bit
  let m := (s2.ctx core u.ctx).mode
  if u.drop ∨ m = .idle ∨ m = .parked ∨ m = .halted then s2.jobFault 4 status (0x40 + n) core
  else (s2.modCtx core u.ctx (fun k => clearPend k u.rd u.size)).exception core u.ctx 0x18 u.pc.toNat 0 false status

/-- Queue a translated local hall operation at its channel (R168, R333). -/
def State.localHall (s : State) (n tag : Nat) (u : TagUse) (pa : Nat) : State :=
  let c := s.chanOf pa
  s.acceptReq c
    { op := .hall tag (pa % 1024) u.kind u.op u.size u.lo u.hi u.cmpLo u.cmpHi, src := BitVec.ofNat 8 (0x40 + n), tag := BitVec.ofNat 16 tag,
      blk := s.blkOf pa, pa := pa / 1024 * 1024, born := s.now, grp := 0 }

/-- Translate a local hall operation (R167, R168) by bits [47:0] of its address: perform, refuse, or walk. -/
def State.hallTranslate (s : State) (n tag : Nat) : State :=
  match sfind (s.xe n).tags tag with
  | none => s
  | some u =>
    let jva := bits u.addr.toNat 0 48
    let x := s.translate n jva (decide (u.kind ≠ 0))
    match x.1 with
    | .hit pa => x.2.localHall n tag u pa
    | .fault _ => x.2.hallRefused n tag u 3 0
    | .miss => x.2.startWalk n (.hall tag) jva

/-- Update a hall request at the target. -/
def State.modHall (s : State) (id : Nat) (f : HallReq → HallReq) : State :=
  { s with hallWait := modFirst (fun r => decide (r.id = id)) f s.hallWait }

/-- What a fatal translation fault does to a client at an XE (R168, R187, R190). -/
def State.clientFail (s : State) (n : Nat) (c : Client) (code jva : Nat) : State :=
  match c with
  | .chain seq => s.failChain n seq code jva 4
  | .record seq => s.failChain n seq code jva 4
  | .hall tag =>
    match sfind (s.xe n).tags tag with
    | none => s
    | some u => s.hallRefused n tag u (if code = 0x07 then 4 else 3) 0
  | .target id => s.modHall id (fun r => { r with waits := false, fail := code })

/-- What a DEFER fault does to a client: a chain goes to FAULT_WAIT with the fault in its progress record (R190, R191), a
record write waits while its chain goes on (R187), a hall operation stays outstanding (R55). -/
def State.clientDefer (s : State) (n : Nat) (c : Client) (code jva : Nat) : State :=
  match c with
  | .chain seq => s.modChain n seq (fun k =>
      { k with state := (if k.state = .active then .faultWait else k.state), walking := false,
               faultCode := BitVec.ofNat 8 code, faultVa := BitVec.ofNat 64 jva })
  | .record seq => s.modChain n seq (fun k => { k with recWait := true })
  | _ => s

/-- A client goes on once its leaf is in the TLB, or when a RESUME makes it walk again (R176, R190): a chain may issue
again, a hall operation translates again, a hall request of the target is to be tried again. -/
def State.clientGo (s : State) (n : Nat) (c : Client) : State :=
  match c with
  | .chain seq => s.modChain n seq (fun k => { k with walking := false, state := (if k.state = .faultWait then .active else k.state) })
  | .record seq => s.modChain n seq (fun k => { k with recWait := false })
  | .hall tag => s.hallTranslate n tag
  | .target id => s.modHall id (fun r => { r with waits := false })

/-- Apply a client action to each client, with its address. -/
def State.eachClient (s : State) (f : State → Client → Nat → State) : List (Client × Nat) → State
  | [] => s
  | c :: t => State.eachClient (f s c.1 c.2) f t

/-- Clients that wait for a walk place take one, or join a walk, in order (R174). -/
def State.nextWaiting (s : State) (n : Nat) : State :=
  State.eachClient (s.setXe n { s.xe n with walkWait := [] }) (fun t c jva => t.joinWalk n c jva) (s.xe n).walkWait

/-- End walk `i` of unit `n` (R198 WALK_CNT keeps the longest in units of 10 ns). -/
def State.endWalk (s : State) (n i : Nat) (w : Walk) : State :=
  let s1 := s.setXe n { s.xe n with walks := serase (s.xe n).walks i }
  let s2 := if n < 40 then s1.raiseTo (xeReg n 0x060) 16 16 ((s.now - w.born) / 10) else s1
  s2.nextWaiting n

/-- The walks of some clients by the entry that each needs next (R169, R174). -/
def nextEntries (e : Dword) (level : Nat) (cs : List (Client × Nat)) : List (Nat × List (Client × Nat)) :=
  let at_ := fun (c : Client × Nat) => entryAddr e.toNat + 8 * tableIndex level c.2
  ((cs.map at_).eraseDups).map (fun a => (a, cs.filter (fun c => decide (at_ c = a))))
/-- A walk that has read a pointer goes on at its next entry, in its own place; the clients whose paths part from it there go on as walks of their own, and a walk that comes
to an entry which another is reading joins it (R174). -/
def State.walkOn (s : State) (n i : Nat) (w : Walk) (e : Dword) : State :=
  match nextEntries e (w.level + 1) w.clients with
  | [] => s.endWalk n i w
  | (a, cs) :: rest =>
    let x := s.xe n
    let s1 := if x.walks.any (fun v => decide (v.1 ≠ i ∧ v.2.level = w.level + 1 ∧ v.2.entry = a)) then (s.setXe n { x with walks := serase x.walks i }).placeWalk n (w.level + 1) a cs
      else s.setXe n { x with walks := sput x.walks i { w with level := w.level + 1, entry := a, jva := ((cs.head?).map Prod.snd).getD w.jva, clients := cs } }
    (rest.foldl (fun t g => t.placeWalk n (w.level + 1) g.1 g.2) s1).nextWaiting n

/-- Advance walk `i` with the entry value `e` that was read (R172): a leaf enters the TLB and its clients go on, a pointer
names the next entry, a DEFER goes to the Pager, any other entry is a fatal fault for every client. -/
def State.walkTake (s : State) (n i : Nat) (w : Walk) (e : Dword) : State :=
  match entryKind (s.w * 2 ^ 40) w.level e.toNat with
  | .leaf =>
    let s1 := (s.endWalk n i w).tlbInsert n { vpn := w.jva / 2 ^ pageBits w.level, level := w.level, entry := e }
    s1.eachClient (fun t c _ => t.clientGo n c) w.clients
  | .pointer => s.walkOn n i w e
  | .deferZero =>
    ((s.endWalk n i w).eachClient (fun t c a => t.clientDefer n c 0x04 a) w.clients).sendDefer n w.entry w.jva w.level e w.clients
  | .deferLoad =>
    ((s.endWalk n i w).eachClient (fun t c a => t.clientDefer n c 0x05 a) w.clients).sendDefer n w.entry w.jva w.level e w.clients
  | .unmapped => (s.endWalk n i w).eachClient (fun t c a => t.clientFail n c 0x01 a) w.clients
  | .malformed => (s.endWalk n i w).eachClient (fun t c a => t.clientFail n c 0x03 a) w.clients
  | .range => (s.endWalk n i w).eachClient (fun t c a => t.clientFail n c 0x06 a) w.clients

/-- Every walk of the unit that needs the entry just read takes its value (R174). -/
def State.walkTakeAll (s : State) (n : Nat) (e : Option Dword) : List (Nat × Walk) → State
  | [] => s
  | (i, w) :: t =>
    let s1 := match e with
      | some v => s.walkTake n i w v
      | none => (s.endWalk n i w).eachClient (fun u c a => u.clientFail n c 0x07 a) w.clients
    s1.walkTakeAll n e t

/-- A walk reads its entry, and it and every walk waiting for the same entry go on (R172, R174). -/
def State.walkStep (s : State) (n i : Nat) : State :=
  match sfind (s.xe n).walks i with
  | none => s
  | some w =>
    if !s.inCapacity w.entry then
      (s.endWalk n i w).eachClient (fun u c a => u.clientFail n c 0x06 a) w.clients
    else
      let x := s.readEntry w.entry
      x.2.walkTakeAll n x.1 ((s.xe n).walks.filter (fun v => decide (v.2.entry = w.entry)))

end Sys2Proof.Machine
end

