-- ==== Sys2Proof/Machine/HallIssue.lean ====
section
/-!
DEFINITION. Sys2Proof/Machine/HallIssue.lean: issuing a hall operation from a core (R329 to R331, R346).
-/
namespace Sys2Proof.Machine

/-- The cells of a global hall operation on their way to the network interface (R346). -/
def hallCells (n tag ni : Nat) (u : TagUse) : List Msg :=
  let a := u.addr.toNat
  let head := [(0, 8, a), (8, 1, b2n u.size)]
  let mk := fun (ty : Nat) (fs : List (Nat × Nat × Nat)) =>
    Msg.cell (BitVec.ofNat 8 ty) (BitVec.ofNat 8 ni) (BitVec.ofNat 8 (0x40 + n)) (BitVec.ofNat 8 (a / 4096)) 0 (BitVec.ofNat 16 tag)
      (BitVec.ofNat 32 (haRank a)) (payload fs)
  if u.kind = 0 then [mk 0x20 head]
  else if u.kind = 1 then [mk 0x21 (head ++ [(16, 8, u.lo.toNat), (24, 8, u.hi.toNat)])]
  else if u.op = 4 ∧ u.size then
    [mk 0x22 (head ++ [(9, 1, u.op), (16, 8, u.lo.toNat), (24, 8, u.hi.toNat)]), mk 0x23 [(16, 8, u.cmpLo.toNat), (24, 8, u.cmpHi.toNat)]]
  else
    [mk 0x22 (head ++ [(9, 1, u.op), (16, 8, u.lo.toNat), (24, 8, (if u.op = 4 then u.cmpLo.toNat else u.hi.toNat))])]

/-- The status with which the issuer refuses an operation (R329, R356): 9 for a rank with no valid entry, 5 for any other
breach, 0 for none. -/
def State.issueStatus (s : State) (a kind op : Nat) (size : Bool) : Nat :=
  if haGlobal a ∧ !bitOf (s.rankEntry (haRank a)) 15 then 9
  else if haBad a kind op size then 5
  else 0

/-- Whether a remote tag of the stack is free (R44, R55). -/
def State.tagFree (s : State) (n : Nat) : Bool := (sfree (s.xe n).tags 2048).isSome

/-- Issue a hall operation from a core (R55, R168, R329, R340): refuse it, or take a tag, mark its destination registers
pending, and translate it or send its cells. -/
def State.hallIssue (s : State) (core : Nat) (u : TagUse) : State :=
  let n := core / 50
  let a := u.addr.toNat
  let st := s.issueStatus a u.kind u.op u.size
  if st ≠ 0 then
    (s.hallLog st 0 (peerRank a) a 0).exception core u.ctx 0x18 u.pc.toNat 0 false st
  else
    match sfree (s.xe n).tags 2048 with
    | none => s
    | some tag =>
      let s1 := s.setXe n { s.xe n with tags := sput (s.xe n).tags tag u }
      let s2 := if u.kind = 1 then s1
        else s1.modCtx core u.ctx (fun k =>
          { k with pend := k.pend ||| BitVec.twoPow 16 u.rd.val ||| (if u.size then BitVec.twoPow 16 (u.rd.val + 1) else 0) })
      if haGlobal a then
        let e := s.rankEntry (haRank a)
        let cls := s.classOf a e
        s2.sendHall n tag (bits e 0 12) cls 0 (hallCells n tag (niDie (s.nextPort (bits e 0 12) cls)) u)
      else s2.hallTranslate n tag

end Sys2Proof.Machine
end

