-- ==== Sys2Proof/Machine/Sequencer.lean ====
section
/-!
DEFINITION. Sys2Proof/Machine/Sequencer.lean: the issue of a bundle (R42 to R46, R54, R55, R72) and the meanings of BUNDLE_ISSUE
and of every SQ command. A command row of the sequencer offers a bundle that carries it, with NOPs in the engine bundle slots, at
the context's present PC; the row BUNDLE_ISSUE offers the bundle that the instruction store holds there.
-/
namespace Sys2Proof.Machine

/-- Whether any engine of a core has a command of the context queued or running, or a hall operation is outstanding:
FENCE and END wait for none (R54, R340). -/
def State.ctxBusy (s : State) (core : Nat) (x : Ctx) : Bool :=
  let c := s.core core
  let k := c.ctx x
  !k.qMe.isEmpty || !k.qVe.isEmpty || !k.qRm.isEmpty || runsFor c.me x || runsFor c.ve x || runsFor c.rm x ||
  !(s.hallOps core x).isEmpty

/-- The queue of an engine (R35). -/
def Context.queue (k : Context) : Engine → List QEntry
  | .me => k.qMe
  | .ve => k.qVe
  | .rm => k.qRm

/-- Whether any of the registers has a hall load pending on it (R55). -/
def Context.pending (k : Context) (rs : List (Fin 16)) : Bool := rs.any (fun r => k.pend.getLsbD r.val)

/-- Whether an SQ command is a hall operation (R44). -/
def isHall : SqOp → Bool
  | .hld _ _ _ => true
  | .hst _ _ _ => true
  | .hat _ _ _ _ _ => true
  | _ => false

/-- The SQ command's own issue condition (R44, R54): WAIT, TWAIT, FENCE and END. -/
def State.sqReady (s : State) (core : Nat) (x : Ctx) : SqOp → Bool
  | .wait ra ctr => decide ((s.ctx core x).g.get ra ≤ (s.ctx core x).ctr.get ctr)
  | .twait ra => decide ((s.ctx core x).g.get ra ≤ s.timebase)
  | .fence => !s.ctxBusy core x
  | .fin => !s.ctxBusy core x
  | _ => true

/-- An engine command takes no queue entry when it is a NOP (R42). -/
def liveSlots (es : List (Engine × Nat)) : List (Engine × Nat) := es.filter (fun e => decide (opOf e.2 ≠ 0))

/-- Whether a bundle can issue in this cycle (R44, R54, R55): the CWAIT or branch hold is over, the SQ condition is met, no
register it names is pending, each queue has room, and a remote tag is free for a hall operation. -/
def State.canIssue (s : State) (core : Nat) (x : Ctx) (sq : SqOp) (es : List (Engine × Nat)) : Bool :=
  let k := s.ctx core x
  decide (k.notBefore ≤ (s.core core).cycles) && s.sqReady core x sq && !k.pending (sqReads sq) && !k.pending (sqWrites sq) &&
  (liveSlots es).all (fun e => !k.pending (engReads e.1 e.2) && decide ((k.queue e.1).length < 8)) &&
  (!isHall sq || s.tagFree (core / 50))

/-- What an engine command captures at issue (R45, R194). -/
def capture (k : Context) (eng : Engine) (cmd : Nat) : QEntry :=
  { cmd := BitVec.ofNat 64 cmd,
    target := if waitEn cmd then k.g.get (waitReg cmd) else 0,
    a := (match eng with
      | .me => 0
      | _ => k.g.get (reg4 cmd 36)),
    b := (match eng with
      | .ve => k.g.get (reg4 cmd 32)
      | _ => 0),
    c := (match eng with
      | .ve => if (engReads .ve cmd).contains (reg4 cmd 28) then k.g.get (reg4 cmd 28) else 0
      | _ => 0),
    pc := BitVec.ofNat 12 k.pc.toNat }

/-- Queue an engine command in its context; one that becomes the head starts its wait timeout (R53). An MCFG sets the
issue configuration (R71). -/
def enqueue (now : Dword) (k0 : Context) (k : Context) (e : Engine × Nat) : Context :=
  let q := capture k0 e.1 e.2
  match e.1 with
  | .me =>
    { k with qMe := k.qMe ++ [q], meSince := (if k.qMe.isEmpty then now else k.meSince),
             issueCfg := (if opOf e.2 = 0xC0 then some (BitVec.ofNat 4 (bits e.2 36 4), BitVec.ofNat 4 (bits e.2 32 4)) else k.issueCfg) }
  | .ve => { k with qVe := k.qVe ++ [q], veSince := (if k.qVe.isEmpty then now else k.veSince) }
  | .rm => { k with qRm := k.qRm ++ [q], rmSince := (if k.qRm.isEmpty then now else k.rmSince) }

/-- The three-register operations of R54. -/
def aluResult (f : Alu) (a b : Dword) : Dword :=
  match f with
  | .add => a + b
  | .sub => a - b
  | .and => a &&& b
  | .or => a ||| b
  | .xor => a ^^^ b
  | .shl => a <<< (b.toNat % 64)
  | .shr => a >>> (b.toNat % 64)
  | .mul => a * b

/-- The branch conditions of R54. -/
def brHolds (cond : BitVec 4) (a b : Dword) : Bool :=
  match cond.toNat with
  | 0 => a == b
  | 1 => a != b
  | 2 => BitVec.ult a b
  | 3 => !BitVec.ult a b
  | 4 => BitVec.slt a b
  | _ => !BitVec.slt a b

/-- Write a general register of a context. -/
def Context.setG (k : Context) (r : Fin 16) (v : Dword) : Context := { k with g := k.g.set r v }
/-- Take a branch: the target at the next fetch, and two cycles in which no bundle of the context issues (R45); `cycle`
is the count after the issuing cycle. -/
def Context.jump (k : Context) (cycle : Nat) (target : BitVec 12) : Context :=
  { k with pc := target.setWidth 13, notBefore := cycle + 2 }

/-- The replica's reading of the timebase (R408): at most 4 ns behind the base count, never ahead, and never below the
context's last reading. -/
def State.replica (s : State) (last : Dword) : Dword :=
  let lag := BitVec.ofNat 64 (Config.replicaLag s.free % 5)
  let v := if s.timebase < lag then 0 else s.timebase - lag
  if v < last then last else v

/-- Post a chain (R179): a full post queue refuses it with POST_FULL, and the bundle still issues (R180). -/
def State.xpost (s : State) (core : Nat) (x : Ctx) (addr : Dword) : State :=
  let n := core / 50
  let e := s.xe n
  let c : Fin 50 := Fin.ofNat 50 core
  if 8 ≤ (e.chains.filter (fun k => decide (k.core = c) && decide (k.ctx = x))).length then
    (s.xeFatal n c.val x none 0x0A addr.toNat 0).irq .xe n 1
  else
    s.setXe n { e with chains := e.chains ++ [{ core := c, ctx := x, seq := e.nextSeq, fetch := some addr }], nextSeq := e.nextSeq + 1 }

/-- The hall operation of an SQ command: registers read before any is written (R45). -/
def hallUse (k : Context) (core : Nat) (x : Ctx) (pc : BitVec 12) (now : Nat) : SqOp → TagUse
  | .hld rd ra size =>
    { xe := false, core := Fin.ofNat 50 core, ctx := x, kind := 0, rd := rd, size := size, addr := k.g.get ra, pc := pc, born := now }
  | .hst rs ra size =>
    { xe := false, core := Fin.ofNat 50 core, ctx := x, kind := 1, size := size, addr := k.g.get ra, lo := k.g.get rs,
      hi := (if size then k.g.get (rs + 1) else 0), pc := pc, born := now }
  | .hat rd ra rb op size =>
    { xe := false, core := Fin.ofNat 50 core, ctx := x, kind := 2, op := op, rd := rd, size := size, addr := k.g.get ra,
      lo := k.g.get rb,
      hi := (if size then (if op = 4 then k.g.get (rb + 2) else k.g.get (rb + 1)) else 0),
      cmpLo := (if op = 4 then k.g.get (rb + 1) else 0),
      cmpHi := (if op = 4 ∧ size then k.g.get (rb + 3) else 0), pc := pc, born := now }
  | _ => { xe := false }

/-- The effect of an SQ command at issue (R54), with the PC already at the next bundle. `k` is the context as it stood
before the bundle, whose registers it reads. -/
def State.sqEffect (s : State) (core : Nat) (x : Ctx) (k : Context) (op : SqOp) : State :=
  match op with
  | .nop => s
  | .fin =>
    (s.modCtx core x (fun c => { c with mode := .idle })).irq .core core (match x with | .d => 0 | .p => 1)
  | .fence => s
  | .wait _ _ => s
  | .sig ctr => s.signal core x ctr
  | .rdctr rd ctr => s.modCtx core x (fun c => c.setG rd (k.ctr.get ctr))
  | .cwait n => s.modCtx core x (fun c => { c with notBefore := (s.core core).cycles - 1 + n })
  | .twait _ => s
  | .rdtb rd =>
    let v := s.replica k.lastTb
    { s.modCtx core x (fun c => { c.setG rd v with lastTb := v }) with free := s.free + 1 }
  | .ldi rd imm => s.modCtx core x (fun c => c.setG rd (imm.setWidth 64))
  | .addi rd ra imm => s.modCtx core x (fun c => c.setG rd (k.g.get ra + imm.signExtend 64))
  | .alu f rd ra rb => s.modCtx core x (fun c => c.setG rd (aluResult f (k.g.get ra) (k.g.get rb)))
  | .jmp t => s.modCtx core x (fun c => c.jump (s.core core).cycles t)
  | .br ra rb cond t =>
    if brHolds cond (k.g.get ra) (k.g.get rb) then s.modCtx core x (fun c => c.jump (s.core core).cycles t) else s
  | .dbnz ra t =>
    let v := k.g.get ra - 1
    let s1 := s.modCtx core x (fun c => c.setG ra v)
    if v = 0 then s1 else s1.modCtx core x (fun c => c.jump (s.core core).cycles t)
  | .xpost ra => s.xpost core x (k.g.get ra)
  | .kinc kt => s.kettleSend kt.toNat 1
  | op => s.hallIssue core (hallUse k core x (BitVec.ofNat 12 k.pc.toNat) s.now op)

/-- The exceptions that a bundle raises at issue (R42, R72), one for each bundle slot at fault, with its bundle slot code. -/
def bundleFaults (x : Ctx) (cfg : Option (BitVec 4 × BitVec 4)) (sq : Except Nat SqOp) (es : List (Engine × Nat)) : List (Nat × Nat) :=
  (match sq with
   | .error c => [(c, 0)]
   | .ok _ => []) ++ es.filterMap (fun e => (engCheck e.1 x cfg e.2).map (fun c => (c, engSlot e.1)))

/-- Count a cycle of the core's sequencer. -/
def State.coreCycle (s : State) (core : Nat) : State :=
  s.setCore core { s.core core with cycles := (s.core core).cycles + 1 }

/-- Issue a bundle as a whole (R44, R45): every bundle slot reads the registers, the engine commands enter their queues, the
PC moves on, and the SQ command takes effect. -/
def State.issueNow (s : State) (core : Nat) (x : Ctx) (sq : SqOp) (es : List (Engine × Nat)) : State :=
  let k := s.ctx core x
  let k1 := (liveSlots es).foldl (fun a e => enqueue s.timebase k a e) k
  let k2 := { k1 with pc := k.pc + 1, sqSince := s.timebase }
  (s.setCtx core x k2).sqEffect core x k sq

/-- Offer a bundle for issue in one cycle of the core (R44, R46, R72). A context that does not run issues nothing; a bundle
whose encoding is at fault raises its exceptions; one that cannot issue is tried again later. `first` says that the other
context's bundle goes first (R46). -/
def State.offer (s : State) (core : Nat) (x : Ctx) (first : Bool) (sq : Except Nat SqOp) (es : List (Engine × Nat)) : State :=
  if !s.coreOn core ∨ (s.ctx core x).mode ≠ .run then s
  else
    let s1 := s.coreCycle core
    let k := s.ctx core x
    if 4096 ≤ k.pc.toNat then s1.exception core x 0x09 4095 4 false 0
    else if first ∨ (s.core core).cycles < k.notBefore then s1
    else if bundleFaults x k.issueCfg sq es ≠ [] then
      s1.exceptions core x (bundleFaults x k.issueCfg sq es) k.pc.toNat
    else
      match sq with
      | .error _ => s1
      | .ok op => if s.canIssue core x op es then s1.issueNow core x op es else s1

/-- The bundle at a bundle index of the instruction store, none where one of its words is uncorrectable (R41, R42); a
corrected word is written back and counted. -/
def State.fetch (s : State) (core pc : Nat) : Option Nat × State :=
  let r := s.instStore.get (instKey core (32 * pc) / 8) 4
  let s1 := if r.fixed = [] then s
    else { s with instStore := s.instStore.fix r.fixed }.coreEcc core 16 r.fixed.length
  (match r.bad with | none => some r.val | some _ => none, s1)

/-- The engine bundle slots of a bundle (R42). -/
def bundleEngines (b : Nat) : List (Engine × Nat) := [(.rm, bits b 64 64), (.ve, bits b 128 64), (.me, bits b 192 64)]

/-- Whether the D context has a bundle that can issue, as its instruction store holds it (R46). -/
def State.dCanIssue (s : State) (core : Nat) : Bool :=
  let k := s.ctx core .d
  decide (k.mode = .run) && decide (k.pc.toNat < 4096) &&
  (match (s.fetch core k.pc.toNat).1 with
   | none => true
   | some b =>
     match decodeSq (bits b 0 64) with
     | .error _ => true
     | .ok op => s.canIssue core .d op (bundleEngines b))

/-- Whether a bundle of context `x` must give way to D (R46). -/
def State.givesWay (s : State) (core : Nat) : Ctx → Bool
  | .d => false
  | .p => s.dCanIssue core

/-- BUNDLE_ISSUE (R41, R42, R44): fetch the bundle at the PC and offer it. -/
def execBundleIssue (core : Fin 2000) (x : Ctx) (s : State) : Host.Outcome State Fault Refusal :=
  let k := s.ctx core x
  if !s.coreOn core ∨ k.mode ≠ .run ∨ 4096 ≤ k.pc.toNat ∨ s.givesWay core x then
    .next (s.offer core x (s.givesWay core x) (.ok .nop) [])
  else
    let f := s.fetch core k.pc.toNat
    match f.1 with
    | none => .next ((f.2.coreCycle core).exception core x 0x12 k.pc.toNat 4 false 0)
    | some b => .next (f.2.offer core x false (decodeSq (bits b 0 64)) (bundleEngines b))

/-- Offer a bundle of one SQ command and three NOPs. -/
def offerSq (core : Fin 2000) (x : Ctx) (op : SqOp) (s : State) : Host.Outcome State Fault Refusal :=
  .next (s.offer core x (s.givesWay core x) (if sqReserved op then .error 0x02 else .ok op) [])

/-- NOP in a bundle slot (R42): `low` are its bits [55:0], which must be zero. -/
def execNop (core : Fin 2000) (x : Ctx) (slot : BundleSlot) (low : BitVec 56) (s : State) : Host.Outcome State Fault Refusal :=
  match slot with
  | .sq => .next (s.offer core x (s.givesWay core x) (decodeSq low.toNat) [])
  | .rm => .next (s.offer core x (s.givesWay core x) (.ok .nop) [(.rm, low.toNat)])
  | .ve => .next (s.offer core x (s.givesWay core x) (.ok .nop) [(.ve, low.toNat)])
  | .me => .next (s.offer core x (s.givesWay core x) (.ok .nop) [(.me, low.toNat)])
/-- END (R54, R75). -/
def execEndCmd (core : Fin 2000) (x : Ctx) (s : State) : Host.Outcome State Fault Refusal := offerSq core x .fin s
/-- FENCE (R54). -/
def execFence (core : Fin 2000) (x : Ctx) (s : State) : Host.Outcome State Fault Refusal := offerSq core x .fence s
/-- WAIT (R54). -/
def execWait (core : Fin 2000) (x : Ctx) (ra : Fin 16) (ctr : Fin 32) (s : State) : Host.Outcome State Fault Refusal :=
  offerSq core x (.wait ra ctr) s
/-- SIG (R49, R54). -/
def execSig (core : Fin 2000) (x : Ctx) (ctr : Fin 32) (s : State) : Host.Outcome State Fault Refusal := offerSq core x (.sig ctr) s
/-- RDCTR (R54). -/
def execRdctr (core : Fin 2000) (x : Ctx) (rd : Fin 16) (ctr : Fin 32) (s : State) : Host.Outcome State Fault Refusal :=
  offerSq core x (.rdctr rd ctr) s
/-- CWAIT (R54, R406). -/
def execCwait (core : Fin 2000) (x : Ctx) (n : Word) (s : State) : Host.Outcome State Fault Refusal := offerSq core x (.cwait n.toNat) s
/-- TWAIT (R54, R408). -/
def execTwait (core : Fin 2000) (x : Ctx) (ra : Fin 16) (s : State) : Host.Outcome State Fault Refusal := offerSq core x (.twait ra) s
/-- RDTB (R54, R408). -/
def execRdtb (core : Fin 2000) (x : Ctx) (rd : Fin 16) (s : State) : Host.Outcome State Fault Refusal := offerSq core x (.rdtb rd) s
/-- LDI (R54). -/
def execLdi (core : Fin 2000) (x : Ctx) (rd : Fin 16) (imm : BitVec 48) (s : State) : Host.Outcome State Fault Refusal :=
  offerSq core x (.ldi rd imm) s
/-- ADDI (R54). -/
def execAddi (core : Fin 2000) (x : Ctx) (rd ra : Fin 16) (imm : BitVec 48) (s : State) : Host.Outcome State Fault Refusal :=
  offerSq core x (.addi rd ra imm) s
/-- ADD (R54). -/
def execAdd (core : Fin 2000) (x : Ctx) (rd ra rb : Fin 16) (s : State) : Host.Outcome State Fault Refusal :=
  offerSq core x (.alu .add rd ra rb) s
/-- SUB (R54). -/
def execSub (core : Fin 2000) (x : Ctx) (rd ra rb : Fin 16) (s : State) : Host.Outcome State Fault Refusal :=
  offerSq core x (.alu .sub rd ra rb) s
/-- AND (R54). -/
def execAnd (core : Fin 2000) (x : Ctx) (rd ra rb : Fin 16) (s : State) : Host.Outcome State Fault Refusal :=
  offerSq core x (.alu .and rd ra rb) s
/-- OR (R54). -/
def execOr (core : Fin 2000) (x : Ctx) (rd ra rb : Fin 16) (s : State) : Host.Outcome State Fault Refusal :=
  offerSq core x (.alu .or rd ra rb) s
/-- XOR (R54). -/
def execXor (core : Fin 2000) (x : Ctx) (rd ra rb : Fin 16) (s : State) : Host.Outcome State Fault Refusal :=
  offerSq core x (.alu .xor rd ra rb) s
/-- SHL (R54). -/
def execShl (core : Fin 2000) (x : Ctx) (rd ra rb : Fin 16) (s : State) : Host.Outcome State Fault Refusal :=
  offerSq core x (.alu .shl rd ra rb) s
/-- SHR (R54). -/
def execShr (core : Fin 2000) (x : Ctx) (rd ra rb : Fin 16) (s : State) : Host.Outcome State Fault Refusal :=
  offerSq core x (.alu .shr rd ra rb) s
/-- MUL (R54). -/
def execMul (core : Fin 2000) (x : Ctx) (rd ra rb : Fin 16) (s : State) : Host.Outcome State Fault Refusal :=
  offerSq core x (.alu .mul rd ra rb) s
/-- JMP (R45, R54). -/
def execJmp (core : Fin 2000) (x : Ctx) (target : BitVec 12) (s : State) : Host.Outcome State Fault Refusal :=
  offerSq core x (.jmp target) s
/-- BR (R45, R54). -/
def execBr (core : Fin 2000) (x : Ctx) (ra rb : Fin 16) (cond : BitVec 4) (target : BitVec 12) (s : State) :
    Host.Outcome State Fault Refusal := offerSq core x (.br ra rb cond target) s
/-- DBNZ (R45, R54). -/
def execDbnz (core : Fin 2000) (x : Ctx) (ra : Fin 16) (target : BitVec 12) (s : State) : Host.Outcome State Fault Refusal :=
  offerSq core x (.dbnz ra target) s
/-- HLD (R55, R330). -/
def execHld (core : Fin 2000) (x : Ctx) (rd ra : Fin 16) (size : Bool) (s : State) : Host.Outcome State Fault Refusal :=
  offerSq core x (.hld rd ra size) s
/-- HST (R330). -/
def execHst (core : Fin 2000) (x : Ctx) (rs ra : Fin 16) (size : Bool) (s : State) : Host.Outcome State Fault Refusal :=
  offerSq core x (.hst rs ra size) s
/-- HAT add (R330). -/
def execHatAdd (core : Fin 2000) (x : Ctx) (rd ra rb : Fin 16) (size : Bool) (s : State) : Host.Outcome State Fault Refusal :=
  offerSq core x (.hat rd ra rb 0 size) s
/-- HAT min (R330). -/
def execHatMin (core : Fin 2000) (x : Ctx) (rd ra rb : Fin 16) (size : Bool) (s : State) : Host.Outcome State Fault Refusal :=
  offerSq core x (.hat rd ra rb 1 size) s
/-- HAT max (R330). -/
def execHatMax (core : Fin 2000) (x : Ctx) (rd ra rb : Fin 16) (size : Bool) (s : State) : Host.Outcome State Fault Refusal :=
  offerSq core x (.hat rd ra rb 2 size) s
/-- HAT swap (R330). -/
def execHatSwap (core : Fin 2000) (x : Ctx) (rd ra rb : Fin 16) (size : Bool) (s : State) : Host.Outcome State Fault Refusal :=
  offerSq core x (.hat rd ra rb 3 size) s
/-- HAT cas (R330, R331, R338). -/
def execHatCas (core : Fin 2000) (x : Ctx) (rd ra rb : Fin 16) (size : Bool) (s : State) : Host.Outcome State Fault Refusal :=
  offerSq core x (.hat rd ra rb 4 size) s
/-- HAT fadd (R330, R332). -/
def execHatFadd (core : Fin 2000) (x : Ctx) (rd ra rb : Fin 16) (size : Bool) (s : State) : Host.Outcome State Fault Refusal :=
  offerSq core x (.hat rd ra rb 5 size) s
/-- XPOST (R179, R180). -/
def execXpost (core : Fin 2000) (x : Ctx) (ra : Fin 16) (s : State) : Host.Outcome State Fault Refusal := offerSq core x (.xpost ra) s
/-- KINC (R54, R348). -/
def execKinc (core : Fin 2000) (x : Ctx) (kettle : BitVec 8) (s : State) : Host.Outcome State Fault Refusal :=
  offerSq core x (.kinc kettle) s

end Sys2Proof.Machine
end

