-- ==== Sys2Proof/Machine/Engine.lean ====
section
/-!
DEFINITION. Sys2Proof/Machine/Engine.lean: how an engine starts a command (R47, R73) and the line checks at engine start (R72).
-/
namespace Sys2Proof.Machine

/-- What an engine of a core is running. -/
def Core.running (c : Core) : Engine → Option Running
  | .me => c.me
  | .ve => c.ve
  | .rm => c.rm
/-- Set what an engine of a core is running. -/
def Core.setRunning (c : Core) (r : Option Running) : Engine → Core
  | .me => { c with me := r }
  | .ve => { c with ve := r }
  | .rm => { c with rm := r }

/-- The head of an engine's queue, where its context runs and its wait is satisfied (R43, R47). -/
def Context.startable (k : Context) (eng : Engine) : Option QEntry :=
  if k.mode ≠ .run then none
  else
    match k.queue eng with
    | [] => none
    | q :: _ => if waitEn q.cmd.toNat ∧ k.ctr.get (waitCtr q.cmd.toNat) < q.target then none else some q

/-- The command that an engine starts from a context's queue when it is that with opcode `op` (R47): the engine is free, a
D command that can start goes before any P command, and under the stack's brake no MMA, the command of k steps, starts (R71, R132). -/
def State.engineHead (s : State) (core : Nat) (x : Ctx) (eng : Engine) (op : Nat) : Option QEntry :=
  let c := s.core core
  if !s.coreOn core ∨ (c.running eng).isSome then none
  else if x = .p ∧ (c.d.startable eng).isSome then none
  else if op = 0xC2 ∧ (s.stk (core / 50)).brake then none
  else
    match (c.ctx x).startable eng with
    | some q => if opOf q.cmd.toNat = op then some q else none
    | none => none

/-- Take the head off an engine's queue; the next command becomes the head now (R53). -/
def popQueue (now : Dword) (k : Context) : Engine → Context
  | .me => { k with qMe := k.qMe.tail, meSince := now }
  | .ve => { k with qVe := k.qVe.tail, veSince := now }
  | .rm => { k with qRm := k.qRm.tail, rmSince := now }

/-- Set what an engine of core `n` is running. -/
def State.setRun (s : State) (core : Nat) (eng : Engine) (r : Option Running) : State :=
  s.setCore core ((s.core core).setRunning r eng)

/-- Start the head of a queue (R47, R73). All that the command reads and writes it reads and writes now: of a read that races a write of
another engine, whose outcome R48 leaves open, it sees the old or the new data whole (DESIGN CHOICE, log entry 93). `body` gives the exception the command raises, if any, and the state it leaves. A
command that raises an exception at its start, or that stops while it runs, does not signal. -/
def State.startEngine (s : State) (core : Nat) (x : Ctx) (eng : Engine) (op : Nat)
    (body : State → QEntry → Option Nat × State) : State :=
  match s.engineHead core x eng op with
  | none => s
  | some q =>
    let s1 := (s.modCtx core x (fun k => popQueue s.timebase k eng)).setRun core eng (some { ctx := x, entry := q })
    let r := body s1 q
    match r.1 with
    | none => r.2
    | some code => (r.2.setRun core eng none).exception core x code q.pc.toNat (engSlot eng) false 0

/-- Whether some line of [line, line + n) lies in a bank that the context does not own (R40): one line of each bank. -/
def State.foreignBank (s : State) (core : Nat) (x : Ctx) (line n : Nat) : Bool :=
  (List.range 8).any (fun b => decide (1536 * b < line + n) && decide (line < 1536 * (b + 1)) && !bitOf (s.banks core x) b)

/-- The lowest exception of a command's line ranges and other checks at engine start (R72): BOUNDS, BANK, ALIGN where the
engine wants multiples of 4, then `others` in ascending order. -/
def State.lineCheck (s : State) (core : Nat) (x : Ctx) (align : Bool) (rs : List (Nat × Nat)) (others : List Nat) : Option Nat :=
  if rs.any (fun r => decide (12288 < r.1 + r.2)) then some 0x03
  else if rs.any (fun r => s.foreignBank core x r.1 r.2) then some 0x04
  else if align && rs.any (fun r => decide (r.1 % 4 ≠ 0)) then some 0x05
  else others.head?

/-- Join numbers of `w` bits, the first lowest. -/
def packNat (w : Nat) : List Nat → Nat
  | [] => 0
  | x :: t => x % 2 ^ w + 2 ^ w * packNat w t

end Sys2Proof.Machine
end

