-- ==== Sys2Proof/Machine/RowMover.lean ====
section
/-!
DEFINITION. Sys2Proof/Machine/RowMover.lean: the Row Mover (R63 to R66, R116). A command starts by presenting its first rows to
the row port; ROW_GRANT moves each row and presents the next; a read row moves on in the order of the command.
-/
namespace Sys2Proof.Machine

/-- The first row of an RM command: g[rb] + off, formed without wrap (R63). -/
def rmRow (q : QEntry) : Nat := q.a.toNat + bits q.cmd.toNat 20 16
/-- The core-buffer line of an RM command. -/
def rmLine (q : QEntry) : Nat := bits q.cmd.toNat 6 14
/-- Whether an RM command expands codebook row groups. -/
def rmExpands (q : QEntry) : Bool := decide (opOf q.cmd.toNat = 0x42)
/-- Whether an RM command writes the row store. -/
def rmStores (q : QEntry) : Bool := decide (opOf q.cmd.toNat = 0x41)
/-- Rows of one codebook row group (R64). -/
def groupRows (q : QEntry) : Nat := if bits q.cmd.toNat 4 2 = 0 then 17 else 13
/-- The rows of a command (R63, R64). -/
def rmCount (q : QEntry) : Nat :=
  if rmExpands q then (bits q.cmd.toNat 0 4 + 1) * groupRows q else bits q.cmd.toNat 0 6 + 1
/-- The lines of a command (R63, R65). -/
def rmLines (q : QEntry) : Nat := if rmExpands q then 136 * (bits q.cmd.toNat 0 4 + 1) else 8 * rmCount q

/-- A row of the running RM command joins its bank's queue (R116); the row of a store is read from the core buffer first, and an
uncorrectable word there stops the command at that row (R41, R66). -/
def State.rmPresentOne (s : State) (core : Nat) (r : Running) : State :=
  let n := core / 50
  let row := rmRow r.entry + r.next
  let req : RowReq :=
    { use := .rm (Fin.ofNat 50 core) r.ctx r.next, row := row, write := rmStores r.entry, born := (s.stk n).bankCycle.toList.getD (row % 32) 0 }
  if rmStores r.entry then
    let d := s.bufRead core (64 * rmLine r.entry + 512 * r.next) 64
    match d.1.bad with
    | some _ => d.2.setRun core .rm (some { r with bad := some r.next })
    | none =>
      let s1 := d.2.setStk n { d.2.stk n with reqs := (d.2.stk n).reqs ++ [req] }
      s1.setRun core .rm (some { r with next := r.next + 1, out := r.out + 1, buf := sput r.buf r.next (BitVec.ofNat 4096 d.1.val) })
  else
    let s1 := s.setStk n { s.stk n with reqs := (s.stk n).reqs ++ [req] }
    s1.setRun core .rm (some { r with next := r.next + 1, out := r.out + 1 })

/-- Present rows while fewer than 16 are outstanding (R116). -/
def State.rmPresent (s : State) (core : Nat) : Nat → State
  | 0 => s
  | fuel + 1 =>
    match (s.core core).rm with
    | none => s
    | some r => if r.next < r.total ∧ r.out < 16 ∧ r.bad = none then (s.rmPresentOne core r).rmPresent core fuel else s

/-- RMLD, RMST and RMX at engine start (R63, R66, R72): the checks, then the first rows. -/
def rmBody (core : Nat) (s : State) (q : QEntry) : Option Nat × State :=
  let beyond := decide (2097152 < rmRow q + rmCount q)
  match s.lineCheck core (match (s.core core).rm with | some r => r.ctx | none => .d) true [(rmLine q, rmLines q)] (if beyond then [0x08] else []) with
  | some e => (some e, s)
  | none =>
    match (s.core core).rm with
    | none => (none, s)
    | some r => (none, (s.setRun core .rm (some { r with total := rmCount q })).rmPresent core 16)

/-- The index nibble of column `c` at k step `j` of block `b` of a codebook row group (R64, R65). -/
def groupIndex (form v b j c : Nat) : Nat :=
  if form = 0 then bits v (4096 * (2 * b + j / 16) + 256 * (j % 16) + 4 * c) 4
  else bits v (6144 * b + 192 * j + 3 * c) 3
/-- The scales of block `b` of a codebook row group (R64). -/
def groupScales (form v b : Nat) : Nat := bits v (4096 * (if form = 0 then 16 else 12) + 512 * b) 512

/-- Join numbers of `w` bits, the first lowest. -/
def joinBits (w : Nat) (l : List Nat) : Nat := packNat w l

/-- The 136 lines that RMX writes for one codebook row group (R65): for each block 16 index lines and a scale line. -/
def expandGroup (form v : Nat) : Nat :=
  joinBits (512 * 17) ((List.range 8).map (fun b =>
    joinBits 4 ((List.range 2048).map (fun i => groupIndex form v b (i / 64) (i % 64))) + 2 ^ 8192 * groupScales form v b))

/-- The rows of a group held in a command's buffer, joined. -/
def bufRows (buf : Sparse (BitVec 4096)) (first n : Nat) : Nat :=
  packNat 4096 ((List.range n).map (fun i => (sget 0 buf (first + i)).toNat))

/-- Stop a running RM command with an exception (R66, R73): its requests leave the bank queues, and it does not signal. -/
def State.rmStop (s : State) (core : Nat) (r : Running) (code : Nat) : State :=
  let n := core / 50
  let mine := fun q : RowReq => match q.use with | .rm c x _ => decide (c = Fin.ofNat 50 core) && decide (x = r.ctx) | _ => false
  let s1 := (s.setStk n { s.stk n with reqs := (s.stk n).reqs.filter (fun q => !mine q) }).setRun core .rm none
  s1.exception core r.ctx code r.entry.pc.toNat 1 false 0

/-- Move the next landed row of a load in the order of the command (R66): a row to the core buffer, a whole codebook row group
to its lines; a bad row that is next raises ROW_UE. -/
def State.rmAdvance (s : State) (core : Nat) : Nat → State
  | 0 => s
  | fuel + 1 =>
    match (s.core core).rm with
    | none => s
    | some r =>
      if r.bad = some r.moved then s.rmStop core r 0x11
      else if !shas r.buf r.moved then s
      else
        let i := r.moved
        if rmExpands r.entry then
          let k := groupRows r.entry
          let form := bits r.entry.cmd.toNat 4 2
          if (i + 1) % k = 0 then
            let v := expandGroup form (bufRows r.buf (i + 1 - k) k)
            let s1 := s.bufWrite core (64 * (rmLine r.entry + 136 * (i / k))) v 8704
            (s1.setRun core .rm (some { r with moved := i + 1, buf := r.buf.filter (fun e => decide (i < e.1)) })).rmAdvance core fuel
          else (s.setRun core .rm (some { r with moved := i + 1 })).rmAdvance core fuel
        else
          let s1 := s.bufWrite core (64 * rmLine r.entry + 512 * i) (sget 0 r.buf i).toNat 512
          (s1.setRun core .rm (some { r with moved := i + 1, buf := serase r.buf i })).rmAdvance core fuel

/-- A granted read gives a row to the running RM command, or none where the row is uncorrectable (R108). -/
def State.rmLanded (s : State) (core : Nat) (x : Ctx) (idx : Nat) (v : Option Nat) : State :=
  match (s.core core).rm with
  | none => s
  | some r =>
    if r.ctx ≠ x then s
    else
      let r1 := match v with
        | some d => { r with out := r.out - 1, buf := sput r.buf idx (BitVec.ofNat 4096 d) }
        | none => { r with out := r.out - 1, bad := some (match r.bad with | some b => min b idx | none => idx) }
      ((s.setRun core .rm (some r1)).rmAdvance core 280).rmPresent core 16

/-- A granted write has moved a row of the running RMST; when a source row stopped it and nothing is outstanding, CB_UE is
raised (R66). -/
def State.rmWrote (s : State) (core : Nat) (x : Ctx) (idx : Nat) : State :=
  match (s.core core).rm with
  | none => s
  | some r =>
    if r.ctx ≠ x then s
    else
      let r1 := { r with out := r.out - 1, moved := r.moved + 1, buf := serase r.buf idx }
      let s1 := (s.setRun core .rm (some r1)).rmPresent core 16
      match (s1.core core).rm with
      | some r2 => if r2.bad.isSome ∧ r2.out = 0 then s1.rmStop core r2 0x10 else s1
      | none => s1

/-- The row that the running RMST writes at index `idx`. -/
def State.rmStoreRow (s : State) (core idx : Nat) : Nat :=
  match (s.core core).rm with
  | some r => (sget 0 r.buf idx).toNat
  | none => 0

/-- RMST whose very first row cannot be read stops at once (R66). -/
def rmBodyStop (core : Nat) (s : State) (q : QEntry) : Option Nat × State :=
  let r := rmBody core s q
  match r.1, (r.2.core core).rm with
  | none, some k => if k.bad.isSome ∧ k.out = 0 then (some 0x10, r.2) else r
  | _, _ => r

/-- RMLD. -/
def execRmld (core : Fin 2000) (x : Ctx) (s : State) : Host.Outcome State Fault Refusal :=
  .next (s.startEngine core x .rm 0x40 (rmBody core))
/-- RMST. -/
def execRmst (core : Fin 2000) (x : Ctx) (s : State) : Host.Outcome State Fault Refusal :=
  .next (s.startEngine core x .rm 0x41 (rmBodyStop core))
/-- RMX. -/
def execRmx (core : Fin 2000) (x : Ctx) (s : State) : Host.Outcome State Fault Refusal :=
  .next (s.startEngine core x .rm 0x42 (rmBody core))

end Sys2Proof.Machine
end

