-- ==== Sys2Proof/Machine/Xe.lean ====
section
/-!
DEFINITION. Sys2Proof/Machine/Xe.lean: chains, descriptors and pieces of the XE (R179 to R193). A local piece takes a tag 0 to 255;
the tag field of its cells is that tag. A remote piece takes one of the stack's remote tags, and is held under 256 plus that tag.
-/
namespace Sys2Proof.Machine

/-! ## Descriptors (R183, R184) -/

/-- R183 op. -/
def dOp (d : Nat) : Nat := bits d 0 8
/-- R183 flags.last. -/
def dLast (d : Nat) : Bool := bitOf d 8
/-- R183 flags.fence. -/
def dFence (d : Nat) : Bool := bitOf d 9
/-- R183 flags.kettle. -/
def dKettleFlag (d : Nat) : Bool := bitOf d 10
/-- R183 flags.record. -/
def dRecordFlag (d : Nat) : Bool := bitOf d 11
/-- R183 src_space. -/
def dSrcSpace (d : Nat) : Nat := bits d 16 8
/-- R183 dst_space. -/
def dDstSpace (d : Nat) : Nat := bits d 24 8
/-- R183 ctx. -/
def dCtx (d : Nat) : Nat := bits d 32 8
/-- R183 kettle. -/
def dKettle (d : Nat) : Nat := bits d 40 8
/-- R183 sieve_unit. -/
def dSieve (d : Nat) : Nat := bits d 48 8
/-- R183 len. -/
def dLen (d : Nat) : Nat := bits d 64 32
/-- R183 rep: repetitions minus one. -/
def dRep (d : Nat) : Nat := bits d 96 16
/-- R183 src. -/
def dSrc (d : Nat) : Nat := bits d 128 64
/-- R183 dst. -/
def dDst (d : Nat) : Nat := bits d 192 64
/-- R183 src_stride. -/
def dSrcStride (d : Nat) : Nat := bits d 256 64
/-- R183 dst_stride. -/
def dDstStride (d : Nat) : Nat := bits d 320 64
/-- R183 next. -/
def dNext (d : Nat) : Nat := bits d 384 64
/-- R183 record. -/
def dRecord (d : Nat) : Nat := bits d 448 64

/-- The spaces of R183. -/
inductive Space where
  | main | row | buf | remote
deriving DecidableEq, Repr

/-- The space of a code. -/
def spaceOf (n : Nat) : Option Space :=
  match n with
  | 0 => some .main
  | 1 => some .row
  | 2 => some .buf
  | 3 => some .remote
  | _ => none

/-- The multiple that R184's table asks of a legal operand pair, none for a pair it does not hold. -/
def pairAlign (s d : Option Space) : Option Nat :=
  match s, d with
  | some .main, some .row => some 512
  | some .main, some .main => some 64
  | some .main, some .remote => some 64
  | some .row, some .main => some 512
  | some .row, some .buf => some 512
  | some .row, some .remote => some 512
  | some .buf, some .row => some 512
  | some .remote, some .main => some 64
  | some .remote, some .row => some 512
  | _, _ => none

/-- The address rules of R184 and R329 for one operand: a fault code, or none. `cores` is the number of logical cores of
the stack in service (R37). -/
def operandFault (cores : Nat) (sp : Option Space) (a : Nat) : Option Nat :=
  match sp with
  | some .buf =>
    if bits a 20 12 ≠ 0 ∨ 2 ^ 38 ≤ a ∨ 50 ≤ bits a 32 6 ∨ cores ≤ bits a 32 6 then some 0x09
    else if 786432 ≤ bits a 0 20 then some 0x06 else none
  | some .row => if 2 ^ 30 ≤ a then some 0x06 else none
  | some .remote => if !haGlobal a ∨ haSpace a = 1 ∨ haSpace a = 2 then some 0x09 else none
  | _ => none

/-- The check of a fetched descriptor (R184): DESC, RANGE, or none. -/
def descFault (cores : Nat) (x : Ctx) (d : Nat) : Option Nat :=
  let ctx := match x with | .d => 0 | .p => 1
  if 2 < dOp d ∨ bits d 12 4 ≠ 0 ∨ bits d 56 8 ≠ 0 ∨ dCtx d ≠ ctx ∨ (dRecordFlag d ∧ dRecord d % 16 ≠ 0) then some 0x09
  else if dOp d = 0 then none
  else if bits d 112 16 ≠ 0 then some 0x09
  else if dOp d = 2 then
    if dLen d ≠ 64 ∨ dRep d ≠ 0 ∨ dSrcSpace d ≠ 0 ∨ dDstSpace d ≠ 0 ∨ dDst d ≠ 0 ∨ dSrcStride d ≠ 0 ∨ dDstStride d ≠ 0 ∨ 64 ≤ dSieve d
    then some 0x09 else none
  else
    match pairAlign (spaceOf (dSrcSpace d)) (spaceOf (dDstSpace d)) with
    | none => some 0x09
    | some m =>
      if dLen d < m ∨ 2 ^ 30 < dLen d ∨ dLen d % m ≠ 0 ∨ dSrc d % m ≠ 0 ∨ dDst d % m ≠ 0 ∨ dSrcStride d % m ≠ 0 ∨ dDstStride d % m ≠ 0
      then some 0x09
      else
        match operandFault cores (spaceOf (dSrcSpace d)) (dSrc d), operandFault cores (spaceOf (dDstSpace d)) (dDst d) with
        | none, none => none
        | some e, none => some e
        | none, some e => some e
        | some e, some e' => some (max e e')

/-! ## Chains -/

/-- Whether an issued piece of a descriptor is still in flight. -/
def Xe.outstanding (e : Xe) (seq idx : Nat) : Bool := e.pieces.any (fun p => decide (p.2.seq = seq) && decide (p.2.idx = idx))
/-- Whether any piece of a chain is in flight. -/
def Xe.chainOut (e : Xe) (seq : Nat) : Bool := e.pieces.any (fun p => decide (p.2.seq = seq))
/-- Whether a descriptor is complete: all its pieces have issued and completed (R185). -/
def Xe.complete (e : Xe) (seq : Nat) (d : DescState) : Bool := d.issued && !e.outstanding seq d.idx

/-- The completion record of R188. -/
def recordBytes (status idx now : Nat) : Nat := status + idx % 2 ^ 32 * 2 ^ 32 + now * 2 ^ 64

/-- Send a completion record (R187, R188): a partial write to the memory-port die of its address. -/
def State.sendRecord (s : State) (n seq pa : Nat) (d : DescState) : State :=
  s.emit (.cell 0x03 (BitVec.ofNat 8 (chanDie (s.chanOf pa))) (BitVec.ofNat 8 (0x40 + n)) (BitVec.ofNat 8 (pa / 1024)) 0
    (BitVec.ofNat 16 (0x8000 + seq % 0x8000)) (BitVec.ofNat 32 (pa / 1024))
    (payload [(0, 16, recordBytes d.status.toNat d.idx (d.doneAt.getD s.now)), (16, 8, pa), (24, 1, 16)]))

/-- Note which descriptors of a chain are complete now (R188). A NOP with fence is complete once every earlier descriptor is (R184, R186). -/
def State.noteDone (s : State) (n seq : Nat) : State :=
  match s.chain n seq with
  | none => s
  | some c =>
    let e := s.xe n
    let begins := fun (d : DescState) => decide (dOp d.raw.toNat = 0) && !d.issued && (c.descs.takeWhile (fun k => decide (k.idx ≠ d.idx))).all (fun k => e.complete seq k)
    s.modChain n seq (fun k => { k with descs := c.descs.map (fun d =>
      let d1 := if begins d then { d with issued := true } else d
      if e.complete seq d1 ∧ d1.doneAt.isNone then { d1 with doneAt := some s.now } else d1) })

/-- Make the notifications of a chain that are due, in descriptor order (R187): the record first, the kettle after its write
is complete. The chain is DONE, and leaves its entry and place, after those of its last descriptor (R190). -/
def State.notify (s : State) (n seq : Nat) : Nat → State
  | 0 => s
  | fuel + 1 =>
    match s.chain n seq with
    | none => s
    | some c =>
      match c.descs with
      | [] => s
      | d :: ds =>
        let raw := d.raw.toNat
        if !(s.xe n).complete seq d then s
        else if dRecordFlag raw ∧ !d.recDone then
          if d.recSent ∨ c.recWait then s
          else
            let x := s.translate n (dRecord raw) true
            match x.1 with
            | .hit pa =>
              (x.2.sendRecord n seq pa d).modChain n seq (fun k => { k with descs := { d with recSent := true } :: ds })
            | .fault code => x.2.failChain n seq code (dRecord raw) 4
            | .miss => (x.2.modChain n seq (fun k => { k with recWait := true })).startWalk n (.record seq) (dRecord raw)
        else
          let s1 := if dKettleFlag raw then s.kettleSend (dKettle raw) 1 else s
          if dLast raw then s1.dropChain n seq
          else (s1.modChain n seq (fun k => { k with descs := ds })).notify n seq fuel

/-- Note what of a chain is complete and make its due notifications. -/
def State.notifyDue (s : State) (n seq : Nat) : State :=
  let s1 := s.noteDone n seq
  s1.notify n seq (((s1.chain n seq).map (fun c => c.descs.length)).getD 0 + 1)
/-- Make the due notifications of every chain of a unit. -/
def State.notifyAll (s : State) (n : Nat) : List Nat → State
  | [] => s
  | q :: t => (s.notifyDue n q).notifyAll n t

/-- The post numbers of a unit's chains. -/
def State.chainSeqs (s : State) (n : Nat) : List Nat := (s.xe n).chains.map (fun c => c.seq)

/-- The number of pieces of SUSPENDING chains that no bound but the watchdog holds: remote and SIEVE pieces (R196, R198). -/
def Xe.awaited (e : Xe) : Nat :=
  (e.pieces.filter (fun p => (p.2.sieve || decide (p.2.srcSpace = 3) || decide (p.2.dstSpace = 3)) &&
    e.chains.any (fun c => decide (c.seq = p.2.seq) && decide (c.state = .suspending)))).length

/-- A SUSPENDING chain whose issued pieces are complete becomes SUSPENDED, or QUEUED where its context has resumed (R190 to R192): it gives up its place, and keeps as its
progress point the first descriptor that is not complete. -/
def State.settleChain (s : State) (n seq : Nat) : State :=
  match s.chain n seq with
  | none => s
  | some c =>
    if c.state = .suspending ∧ !(s.xe n).chainOut seq then
      let stop := c.descs.find? (fun d => !d.issued)
      let c1 := { c with state := (if c.requeue then .queued else .suspended), requeue := false, place := none, walking := false, descs := c.descs.filter (fun d => d.issued),
                         fetch := (match stop with | some d => some d.jva | none => c.fetch),
                         fetchIdx := (match stop with | some d => d.idx | none => c.fetchIdx),
                         rep := (match stop with | some d => d.rep | none => c.rep), off := (match stop with | some d => d.off | none => c.off) }
      let s1 := s.modChain n seq (fun _ => c1)
      if (s1.xe n).chains.any (fun k => decide (k.state = .suspending)) then s1 else s1.irq .xe n 2
    else s

/-- Suspend the P chains of a core that are ACTIVE or in FAULT_WAIT (R192). -/
def State.suspendChains (s : State) (core : Nat) : State :=
  let n := core / 50
  let mine := fun c : Chain => decide (c.core.val = core % 50) && decide (c.ctx = .p) && (decide (c.state = .active) || decide (c.state = .faultWait))
  let seqs := ((s.xe n).chains.filter mine).map (fun c => c.seq)
  let s1 := s.setXe n { s.xe n with chains := (s.xe n).chains.map (fun c =>
    if mine c then { c with state := .suspending, requeue := false } else if c.core.val = core % 50 ∧ c.ctx = .p then { c with requeue := false } else c) }
  seqs.foldl (fun t q => t.settleChain n q) s1

/-- Return the SUSPENDED P chains of a core to QUEUED (R192); one still SUSPENDING follows when its pieces are complete. -/
def State.resumeChains (s : State) (core : Nat) : State :=
  let n := core / 50
  s.setXe n { s.xe n with chains := (s.xe n).chains.map (fun c =>
    if c.core.val = core % 50 ∧ c.ctx = .p ∧ c.state = .suspended then { c with state := .queued }
    else if c.core.val = core % 50 ∧ c.ctx = .p ∧ c.state = .suspending then { c with requeue := true } else c) }

/-- The modes in which a context's post queue offers no chain and its core-buffer pieces wait (R181, R193). -/
def heldMode (m : CtxMode) : Bool := decide (m = .drainPark) || decide (m = .parked)

/-- CHAIN_ACTIVATE (R181): the oldest waiting chain, D before P, takes the lowest free ACTIVE place. -/
def execChainActivate (stack : Fin 40) (s : State) : Host.Outcome State Fault Refusal :=
  let n := stack.val
  let e := s.xe n
  let waits := fun (x : Ctx) (c : Chain) => decide (c.state = .queued) && decide (c.ctx = x) && !heldMode (s.ctx (50 * n + c.core.val) x).mode
  let places := e.chains.filterMap (fun c => c.place)
  match (List.range 16).find? (fun i => !places.contains (Fin.ofNat 16 i)) with
  | none => .next s
  | some i =>
    let pick := match minBy (fun c : Chain => c.seq) (e.chains.filter (waits .d)) with
      | some c => some c
      | none => minBy (fun c : Chain => c.seq) (e.chains.filter (waits .p))
    match pick with
    | none => .next s
    | some c => .next (s.modChain n c.seq (fun k => { k with state := .active, place := some (Fin.ofNat 16 i) }))

/-- Take a descriptor into its chain once it is checked: a NOP without fence is complete at once (R184). -/
def takeDesc (c : Chain) (jva : Dword) (raw : Nat) : Chain :=
  let d : DescState :=
    { idx := c.fetchIdx, jva := jva, raw := BitVec.ofNat 512 raw, rep := c.rep, off := c.off, issued := decide (dOp raw = 0) && !dFence raw }
  { c with descs := c.descs ++ [d], rep := 0, off := 0, fetchIdx := c.fetchIdx + 1,
           fetch := (if dLast raw then none else some (BitVec.ofNat 64 (dNext raw))) }

/-- The address that a fault of a fetched descriptor is logged with (R198): the operand beyond its memory for RANGE, else the
descriptor's own. -/
def descFaultVa (cores : Nat) (d jva code : Nat) : Nat :=
  if code ≠ 0x06 then jva
  else if operandFault cores (spaceOf (dSrcSpace d)) (dSrc d) = some 0x06 then dSrc d else dDst d

/-- DESCRIPTOR_FETCHED (R183, R184, R190): the chain in a place reads the descriptor it has to fetch, once every descriptor it
holds has issued its last piece; a breach is DESC or RANGE, an uncorrectable unit POISON. -/
def execDescriptorFetched (stack : Fin 40) (place : Fin 16) (s : State) : Host.Outcome State Fault Refusal :=
  let n := stack.val
  match (s.xe n).chains.find? (fun c => decide (c.place = some place)) with
  | none => .next s
  | some c =>
    match c.fetch with
    | none => .next s
    | some jva =>
      if c.state ≠ .active ∨ c.walking ∨ c.descs.any (fun d => !d.issued) then .next s
      else if jva.toNat % 64 ≠ 0 then .next (s.failChain n c.seq 0x09 jva.toNat 4)
      else
        let x := s.translate n jva.toNat false
        match x.1 with
        | .fault code => .next (x.2.failChain n c.seq code jva.toNat 4)
        | .miss => .next ((x.2.modChain n c.seq (fun k => { k with walking := true })).startWalk n (.chain c.seq) jva.toNat)
        | .hit pa =>
          let r := x.2.readBulk pa 1
          match r.1 with
          | none => .next (r.2.failChain n c.seq 0x07 jva.toNat 4)
          | some raw =>
            match descFault (s.enabledCores n).length c.ctx raw with
            | some code => .next (r.2.failChain n c.seq code (descFaultVa (s.enabledCores n).length raw jva.toNat code) 4)
            | none => .next ((r.2.modChain n c.seq (fun k => takeDesc k jva raw)).notifyDue n c.seq)

/-! ## Pieces -/

/-- The descriptor a chain issues its next piece from (R186): the first with pieces left; with fence it waits until every
earlier one is complete. -/
def Xe.nextDesc (e : Xe) (c : Chain) : Option DescState :=
  match c.descs.find? (fun d => !d.issued) with
  | none => none
  | some d =>
    if dOp d.raw.toNat = 0 then none
    else if dFence d.raw.toNat ∧ (c.descs.takeWhile (fun k => decide (k.idx ≠ d.idx))).any (fun k => !e.complete c.seq k) then none else some d

/-- The next piece of a descriptor (R185): its source and destination addresses and length. -/
def pieceAt (d : DescState) : Nat × Nat × Nat :=
  let raw := d.raw.toNat
  let src := (dSrc raw + d.rep * dSrcStride raw + d.off) % 2 ^ 64
  let dst := (dDst raw + d.rep * dDstStride raw + d.off) % 2 ^ 64
  (src, dst, min (dLen raw - d.off) (min (1024 - src % 1024) (1024 - dst % 1024)))

/-- Move a descriptor past a piece of `len` bytes. -/
def DescState.past (d : DescState) (len : Nat) : DescState :=
  let raw := d.raw.toNat
  if d.off + len < dLen raw then { d with off := d.off + len }
  else if d.rep < dRep raw then { d with rep := d.rep + 1, off := 0 }
  else { d with off := d.off + len, issued := true }

/-- The core that a core-buffer operand names. -/
def bufCore (n a : Nat) : Nat := 50 * n + bits a 32 6
/-- Whether an operand is in the core buffer of a context that is parking or parked (R193). -/
def State.operandHeld (s : State) (n : Nat) (x : Ctx) (sp : Option Space) (a : Nat) : Bool :=
  match sp with
  | some .buf => heldMode (s.ctx (bufCore n a) x).mode
  | _ => false

/-- Whether a piece uses a remote tag. -/
def isRemote (d : Nat) : Bool := decide (dOp d = 1) && (decide (dSrcSpace d = 3) || decide (dDstSpace d = 3))
/-- The remote tags the XE holds (R182). -/
def Xe.held (e : Xe) : Nat := (e.tags.filter (fun t => t.2.xe)).length
/-- A free tag for a piece, as the key it is held under (R182). -/
def State.pieceTag (s : State) (n d : Nat) : Option Nat :=
  if isRemote d then
    (if (s.xe n).held < s.fld (xeReg n 0x04C) 0 12 then (sfree (s.xe n).tags 2048).map (· + 256) else none)
  else sfree ((s.xe n).pieces.filter (fun p => decide (p.1 < 256))) 256

/-- Whether a chain can issue a piece now (R181, R182, R186, R193). -/
def State.chainReady (s : State) (n : Nat) (c : Chain) : Bool :=
  decide (c.state = .active) && !c.walking &&
  (match (s.xe n).nextDesc c with
   | none => false
   | some d =>
     let raw := d.raw.toNat
     let p := pieceAt d
     (s.pieceTag n raw).isSome &&
     (decide (dOp raw = 2) || (!s.operandHeld n c.ctx (spaceOf (dSrcSpace raw)) p.1 && !s.operandHeld n c.ctx (spaceOf (dDstSpace raw)) p.2.1)))

/-- Translate or check one operand of a piece: the local address to use, a fatal fault, or a miss with its JVA. -/
def State.operandAt (s : State) (n : Nat) (x : Ctx) (sp : Option Space) (a len : Nat) (write : Bool) : Xlat × State :=
  match sp with
  | some .main =>
    let t := s.translate n a write
    match t.1 with
    | .hit pa => (if s.inCapacity pa then .hit pa else .fault 0x06, t.2)
    | r => (r, t.2)
  | some .row => (if 2 ^ 30 < a + len then .fault 0x06 else .hit a, s)
  | some .buf =>
    let off := bits a 0 20
    let core := bufCore n a
    if bits a 20 12 ≠ 0 ∨ 2 ^ 38 ≤ a ∨ 786432 < off + len ∨ 50 ≤ bits a 32 6 then (.fault 0x06, s)
    else if s.foreignBank core x (off / 64) (len / 64) then (.fault 0x08, s)
    else (.hit a, s)
  | _ => (.hit a, s)

/-- A cell of the base from the XE of stack `n` for a main-memory address (R224). -/
def memCell (type n die pa chunk tag : Nat) (pay : Payload) : Msg :=
  .cell (BitVec.ofNat 8 type) (BitVec.ofNat 8 die) (BitVec.ofNat 8 (0x40 + n)) (BitVec.ofNat 8 (pa / 1024)) (BitVec.ofNat 8 chunk)
    (BitVec.ofNat 16 tag) (BitVec.ofNat 32 (pa / 1024)) pay

/-- Row requests of class XE for a piece (R116). -/
def State.xeRows (s : State) (n tag first write : Nat) : Nat → State
  | 0 => s
  | k + 1 =>
    let s1 := s.xeRows n tag first write k
    let row := first + k
    let st := s1.stk n
    let req : RowReq := { use := .xe tag k, row := row, write := decide (write = 1), born := st.bankCycle.toList.getD (row % 32) 0 }
    s1.setStk n { st with reqs := st.reqs ++ [req] }

/-- The cells of a remote block piece (R342, R346): a header, and two data cells for each unit of a write. -/
def blockCells (n tag ni addr units : Nat) (write : Bool) (v : Nat) : List Msg :=
  let mk := fun (ty : Nat) (pay : Payload) =>
    Msg.cell (BitVec.ofNat 8 ty) (BitVec.ofNat 8 ni) (BitVec.ofNat 8 (0x40 + n)) (BitVec.ofNat 8 (addr / 4096)) 0 (BitVec.ofNat 16 tag)
      (BitVec.ofNat 32 (haRank addr)) pay
  if write then
    mk 0x25 (payload [(0, 8, addr), (8, 1, units - 1)]) ::
      (List.range (2 * units)).map (fun i => mk 0x26 (BitVec.ofNat 256 (v / 2 ^ (256 * i))))
  else [mk 0x24 (payload [(0, 8, addr), (8, 1, units - 1)])]

/-- The bytes of a piece's data. -/
def Piece.value (p : Piece) : Nat := p.data.foldr (fun c acc => acc + c.2.toNat * 2 ^ (256 * c.1)) 0

/-- Update the piece held under a key. -/
def State.modPiece (s : State) (n tag : Nat) (f : Piece → Piece) : State :=
  match sfind (s.xe n).pieces tag with
  | none => s
  | some p => s.setXe n { s.xe n with pieces := sput (s.xe n).pieces tag (f p) }

/-- Once a piece's source data has come, send it to its destination (R185): cells of 32 bytes to main memory, rows to the row
port, lines to the core buffer, a block write to a remote target. -/
def State.pieceLand (s : State) (n tag : Nat) : State :=
  match sfind (s.xe n).pieces tag with
  | none => s
  | some p =>
    match p.dstSpace.val with
    | 0 =>
      let die := chanDie (s.chanOf p.dst)
      s.emits ((List.range (p.len / 32)).map (fun i =>
        memCell 0x02 n die p.dst (p.dst % 1024 / 32 + i) tag (BitVec.ofNat 256 (p.value / 2 ^ (256 * i)))))
    | 1 => (s.modPiece n tag (fun q => { q with rows := p.len / 512 })).xeRows n tag (p.dst / 512) 1 (p.len / 512)
    | 2 =>
      let s1 := s.bufWrite (bufCore n p.dst) (bits p.dst 0 20) p.value p.len
      s1.modPiece n tag (fun q => { q with finished := true })
    | _ =>
      let e := s.rankEntry (haRank p.dst)
      s.sendHall n (tag - 256) (bits e 0 12) (s.classOf p.dst e) 0 (blockCells n (tag - 256) (niDie (s.nextPort (bits e 0 12) (s.classOf p.dst e))) p.dst (p.len / 64) true p.value)

/-- Put data into a piece from its byte offset `off` (a multiple of 32) on, `k` chunks of 32 bytes. -/
def Piece.fill (p : Piece) (off v : Nat) : Nat → Piece
  | 0 => p
  | k + 1 =>
    let q := Piece.fill p off v k
    { q with data := sput q.data (off / 32 + k) (BitVec.ofNat 256 (v / 2 ^ (256 * k))), got := q.got ||| BitVec.twoPow 32 (off / 32 + k) }

/-- Whether all source data of a piece has come. -/
def Piece.full (p : Piece) : Bool := decide (popCount p.got.toNat 32 = p.len / 32)

/-- Ask for the source data of a piece (R185). -/
def State.pieceFetch (s : State) (n tag : Nat) (p : Piece) : State :=
  match p.srcSpace.val with
  | 0 =>
    s.emit (memCell 0x01 n (chanDie (s.chanOf p.src)) p.src 0 tag (payload [(0, 1, p.src % 1024 / 64), (1, 1, p.len / 64 - 1)]))
  | 1 => (s.modPiece n tag (fun q => { q with rows := p.len / 512 })).xeRows n tag (p.src / 512) 0 (p.len / 512)
  | 2 =>
    let core := bufCore n p.src
    let r := s.bufRead core (bits p.src 0 20) (p.len / 8)
    match r.1.bad with
    | some _ => (r.2.modPiece n tag (fun q => { q with poison := true, finished := true })).failPiece n p 0x07 p.src 1
    | none => (r.2.modPiece n tag (fun q => q.fill 0 r.1.val (p.len / 32))).pieceLand n tag
  | _ =>
    let e := s.rankEntry (haRank p.src)
    s.sendHall n (tag - 256) (bits e 0 12) (s.classOf p.src e) 0 (blockCells n (tag - 256) (niDie (s.nextPort (bits e 0 12) (s.classOf p.src e))) p.src (p.len / 64) false 0)

/-! ## Sieve pieces (R154 to R157) -/

/-- Bytes of a key element by format code (R155), none for any other code. -/
def keySize (fmt : Nat) : Option Nat := if fmt = 2 ∨ fmt = 3 then some 1 else if fmt = 7 then some 2 else none
/-- Whether dh is a legal dimension count (R155). -/
def legalDh (dh : Nat) : Bool := decide (dh = 64) || decide (dh = 128) || decide (dh = 256)

/-- The status that a record's own fields give (R156, R157, R160): 1 BAD_OP, 2 BAD_PARAM, 0 where neither holds. -/
def sieveStatus (r : Nat) : Nat :=
  let op := bits r 0 8
  let dh := bits r 16 16
  if op = 1 then
    if bits r 48 16 ≠ 0 ∨ bits r 192 320 ≠ 0 then 1
    else if keySize (bits r 8 8) = none ∨ !legalDh dh ∨ bits r 32 16 = 0 ∨ 64 < bits r 32 16 then 2 else 0
  else if op = 2 then
    let nq := bits r 8 8
    let ksel := bits r 32 16
    let nf := bits r 48 8
    let np := bits r 128 32
    if bits r 56 8 ≠ 0 ∨ bits r 160 32 ≠ 0 ∨ bits r 384 128 ≠ 0 then 1
    else if nq = 0 ∨ 8 < nq ∨ !legalDh dh ∨ ksel = 0 ∨ 1024 < ksel ∨ 8 < nf ∨ np = 0 ∨ 65536 < np ∨
        (List.range nf).any (fun i => decide (np ≤ bits r (256 + 16 * i) 16)) then 2
    else 0
  else 1

/-- The number of pages a query selects (R159). -/
def querySel (r : Nat) : Nat :=
  let np := bits r 128 32
  let forced := ((List.range (bits r 48 8)).map (fun i => bits r (256 + 16 * i) 16)).dedup.length
  min np (max (bits r 32 16) forced)

/-- The areas a legal record names (R154, R156, R157): bit position of the address field, bytes, whether written. -/
def sieveAreas (r : Nat) : List (Nat × Nat × Bool) :=
  let dh := bits r 16 16
  if bits r 0 8 = 1 then [(64, 64 * dh * (keySize (bits r 8 8)).getD 1, false), (128, 4 * dh, true)]
  else [(64, 4 * dh * bits r 128 32, false), (192, (16 + 4 * querySel r + 63) / 64 * 64, true)]

/-- Whether an area of `size` bytes at a JVA lies within the page that the TLB maps it by (R154). -/
def State.withinPage (s : State) (n jva size : Nat) : Bool :=
  match tlbFind (s.xe n) jva with
  | none => false
  | some (_, e) => decide (jva % 2 ^ pageBits e.level + size ≤ 2 ^ pageBits e.level)

/-- Translate the areas of a record (R154): the record with physical addresses, a miss or fault with its JVA, or status
RANGE as `fault 0`. -/
def State.sieveXlat (s : State) (n r : Nat) : List (Nat × Nat × Bool) → (Xlat × Nat) × State
  | [] => ((.hit r, 0), s)
  | (pos, size, wr) :: t =>
    let a := bits r pos 64
    let x := s.translate n a wr
    match x.1 with
    | .hit pa => if x.2.withinPage n a size then x.2.sieveXlat n (putBits r pos 64 pa) t else ((.fault 0, a), x.2)
    | .fault c => ((.fault c, a), x.2)
    | .miss => ((.miss, a), x.2)

/-- A record with an area that crosses its page (R154): it is forwarded with bit 63 of its first address field set, which no physical address has (DESIGN CHOICE, log
entry 115). -/
def rangeMark (r : Nat) : Nat := putBits r 127 1 1
/-- Whether a forwarded record carries the mark. -/
def rangeMarked (r : Nat) : Bool := bitOf r 127
/-- The operations that a Sieve unit holds or is sent (R161): the XEs' unfinished SIEVE pieces for it, whose `dst` is the unit. -/
def State.sieveLoad (s : State) (u : Nat) : Nat :=
  (s.xes.map (fun e => (e.2.pieces.filter (fun p => p.2.sieve && !p.2.finished && decide (p.2.dst = u))).length)).sum
/-- Forward a record to its Sieve unit in two cells (R154, R225 SVOP). -/
def State.forwardRecord (s : State) (n tag unit pa rec : Nat) : State :=
  s.emits ((List.range 2).map (fun i =>
    memCell 0x09 n (0x10 + unit / 4) pa (pa % 1024 / 32 + i) tag (BitVec.ofNat 256 (rec / 2 ^ (256 * i)))))

/-- Hold a new piece under its key, and mark its remote tag taken (R182). -/
def State.holdPiece (s : State) (n tag : Nat) (c : Chain) (p : Piece) : State :=
  let e := s.xe n
  let tags := if 256 ≤ tag then
      sput e.tags (tag - 256) { xe := true, core := c.core, ctx := c.ctx, addr := BitVec.ofNat 64 (if p.srcSpace = 3 then p.src else p.dst), born := s.now, seq := c.seq, piece := tag }
    else e.tags
  let cs := modFirst (fun k : Chain => decide (k.seq = c.seq)) (fun k => { k with descs := modFirst (fun d => decide (d.idx = p.idx)) (fun d => d.past p.len) k.descs }) e.chains
  s.setXe n { e with tags := tags, pieces := sput e.pieces tag p, chains := cs }

/-- Issue the SIEVE piece of a chain (R154, R161, R185): translate the record's address and the addresses in it, and forward it; it waits while its unit holds 16 operations. -/
def State.issueSieve (s : State) (n tag : Nat) (c : Chain) (d : DescState) : State :=
  let raw := d.raw.toNat
  let jva := dSrc raw
  let x := s.translate n jva false
  if 16 ≤ s.sieveLoad (dSieve raw) then s
  else match x.1 with
  | .fault code => x.2.failChain n c.seq code jva 4
  | .miss => (x.2.modChain n c.seq (fun k => { k with walking := true })).startWalk n (.chain c.seq) jva
  | .hit pa =>
    let r := x.2.readBulk (pa / 64 * 64) 2
    match r.1 with
    | none => r.2.failChain n c.seq 0x07 jva 4
    | some v =>
      let rec0 := bits v (8 * (pa % 64)) 512
      let vectors := if bits rec0 0 8 = 2 then bits rec0 8 8 * 2 * bits rec0 16 16 else 0
      let p : Piece := { seq := c.seq, idx := d.idx, rep := 0, off := 0, src := pa, dst := dSieve raw, srcSpace := 0, dstSpace := 0, len := 64, core := c.core, ctx := c.ctx, sieve := true }
      if sieveStatus rec0 ≠ 0 then (r.2.holdPiece n tag c p).forwardRecord n tag (dSieve raw) pa rec0
      else
        let y := r.2.sieveXlat n rec0 (sieveAreas rec0)
        match y.1.1 with
        | .fault 0 => (y.2.holdPiece n tag c p).forwardRecord n tag (dSieve raw) pa (rangeMark rec0)
        | .fault code => y.2.failChain n c.seq code y.1.2 4
        | .miss => (y.2.modChain n c.seq (fun k => { k with walking := true })).startWalk n (.chain c.seq) y.1.2
        | .hit rec1 =>
          (y.2.holdPiece n tag c p).forwardRecord n tag (dSieve raw) pa (if y.2.withinPage n jva (64 + vectors) then rec1 else rangeMark rec0)

/-- Issue the next COPY piece of a chain (R185): both operands translated and checked first. -/
def State.issueCopy (s : State) (n tag : Nat) (c : Chain) (d : DescState) : State :=
  let raw := d.raw.toNat
  let a := pieceAt d
  let sp := spaceOf (dSrcSpace raw)
  let dp := spaceOf (dDstSpace raw)
  let x := s.operandAt n c.ctx sp a.1 a.2.2 false
  match x.1 with
  | .fault code => x.2.failChain n c.seq code a.1 4
  | .miss => (x.2.modChain n c.seq (fun k => { k with walking := true })).startWalk n (.chain c.seq) a.1
  | .hit src =>
    let y := x.2.operandAt n c.ctx dp a.2.1 a.2.2 true
    match y.1 with
    | .fault code => y.2.failChain n c.seq code a.2.1 4
    | .miss => (y.2.modChain n c.seq (fun k => { k with walking := true })).startWalk n (.chain c.seq) a.2.1
    | .hit dst =>
      let remote := if sp = some .remote then a.1 else a.2.1
      let st := if isRemote raw then s.issueStatus remote 0 0 false else 0
      if st ≠ 0 ∧ (st = 9 ∨ 3 ≤ haSpace remote) then
        (y.2.hallLog st 0 (peerRank remote) remote 0).failChain n c.seq 0x0D remote st
      else
        let p : Piece := { seq := c.seq, idx := d.idx, rep := d.rep, off := d.off, src := src, dst := dst, srcSpace := Fin.ofNat 4 (dSrcSpace raw), dstSpace := Fin.ofNat 4 (dDstSpace raw), len := a.2.2, core := c.core, ctx := c.ctx }
        (y.2.holdPiece n tag c p).pieceFetch n tag p

/-- The chain that issues next (R181): an ACTIVE D chain that can, else a P chain, round-robin over the ACTIVE places. -/
def State.nextIssuer (s : State) (n : Nat) : Option Chain :=
  let e := s.xe n
  let ready := fun (x : Ctx) => e.chains.filter (fun c => decide (c.ctx = x) && c.place.isSome && s.chainReady n c)
  let turn := fun (last : Fin 16) (c : Chain) => match c.place with | some p => (p.val + 16 - last.val - 1) % 16 | none => 16
  match minBy (turn e.lastD) (ready .d) with
  | some c => some c
  | none => minBy (turn e.lastP) (ready .p)

/-- PIECE_ISSUE (R181, R185). -/
def execPieceIssue (stack : Fin 40) (s : State) : Host.Outcome State Fault Refusal :=
  let n := stack.val
  if !s.stackOn n then .next s
  else
    match s.nextIssuer n with
    | none => .next s
    | some c =>
      match (s.xe n).nextDesc c with
      | none => .next s
      | some d =>
        match s.pieceTag n d.raw.toNat with
        | none => .next s
        | some tag =>
          let pl := c.place.getD 0
          let s1 := s.setXe n (match c.ctx with | .d => { s.xe n with lastD := pl } | .p => { s.xe n with lastP := pl })
          .next (if dOp d.raw.toNat = 2 then s1.issueSieve n tag c d else s1.issueCopy n tag c d)

/-- Complete a piece (R185, R187, R190): its tag is free, the chain's progress and notifications advance, and a SUSPENDING chain
with nothing left in flight becomes SUSPENDED. -/
def State.completePiece (s : State) (n tag : Nat) : State :=
  match sfind (s.xe n).pieces tag with
  | none => s
  | some p =>
    let e := s.xe n
    let s1 := s.setXe n { e with pieces := serase e.pieces tag, tags := if 256 ≤ tag then serase e.tags (tag - 256) else e.tags }
    let s2 := s1.bump (xeReg n 0x078) 0 32 1
    (s2.notifyDue n p.seq).settleChain n p.seq

/-- PIECE_COMPLETE (R185): a piece whose last byte has landed completes. -/
def execPieceComplete (stack : Fin 40) (tag : BitVec 16) (s : State) : Host.Outcome State Fault Refusal :=
  match sfind (s.xe stack.val).pieces tag.toNat with
  | none => .next s
  | some p => .next (if p.finished then s.completePiece stack.val tag.toNat else s)

/-- RECORD_WRITE_COMPLETE (R187): the record of the chain's oldest descriptor is written; the kettle follows, and the chain may
be DONE. -/
def execRecordWriteComplete (stack : Fin 40) (seq : Nat) (s : State) : Host.Outcome State Fault Refusal :=
  match s.chain stack.val seq with
  | none => .next s
  | some c =>
    match c.descs with
    | [] => .next s
    | d :: ds =>
      if d.recSent then
        .next ((s.modChain stack.val seq (fun k => { k with descs := { d with recDone := true } :: ds })).notifyDue stack.val seq)
      else .next s

end Sys2Proof.Machine
end

