-- ==== Sys2Proof/Machine/CoreEvents.lean ====
section
/-!
DEFINITION. Sys2Proof/Machine/CoreEvents.lean: the end of an engine command, the wait timeout, and firmware's control of the
contexts of a core with the save area (R47, R49, R53, R75 to R78, R190 to R195).
-/
namespace Sys2Proof.Machine

/-- A running command with nothing left to do: an RM command once all its rows have moved. -/
def Running.done (eng : Engine) (r : Running) : Bool :=
  match eng with
  | .rm => decide (r.moved = r.total)
  | _ => true

/-- The wait at a bundle slot that is unsatisfied now (R53): since when, and the bundle it belongs to. An SQ WAIT is next to
issue when the bundle at the PC carries one and nothing else holds it back for ever. -/
def State.openWait (s : State) (core : Nat) (x : Ctx) (slot : BundleSlot) : Option (Nat × Nat) :=
  let k := s.ctx core x
  let head := fun (eng : Engine) (since : Dword) =>
    match k.queue eng with
    | q :: _ =>
      if waitEn q.cmd.toNat ∧ k.ctr.get (waitCtr q.cmd.toNat) < q.target then some (since.toNat, q.pc.toNat) else none
    | [] => none
  match slot with
  | .me => head .me k.meSince
  | .ve => head .ve k.veSince
  | .rm => head .rm k.rmSince
  | .sq =>
    if 4096 ≤ k.pc.toNat then none
    else
      match decodeSq (bits ((s.instStore.raw (instKey core (32 * k.pc.toNat)) 8)) 0 64) with
      | .ok (.wait ra ctr) => if k.ctr.get ctr < k.g.get ra then some (k.sqSince.toNat, k.pc.toNat) else none
      | _ => none

/-- The exception bundle slot number of a slot (R78 EXC_D). -/
def slotNo : BundleSlot → Nat
  | .sq => 0
  | .rm => 1
  | .ve => 2
  | .me => 3

/-- Whether a context measures a wait (R53): at every slot while it runs, and at the heads of the queues that a pre-emption keeps (R75). -/
def Context.measures (k : Context) (slot : BundleSlot) : Bool := decide (k.mode = .run) || (decide (k.mode = .drainPark) && decide (slot ≠ .sq))
/-- WAIT_TMO (R53): a wait unsatisfied for CORE.WAIT_TMO nanoseconds raises the exception; 0 turns the check off. -/
def execWaitTmo (core : Fin 2000) (x : Ctx) (slot : BundleSlot) (s : State) : Host.Outcome State Fault Refusal :=
  let tmo := (s.rd64 (coreReg core 0x060)).toNat
  if !(s.ctx core x).measures slot ∨ tmo = 0 then .next s
  else
    match s.openWait core x slot with
    | some (since, pc) => if since + tmo < s.now + 1 then .next (s.exception core x 0x0B pc (slotNo slot) false 0) else .next s
    | none => .next s

/-- A CTX_CMD action that the state table does not list is ignored and counted (R75, R539). -/
def State.ctxIgnored (s : State) (core : Nat) : State := s.errCount .core core 2

/-- A soft reset is over once both contexts are IDLE (R537): PAGE_STAT.reset_busy returns to 0. -/
def State.resetOver (s : State) (core : Nat) : State :=
  if (s.ctx core .d).mode = .idle ∧ (s.ctx core .p).mode = .idle then s.setFld (hdr .core core 0x00C) 1 1 0 else s
/-- Start a context (R75): the PC from START_PC, empty queues, configuration and tags invalid, exception record cleared. A core that does not
run, as in D1, of which R75 does not speak, ignores and counts the action (DESIGN CHOICE, log entry 99). -/
def State.startCtx (s : State) (core : Nat) (x : Ctx) : State :=
  let k := s.ctx core x
  if k.mode ≠ .idle ∨ !s.coreOn core then s.ctxIgnored core
  else
    let pc := match x with | .d => s.fld (coreReg core 0x050) 0 12 | .p => s.fld (coreReg core 0x050) 16 12
    (s.resetOver core).setCtx core x { k with mode := .run, pc := BitVec.ofNat 13 pc, qMe := [], qVe := [], qRm := [], cfg := none, issueCfg := none, tag := Vector.replicate 4 .invalid, exc := {}, notBefore := 0, sqSince := s.timebase }

/-- D_START (R75, R78). -/
def execDStart (ini : Initiator) (ep : Byte) (core : Fin 2000) (s : State) : Host.Outcome State Fault Refusal :=
  .next (s.busDo ini ep .core core 0x048 (fun t => t.startCtx core .d))
/-- P_START (R75, R78). -/
def execPStart (ini : Initiator) (ep : Byte) (core : Fin 2000) (s : State) : Host.Outcome State Fault Refusal :=
  .next (s.busDo ini ep .core core 0x048 (fun t => t.startCtx core .p))

/-- Discard the replies of a context's outstanding hall loads on arrival (R75), and those of its atomics, which return to registers as a load's do
(DEDUCED, log entry 103). Its stores stay outstanding as they are. -/
def State.dropHall (s : State) (core : Nat) (x : Ctx) : State :=
  let n := core / 50
  s.setXe n { s.xe n with tags := (s.xe n).tags.map (fun t =>
    if !t.2.xe && decide (t.2.core.val = core % 50) && decide (t.2.ctx = x) && decide (t.2.kind ≠ 1) then (t.1, { t.2 with drop := true }) else t) }

/-- Abort the D context of a running core (R75): stop issuing, discard what has not started, cancel its chains (R190). -/
def State.abortD (s : State) (core : Nat) : State :=
  let k := s.ctx core .d
  if k.mode ≠ .run then s.ctxIgnored core
  else ((s.setCtx core .d { k with mode := .drainAbort, qMe := [], qVe := [], qRm := [], pend := 0 }).dropHall core .d).cancelChains core .d
/-- D_ABORT (R75). -/
def execDAbort (ini : Initiator) (ep : Byte) (core : Fin 2000) (s : State) : Host.Outcome State Fault Refusal :=
  .next (s.busDo ini ep .core core 0x048 (fun t => t.abortD core))

/-- Whether any engine of a core runs a command of a context. -/
def State.engineBusy (s : State) (core : Nat) (x : Ctx) : Bool :=
  runsFor (s.core core).me x || runsFor (s.core core).ve x || runsFor (s.core core).rm x

/-- An aborted D context, or either context after a soft reset (R537), whose running commands are done is IDLE; D has its aborted bit set. -/
def State.drained (s : State) (core : Nat) (x : Ctx) : State :=
  let k := s.ctx core x
  if k.mode = .drainAbort ∧ !s.engineBusy core x then
    let s1 := s.setCtx core x { k with mode := .idle }
    match x with
    | .d => s1.irq .core core 5
    | .p => s1
  else s
/-! ## The save area (R194, R195) -/

/-- SAVE_BASE. -/
def State.saveBase (s : State) (core : Nat) : Nat := s.fld (coreReg core 0x078) 0 14
/-- The first check of R194 that fails. -/
def State.saveFault (s : State) (core : Nat) : Option Nat :=
  let b := s.saveBase core
  if b % 4 ≠ 0 then some 0x05
  else if 12287 < b + 527 then some 0x03
  else if s.foreignBank core .p b 528 then some 0x04
  else none

/-- The registers that a VE command uses, as its queue record holds them (R194). -/
def meRecord (q : QEntry) : Nat := q.cmd.toNat + 2 ^ 64 * q.target.toNat + 2 ^ 128 * q.pc.toNat
/-- The queue record of a VE command (R194). -/
def veRecord (q : QEntry) : Nat :=
  q.cmd.toNat + 2 ^ 64 * q.target.toNat + 2 ^ 128 * (q.a.toNat % 2 ^ 14) + 2 ^ 144 * (q.b.toNat % 2 ^ 16) + 2 ^ 160 * q.pc.toNat +
    2 ^ 192 * q.c.toNat
/-- The queue record of an RM command (R194). -/
def rmRecord (q : QEntry) : Nat := q.cmd.toNat + 2 ^ 64 * q.target.toNat + 2 ^ 128 * q.a.toNat + 2 ^ 192 * q.pc.toNat

/-- The code of an accumulator tag in the header (R194). -/
def tagCode : AccTag → Nat
  | .invalid => 0
  | .fp32 => 1
  | .int32 => 2

/-- The header line of the save area (R194). A P that fell through from bundle 4,095 has no PC that the 12 bits hold: 0 is saved, and its PC_BOUNDS
is lost (DESIGN CHOICE, log entry 97). -/
def saveHeader (k : Context) : Nat :=
  let cfg := match k.cfg with | some c => 2 ^ 56 + 2 ^ 64 * c.aFmt.toNat + 2 ^ 72 * c.bFmt.toNat + 2 ^ 80 * c.cb.toNat | none => 0
  1 + 2 ^ 16 * (k.pc.toNat % 2 ^ 12) + 2 ^ 32 * k.qMe.length + 2 ^ 40 * k.qVe.length + 2 ^ 48 * k.qRm.length + cfg +
    2 ^ 88 * packNat 2 (k.tag.toList.map tagCode)

/-- Queue records of `w` bits each, eight of them, unused ones zero (R194). -/
def records (w : Nat) (rec_ : QEntry → Nat) (q : List QEntry) : Nat := packNat w (q.map rec_)

/-- Lines 0 to 15 of the save area (R194). -/
def saveLow (k : Context) : Nat :=
  saveHeader k + 2 ^ 512 * packNat 64 (k.g.toList.map BitVec.toNat) + 2 ^ 1536 * records 192 meRecord k.qMe +
    2 ^ 3072 * records 256 veRecord k.qVe + 2 ^ 5120 * records 256 rmRecord k.qRm + 2 ^ 7168 * packNat 16 (k.cbk.toList.map BitVec.toNat)

/-- The words of an accumulator, in the order of the save area (R62, R194). -/
def saveAcc (k : Context) (a : Nat) : Nat := packNat 32 ((List.range 2048).map (fun i => (sget 0 k.acc (2048 * a + i)).toNat))

/-- The accumulator that an ME command uses (R58): none for MCFG and MLCB. -/
def meAcc (q : QEntry) : Option Nat :=
  match opOf q.cmd.toNat with
  | 0xC2 => some (bits q.cmd.toNat 2 2)
  | 0xC3 => some (bits q.cmd.toNat 24 2)
  | 0xC4 => some (bits q.cmd.toNat 24 2)
  | _ => none
/-- The accumulator of context P that a running ME command uses. -/
def State.accInUse (s : State) (core : Nat) : Option Nat :=
  match (s.core core).me with
  | some r => if r.ctx = .p then meAcc r.entry else none
  | none => none

/-- Write an accumulator of context P to the save area (R194). -/
def State.writeAcc (s : State) (core a : Nat) : State :=
  s.bufWrite core (64 * (s.ctx core .p).saveAt + 1024 + 8192 * a) (saveAcc (s.ctx core .p) a) 8192
/-- Write the save area of context P as DRAIN begins (R194, R195): the header, general registers, queue records and codebooks, and every accumulator
that no running ME command uses. -/
def State.writeSave (s : State) (core : Nat) : State :=
  let s1 := s.bufWrite core (64 * (s.ctx core .p).saveAt) (saveLow (s.ctx core .p)) 1024
  ([0, 1, 2, 3].filter (fun a => decide (s.accInUse core ≠ some a))).foldl (fun t a => t.writeAcc core a) s1
/-- An ME command that has completed in DRAIN has its accumulator written (R195). -/
def State.saveDone (s : State) (core : Nat) (r : Running) : State :=
  if r.ctx = .p ∧ (s.ctx core .p).mode = .drainPark then
    match meAcc r.entry with
    | some a => s.writeAcc core a
    | none => s
  else s

/-- ENGINE_COMMAND_COMPLETE (R47, R49, R51, R195): the engine is free, the command signals if it asks to, and a pre-empted context's accumulator is saved. -/
def execEngineCommandComplete (core : Fin 2000) (eng : Engine) (s : State) : Host.Outcome State Fault Refusal :=
  match (s.core core).running eng with
  | none => .next s
  | some r =>
    if r.done eng then
      let s1 := (s.setRun core eng none).saveDone core r
      .next (if sigEn r.entry.cmd.toNat then s1.signal core r.ctx (sigCtr r.entry.cmd.toNat) else s1)
    else .next s

/-- An exception of the save area (R194, R195): the PC of the next bundle and bundle slot 4. -/
def State.saveException (s : State) (core code : Nat) : State := s.exception core .p code (s.ctx core .p).pcShown 4 false 0

/-- Pre-empt the P context of a core (R75, R117, R192, R194): the save area is checked, the context stops at its bundle
boundary, its RM requests join class D, its chains are suspended, and saving begins. The area checked now is the one that the whole save writes,
whatever SAVE_BASE and CTX_BANKS become in DRAIN (DESIGN CHOICE, log entry 98). -/
def State.preemptP (s : State) (core : Nat) : State :=
  let k := s.ctx core .p
  if k.mode ≠ .run then s.ctxIgnored core
  else
    let s1 := (s.setCtx core .p { k with mode := .drainPark, saveAt := s.saveBase core }).suspendChains core
    match s1.saveFault core with
    | some code => s1.saveException core code
    | none => s1.writeSave core
/-- P_PREEMPT. -/
def execPPreempt (ini : Initiator) (ep : Byte) (core : Fin 2000) (s : State) : Host.Outcome State Fault Refusal :=
  .next (s.busDo ini ep .core core 0x048 (fun t => t.preemptP core))

/-- Complete a parking (R75, R77, R195): no running command and no hall operation of P is left, the registers that hall operations wrote since DRAIN
began are saved with the rest of theirs (R76; DEDUCED, log entry 104), and the context is PARKED. -/
def State.parkDone (s : State) (core : Nat) : State :=
  let k := s.ctx core .p
  if k.mode = .drainPark ∧ !s.engineBusy core .p ∧ (s.hallOps core .p).isEmpty then
    let s1 := s.bufWrite core (64 * k.saveAt + 64) (packNat 64 (k.g.toList.map BitVec.toNat)) 128
    (s1.setCtx core .p { k with mode := .parked }).irq .core core 4
  else s

/-- The accumulator tag of a code (R194). -/
def tagOf (c : Nat) : AccTag := if c = 1 then .fp32 else if c = 2 then .int32 else .invalid
/-- Read back a queue of `n` records of `w` bits (R194). -/
def readQueue (v pos w n : Nat) (mk : Nat → QEntry) : List QEntry := (List.range n).map (fun i => mk (bits v (pos + w * i) w))
/-- A queue entry from its record. -/
def meEntry (r : Nat) : QEntry := { cmd := BitVec.ofNat 64 r, target := BitVec.ofNat 64 (bits r 64 64), pc := BitVec.ofNat 12 (bits r 128 12) }
/-- A VE queue entry from its record. -/
def veEntry (r : Nat) : QEntry :=
  { cmd := BitVec.ofNat 64 r, target := BitVec.ofNat 64 (bits r 64 64), a := BitVec.ofNat 64 (bits r 128 16), b := BitVec.ofNat 64 (bits r 144 16),
    c := BitVec.ofNat 64 (bits r 192 64), pc := BitVec.ofNat 12 (bits r 160 12) }
/-- An RM queue entry from its record. -/
def rmEntry (r : Nat) : QEntry :=
  { cmd := BitVec.ofNat 64 r, target := BitVec.ofNat 64 (bits r 64 64), a := BitVec.ofNat 64 (bits r 128 64), pc := BitVec.ofNat 12 (bits r 192 12) }

/-- The issue configuration after a resume (R71): the last MCFG among the restored ME queue records, or else the restored ME
configuration. -/
def resumeIssueCfg (q : List QEntry) (cfg : Option MeCfg) : Option (BitVec 4 × BitVec 4) :=
  match q.reverse.find? (fun e => decide (opOf e.cmd.toNat = 0xC0)) with
  | some e => some (BitVec.ofNat 4 (bits e.cmd.toNat 36 4), BitVec.ofNat 4 (bits e.cmd.toNat 32 4))
  | none => cfg.map (fun c => (c.aFmt, c.bFmt))

/-- The accumulators of a save area, as a table. -/
def readAcc (v : Nat) : Sparse Word :=
  (List.range 8192).filterMap (fun i => if bits v (32 * i) 32 = 0 then none else some (i, BitVec.ofNat 32 (bits v (32 * i) 32)))

/-- The context that a save area describes (R76, R194, R195). What was left of a CWAIT or of a taken branch's cycles when P was pre-empted is dropped (DESIGN
CHOICE, log entry 95), and the waits of R53 are measured afresh from the resume (DESIGN CHOICE, log entry 96). -/
def restore (k : Context) (lo acc : Nat) (now : Dword) : Context :=
  let cfg : Option MeCfg := if bitOf lo 56 then some ⟨BitVec.ofNat 4 (bits lo 64 4), BitVec.ofNat 4 (bits lo 72 4), BitVec.ofNat 2 (bits lo 80 2)⟩ else none
  let qMe := readQueue lo 1536 192 (bits lo 32 8) meEntry
  { k with
    mode := .run
    pc := BitVec.ofNat 13 (bits lo 16 12)
    g := Vector.ofFn (fun i : Fin 16 => BitVec.ofNat 64 (bits lo (512 + 64 * i.val) 64))
    qMe := qMe
    qVe := readQueue lo 3072 256 (bits lo 40 8) veEntry
    qRm := readQueue lo 5120 256 (bits lo 48 8) rmEntry
    cbk := Vector.ofFn (fun i : Fin 64 => BitVec.ofNat 16 (bits lo (7168 + 16 * i.val) 16))
    cfg := cfg
    issueCfg := resumeIssueCfg qMe cfg
    tag := Vector.ofFn (fun i : Fin 4 => tagOf (bits lo (88 + 2 * i.val) 2))
    acc := readAcc acc
    meSince := now
    veSince := now
    rmSince := now
    sqSince := now
    notBefore := 0 }

/-- Whether a header is refused at resume (R195). -/
def badHeader (lo : Nat) : Bool :=
  decide (bits lo 0 16 ≠ 1) || decide (8 < bits lo 32 8) || decide (8 < bits lo 40 8) || decide (8 < bits lo 48 8) ||
  (List.range 4).any (fun i => decide (bits lo (88 + 2 * i) 2 = 3))

/-- An exception at resume halts a PARKED context (R194, R195). -/
def State.haltParked (s : State) (core code : Nat) : State :=
  (s.setCtx core .p { s.ctx core .p with mode := .run }).saveException core code

/-- Resume the P context of a core (R75, R192, R194, R195); as at a start, a core that does not run ignores and counts it (log entry 99). -/
def State.resumeP (s : State) (core : Nat) : State :=
  let k := s.ctx core .p
  if k.mode ≠ .parked ∨ !s.coreOn core then s.ctxIgnored core
  else
    match s.saveFault core with
    | some code => s.haltParked core code
    | none =>
      let lo := s.bufRead core (64 * s.saveBase core) 128
      let hi := lo.2.bufRead core (64 * s.saveBase core + 1024) 4096
      if badHeader lo.1.val then hi.2.haltParked core 0x02
      else if lo.1.bad.isSome ∨ hi.1.bad.isSome then hi.2.haltParked core 0x10
      else (hi.2.setCtx core .p (restore k lo.1.val hi.1.val s.timebase)).resumeChains core
/-- P_RESUME. -/
def execPResume (ini : Initiator) (ep : Byte) (core : Fin 2000) (s : State) : Host.Outcome State Fault Refusal :=
  .next (s.busDo ini ep .core core 0x048 (fun t => t.resumeP core))

/-- Clear the stitch counters of a core whose contexts are both IDLE (R49). -/
def State.clearCtrs (s : State) (core : Nat) : State :=
  let c := s.core core
  if c.d.mode = .idle ∧ c.p.mode = .idle then
    s.setCore core { c with d := { c.d with ctr := Vector.replicate 32 0 }, p := { c.p with ctr := Vector.replicate 32 0 } }
  else s.ctxIgnored core
/-- CLEAR_CTR. -/
def execClearCtr (ini : Initiator) (ep : Byte) (core : Fin 2000) (s : State) : Host.Outcome State Fault Refusal :=
  .next (s.busDo ini ep .core core 0x048 (fun t => t.clearCtrs core))

/-- Take new bank masks, or ignore overlapping ones (R40, R78). -/
def State.setBanks (s : State) (core d p : Nat) : State :=
  if d &&& p ≠ 0 then s.ctxIgnored core else s.wr (coreReg core 0x044) (BitVec.ofNat 32 (d + 256 * p))
/-- CTX_BANKS_WRITE. -/
def execCtxBanksWrite (ini : Initiator) (ep : Byte) (core : Fin 2000) (d p : Byte) (s : State) : Host.Outcome State Fault Refusal :=
  .next (s.busDo ini ep .core core 0x044 (fun t => t.setBanks core d.toNat p.toNat))

/-- Write a general register of an IDLE context (R78). -/
def State.writeG (s : State) (core : Nat) (x : Ctx) (r : Fin 16) (v : Dword) : State :=
  if (s.ctx core x).mode = .idle then s.setCtx core x ((s.ctx core x).setG r v) else s.ctxIgnored core
/-- G_REGISTER_WRITE. -/
def execGRegisterWrite (ini : Initiator) (ep : Byte) (core : Fin 2000) (x : Ctx) (r : Fin 16) (v : Dword) (s : State) :
    Host.Outcome State Fault Refusal :=
  .next (s.busDo ini ep .core core ((match x with | .d => 0x300 | .p => 0x380) + 8 * r.val) (fun t => t.writeG core x r v))

end Sys2Proof.Machine
end

