-- ==== Sys2Proof/Machine/Coding.lean ====
section
/-!
DEFINITION. Sys2Proof/Machine/Coding.lean: the line code of the base (R206, R207), its ordered sets (R208, R261) and the characters of a burst (R209).
A code group is written with bit *a* as its most significant bit, which is sent first (R206).
-/
namespace Sys2Proof.Machine

/-! ## 8b/10b (R206): the code tables of IEEE 802.3 Clause 36 (PRESUMED, log entry 108) -/

/-- The 5b/6b code of D.x, *abcdei*, at negative running disparity. -/
def table6 : List Nat :=
  [0b100111, 0b011101, 0b101101, 0b110001, 0b110101, 0b101001, 0b011001, 0b111000, 0b111001, 0b100101, 0b010101, 0b110100, 0b001101, 0b101100, 0b011100, 0b010111] ++
  [0b011011, 0b100011, 0b010011, 0b110010, 0b001011, 0b101010, 0b011010, 0b111010, 0b110011, 0b100110, 0b010110, 0b110110, 0b001110, 0b101110, 0b011110, 0b101011]
/-- The 3b/4b code of D.x.y, *fghj*, at negative running disparity; the eighth is the primary form of y = 7. -/
def table4 : List Nat := [0b1011, 0b1001, 0b0101, 0b1100, 0b1101, 0b1010, 0b0110, 0b1110]
/-- The K characters with their code groups at negative running disparity. -/
def tableK : List (Nat × Nat) :=
  [(0x1C, 0b0011110100), (0x3C, 0b0011111001), (0x5C, 0b0011110101), (0x7C, 0b0011110011), (0x9C, 0b0011110010), (0xBC, 0b0011111010),
   (0xDC, 0b0011110110), (0xFC, 0b0011111000), (0xF7, 0b1110101000), (0xFB, 0b1101101000), (0xFD, 0b1011101000), (0xFE, 0b0111101000)]
/-- The number of ones in the low `n` bits. -/
def onesIn (v : Nat) : Nat → Nat
  | 0 => 0
  | n + 1 => v % 2 + onesIn (v / 2) n
/-- The running disparity after a block of `n` bits: positive (`true`) after more ones than zeros, negative after fewer, else as before. -/
def dispAfter (rd : Bool) (v n : Nat) : Bool := if n < 2 * onesIn v n then true else if 2 * onesIn v n < n then false else rd
/-- A block of `n` bits at a running disparity: complemented at positive disparity where it is unbalanced, or one of the two balanced blocks that
alternate, 111000 and 1100. -/
def atDisp (rd : Bool) (v n : Nat) : Nat := if rd ∧ (2 * onesIn v n ≠ n ∨ (n = 6 ∧ v = 0b111000) ∨ (n = 4 ∧ v = 0b1100)) then 2 ^ n - 1 - v else v
/-- The 6-bit block of x. -/
def code6 (rd : Bool) (x : Nat) : Nat := atDisp rd (table6.getD x 0) 6
/-- The 4-bit block of x.y after the 6-bit block: y = 7 takes its alternate form where the primary one would make a run of five. -/
def code4 (rd : Bool) (x y : Nat) : Nat :=
  if y = 7 ∧ ((!rd ∧ (x = 17 ∨ x = 18 ∨ x = 20)) ∨ (rd ∧ (x = 11 ∨ x = 13 ∨ x = 14))) then (if rd then 0b1000 else 0b0111) else atDisp rd (table4.getD y 0) 4
/-- The code group of a character at a running disparity. -/
def codeOf (rd : Bool) (c : LineChar) : Nat :=
  let v := c.b.toNat
  if c.k then
    match tableK.find? (fun e => decide (e.1 = v)) with
    | some e => if rd then 1023 - e.2 else e.2
    | none => 0
  else
    let six := code6 rd (v % 32)
    16 * six + code4 (dispAfter rd six 6) (v % 32) (v / 32)
/-- The character of a code group at a running disparity; none is a code violation. -/
def charOf (rd : Bool) (g : Nat) : Option LineChar :=
  match tableK.find? (fun e => decide (g = (if rd then 1023 - e.2 else e.2))) with
  | some e => some ⟨true, BitVec.ofNat 8 e.1⟩
  | none =>
    match (List.range 32).find? (fun x => decide (code6 rd x = g / 16)) with
    | none => none
    | some x => ((List.range 8).find? (fun y => decide (code4 (dispAfter rd (g / 16) 6) x y = g % 16))).map (fun y => ⟨false, BitVec.ofNat 8 (x + 32 * y)⟩)
/-- The code groups of a lane's characters from a running disparity on, and the disparity after them: each lane keeps its own (R206). -/
def encodeLane (rd : Bool) : List LineChar → List (BitVec 10) × Bool
  | [] => ([], rd)
  | c :: t =>
    let g := codeOf rd c
    let r := encodeLane (dispAfter rd g 10) t
    (BitVec.ofNat 10 g :: r.1, r.2)
/-- The characters of a lane's code groups, none for each code violation. -/
def decodeLane (rd : Bool) : List (BitVec 10) → List (Option LineChar)
  | [] => []
  | g :: t => charOf rd g.toNat :: decodeLane (dispAfter rd g.toNat 10) t

/-! ## Ordered sets (R208, R261) -/

/-- A K character. -/
def charK (v : Nat) : LineChar := ⟨true, BitVec.ofNat 8 v⟩
/-- A D character. -/
def charD (v : Nat) : LineChar := ⟨false, BitVec.ofNat 8 v⟩
/-- K28.5. -/
def comma : LineChar := charK 0xBC
/-- SOB: K28.5 K27.7. -/
def setSob : List LineChar := [comma, charK 0xFB]
/-- EOB: K29.7. -/
def setEob : List LineChar := [charK 0xFD]
/-- IDLE: K28.5 D16.2. -/
def setIdle : List LineChar := [comma, charD 0x50]
/-- WAKE: K28.5 K23.7 K23.7 K23.7. -/
def setWake : List LineChar := [comma, charK 0xF7, charK 0xF7, charK 0xF7]
/-- SLEEP: K28.5 K30.7 K30.7 K30.7. -/
def setSleep : List LineChar := [comma, charK 0xFE, charK 0xFE, charK 0xFE]
/-- TS: K28.5 K28.1 D(slot) D(h) D(g) D(L) D(~slot) D(~h). -/
def setTs (slot h g l : Nat) : List LineChar := [comma, charK 0x3C, charD slot, charD h, charD g, charD l, charD (255 - slot), charD (255 - h)]
/-- MARK: K28.5 K28.3 D(slot) D(p) D(~slot) D(~p). -/
def setMark (slot p : Nat) : List LineChar := [comma, charK 0x7C, charD slot, charD p, charD (255 - slot), charD (255 - p)]

/-- XSTART (R292): K28.5 K28.6. -/
def setXstart : List LineChar := [comma, charK 0xDC]
/-- XTS (R289): the slot, its role, the sender's port, its flags, its coordinates, dimensions, byte `i` of its serial number, and the link sequence number it
expects; then 0, the complement of the slot, and the check. -/
def setXts (slot role sender flags coord dims serial i expect : Nat) : List LineChar :=
  let body := [slot, role, sender, flags, coord % 256, coord / 256 % 16 + dims % 16 * 16, dims / 16 % 256, i, serial / 2 ^ (8 * i) % 256, expect % 256, expect / 256 % 16, 0]
  [comma, charK 0x5C] ++ body.map charD ++ [charD (255 - slot), charD (body.foldl (fun a b => a ^^^ b % 256) 0)]
/-- Sixteen consecutive XTS with the same fields, from byte `i` of the serial number on (R289, R290). -/
def sixteenXts (slot role sender flags coord dims serial expect i : Nat) : List (List LineChar) :=
  (List.range 16).map (fun j => setXts slot role sender flags coord dims serial ((i + j) % 8) expect)

/-! ## Bursts on the lanes (R207, R209) -/

/-- The characters of a cell on a logical lane (R207): character k is byte 8k + lane. -/
def cellChars (c : CellBits) (lane : Nat) : List LineChar := (List.range 6).map (fun k => charD (bits c.toNat (8 * (8 * k + lane)) 8))
/-- The characters of a burst on a logical lane (R209). -/
def burstChars (cells : List CellBits) (lane : Nat) : List LineChar := setSob ++ cells.flatMap (fun c => cellChars c lane) ++ setEob
/-- The code groups of a burst on its eight logical lanes, from the lanes' disparities on, and the disparities after it. -/
def burstLanes (rd : BitVec 8) (cells : List CellBits) : List (List (BitVec 10)) × BitVec 8 :=
  let r := (List.range 8).map (fun l => encodeLane (rd.getLsbD l) (burstChars cells l))
  (r.map Prod.fst, BitVec.ofNat 8 ((List.range 8).map (fun l => b2n ((r.getD l ([], false)).2) * 2 ^ l)).sum)
/-- The characters that a reader finds on a lane of a burst: it takes the disparity from the first comma (DEDUCED, log entry 109). -/
def readLane (l : List (BitVec 10)) : List (Option LineChar) := decodeLane (decide (l.head? = some (BitVec.ofNat 10 (codeOf true comma)))) l
/-- The byte of a character; none for a K character or a violation. -/
def dataByte : Option LineChar → Option Nat
  | some c => if c.k then none else some c.b.toNat
  | none => none
/-- The cell at place `k` of a burst as read from its lanes (R207), with the lanes on which it has a bad character. -/
def cellAt (ls : List (List (Option LineChar))) (k : Nat) : CellBits × BitVec 8 :=
  let ch := fun (i : Nat) => dataByte (((ls.getD (i % 8) []).getD (2 + 6 * k + i / 8) none))
  (BitVec.ofNat 384 ((List.range 48).map (fun i => (ch i).getD 0 * 2 ^ (8 * i))).sum,
   BitVec.ofNat 8 ((List.range 8).map (fun l => b2n ((List.range 6).any (fun j => (ch (8 * j + l)).isNone)) * 2 ^ l)).sum)
/-- The cells of a burst as received on its eight logical lanes, each with the lanes on which it has a code violation; none where SOB or the first header
cannot be read (R220). -/
def readBurst (lanes : List (List (BitVec 10))) : Option (List (CellBits × BitVec 8)) :=
  let ls := lanes.map readLane
  let n := min 16 (((ls.map List.length).foldl min 1000 - 2) / 6)
  let header := (List.range 12).all (fun i => (dataByte ((ls.getD (i % 8) []).getD (2 + i / 8) none)).isSome)
  if lanes.length = 8 ∧ 1 ≤ n ∧ ls.all (fun l => decide (l.take 2 = setSob.map some)) ∧ header then some ((List.range n).map (cellAt ls)) else none
/-- The code violations on each logical lane of a burst. -/
def laneViols (lanes : List (List (BitVec 10))) : List Nat := lanes.map (fun l => ((readLane l).filter (fun c => c.isNone)).length)

/-! ## The message of a port's codewords (R286, R287)

A character time stands as the list of its eight lanes' characters. -/

/-- The same character on all eight lanes. -/
def colsOf (chars : List LineChar) : List (List LineChar) := chars.map (fun c => List.replicate 8 c)
/-- The character times of a burst of one cell (R286). -/
def burstCols (c : CellBits) : List (List LineChar) :=
  colsOf setSob ++ (List.range 6).map (fun k => (List.range 8).map (fun l => charD (bits c.toNat (8 * (8 * k + l)) 8))) ++ colsOf setEob
/-- The byte of logical lane 0 in a character time. -/
def laneZero (col : List (Option Byte)) : Option Byte := col.headD none
/-- Whether every byte of some character times is known. -/
def colsWhole (cols : List (List (Option Byte))) : Bool := cols.all (fun c => c.all Option.isSome)
/-- The cell in six character times (R207). -/
def cellOfCols (cols : List (List (Option Byte))) : CellBits :=
  BitVec.ofNat 384 (((cols.flatMap id).map (fun b => (b.getD 0).toNat)).foldr (fun b acc => b + 256 * acc) 0)

/-! ## Frames of an arbitration stream (R210, R211) -/

/-- The token characters. -/
def tokenFree : Nat := 0x5A
/-- SLEEP. -/
def tokenSleep : Nat := 0xA5
/-- NONE. -/
def tokenNone : Nat := 0x00
/-- The three status characters: kind 0 none, 1 ACK, 2 NAK, 3 control, group within the waveguide, burst id, serpentine position of the writer addressed, and
cell index or control code. -/
def statusChars (kind grp id pos idx : Nat) : List LineChar := [charD (id % 16 + 16 * (grp % 4) + 64 * (kind % 4)), charD (pos % 64), charD (idx % 16)]
/-- A frame: K28.5, the token characters of groups 0 to 3 of the waveguide, and a status. -/
def frameChars (tokens : List Nat) (status : List LineChar) : List LineChar := comma :: (List.range 4).map (fun k => charD (tokens.getD k tokenNone)) ++ status

/-! ## Spine words (R233) -/

/-- The parity bits of a 64-bit word, one per byte; even parity (DESIGN CHOICE, log entry 110). -/
def parityOf (w : Dword) : Byte := BitVec.ofNat 8 ((List.range 8).map (fun i => onesIn (bits w.toNat (8 * i) 8) 8 % 2 * 2 ^ i)).sum

end Sys2Proof.Machine
end

