-- ==== Sys2Proof/WellFormed.lean ====
section
/-!
DEFINITION. Sys2Proof/WellFormed.lean: which commands the spec can send: the operand ranges that the operand types leave wider than the
spec's own forms. `exec` is total: on an ill-formed operand it does what its meaning says of the part that the spec gives.
-/
namespace Sys2Proof

/-- A received frame is at least as long as the UDP payload it carries. -/
def Frame.carries (f : Frame) (msg : List Byte) : Bool := decide (msg.length ≤ f.length)

/-- The number of bond groups of a class on the S–C or the base–S interface (R119). -/
def BondClass.groups (base : Bool) : BondClass → Nat
  | .data => if base then 0 else 2304
  | .control => if base then 0 else 32
  | .clock => 8
  | .power => 512
  | .cell => 192
/-- Whether a stack has the bond position. -/
def Bond.fitted (b : Bond) : Bool := decide (b.grp < b.cls.groups b.base) && decide (b.pos < 64)

/-- The operands of a command lie in the ranges that the spec's forms give them. -/
def Instr.wellFormed : Instr → Bool
  -- R546: a private write carries 1 to 16 words, a private read at least one.
  | .i3cWordWrite _ words => decide (1 ≤ words.length) && decide (words.length ≤ 16)
  | .i3cPrivateRead n => decide (1 ≤ n)
  -- R148: a request covers 1 to 16 consecutive units of one block; the count field is the count less one (R224).
  | .mrd _ _ _ _ first count => decide (first.toNat + count.toNat ≤ 15)
  -- R224, R146: a partial write has a length of 1 to 16 and stays in its 64-byte unit.
  | .mwrp _ _ _ addr len _ => decide (1 ≤ len.toNat) && decide (len.toNat ≤ 16) && decide (addr.toNat % 64 + len.toNat ≤ 64)
  -- R171: a table entry is 8 bytes at a multiple of 8.
  | .mcas _ _ addr _ _ => decide (addr.toNat % 8 = 0)
  -- R119: the bond exists.
  | .bondFailDeclare _ kind grp pos => Bond.fitted ⟨kind.1, kind.2, grp, pos⟩
  | .bondRepair _ kind place => Bond.fitted ⟨kind.1, kind.2, place.1, place.2⟩
  -- R151: a channel fails its training once.
  | .memoryTraining tries => decide (tries.map Prod.fst).Nodup
  -- R213, R220: a burst has 1 to 16 cells.
  | .tokenCapture _ _ _ cells => decide (1 ≤ cells.length)
  -- R209: SOB, 1 to 16 cells and EOB on eight lanes.
  | .burstReceive _ _ lower upper => decide (lower.length = 4) && decide (upper.length = 4) && (lower ++ upper).all (fun l => decide (l.length ≤ 99))
  -- R233: a word is sent once and at most three times again, and no more once it has come whole.
  | .spineHopRetry _ _ _ got => decide (1 ≤ got.length) && decide (got.length ≤ 4)
  -- R262: a sweep counts each writer once.
  | .markSweep _ _ heard => decide ((heard.marks.map (fun m => m.site)).Nodup)
  -- R243: LSM 6 has two outputs in use.
  | .rapidFade lsm out _ => decide (4 * lsm.val + out.val < 26)
  -- R282: a codeword has 136 characters.
  | .codewordDecode _ _ chars _ _ => decide (chars.length = 136)
  | .submit f msg | .cancel f msg | .status f msg | .ack f msg | .fdata f msg => f.carries msg
  | .rchunk f msg | .rcommit f msg | .rstat f msg => f.carries msg
  | .echoRequest f _ data => f.carries data
  -- R439, R441: one memory-port power for each of the 16 dies, and a die's power once.
  | .powerTelemetry p => decide (p.mem.length = 16) && decide ((p.dies.map Prod.fst).Nodup)
  -- R464: a figure for each of the 160 regions and each of the 59 base sites.
  | .ageingEpoch m => decide (m.slow.length = 160) && decide (m.rise.length = 59) && decide (m.heater.length = 59)
  | _ => true

end Sys2Proof
end

