-- ==== Sys2Proof/Machine/RowPort.lean ====
section
/-!
DEFINITION. Sys2Proof/Machine/RowPort.lean: the row port of a stack: bank arbitration, the row code, scrub, spare rows, bonds and
half-row mode (R107 to R129), and the stack governor (R130 to R134).
-/
namespace Sys2Proof.Machine

/-- A ROWS register. -/
def rowsReg (n off : Nat) : Nat := regAddr .rows n off
/-- The word number at which a stack's row begins in the row stores. -/
def rowWord (n row : Nat) : Nat := rowKey n (512 * row) / 8

/-- The bit of a 72-bit word that its syndrome names: 0 to 63 data, 64 to 71 check (R120, R143). -/
def eccBit (d c : Nat) : Nat :=
  let syn := c ^^^ eccEncode d
  match eccColumns.idxOf? syn with
  | some i => i
  | none => 64 + syn.log2

/-! ### Data bonds (R119 to R125) -/

/-- The data groups of a bank that half-row mode uses: 36 of those that are not exhausted. Which of them firmware chooses is open; here the lowest (DESIGN
CHOICE, log entry 105). -/
def Stack.chosen (k : Stack) (bank : Nat) : List Nat := ((List.range 72).filter (fun i => !k.exhausted.contains (72 * bank + i))).take 36
/-- The data group within its bank, and the position, that carry a bit of a word (R120, R125). -/
def Stack.bondOf (k : Stack) (bank word bit : Nat) : Nat × Nat :=
  if k.half then ((k.chosen bank).getD (bit / 2) 0, 32 * (bit % 2) + word % 32) else (bit, word)
/-- The bits of words that a data bond position carries (R120, R125): none of a group that half-row mode does not use. -/
def Stack.bitsAt (k : Stack) (b : Bond) : List (Nat × Nat) :=
  let i := b.grp % 72
  if k.half then
    match (k.chosen (b.grp / 72)).idxOf? i with
    | some c => [(b.pos % 32, 2 * c + b.pos / 32), (b.pos % 32 + 32, 2 * c + b.pos / 32)]
    | none => []
  else [(b.pos, i)]
/-- The bits of a bank's rows that no bond carries. -/
def Stack.badBits (k : Stack) (bank : Nat) : List (Nat × Nat) :=
  (k.bondFailed.filter (fun b => decide (b.cls = .data) && decide (b.grp / 72 = bank))).flatMap k.bitsAt
/-- Move a row of a memory over its bank's bonds: a bit that no bond carries arrives as a free value, its stored code as it is (R120). -/
def State.carry (s : State) (m : Mem) (n row : Nat) : Mem × State :=
  ((s.stk n).badBits (row % 32)).foldl (fun (x : Mem × State) e =>
    let f := x.2.fresh
    (x.1.setBit (rowWord n row + e.1) e.2 (Config.freeBool f.1), f.2)) (m, s)

/-- Count one corrected word of a row: by bond position within 1 ms for the bond (R122), and by bit of the bank row within the ageing
epoch for the spare row (R110). -/
def State.noteBit (s : State) (n row word bit : Nat) : State :=
  let k := s.stk n
  let at_ := k.bondOf (row % 32) word bit
  let bus := (72 * (row % 32) + at_.1) * 64 + at_.2
  let old := sget [] k.busHist bus
  let key := (row * 64 + word) * 72 + bit
  let ce := sget 0 k.ceHist key + 1
  s.setStk n { k with busHist := sset [] k.busHist bus (old.drop (old.length - 15) ++ [s.now]), ceHist := sset 0 k.ceHist key ce, remapDue := (if 4 ≤ ce ∧ !k.remapDue.contains row then k.remapDue ++ [row] else k.remapDue) }

/-- Note every corrected word of a row read. -/
def State.noteBits (s : State) (m : Mem) (n row : Nat) : List (Nat × Nat) → State
  | [] => s
  | (w, _) :: t => (s.noteBit n row (w % 64) (eccBit (m.raw (8 * w) 8) (m.chk w))).noteBits m n row t

/-- The write-backs queued at a bank. -/
def Stack.backs (k : Stack) (bank : Nat) : Nat :=
  (k.reqs.filter (fun r => (match r.use with | .writeBack _ => true | _ => false) && decide (r.row % 32 = bank))).length

/-- Latch an uncorrectable row (R111, R135). -/
def State.latchUe (s : State) (n row : Nat) (scrub : Bool) : State :=
  s.latchLog (rowsReg n 0x054) (row + (if scrub then 2 ^ 30 else 0))

/-- Read a row through the code (R108, R109, R111): its 512 bytes, none where it is uncorrectable. -/
def State.readRow (s : State) (n row : Nat) (scrub : Bool) : Option Nat × State :=
  let c := s.carry s.rowStore n row
  let r := c.1.get (rowWord n row) 64
  match r.bad with
  | some _ =>
    (none, ((c.2.bump (rowsReg n 0x050) 16 16 1).latchUe n row scrub).irq .rows n (if scrub then 3 else 2))
  | none =>
    if r.fixed = [] then (some r.val, c.2)
    else
      let s1 := (c.2.bump (rowsReg n 0x050) 0 16 1).noteBits c.1 n row r.fixed
      let k := s1.stk n
      let s2 := if k.backs (row % 32) < 4 then
          s1.setStk n { k with reqs := k.reqs ++ [{ use := .writeBack r.fixed, row := row, write := true, born := k.bankCycle.toList.getD (row % 32) 0 }] }
        else s1
      (some r.val, s2)

/-- Drop the write-backs queued for a row (R109): a write to it has been granted. -/
def State.dropBacks (s : State) (n row : Nat) : State :=
  s.setStk n { s.stk n with reqs := (s.stk n).reqs.filter (fun r => !((match r.use with | .writeBack _ => true | _ => false) && decide (r.row = row))) }
/-- Store a row as its bonds carry it to the row-store die. -/
def State.storeRow (s : State) (m : Mem) (n row : Nat) : State :=
  let c := s.carry m n row
  { c.2 with rowStore := c.1 }
/-- Write a row; a write-back queued for it is dropped, so that it never overwrites newer data (R109). -/
def State.writeRow (s : State) (n row v : Nat) : State :=
  (s.dropBacks n row).storeRow (s.rowStore.putWords (rowWord n row) v 64) n row

/-- The class in which a request is arbitrated (R116, R117): the RM requests of a context that is parking are of class D. -/
def State.rowClass (s : State) (n : Nat) (r : RowReq) : RowClass :=
  match r.use with
  | .rm _ .d _ => .d
  | .rm c .p _ => if (s.ctx (50 * n + c.val) .p).mode = .drainPark then .d else .p
  | .xe _ _ => .xe
  | .writeBack _ => .s
  | .scrub => .s

/-- The core of a request of the RM, and whether it came from context P. -/
def reqCore (r : RowReq) : Nat × Bool :=
  match r.use with
  | .rm c x _ => (c.val, decide (x = .p))
  | _ => (0, false)

/-- The next request of a class of cores (R117): round-robin from the core after the one served last; in a core's queue the
requests of context D come first. -/
def nextOfCores (last : Nat) (rs : List RowReq) : Option RowReq :=
  minBy (fun r => 2 * ((reqCore r).1 + 50 - last - 1) % 100 + b2n (reqCore r).2) rs

/-- The entries of a bank's landing buffer that are occupied (R113): rows that have landed and that their RM command cannot move yet, as it moves its
rows in ascending order (R66). What the XE or the scrub reads is taken at once (DEDUCED, log entry 106). -/
def State.landed (s : State) (n bank : Nat) : Nat :=
  ((List.range 50).map (fun c => match (s.core (50 * n + c)).rm with
    | some r => if opOf r.entry.cmd.toNat = 0x41 then 0 else (r.buf.filter (fun e => decide (r.moved ≤ e.1) && decide ((rmRow r.entry + e.1) % 32 = bank))).length
    | none => 0)).sum
/-- The request that a bank grants in this cycle (R117); a read only with one of the two entries of the landing buffer free (R113). -/
def State.rowPick (s : State) (n bank : Nat) : Option RowReq :=
  let k := s.stk n
  let cyc := k.bankCycle.toList.getD bank 0
  let room := decide (s.landed n bank < 2)
  let here := k.reqs.filter (fun r => decide (r.row % 32 = bank) && (r.write || room))
  let of := fun (c : RowClass) => here.filter (fun r => decide (s.rowClass n r = c))
  let d := nextOfCores (k.lastD.toList.getD bank 49).val (of .d)
  let p := nextOfCores (k.lastP.toList.getD bank 49).val (of .p)
  let x := (of .xe).head?
  let sc := (of .s).head?
  match sc with
  | some r =>
    if r.born + 4096 ≤ cyc then some r
    else if cyc % 4 = 0 then x <|> d <|> p <|> sc else d <|> x <|> p <|> sc
  | none => if cyc % 4 = 0 then x <|> d <|> p else d <|> x <|> p

/-- Give the rows of a read piece its data; once every row is there it goes to its destination (R185). -/
def State.xeRowRead (s : State) (n tag idx : Nat) (v : Option Nat) : State :=
  match sfind (s.xe n).pieces tag with
  | none => s
  | some p =>
    match v with
    | none =>
      (s.modPiece n tag (fun q => { q with poison := true, finished := true, rows := q.rows - 1 })).failPiece n p 0x07 p.src 2
    | some d =>
      let s1 := s.modPiece n tag (fun q => { q.fill (512 * idx) d 16 with rows := q.rows - 1 })
      if p.rows = 1 ∧ !p.poison then s1.pieceLand n tag else s1

/-- A row of a piece has been written. -/
def State.xeRowWrote (s : State) (n tag : Nat) : State :=
  s.modPiece n tag (fun q => { q with rows := q.rows - 1, finished := decide (q.rows = 1) })

/-- Perform a granted access (R118). -/
def State.rowAccess (s : State) (n : Nat) (r : RowReq) : State :=
  match r.use with
  | .rm c x idx =>
    let core := 50 * n + c.val
    if r.write then (s.writeRow n r.row (s.rmStoreRow core idx)).rmWrote core x idx
    else
      let v := s.readRow n r.row false
      v.2.rmLanded core x idx v.1
  | .xe tag idx =>
    if r.write then
      let v := match sfind (s.xe n).pieces tag with | some p => p.value / 2 ^ (4096 * idx) | none => 0
      (s.writeRow n r.row v).xeRowWrote n tag
    else
      let v := s.readRow n r.row false
      v.2.xeRowRead n tag idx v.1
  | .writeBack ws => (s.dropBacks n r.row).storeRow (s.rowStore.fix ws) n r.row
  | .scrub => (s.readRow n r.row true).2

/-- ROW_GRANT (R116 to R118, R125): one row-store cycle of a bank, two in half-row mode. -/
def execRowGrant (stack : Fin 40) (bank : Fin 32) (s : State) : Host.Outcome State Fault Refusal :=
  let n := stack.val
  let k := s.stk n
  if !s.stackOn n then .next s
  else
    let step := if k.half then 2 else 1
    match s.rowPick n bank with
    | none => .next (s.setStk n { k with bankCycle := k.bankCycle.set bank (k.bankCycle.get bank + 1) })
    | some r =>
      let cls := s.rowClass n r
      let k1 := { k with bankCycle := k.bankCycle.set bank (k.bankCycle.get bank + step), reqs := dropFirst (fun q => decide (q = r)) k.reqs, lastD := (if cls = .d then k.lastD.set bank (Fin.ofNat 50 (reqCore r).1) else k.lastD), lastP := (if cls = .p then k.lastP.set bank (Fin.ofNat 50 (reqCore r).1) else k.lastP) }
      .next ((s.setStk n k1).rowAccess n r)

/-- ROW_SCRUB (R111): the scrub presents its next row as a request of class S. -/
def execRowScrub (stack : Fin 40) (s : State) : Host.Outcome State Fault Refusal :=
  let n := stack.val
  let k := s.stk n
  if !s.stackOn n ∨ s.fld (rowsReg n 0x05C) 0 1 = 0 then .next s
  else
    let row := k.scrubNext
    .next (s.setStk n { k with scrubNext := (row + 1) % 2097152, reqs := k.reqs ++ [{ use := .scrub, row := row, write := false, born := k.bankCycle.toList.getD (row % 32) 0 }] })

/-- The spare rows that a bank has used, the factory's mappings among them (R110). -/
def State.sparesUsed (s : State) (n bank : Nat) : Nat := sget 0 (s.die (0x80 + n)).fusedRows bank + sget 0 (s.stk n).spareRows bank

/-- What of a stack stays when it is off: retirement, half-row mode, repairs (R498). -/
def Stack.kept (k : Stack) : Stack :=
  { spareRows := k.spareRows, bondFailed := k.bondFailed, repaired := k.repaired, exhausted := k.exhausted, cellDue := k.cellDue, halfDue := k.halfDue, half := k.half, retired := k.retired, retireDue := k.retireDue }
/-- A stack is to be retired (R128): shown in ROWS.MODE, with its interrupt. -/
def State.retireStack (s : State) (n : Nat) : State := (s.setStk n { s.stk n with retireDue := true }).irq .rows n 7
/-- A stack is retired (R29, R112, R128): its domains are off, its rows are lost, the groups of its home channel are OFF but for those retired, bursts for them
go, and an amendment records it. -/
def State.retireNow (s : State) (n : Nat) : State :=
  let home := fun (g : Nat) => decide (24 * n ≤ g) && decide (g < 24 * n + 24)
  let s1 : State := { s.setStk n { (s.stk n).kept with retired := true, retireDue := false } with
    rowStore := s.rowStore.clear (rowKey n 0) (rowKey (n + 1) 0)
    groups := s.groups.filter (fun e => !home e.1 || decide (e.2.state = .retired))
    sites := smapv {} (fun (x : Site) => { x with bursts := x.bursts.filter (fun b => !home b.grp) }) s.sites
    statusQ := s.statusQ.filter (fun m => !home m.grp) }
  s1.amend 0x01 false n 0

/-- SPARE_ROW_REMAP (R110): at a job boundary the corrected contents go to a spare row and the mapping is recorded; a 65th spare row retires the stack. A job
boundary is here any time at which no job is loaded (DESIGN CHOICE, log entry 100). -/
def execSpareRowRemap (stack : Fin 40) (bank : Fin 32) (row : BitVec 16) (s : State) : Host.Outcome State Fault Refusal :=
  let n := stack.val
  let a := bank.val + 32 * row.toNat
  let k := s.stk n
  if s.jobPhase ≠ 0 ∨ !k.remapDue.contains a then .next s
  else
    let s1 := s.setStk n { k with remapDue := k.remapDue.filter (fun r => decide (r ≠ a)) }
    if 64 ≤ s.sparesUsed n bank then .next (s1.retireNow n)
    else
      let s2 := { s1 with rowStore := s1.rowStore.fix (s1.rowStore.get (rowWord n a) 64).fixed }
      let k2 := s2.stk n
      .next ((s2.setStk n { k2 with spareRows := smod 0 k2.spareRows bank (· + 1), ceHist := k2.ceHist.filter (fun e => decide (e.1 / 4608 ≠ a)) }).amend 0x04 false (n * 2 ^ 21 + a) (s.sparesUsed n bank))

/-! ## Bond groups (R119 to R129) -/

/-- The class code of ROWS.BOND_LOG (R135). -/
def bondCode : BondClass → Nat
  | .data => 0
  | .control => 1
  | .clock => 2
  | .power => 3
  | .cell => 4
/-- ROWS.BOND_LOG of a bond (R135), but for its valid bit. -/
def bondLog (b : Bond) : Nat := b.grp % 2 ^ 12 + b.pos % 64 * 2 ^ 12 + bondCode b.cls * 2 ^ 18 + b2n b.base * 2 ^ 21
/-- The resource number under which an amendment names a bond group. -/
def bondResource (n : Nat) (b : Bond) : Nat := n * 2 ^ 16 + b2n b.base * 2 ^ 15 + bondCode b.cls * 2 ^ 12 + b.grp
/-- Whether two bonds are of one group. -/
def bondMate (a b : Bond) : Bool := decide (a.cls = b.cls) && decide (a.base = b.base) && decide (a.grp = b.grp)
/-- The repairs of a stack: the factory's and the field's (R121). -/
def State.repairs (s : State) (n : Nat) : List Bond := (s.die (0x80 + n)).fusedBonds ++ (s.stk n).repaired
/-- The bond that carries a position of a group (R121): positions from the repair position on have moved one bond along. -/
def State.bondAt (s : State) (n : Nat) (b : Bond) : Nat :=
  match (s.repairs n).find? (bondMate b) with
  | some r => if r.pos ≤ b.pos then b.pos + 1 else b.pos
  | none => b.pos
/-- Whether a group's spare is taken: in use, or owed to a bond that has failed. -/
def State.spareTaken (s : State) (n : Nat) (b : Bond) : Bool := (s.repairs n).any (bondMate b) || (s.stk n).bondFailed.any (bondMate b)
/-- Whether 16 words were corrected at a data bond position within 1 ms (R122). -/
def Stack.often (k : Stack) (b : Bond) : Bool :=
  let h := sget [] k.busHist (b.grp * 64 + b.pos)
  decide (16 ≤ h.length) && decide (h.getLast?.getD 0 ≤ h.headD 0 + 1000000)
/-- Whether a bond is found failed (R122): a data bond by its corrected words, any bond by the bond test in Larva, and those of the other classes by the
monitors of their functions. -/
def State.bondShown (s : State) (n : Nat) (b : Bond) : Bool :=
  b.fitted && (decide (s.stage = .larva) || decide (b.cls ≠ .data) || (s.stk n).often b)
/-- The data groups of a bank that have a position no bond serves and no spare. -/
def Stack.lostGroups (k : Stack) (bank : Nat) : Nat := (k.exhausted.filter (fun g => decide (g / 72 = bank))).length
/-- A job fault of class 6 code 1 (R123, R513), where there is a job. -/
def State.verticalFault (s : State) (n : Nat) : State := if 2 ≤ s.jobPhase then s.jobFault 6 1 (0x80 + n) n else s
/-- A group has exhausted its spare (R119, R123, R128, R129): a data group asks for half-row mode, or for retirement where its bank keeps fewer than 36 whole
groups; a group of another class restarts the job, with the stack's retirement or that of the photonic direction it serves to follow. Cell-path groups 4d to
4d + 3 of each interface serve direction d, receive group d or transmit group d − 24 (DESIGN CHOICE, log entry 107). -/
def State.exhaust (s : State) (n : Nat) (b : Bond) : State :=
  let k := s.stk n
  match b.cls with
  | .data =>
    let k1 := { k with exhausted := (if k.exhausted.contains b.grp then k.exhausted else k.exhausted ++ [b.grp]), halfDue := k.halfDue || !k.half }
    let s1 := s.setStk n k1
    if 36 < k1.lostGroups (b.grp / 72) then s1.retireStack n else s1
  | .cell => (s.setStk n { k with cellDue := if k.cellDue.contains (b.grp / 4) then k.cellDue else k.cellDue ++ [b.grp / 4] }).verticalFault n
  | _ => (s.retireStack n).verticalFault n

/-- BOND_FAIL_DECLARE (R119, R120, R122, R123): the bond is declared failed and its position logged; where the group's spare is taken already, the group is
exhausted. -/
def execBondFailDeclare (stack : Fin 40) (kind : BondClass × Bool) (grp pos : Nat) (s : State) : Host.Outcome State Fault Refusal :=
  let bond : Bond := ⟨kind.1, kind.2, grp, pos⟩
  let n := stack.val
  let k := s.stk n
  if !s.bondShown n bond ∨ k.bondFailed.contains bond then .next s
  else
    let s1 := ((s.latchLog (rowsReg n 0x04C) (bondLog bond)).irq .rows n 0).setStk n
      { k with busHist := serase k.busHist (bond.grp * 64 + bond.pos), bondFailed := k.bondFailed ++ [bond] }
    .next (if s.spareTaken n bond then s1.exhaust n bond else s1)

/-- Repair a group by a shift from the failed position on, and record it (R121). -/
def State.repairBond (s : State) (n : Nat) (b : Bond) : State :=
  let k := s.stk n
  (s.setStk n { k with bondFailed := k.bondFailed.filter (fun x => decide (x ≠ b)), repaired := k.repaired ++ [b] }).amend 0x03 false (bondResource n b) b.pos
/-- Whether a failed bond of a stack can be repaired: its group's spare is free. -/
def State.repairable (s : State) (n : Nat) (b : Bond) : Bool := (s.stk n).bondFailed.contains b && !(s.repairs n).any (bondMate b)
/-- A stack enters half-row mode, and an amendment records it (R123, R127). -/
def State.enterHalf (s : State) (n : Nat) : State :=
  ((s.setStk n { s.stk n with half := true, halfDue := false }).irq .rows n 1).amend 0x02 false n 0
/-- BOND_REPAIR (R121, R123, R124): in the idle interval, or in Larva, a group whose spare is free is repaired. -/
def execBondRepair (stack : Fin 40) (kind : BondClass × Bool) (place : Nat × Nat) (s : State) : Host.Outcome State Fault Refusal :=
  let bond : Bond := ⟨kind.1, kind.2, place.1, place.2⟩
  if (s.idleInterval ∨ s.stage = .larva) ∧ s.repairable stack bond then .next (s.repairBond stack bond) else .next s
/-- HALF_ROW_ENTRY (R123 to R127): in the idle interval, or in Larva. -/
def execHalfRowEntry (stack : Fin 40) (s : State) : Host.Outcome State Fault Refusal :=
  if (s.idleInterval ∨ s.stage = .larva) ∧ (s.stk stack).halfDue ∧ !(s.stk stack).half then .next (s.enterHalf stack) else .next s
/-- The repairs and the half-row mode of a stack that are still to be made, as a job restart makes them (R123, R517 t3). -/
def State.bondActions (s : State) (n : Nat) : State :=
  let s1 := (s.stk n).bondFailed.foldl (fun t b => if t.repairable n b then t.repairBond n b else t) s
  if (s1.stk n).halfDue ∧ !(s1.stk n).half then s1.enterHalf n else s1

/-! ## The governor (R130 to R134) -/

/-- The cap window in units of 10 mW: the average of the last 100 samples (R130). -/
def Stack.window (k : Stack) : Nat := if k.samples.isEmpty then 0 else 10 * k.samples.sum / k.samples.length
/-- The cap in force in units of 10 mW (R130, R134). -/
def State.cap (s : State) (n : Nat) : Nat :=
  let sus := s.fld (rowsReg n 0x060) 0 8
  100 * (if s.fld (rowsReg n 0x064) 0 1 = 1 then max sus (s.fld (rowsReg n 0x060) 8 8) else sus)

/-- Whether at least four active stacks are limiting now (R433, R436): kept as the time since which they are not. -/
def State.noteDemand (s : State) : State :=
  let few := decide (((List.range 40).filter (fun n => s.stackActive n && (s.stk n).limiting)).length < 4)
  { s with power := { s.power with demandSince := if few then some (s.power.demandSince.getD s.now) else none } }
/-- GOVERNOR_TICK (R131, R133): a window above the cap lowers the ceiling, then raises the duty; one more than 2 W below it
undoes one step; 1 ms above the cap at the floor sets the floor bit. -/
def execGovernorTick (stack : Fin 40) (s : State) : Host.Outcome State Fault Refusal :=
  let n := stack.val
  let k := s.stk n
  if !s.stackOn n then .next s
  else if s.cap n < k.window then
    let atFloor := decide (k.ceiling = 32) && decide (k.duty = 4)
    let since := if atFloor then some (k.floorSince.getD s.now) else none
    let stuck : Bool := match since with | some t => decide (t + 1000000 ≤ s.now) | none => false
    let k1 := { k with limiting := true, limitSince := (if k.limiting then k.limitSince else some s.now), floorSince := since, floor := k.floor || stuck, ceiling := (if 32 < k.ceiling then k.ceiling - 1 else k.ceiling), duty := (if k.ceiling = 32 ∧ k.duty < 4 then k.duty + 1 else k.duty) }
    let s1 := (((s.setStk n k1).bump (rowsReg n 0x070) 0 16 1).irq .rows n 4).noteDemand
    .next (if stuck ∧ !k.floor then (s1.irq .rows n 6).irq .pwr 0 6 else s1)
  else
    let back := decide (k.window + 200 < s.cap n)
    let k1 := { k with limiting := false, limitSince := none, floorSince := none, floor := false, duty := (if back then k.duty - 1 else k.duty), ceiling := (if back ∧ k.duty = 0 ∧ k.ceiling < 80 then k.ceiling + 1 else k.ceiling) }
    .next (s.setStk n k1).noteDemand

/-- POWER_SAMPLE (R130, R132): a sample of the three layers, in 0.1 W, joins the window, and one above 72 W applies the brake
until a sample at or below it. -/
def execPowerSample (stack : Fin 40) (compute rowStore base : BitVec 10) (s : State) : Host.Outcome State Fault Refusal :=
  let n := stack.val
  let k := s.stk n
  if !s.stackOn n then .next s
  else
    let p := compute.toNat + rowStore.toNat + base.toNat
    let brake := decide (720 < p)
    let fresh := brake && !k.brake
    let keep := k.samples.drop (k.samples.length - 99)
    let k1 := { k with samples := keep ++ [p], brake := brake, brakes := (if fresh then k.brakes.filter (fun t => decide (s.now < t + 1000000000)) ++ [s.now] else k.brakes) }
    let s1 := (s.setStk n k1).wr (rowsReg n 0x06C) (BitVec.ofNat 32 (compute.toNat + rowStore.toNat * 2 ^ 10 + base.toNat * 2 ^ 20))
    .next (if fresh then (s1.bump (rowsReg n 0x070) 16 16 1).irq .rows n 5 else s1)

/-- Store the caps, clamped (R134). -/
def State.setCaps (s : State) (n sus surge : Nat) : State := s.wr (rowsReg n 0x060) (BitVec.ofNat 32 (min sus 55 + 256 * min surge 68))
/-- CAP_LIMIT_WRITE. -/
def execCapLimitWrite (ini : Initiator) (ep : Byte) (stack : Fin 40) (sus surge : Byte) (s : State) : Host.Outcome State Fault Refusal :=
  .next (s.busDo ini ep .rows stack 0x060 (fun t => t.setCaps stack sus.toNat surge.toNat))
/-- SURGE_GRANT_WRITE (R130). -/
def execSurgeGrantWrite (ini : Initiator) (ep : Byte) (stack : Fin 40) (grant : Bool) (s : State) : Host.Outcome State Fault Refusal :=
  .next (s.busDo ini ep .rows stack 0x064 (fun t => t.setFld (rowsReg stack 0x064) 0 1 (b2n grant)))

end Sys2Proof.Machine
end

