-- ==== Sys2Proof/Machine/Memory.lean ====
section
/-!
DEFINITION. Sys2Proof/Machine/Memory.lean: the cells that main memory receives and the cells it sends back to a requester (R145 to
R149, R178, R185, R574), the channel controllers (R148, R150 to R152), training (R141, R151) and the Sieve (R154 to R163).
-/
namespace Sys2Proof.Machine

/-- The stack of a compute die's position code, none for another die. -/
def stackOfDie (d : Nat) : Option Nat := if 0x40 ≤ d ∧ d < 0x68 then some (d - 0x40) else none

/-- Whether main memory takes requests: the device in D0 or D1, with its spine trained. -/
def State.memOn (s : State) : Bool := s.spineUp && (decide (s.dst = .d0) || decide (s.dst = .d1))
/-- Whether main memory serves requests: its channels are trained and zero-filled (R151), which one command does for all of them. -/
def State.memServes (s : State) : Bool := s.memOn && s.thirds.all (fun t => decide ((s.chan (128 * t)).mode = .service))

/-- A request for a block of main memory (R148), as its home channel delivers it. -/
def State.mkReq (s : State) (op : MemOp) (src : Byte) (tag : BitVec 16) (addr grp : Nat) : MemReq :=
  { op := op, src := src, tag := tag, blk := s.blkOf addr, pa := addr / 1024 * 1024, born := s.now, grp := grp }

/-- Queue a request, or refuse an address beyond the capacity in service (R140): it is sent to no channel. -/
def State.takeMem (s : State) (addr : Nat) (r : MemReq) : State :=
  if s.memOn ∧ s.inCapacity addr then s.acceptReq (s.chanOf addr) r else s

/-- MRD (R148): `count` is the unit count less one; a request stays within its block. -/
def execMrd (src : Byte) (tag : BitVec 16) (grp : BitVec 5) (blk : BitVec 32) (first count : BitVec 4) (s : State) :
    Host.Outcome State Fault Refusal :=
  let addr := blk.toNat * 1024
  .next (s.takeMem addr (s.mkReq (.read first.toNat (min (count.toNat + 1) (16 - first.toNat))) src tag addr grp.toNat))

/-- MWR (R148, R574): the cell is accepted and answered with MWACK at once. -/
def execMwr (src : Byte) (tag : BitVec 16) (grp : BitVec 5) (blk : BitVec 32) (chunk : BitVec 5) (data : Payload) (s : State) :
    Host.Outcome State Fault Refusal :=
  let addr := blk.toNat * 1024
  let r := s.mkReq (.write chunk.toNat [data]) src tag addr grp.toNat
  if s.memOn ∧ s.inCapacity addr then
    .next ((s.takeMem addr r).emit (r.answer (s.chanOf addr) 0x05 chunk.toNat 0))
  else .next s

/-- MWRP (R146): queued as a read-modify-write of its unit; a length outside 1 to 16, or a write that leaves its unit, is
taken as far as the unit's end. -/
def execMwrp (src : Byte) (tag : BitVec 16) (grp : BitVec 5) (addr : Dword) (len : BitVec 8) (data : BitVec 128) (s : State) :
    Host.Outcome State Fault Refusal :=
  let a := addr.toNat
  .next (s.takeMem a (s.mkReq (.part (a % 1024) (min (min len.toNat 16) (64 - a % 64)) data) src tag a grp.toNat))

/-- MCAS (R178): the entry is compared and swapped indivisibly, after every access to its unit that arrived earlier, and MCASR
answers; an uncorrectable unit answers with a poison mark (R145). -/
def execMcas (src : Byte) (tag : BitVec 16) (addr expected new : Dword) (s : State) : Host.Outcome State Fault Refusal :=
  let a := addr.toNat / 8 * 8
  if s.memServes ∧ s.inCapacity a then
    let c := s.chanOf a
    let r := s.readEntry a
    let ans := fun (ty : Byte) (pay : Payload) (t : State) =>
      t.emit (.cell ty src (BitVec.ofNat 8 (chanDie c)) (BitVec.ofNat 8 (a / 1024)) 0 tag (BitVec.ofNat 32 (a / 1024)) pay)
    match r.1 with
    | none => .next (ans 0x06 0 r.2)
    | some found =>
      if found = expected then
        .next (ans 0x08 (payload [(0, 8, found.toNat), (8, 1, 1)]) (r.2.storeAt c (s.blkOf a) (a % 1024) new.toNat 8))
      else .next (ans 0x08 (payload [(0, 8, found.toNat), (8, 1, 0)]) r.2)
  else .next s

/-! ## The channel controller (R148 to R152) -/

/-- Whether no earlier request of the queue touches a unit that `r` touches (R149). -/
def firstOnUnits (r : MemReq) : List MemReq → Bool
  | [] => true
  | q :: t => if q = r then true else !(q.clash r) && firstOnUnits r t

/-- The request that a channel takes next (R148): rules 2 to 5, then 7. -/
def Chan.pick (ch : Chan) (now : Nat) (refreshWaits : Bool) : Option MemReq :=
  let q := ch.queue.take 64
  let can := q.filter (fun r => firstOnUnits r q)
  let writes := (q.filter (fun r => r.op.isWrite)).length
  let reads := (q.filter (fun r => r.op.isRead)).length
  (can.find? (fun r => decide (r.born + 1000 ≤ now))) <|>
  (can.find? (fun r => r.op.isRead && decide (ch.openRow.toList.getD (bankOf r.blk) none = some (rowOf r.blk)))) <|>
  (if 32 ≤ writes ∨ reads = 0 then can.find? (fun r => r.op.isWrite) else none) <|>
  (can.find? (fun r => r.op.isRead)) <|>
  (if refreshWaits then none else can.find? (fun r => r.op.isBack))

/-- A bank with at least `n` refreshes postponed. -/
def Chan.refreshBank (ch : Chan) (n : Nat) : Option (Fin 16) := (List.finRange 16).find? (fun b => decide (n ≤ ch.refresh.get b))

/-- Refresh a bank: one postponed refresh fewer, and its row is closed. -/
def Chan.doRefresh (ch : Chan) (b : Fin 16) : Chan :=
  { ch with refresh := ch.refresh.set b (ch.refresh.get b - 1), openRow := ch.openRow.set b none }

/-- MEM_COMMAND_ISSUE (R148): one choice of a channel controller. -/
def execMemCommandIssue (chan : Fin 384) (s : State) : Host.Outcome State Fault Refusal :=
  let c := chan.val
  let ch := s.chan c
  if ch.mode ≠ .service ∨ !s.memOn then .next s
  else
    match ch.refreshBank (max 1 Config.refreshLimit) with
    | some b => .next (s.setChan c (ch.doRefresh b))
    | none =>
      match ch.pick s.now (ch.refreshBank 1).isSome with
      | some r => .next (s.runReq c r)
      | none =>
        match ch.refreshBank 1 with
        | some b => .next (s.setChan c (ch.doRefresh b))
        | none => .next s

/-- The local physical address of block `a` of a channel (R140). -/
def State.blockAddr (s : State) (chan a : Nat) : Nat :=
  let q := s.w * a + s.thirds.idxOf (chan / 128)
  (q * 128 + ((chan % 128) ^^^ fold7 q)) * 1024

/-- MEM_SCRUB (R147): the scrub queues a read of its next block. -/
def execMemScrub (chan : Fin 384) (s : State) : Host.Outcome State Fault Refusal :=
  let c := chan.val
  let ch := s.chan c
  if ch.mode ≠ .service ∨ !s.memOn ∨ s.fld (chanReg c 0x054) 0 1 = 0 then .next s
  else
    let a := ch.scrubNext
    let ch1 := { ch with scrubNext := (a + 1) % 2 ^ 23, passes := (if a + 1 = 2 ^ 23 then ch.passes + 1 else ch.passes) }
    .next ((s.setChan c ch1).acceptReq c { op := .scrub, src := 0, tag := 0, blk := a, pa := s.blockAddr c a, born := s.now, grp := 0 })

/-- REFRESH_DUE (R150): one more refresh of the bank is due; at the package's limit it is urgent. -/
def execRefreshDue (chan : Fin 384) (bank : Fin 16) (s : State) : Host.Outcome State Fault Refusal :=
  let c := chan.val
  let ch := s.chan c
  if ch.mode ≠ .service then .next s
  else
    let n := ch.refresh.get bank + 1
    let s1 := s.setChan c { ch with refresh := ch.refresh.set bank n }
    .next (if Config.refreshLimit ≤ n then s1.irq .mchan c 5 else s1)

/-- A retraining of a channel becomes pending (R152). -/
def Chan.askRetrain (ch : Chan) (now : Nat) : Chan := { ch with retrainDue := some (ch.retrainDue.getD now) }

/-- REFRESH_RATE_CHANGE (R150). -/
def execRefreshRateChange (chan : Fin 384) (rate : Fin 3) (s : State) : Host.Outcome State Fault Refusal :=
  let c := chan.val
  let ch := s.chan c
  if ch.rate = rate then .next s else .next (s.setChan c ({ ch with rate := rate }.askRetrain s.now))

/-- A failed retraining keeps the settings; the third in a row takes the channel out at the restart of the job (R141, R152). -/
def State.retrainFailed (s : State) (c : Nat) : State :=
  let ch := s.chan c
  let n := ch.retrainFails + 1
  let s1 := (s.setChan c { ch.askRetrain s.now with retrainFails := n, outDue := ch.outDue || decide (3 ≤ n) }).irq .mchan c 3
  if n = 3 then s1.irq .mchan c 4 else s1

/-- The end of a retraining of a channel (R152), which measures the starting points of its training anew (R457). -/
def State.retrained (s : State) (c : Nat) (good : Bool) : State :=
  if good then (s.setChan c { s.chan c with retrainDue := none, retrainFails := 0, lastRetrain := s.now }).userChanged [0x20000 + c] else s.retrainFailed c

/-- When a channel's retraining became due: on its trigger, or when MCHAN.RETRAIN_CTL.interval_ms has passed (R152). -/
def State.retrainSince (s : State) (c : Nat) : Option Nat :=
  let ch := s.chan c
  let t := ch.lastRetrain + 1000000 * s.fld (chanReg c 0x060) 0 16
  match ch.retrainDue with
  | some d => some (min d t)
  | none => if t ≤ s.now then some t else none

/-- CHANNEL_RETRAIN (R152): in the idle interval. -/
def execChannelRetrain (chan : Fin 384) (good : Bool) (s : State) : Host.Outcome State Fault Refusal :=
  if (s.chan chan).mode = .service ∧ s.idleInterval ∧ (s.retrainSince chan).isSome then .next (s.retrained chan good) else .next s

/-- RETRAIN_DEADLINE (R152): 10 s after the trigger without an idle interval. -/
def execRetrainDeadline (chan : Fin 384) (good : Bool) (s : State) : Host.Outcome State Fault Refusal :=
  match s.retrainSince chan with
  | none => .next s
  | some t =>
    if (s.chan chan).mode = .service ∧ t + 10000000000 ≤ s.now then .next (s.retrained chan good) else .next s

/-- A source of R397 loses its reference (cause 1) or lock (2), or has a jitter (3) or duty-cycle alarm (4) (R418): counted, the first one
logged since PLL_CNT was read. -/
def State.pllEvent (s : State) (cls inst cause : Nat) : State :=
  ((s.bump (regAddr .timebase 0 0x074) (if cause ≤ 2 then 0 else 16) 16 1).latchLog (regAddr .timebase 0 0x070) (cls + inst % 2048 * 2 ^ 4 + cause * 2 ^ 15)).irq .timebase 0 5
/-- PHY_PLL_ALARM (R398, R418): the 12 channels of the PHY are to be retrained; one that persists counts as a failed retraining. Whether jitter
or the duty cycle raised it is free. -/
def execPhyPllAlarm (phy : Fin 32) (persists : Bool) (s : State) : Host.Outcome State Fault Refusal :=
  let x := s.fresh
  .next ((List.range 12).foldl (fun t i =>
    let c := 12 * phy.val + i
    if (t.chan c).mode ≠ .service then t
    else if persists then t.retrainFailed c else t.setChan c ((t.chan c).askRetrain t.now)) (x.2.pllEvent 5 phy (if Config.freeBool x.1 then 3 else 4)))

/-- Take the thirds of failed channels out of service (R141): the failed channels read FAILED, the others of those thirds OFF. -/
def State.dropThirds (s : State) (failed : List Nat) : State :=
  let lost := [0, 1, 2].filter (fun t => failed.any (fun c => decide (c / 128 = t)))
  let fresh := lost.filter (fun t => s.thirds.contains t)
  let s1 := { s with thirds := s.thirds.filter (fun t => !lost.contains t) }
  let s2 := (List.range 384).foldl (fun t c =>
    if lost.contains (c / 128) then
      (if failed.contains c then (t.setChan c { t.chan c with mode := .failed, outDue := false }).irq .mchan c 4
       else if (t.chan c).mode = .failed then t else t.setChan c { t.chan c with mode := .off })
    else t) s1
  fresh.foldl (fun t x => t.amend 0x05 false x 0) s2

/-- MEMORY_TRAINING (R141, R142, R151): in Larva every channel of the thirds in service is trained; `tries` gives the channels that failed attempts, with how many. One that
failed three is out; the rest are zero-filled with valid check bits and serve, and requests that waited are performed then. A job that outlives Larva (R515) finds nothing resident at its
restart. With no third left the device stops in Larva. -/
def execMemoryTraining (tries : List (Fin 384 × Fin 4)) (s : State) : Host.Outcome State Fault Refusal :=
  if s.stage ≠ .larva ∨ !s.spineUp ∨ s.bootWait = 7 then .next s
  else
    let failed := fun (c : Nat) => ((tries.filter (fun e => decide (e.1.val = c))).map (fun e => e.2.val)).foldl max 0
    let fs := (List.range 384).filter (fun c => s.thirds.contains (c / 128) && decide (3 ≤ failed c))
    let s1 := (List.range 384).foldl (fun t c =>
      if s.thirds.contains (c / 128) then
        t.setChan c { mode := .service, failedTrain := (t.chan c).failedTrain + failed c, queue := (t.chan c).queue, rate := (t.chan c).rate, ueUnits := (t.chan c).ueUnits, lastRetrain := t.now }
      else t) s
    let s2 := s1.dropThirds fs
    .next { s2 with mainMem := {}, job := { s2.job with w := 0 }, bootWait := (if s2.thirds.isEmpty then 7 else s2.bootWait) }

/-! ## Cells that reach a requester (R185) -/

/-- Whether a tag is that of a completion record (R187). -/
def isRecordTag (tag : BitVec 16) : Bool := decide (0x8000 ≤ tag.toNat)

/-- MRSP (R185): the chunk joins its piece, and the last one sends the piece on to its destination. -/
def execMrsp (dst : Byte) (tag : BitVec 16) (chunk : BitVec 5) (data : Payload) (s : State) : Host.Outcome State Fault Refusal :=
  match stackOfDie dst.toNat with
  | none => .next s
  | some n =>
    match sfind (s.xe n).pieces tag.toNat with
    | none => .next s
    | some p =>
      let first := p.src % 1024 / 32
      if p.sieve ∨ p.finished ∨ p.srcSpace.val ≠ 0 ∨ chunk.toNat < first ∨ first + p.len / 32 ≤ chunk.toNat ∨ p.full then .next s
      else
        let q := p.fill (32 * (chunk.toNat - first)) data.toNat 1
        let s1 := s.modPiece n tag.toNat (fun _ => q)
        .next (if q.full then s1.pieceLand n tag.toNat else s1)

/-- MWACK (R574): the piece is finished when its last cell is acknowledged. -/
def execMwack (dst : Byte) (tag : BitVec 16) (chunk : BitVec 5) (s : State) : Host.Outcome State Fault Refusal :=
  match stackOfDie dst.toNat with
  | none => .next s
  | some n =>
    match sfind (s.xe n).pieces tag.toNat with
    | none => .next s
    | some p =>
      let first := p.dst % 1024 / 32
      if p.dstSpace.val ≠ 0 ∨ p.sieve ∨ isRecordTag tag ∨ chunk.toNat < first ∨ first + p.len / 32 ≤ chunk.toNat then .next s
      else
        let acked := p.acked ||| BitVec.twoPow 32 (chunk.toNat - first)
        .next (s.modPiece n tag.toNat (fun q => { q with acked := acked, finished := q.finished || decide (popCount acked.toNat 32 = p.len / 32) }))

/-! ## The Sieve (R154 to R163) -/

/-- A SIEVE register. -/
def sieveReg (u off : Nat) : Nat := regAddr .sieve u off

/-- SVOP (R154, R161): the two cells of a record arrive in order, and a record joins the unit's queue, of 16 operations, when both are there. -/
def execSvop (unit : Fin 64) (src : Byte) (tag : BitVec 16) (blk : BitVec 32) (chunk : BitVec 5) (data : Payload) (s : State) :
    Host.Outcome State Fault Refusal :=
  let q := sget [] s.sieves unit
  let mine := fun o : SieveOp => decide (o.src = src) && decide (o.tag = tag) && !o.full
  let q1 := if q.any mine then modFirst mine (fun o => { o with chunk1 := data, full := true }) q
    else q ++ [{ src := src, tag := tag, pa := blk.toNat * 1024 + 32 * chunk.toNat, chunk0 := data }]
  if s.memOn ∧ (q.any mine ∨ q.length < 16) then .next { s with sieves := sset [] s.sieves unit q1 } else .next s

/-- Read `n` bytes of main memory in the present step, none where a unit of them is uncorrectable. -/
def State.readSpan (s : State) (pa n : Nat) : Option Nat × State :=
  let r := s.readBulk (pa / 64 * 64) ((pa % 64 + n + 63) / 64)
  (r.1.map (fun v => bits v (8 * (pa % 64)) (8 * n)), r.2)
/-- Write `n` bytes of main memory in the present step; one that leaves part of a unit is a read-modify-write, not performed
over an uncorrectable word (R146): whether it was performed, and the state. -/
def State.writeSpan (s : State) (pa v n : Nat) : Bool × State :=
  if pa % 64 = 0 ∧ n % 64 = 0 then (true, s.writeBulk pa v (n / 64))
  else
    let k := (pa % 64 + n + 63) / 64
    let r := s.readBulk (pa / 64 * 64) k
    match r.1 with
    | none => (false, r.2)
    | some old => (true, r.2.writeBulk (pa / 64 * 64) (putBits old (8 * (pa % 64)) (8 * n) v) k)

/-- A key element as FP32 (R155): every key format converts exactly. -/
def keyElem (fmt raw : Nat) : Word :=
  if fmt = 7 then widen (BitVec.ofNat 16 raw)
  else (toF32 (decodeFloat (if fmt = 2 then fmtE4M3 else fmtE5M2) raw, 0)).1

/-- The least (or greatest) of a dimension over its tokens in BF16, −0 below +0, the canonical NaN if any is a NaN (R156). -/
def sketchBound (greatest : Bool) (vs : List Word) : Nat :=
  if vs.any isNanF32 then 0x7FC0
  else
    let pick := fun (a b : Word) => if greatest then (if orderKey a < orderKey b then b else a) else (if orderKey b < orderKey a then b else a)
    match vs with
    | [] => 0
    | v :: t => (t.foldl pick v).toNat / 65536

/-- The sketch of a key page (R156). -/
def sketchOf (fmt dh tok page : Nat) : Nat :=
  let e := 8 * (keySize fmt).getD 1
  let dim := fun d => (List.range tok).map (fun t => keyElem fmt (bits page (e * (t * dh + d)) e))
  packNat 16 ((List.range dh).map (fun d => sketchBound false (dim d))) + 2 ^ (16 * dh) * packNat 16 ((List.range dh).map (fun d => sketchBound true (dim d)))

/-- The bound of one query vector against a sketch (R158). -/
def vectorScore (dh q sketch : Nat) : Word :=
  (List.range dh).foldl (fun acc d =>
    let x := widen (BitVec.ofNat 16 (bits q (16 * d) 16))
    let y := widen (BitVec.ofNat 16 (bits sketch (16 * (if geF32 x 0 then dh + d else d)) 16))
    (addF32 acc (mulF32 x y).1).1) 0

/-- The score of a page (R158). -/
def pageScore (dh nq vecs sketch : Nat) : Word :=
  let ss := (List.range nq).map (fun j => vectorScore dh (bits vecs (16 * dh * j) (16 * dh)) sketch)
  if ss.any isNanF32 then nanF32
  else
    match ss with
    | [] => 0
    | x :: t => t.foldl (fun a b => if gtF32 b a then b else a) x

/-- Whether page `a` ranks before page `b` (R159): by score, NaN last, then the lower index. -/
def ranksBefore (a b : Nat × Word) : Bool :=
  if isNanF32 a.2 then isNanF32 b.2 && decide (a.1 < b.1)
  else if isNanF32 b.2 then true
  else gtF32 a.2 b.2 || (!gtF32 b.2 a.2 && decide (a.1 < b.1))

/-- Put a page into a list in rank order. -/
def rankInsert (a : Nat × Word) : List (Nat × Word) → List (Nat × Word)
  | [] => [a]
  | b :: t => if ranksBefore a b then a :: b :: t else b :: rankInsert a t

/-- The pages a query selects, ascending (R159). -/
def selectPages (np ksel : Nat) (forced : List Nat) (scores : List (Nat × Word)) : List Nat :=
  let f := forced.dedup
  let best := ((scores.filter (fun p => !f.contains p.1)).foldl (fun acc p => rankInsert p acc) []).take (ksel - f.length)
  (List.range np).filter (fun i => f.contains i || best.any (fun p => decide (p.1 = i)))

/-- Complete the head operation of a Sieve (R160, R166): its status counts, and SVDONE returns it. -/
def State.sieveDone (s : State) (u : Nat) (o : SieveOp) (status : Nat) : State :=
  let s1 := ({ s with sieves := sset [] s.sieves u (sget [] s.sieves u).tail }).bump (sieveReg u 0x04C) 0 32 1
  let s2 := if status = 0 then s1 else (s1.bump (sieveReg u 0x054) 16 16 1).setFld (sieveReg u 0x054) 0 8 status
  let s3 := if 1 ≤ status ∧ status ≤ 3 then s2.irq .sieve u 0 else s2
  let s4 := if status = 4 then (s3.irq .sieve u 1).jobFault 2 5 (0x10 + u / 4) u else s3
  s4.emit (.cell 0x0A o.src (BitVec.ofNat 8 (0x10 + u / 4)) 0 0 o.tag (BitVec.ofNat 32 (o.pa / 1024)) (payload [(0, 1, status)]))

/-- The header of a query's result with no page list (R160). -/
def resultHeader (status nsel : Nat) : Nat := status + 2 ^ 16 * nsel

/-- The head operation of a Sieve, once its record is whole, with the record. -/
def State.sieveHead (s : State) (u : Nat) : Option (SieveOp × Nat) :=
  match sget [] s.sieves u with
  | [] => none
  | o :: _ => if o.full then some (o, o.chunk0.toNat + 2 ^ 256 * o.chunk1.toNat) else none

/-- The status a Sieve finds before it works: OFFLINE for a disabled unit, else what the record gives (R160). -/
def State.sievePre (s : State) (u r : Nat) : Nat :=
  if s.fld (sieveReg u 0x044) 0 1 = 0 then 5 else if sieveStatus r ≠ 0 then sieveStatus r else if rangeMarked r then 3 else 0

/-- SIEVE_SEAL (R156, R160): the head of the queue, where it is no query. -/
def execSieveSeal (unit : Fin 64) (s : State) : Host.Outcome State Fault Refusal :=
  let u := unit.val
  match s.sieveHead u with
  | none => .next s
  | some (o, r) =>
    if bits r 0 8 = 2 ∨ !s.memServes then .next s
    else
      let st := s.sievePre u r
      if st ≠ 0 then .next (s.sieveDone u o st)
      else
        let fmt := bits r 8 8
        let dh := bits r 16 16
        let page := s.readSpan (bits r 64 64) (bits r 32 16 * dh * (keySize fmt).getD 1)
        match page.1 with
        | none => .next (page.2.sieveDone u o 4)
        | some v =>
          let w := page.2.writeSpan (bits r 128 64) (sketchOf fmt dh (bits r 32 16) v) (4 * dh)
          .next (w.2.sieveDone u o (if w.1 then 0 else 4))

/-- Read the sketches of a table in turn and score them (R158): the scores up to the first that is uncorrectable, which ends the work. -/
def State.scoreAll (s : State) (base dh nq vecs : Nat) : Nat → List (Nat × Word) × State
  | 0 => ([], s)
  | n + 1 =>
    let rest := s.scoreAll base dh nq vecs n
    if rest.1.length < n then rest
    else
      let x := rest.2.readSpan (base + 4 * dh * n) (4 * dh)
      match x.1 with
      | some v => (rest.1 ++ [(n, pageScore dh nq vecs v)], x.2)
      | none => (rest.1, x.2)

/-- SIEVE_QUERY (R157 to R160). -/
def execSieveQuery (unit : Fin 64) (s : State) : Host.Outcome State Fault Refusal :=
  let u := unit.val
  match s.sieveHead u with
  | none => .next s
  | some (o, r) =>
    if bits r 0 8 ≠ 2 ∨ !s.memServes then .next s
    else
      let st := s.sievePre u r
      if st ≠ 0 then .next (s.sieveDone u o st)
      else
        let dh := bits r 16 16
        let nq := bits r 8 8
        let np := bits r 128 32
        let vecs := s.readSpan (o.pa + 64) (2 * dh * nq)
        match vecs.1 with
        | none => .next (vecs.2.sieveDone u o 4)
        | some qv =>
          let sc := vecs.2.scoreAll (bits r 64 64) dh nq qv np
          let s1 := sc.2.bump (sieveReg u 0x050) 0 32 sc.1.length
          if sc.1.length < np then .next (s1.sieveDone u o 4)
          else
            let sel := selectPages np (bits r 32 16) ((List.range (bits r 48 8)).map (fun i => bits r (256 + 16 * i) 16)) sc.1
            let v := resultHeader 0 sel.length + 2 ^ 128 * packNat 32 sel
            let w := s1.writeSpan (bits r 192 64) v ((16 + 4 * sel.length + 63) / 64 * 64)
            .next (w.2.sieveDone u o (if w.1 then 0 else 4))

/-- SVDONE (R185, R188): the status of the operation becomes that of its descriptor, and the piece is finished. -/
def execSvdone (stack : Fin 40) (tag : BitVec 16) (status : Byte) (s : State) : Host.Outcome State Fault Refusal :=
  let n := stack.val
  match sfind (s.xe n).pieces tag.toNat with
  | none => .next s
  | some p =>
    if !p.sieve then .next s
    else
      .next ((s.modPiece n tag.toNat (fun q => { q with finished := true })).modChain n p.seq (fun k =>
        { k with descs := modFirst (fun d => decide (d.idx = p.idx)) (fun d => { d with status := status }) k.descs }))

end Sys2Proof.Machine
end

