-- ==== Sys2Proof/Machine/Photonic.lean ====
section
/-!
DEFINITION. Sys2Proof/Machine/Photonic.lean: home channels, tokens, bursts, lanes and groups of the base (R200 to R232), the retry
of a spine hop (R233) and die identification (R22, R237).
-/
namespace Sys2Proof.Machine

/-! ## Where things are (R200 to R205, R244) -/

/-- The home channel of a device-wide group number (R200). -/
def grpHome (g : Nat) : Nat := if g < 960 then g / 24 else if g < 1152 then 40 + (g - 960) / 12 else 56 + (g - 1152) / 2
/-- The group number within its home channel (R200). -/
def grpNo (g : Nat) : Nat := if g < 960 then g % 24 else if g < 1152 then (g - 960) % 12 else (g - 1152) % 2
/-- The groups of a home channel (R200). -/
def homeGroups (h : Nat) : List Nat :=
  if h < 40 then (List.range 24).map (· + 24 * h)
  else if h < 56 then (List.range 12).map (· + (960 + 12 * (h - 40)))
  else (List.range 2).map (· + (1152 + 2 * (h - 56)))
/-- The data waveguide of a group (R200, R244). -/
def grpWave (g : Nat) : Nat :=
  let h := grpHome g
  let w := grpNo g / 4
  if h < 40 then 6 * h + w else if h < 56 then 240 + 3 * (h - 40) + w else 288 + (h - 56)
/-- The laser input fibre that feeds a group (R244). -/
def grpFibre (g : Nat) : Nat := grpWave g % 24
/-- The slot of a slot offset of a group (R200). -/
def grpSlot (g off : Nat) : Nat := 10 * (grpNo g % 4) + off

/-- The sites in the order of the serpentine (R205). -/
def serpentine : List Nat :=
  [56, 57, 58] ++ [48, 49, 50, 51, 52, 53, 54, 55] ++ (List.range 8).map (39 - ·) ++ (List.range 8).map (24 + ·) ++
  (List.range 8).map (23 - ·) ++ (List.range 8).map (8 + ·) ++ (List.range 8).map (7 - ·) ++ (List.range 8).map (40 + ·)
/-- The serpentine position of a site. -/
def sitePos (site : Nat) : Nat := serpentine.idxOf site
/-- The upstream distance of a site for a home channel (R205). -/
def upstream (home site : Nat) : Nat := (sitePos site + 59 - sitePos home - 1) % 59
/-- The transmitters of a site (R202). -/
def txFitted (site : Nat) : Nat := if site < 40 then 24 else if site < 56 then 64 else 2
/-- Whether a site has modulators on a group (R203). -/
def inReach (site g : Nat) : Bool :=
  let h := grpHome g
  decide (site ≠ h) && (decide (40 ≤ h) || (decide (40 ≤ site) && decide (site < 56)) || decide (grpNo g < 4))
/-- The position code of the die that reads a home channel (R21). -/
def homeDie (h : Nat) : Nat := if h < 40 then 0x40 + h else if h < 56 then 0x10 + (h - 40) else 0x01 + (h - 56)

/-- A group. -/
def State.grp (s : State) (g : Nat) : Group := sget {} s.groups g
/-- Replace a group. -/
def State.setGrp (s : State) (g : Nat) (x : Group) : State := { s with groups := sset {} s.groups g x }
/-- Update a group. -/
def State.modGrp (s : State) (g : Nat) (f : Group → Group) : State := s.setGrp g (f (s.grp g))
/-- A writer site. -/
def State.site (s : State) (n : Nat) : Site := sget {} s.sites n
/-- Replace a writer site. -/
def State.setSite (s : State) (n : Nat) (x : Site) : State := { s with sites := sset {} s.sites n x }
/-- A PHO_HOME register of a group's home channel. -/
def homeReg (g off : Nat) : Nat := regAddr .phoHome (grpHome g) off
/-- A PHO_SITE register. -/
def siteReg (n off : Nat) : Nat := regAddr .phoSite n off
/-- A lane of a group. -/
def Group.lane (x : Group) (o : Nat) : Lane := x.lanes.toList.getD o {}
/-- Replace a lane of a group. -/
def Group.setLane (x : Group) (o : Nat) (l : Lane) : Group := { x with lanes := x.lanes.setIfInBounds o l }
/-- Update a lane of a group. -/
def State.modLane (s : State) (g o : Nat) (f : Lane → Lane) : State := s.modGrp g (fun x => x.setLane o (f (x.lane o)))

/-- Record an amendment at the next job boundary, at once when no job is loaded (R232). -/
def State.amendLater (s : State) (kind : Nat) (bound : Bool) (res value : Nat) : State :=
  if s.jobPhase = 0 then s.amend kind bound res value
  else { s with vault := { s.vault with amendDue := s.vault.amendDue ++ [⟨kind, bound, objVersion s.vault.folio, s.vault.hours, res, value⟩] } }

/-! ## Cells (R223, R224) -/

/-- One bit of the reflected CRC-32C (R223). -/
def crcBit (c : Nat) : Nat := if c % 2 = 1 then (c / 2) ^^^ 0x82F63B78 else c / 2
/-- Fold `n` bytes of `v` into a CRC. -/
def crcBytes (c v : Nat) : Nat → Nat
  | 0 => c
  | n + 1 =>
    let x := c ^^^ (v % 256)
    crcBytes (crcBit (crcBit (crcBit (crcBit (crcBit (crcBit (crcBit (crcBit x)))))))) (v / 256) n
/-- CRC-32C of the low `n` bytes of `v` (R223). -/
def crc32c (v n : Nat) : Nat := crcBytes 0xFFFFFFFF v n ^^^ 0xFFFFFFFF
/-- Whether a cell's CRC is good. -/
def cellGood (c : CellBits) : Bool := decide (crc32c c.toNat 44 = bits c.toNat 352 32)
/-- Put burst id and index into a cell's header, with its CRC (R223, R224). -/
def stampCell (c : CellBits) (id idx : Nat) : CellBits :=
  let v := putBits c.toNat 24 8 (id + 16 * idx)
  BitVec.ofNat 384 (putBits v 352 32 (crc32c v 44))
/-- Whether a cell type of R225 is one that the reader discards. -/
def typeReserved (t : Nat) : Bool := decide (t = 0) || (decide (0x0B ≤ t) && decide (t < 0x10)) || decide (0x40 ≤ t)

/-! ## Tokens and bursts (R210 to R222) -/

/-- The groups whose tokens a site holds. -/
def State.holds (s : State) (site : Nat) : List Nat := (s.groups.filter (fun e => decide (e.2.token = .held site))).map Prod.fst
/-- A free transmitter of a site (R202). -/
def State.freeTx (s : State) (site : Nat) : Option Nat :=
  let x := s.site site
  let held := s.holds site
  let busy := (x.bursts.filter (fun b => held.contains b.grp)).map (fun b => b.tx)
  (List.range (txFitted site)).find? (fun i => !x.gone.contains i && !busy.contains i)
/-- The transmitters of a site in service. -/
def State.txCount (s : State) (site : Nat) : Nat := txFitted site - (s.site site).gone.length

/-- Whether the cells of a burst keep the order of R222: no cell with one of their order keys to that reader awaits status on
another group. -/
def State.orderKept (s : State) (site g : Nat) (cells : List CellBits) : Bool :=
  (s.site site).bursts.all (fun b => decide (b.grp = g) || decide (grpHome b.grp ≠ grpHome g) ||
    b.cells.all (fun c => cells.all (fun d => decide (bits c.toNat 32 8 ≠ bits d.toNat 32 8))))

/-- The sites that the token passes between two upstream distances, going round (R205). -/
def passed (home from_ to_ : Nat) : List Nat :=
  (List.range 59).filter (fun site =>
    let d := upstream home site
    if from_ < to_ then decide (from_ < d) && decide (d < to_) else decide (from_ < d) || decide (d < to_))

/-- Whether a writer has the group out of its reach (R260, R263). -/
def Group.isAway (x : Group) (n : Nat) : Bool := x.away.any (fun e => decide (e.1 = n))
/-- Whether a site's relay is in bypass (R239). -/
def State.bypassed (s : State) (site : Nat) : Bool := decide (s.fld (siteReg site 0x04C) 0 1 = 1)
/-- Whether a writer may take the token of a group that reaches it (R203, R204, R212), but for pass-once and the master's hold. -/
def State.mayCapture (s : State) (site g : Nat) : Bool :=
  let x := s.grp g
  let held := s.holds site
  inReach site g && !x.isAway site && decide (x.blockFor = 0) && !x.paused && !s.bypassed site &&
  decide ((held.filter (fun k => decide (grpHome k = grpHome g))).length < s.fld (siteReg site 0x048) 0 4) &&
  decide (held.length < s.txCount site)

/-- The burst a writer sends on a group when it captures its token: one to be sent again, or a new one of its first 16 cells (R213); none
while an earlier burst awaits its status, or a retried one waits for its 10 µs (R212, R221, R222). -/
def State.burstToSend (s : State) (site g tx : Nat) (cells : List CellBits) : Option Burst :=
  match (s.site site).bursts.find? (fun b => decide (b.grp = g)) with
  | some b =>
    if b.due = 0 ∨ (b.limitAt.isSome ∧ s.now < b.sentAt + 10000) then none else some { b with tx := tx }
  | none =>
    let first := cells.take 16
    if first.isEmpty ∨ !s.orderKept site g first then none
    else
      let id := sget 0 (s.site site).nextId g
      let stamped := (List.range first.length).map (fun i => stampCell (first.getD i 0) id i)
      some { grp := g, id := id, cells := stamped, tx := tx }

/-- Keep a burst at its writer until its status arrives (R221). -/
def Site.keep (x : Site) (b : Burst) : Site :=
  if x.bursts.any (fun k => decide (k.grp = b.grp)) then
    { x with bursts := x.bursts.map (fun k => if k.grp = b.grp then b else k) }
  else { x with bursts := x.bursts ++ [b], nextId := sset 0 x.nextId b.grp ((b.id + 1) % 16) }

/-- The slots on which a burst's lanes travel, each with its code groups (R201, R209, R229): the lane map, and for a lane being spared the slot that
duplicates it; nothing else carries modulation. -/
def Group.slotsOf (x : Group) (lanes : List (List (BitVec 10))) : List (Nat × List (BitVec 10)) :=
  (List.finRange 8).flatMap (fun k =>
    let l := lanes.getD k.val []
    let also := match x.sparing with | some p => if p.lane = k then [((if p.switched then p.old else p.new).val, l)] else [] | none => []
    ((x.map.get k).val, l) :: also)
/-- Send a burst (R206, R209): it awaits its status from now on. -/
def State.launch (s : State) (site : Nat) (b : Burst) : State :=
  let cells := b.cells.drop b.start
  let x := s.site site
  let out := burstLanes (sget 0 x.disp b.grp) cells
  let why := if b.due = 4 then b.why else b.due
  let b1 := { b with due := 0, why := 0, tries := b.tries + 1, sentAt := s.now }
  let s1 := (s.setSite site { x.keep b1 with disp := sset 0 x.disp b.grp out.2 }).bump (siteReg site 0x054) 0 32 1
  let s2 := if why = 1 then s1.bump (siteReg site 0x058) 0 16 1 else if why = 2 then s1.bump (siteReg site 0x058) 16 16 1 else s1
  s2.emit (.burst b.grp site b.id cells ((s.grp b.grp).slotsOf out.1))

/-- The number an arbitration ring is kept under. -/
def arbKey (site w : Nat) : Nat := 1000000 + site * 291 + w
/-- Whether a site relays NONE on a waveguide, its arbitration ring having lost lock (R260). -/
def State.relayDark (s : State) (site w : Nat) : Bool := (sget {} s.rings (arbKey site w)).lost
/-- A relay receives a token character that is none of the three, or a code violation (R211): it sends NONE and counts; at the group's own reader site its
master counts. -/
def State.tokenError (s : State) (site g : Nat) : State :=
  let x := s.grp g
  let s1 := if site = grpHome g then s.bump (homeReg g 0x060) 16 16 1 else s.bump (siteReg site 0x060) 0 16 1
  if x.token = .free ∨ x.token = .sleep then s1.setGrp g { x with token := .absent, tokenSeen := s.now } else s1
/-- Whether a FREE token passes its master, which holds back the tokens of the waveguide, before it reaches a writer (R219): it lies between them on the way, or the
token has gone round once (24 ns) since it started. -/
def State.masterHolds (s : State) (site g : Nat) : Bool :=
  let x := s.grp g
  s.statusHeld.contains (grpWave g) && decide (x.token = .free) &&
  (decide (x.tokenAt < 58 ∧ upstream (grpHome g) site ≤ x.tokenAt) || decide (x.tokenSeen + 24 ≤ s.now))
/-- The writers that must still let a token pass once after it has gone from where it last started to upstream distance `d` (R214). -/
def Group.stillPass (x : Group) (h d : Nat) : List Nat := x.passOnce.filter (fun k => !(passed h x.tokenAt d).contains k)
/-- A writer with a request meets a token that it may capture (R212, R214, R218): on a FREE token the burst goes out; on a SLEEP token the writer holds
it and sends WAKE. A writer that must let the token pass lets it pass now. -/
def State.capture (s : State) (site g asked : Nat) (cells : List CellBits) : State :=
  let x := s.grp g
  let h := grpHome g
  let d := upstream h site
  match s.freeTx site with
  | none => s
  | some tx =>
    match s.burstToSend site g tx cells with
    | none => s
    | some b =>
      let still := x.stillPass h d
      if x.token = .free ∧ still.contains site ∧ b.due = 0 then s.setGrp g { x with passOnce := still.filter (fun k => decide (k ≠ site)), tokenAt := d }
      else
        let s1 := (s.setGrp g { x with token := .held site, passOnce := still.filter (fun k => decide (k ≠ site)), tokenSeen := s.now, wakeAt := s.now }).raiseTo (siteReg site 0x05C) 0 16 (s.now - asked)
        if x.token = .free then s1.launch site b
        else (s1.setSite site ((s1.site site).keep { b with due := 4, why := b.due })).emit (.lineSet site g setWake)

/-- TOKEN_CAPTURE (R210 to R212, R219): the token character of a group reaches a site, in the order in which the frames bring the characters. A relay that is
not in bypass replaces a wrong one, and one whose ring has lost lock on the way sends NONE; a writer whose request was there a character earlier takes the token where it may. -/
def execTokenCapture (site : Fin 59) (grp : Fin 1158) (seen : TokenSeen) (cells : List CellBits) (s : State) : Host.Outcome State Fault Refusal :=
  let g := grp.val
  let x := s.grp g
  let v := match seen.char with | some c => c.toNat | none => 256
  if s.bypassed site ∧ site.val ≠ grpHome g then .next s
  else if (x.token = .free ∨ x.token = .sleep) ∧ (site.val :: passed (grpHome g) x.tokenAt (upstream (grpHome g) site)).any (fun n => s.relayDark n (grpWave g)) then
    .next (s.setGrp g { x with token := .absent, tokenSeen := s.now })
  else if v ≠ tokenFree ∧ v ≠ tokenSleep ∧ v ≠ tokenNone then .next (s.tokenError site g)
  else if !((v = tokenFree ∧ x.token = .free ∧ x.state = .service) ∨ (v = tokenSleep ∧ x.token = .sleep ∧ x.state = .asleep)) ∨ !s.mayCapture site g ∨ s.now ≤ seen.asked then .next s
  else if s.masterHolds site g then .next (s.setGrp g { x with token := .kept, tokenAt := 58, tokenSeen := s.now, passOnce := x.stillPass (grpHome g) 58 })
  else .next (s.capture site g seen.asked cells)

/-- TOKEN_RELEASE (R213, R214): the holder's burst has left, and the token goes on FREE; a transmitter that does not stop at 16 cells is reported. -/
def execTokenRelease (site : Fin 59) (ended : BurstEnd) (s : State) : Host.Outcome State Fault Refusal :=
  let g := ended.grp.val
  let x := s.grp g
  if x.token = .held site ∧ x.state = .service then
    let s1 := s.setGrp g { x with token := .free, tokenAt := upstream (grpHome g) site, tokenSeen := s.now, passOnce := (if x.passOnce.contains site.val then x.passOnce else site.val :: x.passOnce) }
    .next (if ended.ranOn then s1.irq .phoSite site 0 else s1)
  else .next s

/-- Take the cells of a burst in index order (R220): those before the first bad one are accepted, or discarded as duplicates below the
expected index `next`. The first cell stands at index `place`; a cell beyond the expected index breaks the order and is discarded with those after it (DEDUCED, log
entry 111). The answer is the next index, the cells accepted, the duplicates, and the index of the first cell discarded as bad with whether its CRC was. -/
def takeCells (place next : Nat) : List (CellBits × BitVec 8) → Nat × List CellBits × Nat × Option (Nat × Bool)
  | [] => (next, [], 0, none)
  | (c, viol) :: t =>
    if viol ≠ 0 ∨ !cellGood c then (next, [], 0, some (place, decide (viol = 0)))
    else if place < next then
      let r := takeCells (place + 1) next t
      (r.1, r.2.1, r.2.2.1 + 1, r.2.2.2)
    else if place = next then
      let r := takeCells (place + 1) (next + 1) t
      (r.1, c :: r.2.1, r.2.2.1, r.2.2.2)
    else (next, [], 0, some (next, false))

/-- Deliver an accepted cell to the reading die, or count one of a reserved type (R222, R225). -/
def State.deliver (s : State) (h : Nat) (c : CellBits) : State :=
  if typeReserved (bits c.toNat 0 8) then s.errCount .phoHome h 2 else s.emit (.accepted h c)

/-- Count the code violations of a burst on the lanes of the map (R238 LANE_STAT), and note which lanes had some (R227); `counts` is by logical lane. -/
def Group.countViol (x : Group) (counts : List Nat) : Group :=
  { x with lanes := Vector.ofFn (fun o : Fin 10 =>
      let l := x.lanes.get o
      match (List.finRange 8).find? (fun k => decide (x.map.get k = o)) with
      | some k =>
        let n := counts.getD k.val 0
        { l with viol := min 65535 (l.viol + n), hist := (l.hist <<< 1) ||| BitVec.ofNat 32 (b2n (decide (n ≠ 0))) }
      | none => l) }

/-- The status messages a master has still to send on a waveguide (R219). -/
def State.backlog (s : State) (w : Nat) : Nat := (s.statusQ.filter (fun m => decide (m.wave = w))).length

/-- BURST_RECEIVE (R220, R222): good cells up to the first bad one are accepted, and the burst is answered with ACK or NAK. -/
def execBurstReceive (grp : Fin 1158) (site : Fin 59) (lower upper : List (List (BitVec 10))) (s : State) : Host.Outcome State Fault Refusal :=
  let lanes := lower ++ upper
  let g := grp.val
  let h := grpHome g
  let x := s.grp g
  if x.state ≠ .service then .next s
  else
    let x1 := { x.countViol (laneViols lanes) with lastBurst := s.now }
    match readBurst lanes with
    | none => .next (s.setGrp g x1)
    | some cells =>
      let c0 := (cells.headD (0, 0)).1
      let id := bits c0.toNat 24 4
      let last := sfind x.seen site
      let repeats := match last with | some l => decide (l.1 = id) | none => false
      let next := match last with | some l => if l.1 = id then l.2 else 0 | none => 0
      let r := takeCells (bits c0.toNat 28 4) next cells
      let s1 := s.setGrp g { x1 with seen := sput x1.seen site (id, r.1) }
      let s2 := r.2.1.foldl (fun t c => t.deliver h c) s1
      let s3 := (s2.bump (homeReg g 0x05C) 0 16 (if repeats then r.2.1.length else 0)).bump (homeReg g 0x05C) 16 16 r.2.2.1
      let s4 : State := match r.2.2.2 with
        | some (_, crc) => (s3.bump (homeReg g 0x058) 0 16 (b2n crc)).bump (homeReg g 0x058) 16 16 1
        | none => s3
      let w := grpWave g
      let s5 : State := { s4 with statusQ := s4.statusQ ++ [⟨w, g, site, id, r.2.2.2.map Prod.fst⟩] }
      if 32 ≤ s5.backlog w ∧ !s5.statusHeld.contains w then .next ({ s5 with statusHeld := w :: s5.statusHeld }.irq .phoHome h 6)
      else .next s5

/-- The status characters of a message (R210). -/
def StatusMsg.chars (m : StatusMsg) : List LineChar :=
  match m.nak with
  | some i => statusChars 2 (grpNo m.grp) m.id (sitePos m.site) i
  | none => statusChars 1 (grpNo m.grp) m.id (sitePos m.site) 0
/-- The tokens that a master kept on a waveguide go on FREE (R219). -/
def State.tokensGo (s : State) (w : Nat) : State :=
  { s with groups := s.groups.map (fun e =>
      if grpWave e.1 = w ∧ e.2.state = .service ∧ e.2.token = .kept ∧ !e.2.paused then (e.1, { e.2 with token := .free, tokenAt := 58, tokenSeen := s.now }) else e) }
/-- A status message has been sent, in the next free status characters (R220): it leaves the master's queue, which lets the waveguide's tokens go below 16
(R219). -/
def State.statusSent (s : State) (g site id : Nat) : State :=
  let mine := fun (m : StatusMsg) => decide (m.grp = g) && decide (m.site = site) && decide (m.id = id)
  let s0 := match s.statusQ.find? mine with | some m => s.emit (.lineSet (grpHome g) g m.chars) | none => s
  let s1 := { s0 with statusQ := dropFirst mine s.statusQ }
  if s1.backlog (grpWave g) < 16 ∧ s1.statusHeld.contains (grpWave g) then ({ s1 with statusHeld := s1.statusHeld.filter (fun w => decide (w ≠ grpWave g)) }).tokensGo (grpWave g)
  else s1

/-- The burst of a writer that awaits a status with this id. -/
def Site.awaiting (x : Site) (g id : Nat) : Option Burst :=
  x.bursts.find? (fun b => decide (b.grp = g) && decide (b.id = id) && decide (b.due = 0))

/-- BURST_ACK (R221): the writer frees the burst's cells. -/
def execBurstAck (site : Fin 59) (grp : Fin 1158) (id : BitVec 4) (s : State) : Host.Outcome State Fault Refusal :=
  let x := s.site site
  match x.awaiting grp id.toNat with
  | none => .next (s.statusSent grp site id.toNat)
  | some b => .next ((s.setSite site { x with bursts := dropFirst (fun k => decide (k = b)) x.bursts }).statusSent grp site id.toNat)

/-- A burst has failed an attempt and is to be sent again (R221): after four it raises retry_limit. -/
def State.burstFailed (s : State) (site : Nat) (b : Burst) (why start : Nat) : State :=
  let limit := decide (4 ≤ b.tries) && b.limitAt.isNone
  let x := s.site site
  let b1 := { b with due := why, start := start, limitAt := (if limit then some s.now else b.limitAt) }
  let x1 := { x.keep b1 with limits := (if limit then x.limits.filter (fun l => decide (s.now < l.2.2 + 1000000)) ++ [(b.tx, b.grp, s.now)] else x.limits) }
  let s1 := s.setSite site x1
  if limit then s1.irq .phoSite site 1 else s1

/-- BURST_NAK (R221): the writer sends from the named cell on again, with the same burst id. -/
def execBurstNak (site : Fin 59) (grp : Fin 1158) (id idx : BitVec 4) (s : State) : Host.Outcome State Fault Refusal :=
  match (s.site site).awaiting grp id.toNat with
  | none => .next (s.statusSent grp site id.toNat)
  | some b =>
    if b.cells.length ≤ idx.toNat then .next (s.statusSent grp site id.toNat)
    else .next ((s.statusSent grp site id.toNat).burstFailed site b 1 idx.toNat)

/-- STATUS_TIMEOUT (R221): no status within PHO_SITE.STATUS_TMO. -/
def execStatusTimeout (site : Fin 59) (grp : Fin 1158) (s : State) : Host.Outcome State Fault Refusal :=
  match (s.site site).bursts.find? (fun b => decide (b.grp = grp.val) && decide (b.due = 0)) with
  | none => .next s
  | some b =>
    if s.now < b.sentAt + s.fld (siteReg site 0x050) 0 16 then .next s
    else .next ((s.irq .phoSite site 3).burstFailed site b 2 b.start)

/-- RETRY_LIMIT_EXPIRY (R221): 1 ms after the limit the group is not repaired, which is a job fault (R513). -/
def execRetryLimitExpiry (site : Fin 59) (grp : Fin 1158) (s : State) : Host.Outcome State Fault Refusal :=
  match (s.site site).bursts.find? (fun b => decide (b.grp = grp.val)) with
  | none => .next s
  | some b =>
    match b.limitAt with
    | none => .next s
    | some t =>
      if b.expired ∨ s.now < t + 1000000 then .next s
      else .next ((s.setSite site ((s.site site).keep { b with expired := true })).jobFault 5 2 (homeDie site) grp)

/-! ## Group states (R216 to R218, R228) -/

/-- Whether a group is in service: neither OFF, TRAINING, FAULTED nor RETIRED. -/
def Group.inService (x : Group) : Bool :=
  decide (x.state = .service) || decide (x.state = .blocked) || decide (x.state = .asleep) || decide (x.state = .waking)

/-- A GROUP_CMD is ignored and counted, or its end shown in CMD_STAT (R238). -/
def State.cmdIgnored (s : State) (g : Nat) : State := (s.errCount .phoHome (grpHome g) 2).wr (homeReg g 0x04C) (BitVec.ofNat 32 (1 * 16))
/-- A GROUP_CMD has timed out (R238). -/
def State.cmdTimedOut (s : State) (g : Nat) : State := s.wr (homeReg g 0x04C) (BitVec.ofNat 32 (2 * 16))
/-- GROUP_CMD has been taken; `busy` until the group has followed. -/
def State.cmdTaken (s : State) (g : Nat) (busy : Bool) : State := s.wr (homeReg g 0x04C) (BitVec.ofNat 32 (b2n busy))

/-- Ask for a block, with the reason (R216). -/
def State.askBlock (s : State) (g why : Nat) : State :=
  if (s.grp g).state = .service then (s.modGrp g (fun x => { x with blockFor := why })).cmdTaken g true else s.cmdIgnored g
/-- GROUP_BLOCK. -/
def execGroupBlock (ini : Initiator) (ep : Byte) (grp : Fin 1158) (s : State) : Host.Outcome State Fault Refusal :=
  .next (s.busDo ini ep .phoHome (grpHome grp) 0x048 (fun t => t.askBlock grp 1))

/-- GROUP_BLOCKED (R216): the token of a group under BLOCK_REQ reaches its master, which keeps it. -/
def execGroupBlocked (grp : Fin 1158) (s : State) : Host.Outcome State Fault Refusal :=
  let x := s.grp grp
  if x.state = .service ∧ x.blockFor ≠ 0 ∧ x.blockFor ≠ 2 ∧ x.token = .free then
    .next ((s.setGrp grp { x with state := .blocked, token := .kept, blockFor := (if x.blockFor = 3 then 3 else 0), tokenAt := 58, tokenSeen := s.now, passOnce := x.stillPass (grpHome grp) 58 }).cmdTaken grp false)
  else .next s

/-- Unblock a group (R216): the master launches a FREE token. -/
def State.unblock (s : State) (g : Nat) : State :=
  if (s.grp g).state = .blocked then
    (s.modGrp g (fun x => { x with state := .service, token := .free, tokenAt := 58, tokenSeen := s.now })).cmdTaken g false
  else s.cmdIgnored g
/-- GROUP_UNBLOCK. -/
def execGroupUnblock (ini : Initiator) (ep : Byte) (grp : Fin 1158) (s : State) : Host.Outcome State Fault Refusal :=
  .next (s.busDo ini ep .phoHome (grpHome grp) 0x048 (fun t => t.unblock grp))

/-- GROUP_SLEEP (R218): the group is blocked first, and the sleep entry follows. -/
def execGroupSleep (ini : Initiator) (ep : Byte) (grp : Fin 1158) (s : State) : Host.Outcome State Fault Refusal :=
  .next (s.busDo ini ep .phoHome (grpHome grp) 0x048 (fun t => t.askBlock grp 2))

/-- GROUP_SLEEP_ENTRY (R218, R228): on the command, in D1, or after SLEEP_IDLE nanoseconds without a burst; the token goes round
as SLEEP. -/
def execGroupSleepEntry (grp : Fin 1158) (s : State) : Host.Outcome State Fault Refusal :=
  let x := s.grp grp
  let idle := s.fld (homeReg grp 0x050) 0 32
  let why := decide (x.blockFor = 2) || decide (s.dst = .d1) || s.stop.stopped || (decide (s.dst = .d0) && decide (idle ≠ 0) && decide (x.lastBurst + idle ≤ s.now))
  if x.state = .service ∧ x.token = .free ∧ why then
    .next ((s.setGrp grp { x with state := .asleep, token := .sleep, blockFor := 0, tokenAt := 58, tokenSeen := s.now, passOnce := x.stillPass (grpHome grp) 58 }).cmdTaken grp false)
  else .next s

/-- The wake action of GROUP_CMD (R218): the master turns the receivers of a sleeping group on. -/
def State.groupWakeCmd (t : State) (grp : Nat) : State :=
  if (t.grp grp).state = .asleep ∧ (t.grp grp).token = .sleep then
    (t.modGrp grp (fun x => { x with state := .waking, token := .kept, wakeAt := t.now })).cmdTaken grp true
  else t.cmdIgnored grp
/-- GROUP_WAKE. -/
def execGroupWake (ini : Initiator) (ep : Byte) (grp : Fin 1158) (s : State) : Host.Outcome State Fault Refusal :=
  .next (s.busDo ini ep .phoHome (grpHome grp) 0x048 (fun t => t.groupWakeCmd grp))

/-- WAKE (R218, R228): activity on logical lane 0 of a sleeping group whose SLEEP token a writer has captured. -/
def execWake (grp : Fin 1158) (s : State) : Host.Outcome State Fault Refusal :=
  let x := s.grp grp
  match x.token with
  | .held _ => if x.state = .asleep then .next (s.setGrp grp { x with state := .waking }) else .next s
  | _ => .next s

/-- READY (R218, R228): the receivers are on; the waiting writer sends its burst and releases the token FREE. -/
def execReady (grp : Fin 1158) (s : State) : Host.Outcome State Fault Refusal :=
  let g := grp.val
  let x := s.grp g
  if x.state ≠ .waking then .next s
  else
    let s1 := s.bump (homeReg g 0x064) 0 16 1
    match x.token with
    | .held w =>
      let s2 := s1.setGrp g { x with state := .service, token := .free, tokenAt := upstream (grpHome g) w, tokenSeen := s.now, wakeFails := 0, passOnce := (if x.passOnce.contains w then x.passOnce else w :: x.passOnce) }
      match (s2.site w).bursts.find? (fun b => decide (b.grp = g) && decide (b.due ≠ 0)) with
      | some b => .next (s2.launch w b)
      | none => .next s2
    | _ =>
      .next ((s1.setGrp g { x with state := .service, token := .free, tokenAt := 58, tokenSeen := s.now, wakeFails := 0 }).cmdTaken g false)

/-- A group is FAULTED (R228, R230): the master keeps the token, and the job faults (R513). -/
def State.faultGroup (s : State) (g : Nat) : State :=
  ((s.modGrp g (fun x => { x with state := .faulted, token := .kept, sparing := none })).irq .phoHome (grpHome g) 2).jobFault 5 1 (homeDie (grpHome g)) g

/-- WAKE_FAILURE (R218, R228): no READY within 2 µs; the token goes back as SLEEP, and the third failure in a row faults the
group. -/
def execWakeFailure (grp : Fin 1158) (s : State) : Host.Outcome State Fault Refusal :=
  let g := grp.val
  let x := s.grp g
  if !(x.state = .waking ∨ (x.state = .asleep ∧ x.token ≠ .sleep)) ∨ s.now < x.wakeAt + 2000 then .next s
  else
    let s1 := (s.bump (homeReg g 0x064) 16 16 1).irq .phoHome (grpHome g) 5
    let s2 := if x.token = .kept then s1.cmdTimedOut g else s1
    if 2 ≤ x.wakeFails ∧ x.state = .waking then .next (s2.faultGroup g)
    else .next (s2.setGrp g { x with state := .asleep, token := .sleep, tokenSeen := s.now, wakeFails := (if x.state = .waking then x.wakeFails + 1 else x.wakeFails) })

/-- TOKEN_REGENERATE (R217): a token that the master does not hold has not been seen for TOKEN_TMO, and no burst has come for 200 ns. -/
def execTokenRegenerate (grp : Fin 1158) (s : State) : Host.Outcome State Fault Refusal :=
  let g := grp.val
  let x := s.grp g
  if x.state = .service ∧ x.token ≠ .free ∧ x.token ≠ .kept ∧ !x.paused ∧ x.tokenSeen + s.fld (homeReg g 0x054) 0 16 ≤ s.now ∧ x.lastBurst + 200 ≤ s.now then
    .next (((s.setGrp g { x with token := .free, tokenAt := 58, tokenSeen := s.now }).bump (homeReg g 0x060) 0 16 1).irq .phoHome (grpHome g) 4)
  else .next s

/-! ## Lanes (R226, R227) and sparing (R229) -/

/-- Latch a lane event (R238 LANE_LOG). -/
def State.laneLog (s : State) (g off cause : Nat) : State := s.latchLog (homeReg g 0x068) (grpNo g + off * 32 + cause * 512)

/-- Move a lane to a state from now on. -/
def State.laneTo (s : State) (g off : Nat) (st : LaneState) : State := s.modLane g off (fun l => { l with state := st, since := s.now })

/-- LANE_LOCK_ACHIEVED (R226, R262): the receive ring is confirmed, and training begins. -/
def execLaneLockAchieved (grp : Fin 1158) (off : Fin 10) (s : State) : Host.Outcome State Fault Refusal :=
  let l := (s.grp grp).lane off
  if l.state = .locking ∧ l.confirmed ∧ l.check = [] then .next (s.modLane grp off (fun k => { k with state := .training, since := s.now, tries := 0 }))
  else .next s

/-- The training writer of a group (R226): the writer of lowest upstream distance that has the group in its reach and whose relay is not in bypass. -/
def State.trainer (s : State) (g : Nat) : Option Nat :=
  let ok := (List.range 59).filter (fun n => inReach n g && !(s.grp g).isAway n && !s.bypassed n)
  ((List.range 58).find? (fun d => ok.any (fun n => decide (upstream (grpHome g) n = d)))).bind (fun d => ok.find? (fun n => decide (upstream (grpHome g) n = d)))
/-- The slot that a received TS names, where its characters, complements, home channel and group are those of a group's TS (R208); L is not compared. -/
def tsSlot (g : Nat) (set : List LineChar) : Option Nat :=
  let slot := ((set.getD 2 (charD 0)).b).toNat
  let l := ((set.getD 5 (charD 0)).b).toNat
  if set = setTs slot (grpHome g) (grpNo g) l then some slot else none
/-- TS_MATCH (R208, R226): the training writer's TS for this slot, home channel and group for 1 µs makes the lane STANDBY. -/
def execTsMatch (grp : Fin 1158) (seen : TsSeen) (s : State) : Host.Outcome State Fault Refusal :=
  let l := (s.grp grp).lane seen.off
  if l.state = .training ∧ l.confirmed ∧ (s.trainer grp).isSome ∧ tsSlot grp seen.set = some (grpSlot grp seen.off) ∧ 1000 ≤ seen.held ∧ l.since + seen.held ≤ s.now then
    .next (s.modLane grp seen.off (fun k => { k with state := .standby, since := s.now, tries := 0, locks := 0 }))
  else .next s

/-- TS_WRONG_SLOT (R226). -/
def execTsWrongSlot (grp : Fin 1158) (seen : TsSeen) (s : State) : Host.Outcome State Fault Refusal :=
  let off := seen.off
  let l := (s.grp grp).lane off
  if l.state = .training ∧ (tsSlot grp seen.set).isSome ∧ tsSlot grp seen.set ≠ some (grpSlot grp off) then
    .next (((s.modLane grp off (fun k => { k with state := .locking, since := s.now, confirmed := false, locks := k.locks + 1, sweeps := 0, sweepAt := none })).laneLog grp off 3).irq .phoHome (grpHome grp) 3)
  else .next s

/-- TRAINING_TIMEOUT (R226): no valid TS for 10 µs; the third time the lane fails. -/
def execTrainingTimeout (grp : Fin 1158) (off : Fin 10) (s : State) : Host.Outcome State Fault Refusal :=
  let l := (s.grp grp).lane off
  if l.state ≠ .training ∨ s.now < l.since + 10000 then .next s
  else if l.tries < 2 then .next (s.modLane grp off (fun k => { k with tries := k.tries + 1, since := s.now }))
  else .next ((s.laneTo grp off .failed).laneLog grp off 4)

/-- The logical lane that a slot offset carries (R201). -/
def Group.laneOf (x : Group) (off : Nat) : Option (Fin 8) := (List.finRange 8).find? (fun k => decide ((x.map.get k).val = off))
/-- The lowest slot offset in STANDBY. -/
def Group.spare (x : Group) : Option (Fin 10) := (List.finRange 10).find? (fun o => decide ((x.lanes.get o).state = .standby))

/-- Start a sparing (R229 t1): the spare slot is SHADOW. -/
def State.startSparing (s : State) (g : Nat) (lane : Fin 8) (new : Fin 10) : State :=
  let x := s.grp g
  (s.setGrp g { x with sparing := some ⟨lane, x.map.get lane, new, s.now, false⟩ }).laneTo g new .shadow

/-- A lane of the map has failed: it is spared, or with no lane STANDBY the group faults (R227 to R230); the lane that a sparing in progress is already
replacing needs no other. With a lane STANDBY, a sparing in progress runs out first. -/
def State.replaceLane (s : State) (g : Nat) (lane : Fin 8) : State :=
  let x := s.grp g
  let replaced : Bool := match x.sparing with | some p => decide (p.lane = lane) && !p.switched | none => false
  match x.spare with
  | some o => if x.sparing.isSome then s else s.startSparing g lane o
  | none => if x.inService ∧ !replaced then s.faultGroup g else s

/-- An ACTIVE lane fails hard (R226, R227). -/
def State.failLane (s : State) (g off cause : Nat) : State :=
  let s1 := ((s.laneTo g off .failed).laneLog g off cause).irq .phoHome (grpHome g) 0
  match (s1.grp g).laneOf off with
  | some k => s1.replaceLane g k
  | none => s1

/-- A group is RETIRED (R228, R230): its lanes are dark, its token is gone, the bursts that were to go on it are dropped, and an amendment records it. -/
def State.retireGroup (s : State) (g kind res : Nat) : State :=
  (({ s.setGrp g { state := .retired, token := .kept } with
      sites := smapv {} (fun (x : Site) => { x with bursts := x.bursts.filter (fun b => decide (b.grp ≠ g)) }) s.sites }).amend kind false res 0).irq .phoHome (grpHome g) 7
/-- The lanes of a group that have failed make one further attempt at a job restart (R226), but for those that `stays` names. -/
def Group.retryLanes (x : Group) (now : Nat) (stays : Nat → Bool) : Group :=
  if x.inService then { x with lanes := Vector.ofFn (fun o : Fin 10 => if (x.lanes.get o).state = .failed ∧ !stays o then { state := .locking, since := now } else x.lanes.get o) } else x

/-- GROUP_START (R201, R228): with 8 lanes or more in STANDBY, the 8 lowest form the lane map; when no lane is left that could
come to STANDBY, the failed ones are tried again, and after three attempts the group is RETIRED. -/
def execGroupStart (grp : Fin 1158) (s : State) : Host.Outcome State Fault Refusal :=
  let g := grp.val
  let x := s.grp g
  if x.state ≠ .training then .next s
  else
    let up := (List.finRange 10).filter (fun o => decide ((x.lanes.get o).state = .standby))
    if 8 ≤ up.length then
      let map : Vector (Fin 10) 8 := Vector.ofFn (fun k : Fin 8 => up.getD k.val 0)
      let lanes : Vector Lane 10 := Vector.ofFn (fun o : Fin 10 =>
        if (up.take 8).contains o then { x.lanes.get o with state := .active, viol := 0, since := s.now } else x.lanes.get o)
      .next (s.setGrp g { x with state := .service, map := map, lanes := lanes, token := .free, tokenAt := 58, tokenSeen := s.now, lastBurst := s.now, passOnce := [], seen := [], blockFor := 0 })
    else if (List.finRange 10).any (fun o => decide ((x.lanes.get o).state ≠ .standby) && decide ((x.lanes.get o).state ≠ .failed)) then .next s
    else if x.attempts < 2 then
      let lanes : Vector Lane 10 := Vector.ofFn (fun o : Fin 10 =>
        if (x.lanes.get o).state = .failed then { state := .locking, since := s.now } else x.lanes.get o)
      .next (s.setGrp g { x with attempts := x.attempts + 1, lanes := lanes })
    else
      .next (s.retireGroup g 0x06 g)

/-- The spare action of GROUP_CMD (R229, R238): ignored where the group is not in service, the named slot not in STANDBY, or a sparing
in progress. -/
def State.groupSpareCmd (t : State) (grp : Nat) (lane : Fin 8) (off : Nat) : State :=
  let x := t.grp grp
  if x.inService ∧ x.sparing.isNone ∧ off < 10 ∧ (x.lane off).state = .standby then (t.startSparing grp lane (Fin.ofNat 10 off)).cmdTaken grp true
  else t.cmdIgnored grp
/-- GROUP_SPARE. -/
def execGroupSpare (ini : Initiator) (ep : Byte) (grp : Fin 1158) (lane : Fin 8) (off : BitVec 4) (s : State) :
    Host.Outcome State Fault Refusal :=
  .next (s.busDo ini ep .phoHome (grpHome grp) 0x048 (fun t => t.groupSpareCmd grp lane off.toNat))

/-- The retry limits of a group are repaired by a sparing (R221). -/
def State.clearLimits (s : State) (g : Nat) : State :=
  { s with sites := s.sites.map (fun e => (e.1, { e.2 with bursts := e.2.bursts.map (fun b => if b.grp = g then { b with limitAt := none, expired := false } else b) })) }

/-- Whether a slot of a group lies on a line that has faded with no standby left (R274). -/
def State.lineFaded (s : State) (g off : Nat) : Bool := decide ((sget {} s.lines (41 * grpFibre g + grpSlot g off)).mode = .noStandby)
/-- SPARING_SWITCH (R229 t2, R274): at a gap at least 40 ns after t1 the spare is ACTIVE and the old slot goes to CAL, or to FAILED where it had failed or its line has faded. -/
def execSparingSwitch (grp : Fin 1158) (s : State) : Host.Outcome State Fault Refusal :=
  let g := grp.val
  let x := s.grp g
  match x.sparing with
  | none => .next s
  | some p =>
    if p.switched ∨ s.now < p.t1 + 40 ∨ (x.lane p.new).state ≠ .shadow then .next s
    else
      let old := x.lane p.old
      let x1 := (x.setLane p.new { x.lane p.new with state := .active, viol := 0, since := s.now }).setLane p.old
        (if old.state = .active then { state := (if s.lineFaded g p.old then .failed else .cal), since := s.now } else old)
      let s1 := s.setGrp g { x1 with map := x1.map.set p.lane p.new, sparing := some { p with switched := true } }
      .next ((s1.irq .phoHome (grpHome g) 1).clearLimits g)

/-- SPARING_END (R229 t3, R274): every writer has dropped the old slot; a further failed lane of the map is spared next, or one on a faded line. -/
def execSparingEnd (grp : Fin 1158) (s : State) : Host.Outcome State Fault Refusal :=
  let g := grp.val
  let x := s.grp g
  match x.sparing with
  | none => .next s
  | some p =>
    if !p.switched then .next s
    else
      let s1 := (s.setGrp g { x with sparing := none }).cmdTaken g false
      match (List.finRange 8).find? (fun k => decide ((x.lanes.get (x.map.get k)).state = .failed)) with
      | some k => .next (s1.replaceLane g k)
      | none =>
        match (List.finRange 8).find? (fun k => s.lineFaded g (x.map.get k)), x.spare with
        | some k, some o => .next (s1.startSparing g k o)
        | _, _ => .next s1

/-- A transmitter is out of service (R232): its unacknowledged bursts go out again on another one. -/
def State.loseTx (s : State) (n tx : Nat) : State :=
  let x := s.site n
  s.setSite n { x with gone := x.gone ++ [tx], bursts := x.bursts.map (fun b => if b.tx = tx ∧ b.due = 0 then { b with due := 3 } else b) }
/-- Withdraw a transmitter (R231, R232); a stack site left with fewer than 12 retires its stack. -/
def State.withdrawTx (s : State) (n tx cause : Nat) : State :=
  let s1 := ((s.loseTx n tx).latchLog (siteReg n 0x068) (tx + cause * 256)).irq .phoSite n 0 |>.bump (siteReg n 0x044) 16 7 1
  let s2 := s1.amendLater 0x07 false (n * 128 + tx) cause
  if n < 40 ∧ s2.txCount n < 12 then s2.retireStack n else s2
/-- TRANSMITTER_WITHDRAW (R232). -/
def execTransmitterWithdraw (site : Fin 59) (tx : BitVec 7) (cause : BitVec 2) (s : State) : Host.Outcome State Fault Refusal :=
  let n := site.val
  let x := s.site n
  if txFitted n ≤ tx.toNat ∨ x.gone.contains tx.toNat ∨ cause = 0 then .next s
  else if cause = 3 ∧ ((x.limits.filter (fun l => decide (l.1 = tx.toNat) && decide (s.now < l.2.2 + 1000000))).map (fun l => l.2.1)).dedup.length < 3 then .next s
  else .next (s.withdrawTx n tx.toNat cause.toNat)

/-! ## The spine and die identification (R22, R233, R237) -/

/-- The dies at a site of an IDENT transaction (R21, R237). -/
def diesAt (site : Nat) : List Nat :=
  if site = 0x3F then [0x00] else if site < 40 then [0x40 + site, 0x80 + site] else if site < 59 then [homeDie site] else []
/-- The class of a position code (R237). -/
def dieClass (c : Nat) : Nat := if c = 0 then 0 else if c < 0x10 then 1 else if c < 0x40 then 2 else if c < 0x80 then 3 else 4
/-- The first word with which a die answers IDENT (R237). -/
def State.identWord (s : State) (c : Nat) : Nat :=
  let d := s.die c
  let code := match d.claimed with | some b => b.toNat | none => c
  code + dieClass c * 2 ^ 8 + (if dieClass c = 0 then 0 else if dieClass c = 3 then 2 else 1) * 2 ^ 12 + d.rev.toNat * 2 ^ 16 +
    (if dieClass c = 3 then (s.enabledCores (c - 0x40)).length else if dieClass c = 4 then 32 else 0) * 2 ^ 24

/-- A die is missing, or reports another code than its own (R22): one stack is retired and Larva goes on; a second stack, or any
other die, stops the device in Larva. -/
def State.dieLost (s : State) (c : Nat) : State :=
  if dieClass c = 3 ∨ dieClass c = 4 then
    let n := c % 64
    let others := ((List.range 40).filter (fun i => decide (i ≠ n) && (!(s.die (0x40 + i)).fitted || !(s.die (0x80 + i)).fitted ||
      (s.die (0x40 + i)).claimed.isSome || (s.die (0x80 + i)).claimed.isSome))).filter (fun i => (s.stk i).retired)
    let s1 := if (s.stk n).retired then s else (s.setStk n { s.stk n with retired := true, retireDue := false }).amend 0x01 false n 0
    if others.isEmpty then s1 else { s1 with bootWait := 7 }
  else { s with bootWait := 7 }

/-- A hop that cannot be reached in Larva is handled as the missing dies of its site (R22, R233). -/
def State.siteLost (s : State) (site : Nat) : State := if s.stage = .larva then (diesAt site).foldl (fun t c => t.dieLost c) s else s
/-- SPINE_HOP_RETRY (R233): a word that arrives with a parity error is sent again from the hop's last four words, up to three times, and the resends are
counted; after that an ERROR with code 5 answers. -/
def execSpineHopRetry (ini : Initiator) (site : Fin 59) (word : Dword) (got : List (Dword × Byte)) (s : State) : Host.Outcome State Fault Refusal :=
  let x := s.site site
  let hop := x.hop ++ [word]
  let bad := (got.takeWhile (fun a => decide (parityOf a.1 ≠ a.2))).length
  let s1 := (s.setSite site { x with hop := hop.drop (hop.length - 4) }).bump (siteReg site 0x064) 0 16 (min 3 bad)
  if bad < 4 then .next s1 else .next (((s1.irq .phoSite site 4).emit (.error ini 5)).siteLost site)

/-- The dies by position code (R21). -/
def dieCodes : List Nat := [0, 1, 2, 3] ++ (List.range 16).map (· + 0x10) ++ (List.range 40).map (· + 0x40) ++ (List.range 40).map (· + 0x80)
/-- Physical cores of compute die `n` that fail their self-test in Larva are marked failed at once (R37), and recorded (R498). -/
def State.selfTest (s : State) (n : Nat) (failed : BitVec 52) : State :=
  let d := s.die (0x40 + n)
  let new := (List.range 52).filter (fun p => failed.getLsbD p && !d.bad.getLsbD p)
  new.foldl (fun t p => t.amend 0x0D false (64 * n + p) 0) (s.setDie (0x40 + n) { d with bad := d.bad ||| failed })
/-- A die that reports code `b` in place of its own `c` is lost, and so is the fitted die whose code it shares, but for the base, which R22 judges by
its own code alone. -/
def State.dieShares (s : State) (c b : Nat) : State :=
  let s1 := s.dieLost c
  if b ≠ 0 ∧ dieCodes.contains b ∧ (s.die b).fitted then s1.dieLost b else s1
/-- IDENT (R22, R37, R237): in Larva every fitted die at the site answers; one that reports a code not its own is lost with the die whose code that is. -/
def execIdent (ask : IdentAsk) (s : State) : Host.Outcome State Fault Refusal :=
  let site := ask.site
  if s.stage ≠ .larva ∨ !s.spineUp then .next s
  else
    let ds := (diesAt site.toNat).filter (fun c => (s.die c).fitted)
    let s1 := { s with identAt := sput s.identAt site.toNat s.now }
    .next (ds.foldl (fun t c =>
      let t1 := t.emit (.ident (BitVec.ofNat 64 (t.identWord c)) (t.die c).serial)
      match (t.die c).claimed with
      | some b => if b.toNat = c then t1 else t1.dieShares c b.toNat
      | none => t1) (if site.toNat < 40 then s1.selfTest site.toNat ask.failed else s1))

/-- IDENT_TIMEOUT (R22, R237): a die that has not answered 10 µs after its IDENT is missing. -/
def execIdentTimeout (die : Byte) (s : State) : Host.Outcome State Fault Refusal :=
  let c := die.toNat
  let site := if c = 0 then 0x3F else if dieClass c = 1 then 56 + (c - 1) else if dieClass c = 2 then 40 + (c - 0x10) else c % 64
  if s.stage ≠ .larva ∨ (s.die c).fitted ∨ !(diesAt site).contains c then .next s
  else
    match sfind s.identAt site with
    | none => .next s
    | some t => if s.now < t + 10000 then .next s else .next (s.dieLost c)

end Sys2Proof.Machine
end

