-- ==== Sys2Proof/Machine/Kettle.lean ====
section
/-!
DEFINITION. Sys2Proof/Machine/Kettle.lean: the kettles of the spine controller (R347 to R353). Count and generation stand in
KETTLE.COUNT and KETTLE.GEN.
-/
namespace Sys2Proof.Machine

/-- A KETTLE register. -/
def kettleReg (k off : Nat) : Nat := regAddr .kettle k off
/-- The mode of a kettle: 0 OFF, 1 COUNT, 2 RELAY (R347). -/
def State.kettleMode (s : State) (k : Nat) : Nat := s.fld (kettleReg k 0x040) 0 2
/-- The count. -/
def State.kettleCount (s : State) (k : Nat) : Nat := s.rdn (kettleReg k 0x048)

/-- kettle_err is raised, a job fault (R353, R513). -/
def State.kettleErr (s : State) (k : Nat) : State := ((s.setFld (kettleReg k 0x050) 0 1 1).irq .kettle k 1).jobFault 8 k 0 k

/-- Add increments that fall in one spine cycle (R349, R353): all of them, or none where they would pass 2^32 − 1 or the kettle is
not in COUNT mode. `n` is how many sources they have. -/
def State.kettleAdd (s : State) (k total n : Nat) : State :=
  let s1 := s.bump (kettleReg k 0x054) 0 32 n
  if s.kettleMode k ≠ 1 ∨ 2 ^ 32 ≤ s.kettleCount k + total then s1.kettleErr k
  else
    let c := s.kettleCount k + total
    let s2 := s1.wr (kettleReg k 0x048) (BitVec.ofNat 32 c)
    if s.rdn (kettleReg k 0x044) ≤ c then s2.setFld (kettleReg k 0x050) 1 1 1 else s2

/-- KETTLE_INCREMENT (R349): the increments on their way to the kettle combine. -/
def execKettleIncrement (kettle : BitVec 8) (s : State) : Host.Outcome State Fault Refusal :=
  let k := kettle.toNat
  match sget [] s.kettleIn k with
  | [] => .next s
  | l => .next ({ s with kettleIn := sset [] s.kettleIn k [] }.kettleAdd k l.sum l.length)

/-- The participants of a kettle (R347). -/
def State.participants (s : State) (k : Nat) : List Nat := (List.range 2000).filter (fun c => bitOf (s.rdn (kettleReg k (0x100 + 4 * (c / 32)))) (c % 32))

/-- Send the KRELAYs of a release in ascending entry order (R350), and count them. -/
def State.sendRelays (s : State) (k gen : Nat) : State :=
  let es := ((List.range 8).map (fun e => s.rdn (kettleReg k (0x060 + 4 * e)))).filter (fun v => bitOf v 31)
  es.foldl (fun t v =>
    let a := 2 ^ 63 + bits v 0 12 * 2 ^ 51 + 2 ^ 48 + bits v 12 8
    let e := t.rankEntry (bits v 0 12)
    let c := extCell 0x2C (bits e 0 12) t.coord t.jobTag 0 (t.classOf a e) (63 * 2048) (payload [(0, 8, a), (8, 4, gen)])
    (((t.emit (.krelay (bits v 0 12) (bits v 12 8) (BitVec.ofNat 32 gen))).sendCell c)).bump (kettleReg k 0x058) 16 16 1) s

/-- A kettle releases (R350, R357): its generation advances, a KREL is due where it has participants, and its relays are sent. -/
def State.kettleReleases (s : State) (k : Nat) : State :=
  let gen := (s.rdn (kettleReg k 0x04C) + 1) % 2 ^ 32
  let cfg := s.rdn (kettleReg k 0x040)
  let counted := (s.wr (kettleReg k 0x04C) (BitVec.ofNat 32 gen)).bump (kettleReg k 0x058) 0 16 1
  let s1 := if s.fld (kettleReg k 0x014) 0 1 = 1 then counted.irq .kettle k 0 else counted
  let word := k + bits cfg 8 5 * 2 ^ 8 + bits cfg 16 1 * 2 ^ 13 + gen * 2 ^ 32
  let s2 := if (s.participants k).isEmpty then s1
    else { s1 with krelDue := s1.krelDue ++ [(k, BitVec.ofNat 64 word)] }.emit (.krel (BitVec.ofNat 64 word))
  s2.sendRelays k gen

/-- KETTLE_RELEASE (R350): a COUNT kettle at or above expected. -/
def execKettleRelease (kettle : BitVec 8) (s : State) : Host.Outcome State Fault Refusal :=
  let k := kettle.toNat
  let e := s.rdn (kettleReg k 0x044)
  let c := s.kettleCount k
  if s.kettleMode k ≠ 1 ∨ c < e then .next s
  else
    let s1 := (s.wr (kettleReg k 0x048) (BitVec.ofNat 32 (c - e))).setFld (kettleReg k 0x050) 1 1 (b2n (decide (e ≤ c - e)))
    .next (s1.kettleReleases k)

/-- KREL (R351): the broadcast of a release adds 1 to the named counter of each participant core. -/
def execKrel (kettle : BitVec 8) (s : State) : Host.Outcome State Fault Refusal :=
  let k := kettle.toNat
  match s.krelDue.find? (fun e => decide (e.1 = k)) with
  | none => .next s
  | some e =>
    let x : Ctx := if bitOf e.2.toNat 13 then .p else .d
    let ctr : Fin 32 := Fin.ofNat 32 (bits e.2.toNat 8 5)
    .next ((s.participants k).foldl (fun t c => if t.stackOn (c / 50) then t.signal c x ctr else t)
      { s with krelDue := dropFirst (fun d => decide (d.1 = k)) s.krelDue })

end Sys2Proof.Machine
end

