-- ==== Sys2Proof/Machine/Ports.lean ====
section
/-!
DEFINITION. Sys2Proof/Machine/Ports.lean: the states, lanes and sparing of a port direction (R289 to R302), and the Reed–Solomon code of a
lane (R282 to R284).
-/
namespace Sys2Proof.Machine

/-! ## RS(136,128) (R282 to R284) -/

/-- Multiply by x in GF(2^8) (R282). -/
def gfX (a : Nat) : Nat := if 128 ≤ a then (2 * a) % 256 ^^^ 0x1D else 2 * a
/-- Multiply in GF(2^8): `n` bits of `b` are left. -/
def gfMulBits (a b : Nat) : Nat → Nat
  | 0 => 0
  | n + 1 => (if b % 2 = 1 then a else 0) ^^^ gfMulBits (gfX a) (b / 2) n
/-- Product in GF(2^8). -/
def gfMul (a b : Nat) : Nat := gfMulBits a b 8
/-- α to a power. -/
def gfPow (n : Nat) : Nat := (gfX^[n % 255]) 1
/-- A power of an element. -/
def gfExp (a : Nat) : Nat → Nat
  | 0 => 1
  | n + 1 => gfMul a (gfExp a n)
/-- The inverse of a non-zero element. -/
def gfInv (a : Nat) : Nat := gfExp a 254
/-- A polynomial, lowest coefficient first, at a point. -/
def gfEval (p : List Nat) (x : Nat) : Nat := p.foldr (fun c acc => c ^^^ gfMul acc x) 0
/-- The product of two polynomials. -/
def polyMul : List Nat → List Nat → List Nat
  | [], _ => []
  | a :: t, q =>
    let r := 0 :: polyMul t q
    (List.range (max r.length q.length)).map (fun i => r.getD i 0 ^^^ gfMul a (q.getD i 0))
/-- The sum of two polynomials. -/
def polyAdd (p q : List Nat) : List Nat := (List.range (max p.length q.length)).map (fun i => p.getD i 0 ^^^ q.getD i 0)
/-- A polynomial times a constant. -/
def polyScale (k : Nat) (p : List Nat) : List Nat := p.map (gfMul k)
/-- The degree of a polynomial. -/
def polyDeg (p : List Nat) : Nat := p.length - 1 - (p.reverse.takeWhile (· = 0)).length

/-- The locator of symbol `i` of a codeword: α^(135 − i). -/
def rsLoc (i : Nat) : Nat := gfPow (135 - i)
/-- Syndrome `j` of a received word, first symbol first. -/
def rsSyndrome (w : List Nat) (j : Nat) : Nat := w.foldl (fun acc c => gfMul acc (gfPow j) ^^^ c) 0
/-- The syndromes of a received word. -/
def rsSyndromes (w : List Nat) : List Nat := (List.range 8).map (rsSyndrome w)

/-- One round of the Berlekamp–Massey iteration for errors and erasures: the locator, its companion and the register length. -/
def rsRound (syn : List Nat) (e : Nat) (st : List Nat × List Nat × Nat) (r : Nat) : List Nat × List Nat × Nat :=
  let d := (List.range (st.1.length)).foldl (fun acc i => if i < r then acc ^^^ gfMul (st.1.getD i 0) (syn.getD (r - 1 - i) 0) else acc) 0
  let b := 0 :: st.2.1
  if d = 0 then (st.1, b, st.2.2)
  else
    let l1 := polyAdd st.1 (polyScale d b)
    if 2 * st.2.2 ≤ r + e - 1 then (l1, polyScale (gfInv d) st.1, r + e - st.2.2) else (l1, b, st.2.2)

/-- The errata locator of a received word with its erased symbols (R284). -/
def rsLocator (syn : List Nat) (erased : List Nat) : List Nat :=
  let e := erased.length
  let g := erased.foldl (fun p i => polyMul p [1, rsLoc i]) [1]
  ((List.range (8 - e)).foldl (fun st k => rsRound syn e st (e + 1 + k)) (g, g, e)).1

/-- The formal derivative of a polynomial. -/
def polyDeriv (p : List Nat) : List Nat := (List.range (p.length - 1)).map (fun i => if i % 2 = 0 then p.getD (i + 1) 0 else 0)

/-- Decode a received word (R284): the corrected word with the symbols corrected outside the erasures, none where it is uncorrectable. -/
def rsDecode (w : List Nat) (erased : List Nat) : Option (List Nat × Nat) :=
  let syn := rsSyndromes w
  if 8 < erased.length then none
  else if syn.all (· = 0) then some (w, 0)
  else
    let loc := rsLocator syn erased
    let places := (List.range 136).filter (fun i => decide (gfEval loc (gfInv (rsLoc i)) = 0))
    let omega := (polyMul syn loc).take 8
    let fixed := (List.range 136).map (fun i =>
      if places.contains i then
        let x := gfInv (rsLoc i)
        w.getD i 0 ^^^ gfMul (rsLoc i) (gfMul (gfEval omega x) (gfInv (gfEval (polyDeriv loc) x)))
      else w.getD i 0)
    let errors := ((List.range 136).filter (fun i => !erased.contains i && decide (fixed.getD i 0 ≠ w.getD i 0))).length
    if places.length = polyDeg loc ∧ (rsSyndromes fixed).all (· = 0) ∧ 2 * errors + erased.length ≤ 8 then some (fixed, errors) else none

/-- The erasure marks of a codeword (R283): characters that are no valid code group, and each disparity error with the character before
it. -/
def rsErased (bad disp : Nat) : List Nat := (List.range 136).filter (fun i => bitOf bad i || bitOf disp i || bitOf disp (i + 1))

/-- The generator's coefficients of x^7 to x^0 (R282). -/
def rsGen : List Nat := (((List.range 8).foldl (fun p j => polyMul p [gfPow j, 1]) [1]).reverse).drop 1
/-- The parity symbols p_0 to p_7 of a message (R282): the remainder of M(x) x^8 divided by the generator. -/
def rsParity (m : List Nat) : List Nat :=
  m.foldl (fun r c => List.zipWith (fun a g => a ^^^ gfMul (c ^^^ r.headD 0) g) (r.tail ++ [0]) rsGen) (List.replicate 8 0)
/-- The codeword of a logical lane (R282): its message characters and eight parity characters. -/
def codewordOf (msg : List LineChar) : List LineChar := msg ++ (rsParity (msg.map (fun c => c.b.toNat))).map charD

/-! ## Port directions -/

/-- An XPORT register (R326). -/
def xportReg (p off : Nat) : Nat := regAddr .xport p off
/-- The laser input fibre of a port (R280). -/
def portFibre (p : Nat) : Nat := 24 + p % 2
/-- Whether a port's axis is trained (R299). -/
def State.portUsed (s : State) (p : Nat) : Bool := decide (2 ≤ s.axisSize (p / 2))
/-- Latch a lane event (R326 LANE_LOG); `dir` is 0 TX, 1 RX. -/
def State.portLog (s : State) (p off dir cause : Nat) : State := s.latchLog (xportReg p 0x080) (off + dir * 16 + cause * 32)
/-- The receive lane of a slot offset. -/
def Port.rxLane (x : Port) (o : Nat) : PortLane := x.rxLanes.toList.getD o {}
/-- Update a receive lane. -/
def Port.modRx (x : Port) (o : Nat) (f : PortLane → PortLane) : Port := { x with rxLanes := x.rxLanes.setIfInBounds o (f (x.rxLane o)) }
/-- The state of a transmit lane. -/
def Port.txLane (x : Port) (o : Nat) : LaneState := x.txLanes.toList.getD o .dark
/-- Set the state of a transmit lane. -/
def Port.setTx (x : Port) (o : Nat) (l : LaneState) : Port := { x with txLanes := x.txLanes.setIfInBounds o l }

/-- The eight codewords of 128 character times (R282, R286). -/
def codewordsOf (cols : List (List LineChar)) : List (List LineChar) := (List.range 8).map (fun l => codewordOf (cols.map (fun c => c.getD l comma)))
/-- Send message characters on a port (R286): each 128 character times make a codeword on every lane. -/
def State.portSend (s : State) (p : Nat) (cols : List (List LineChar)) : State :=
  let all := (s.port p).txMsg ++ cols
  if 128 ≤ all.length then (s.modPort p (fun x => { x with txMsg := all.drop 128 })).emit (.codewords p (codewordsOf (all.take 128)))
  else s.modPort p (fun x => { x with txMsg := all })
/-- Fill the codeword that is begun with IDLE, and send it (R292, R294). -/
def State.portFill (s : State) (p : Nat) : State :=
  if (s.port p).txMsg = [] then s
  else
    (s.modPort p (fun x => { x with txMsg := [] })).emit (.codewords p (codewordsOf (((s.port p).txMsg ++ (List.replicate 64 (colsOf setIdle)).flatten).take 128)))
/-- The XTS that a port sends on a slot (R289): `i` is the byte of the serial number that comes first. -/
def State.ownXts (s : State) (p o i : Nat) : List LineChar :=
  let x := s.port p
  let role := match (List.finRange 8).find? (fun k => decide ((x.txMap.get k).val = o)) with | some k => k.val | none => 255
  let seen := decide (s.fld (xportReg p 0x048) 15 1 = 1)
  setXts o role p (b2n s.coordValid + b2n s.g4 * 2 + b2n x.receiving * 4 + b2n (x.receiving && s.coordValid && seen) * 8) s.coord (s.fld (fabReg 0x040) 0 12) (s.die 0).serial.toNat i x.rxNext
/-- Send XTS on the slots that a port lights (R289, R292): codewords that have begun are filled first. -/
def State.sendXts (s : State) (p : Nat) : State :=
  let t := s.portFill p
  let lit := (List.range 10).filter (fun o => decide ((t.port p).txLane o ≠ .dark) && decide ((t.port p).txLane o ≠ .failed))
  t.emit (.portSets p (lit.map (fun o => (o, t.ownXts p o 0))))
/-- Send a set on every lane of a port's map. -/
def State.sendOnMap (s : State) (p : Nat) (set : List LineChar) : State := s.emit (.portSets p ((s.port p).txMap.toList.map (fun o => (o.val, set))))

/-- Whether both directions of a port are in service, in one of the states between (R290, R325). -/
def State.portIn (s : State) (p : Nat) : Bool :=
  let up := fun (m : PortMode) => !([PortMode.off, .training, .down, .out].contains m)
  up (s.port p).tx && up (s.port p).rx
/-- A pass that has nothing left is over (R265, R469): no group, and no port that could go on with its lanes. Where eclosion waits for it and the job has been
restarted, the device is in Imago again (R449). -/
def State.passOver (s : State) : State :=
  if s.calPass.running ∧ s.calPass.groups.isEmpty ∧ s.calPass.ports.all (fun p => !([PortMode.service, .paused, .retrain, .waking].contains (s.port p).tx)) then
    let p := s.calPass
    let on := decide (s.stage = .pupa) && decide (s.jobPhase = 3) && s.restart.busy && decide (s.stop.cause = 0) && p.awaited && !p.pending
    (({ s with calPass := { p with running := false, ports := [], awaited := p.awaited && p.pending }, stage := if on then .imago else s.stage }).bump (regAddr .cal 0 0x054) 0 16 1).irq .cal 0 0
  else s

/-- Discovery is complete once every used port is in SERVICE or OUT (R302). -/
def State.discCheck (s : State) : State :=
  if s.fld (fabReg 0x044) 18 2 = 0 ∧ (List.range 6).all (fun p => !s.portUsed p || decide ((s.port p).tx = .service) || decide ((s.port p).tx = .out)) then
    (s.setFld (fabReg 0x044) 18 2 1).irq .fab 0 0
  else s

/-- A port is OUT (R290, R293, R301). -/
def State.portOut (s : State) (p cause : Nat) : State :=
  let s1 := s.modPort p (fun x => { x with tx := .out, rx := .out, cause := cause, replay := [], resend := none, txMsg := [] })
  ((if 1 ≤ cause ∧ cause ≤ 3 then s1.irq .fab 0 3 else s1).discCheck).passOver

/-- A port direction is DOWN (R293): its replay buffer is discarded (R322), and the job faults (R513). -/
def State.portDown (s : State) (p : Nat) (tx : Bool) : State :=
  let s1 := s.modPort p (fun x => if tx then { x with tx := .down, replay := [], resend := none, spare := none, spareWant := [], inPlace := [], txMsg := [] } else { x with rx := .down, rxSpare := none })
  (((s1.irq .xport p 1).irq .fab 0 2).jobFault 5 4 (niDie (some p)) p).passOver

/-- Begin training of both directions of a port (R290 t0). -/
def State.portTrain (s : State) (p : Nat) (once : Bool) : State :=
  (s.modPort p (fun x => { x with tx := .training, rx := .training, cause := 0, t0 := s.now, attempts := 0, oneTry := once, disabled := false, receiving := false, peerRecv := false, bothSince := none, txLanes := Vector.replicate 10 .training, rxLanes := Vector.replicate 10 { state := .locking }, spare := none, rxSpare := none, spareWant := [], inPlace := [], txMsg := [], rxMsg := Vector.replicate 8 [], rxBurst := .between, rxItems := [] })).sendXts p

/-- Send an LCTL cell to the neighbour (R305). -/
def State.lctl (s : State) (p op lane off : Nat) : State :=
  let c := extCell 0x13 (s.fld (xportReg p 0x048) 0 12) s.coord 0 4 0 (63 * 2048) (BitVec.ofNat 256 (op + lane * 256 + off * 65536))
  s.modPort p (fun x => { x with inject := x.inject ++ [(4, c)] })

/-- A transmit direction enters RETRAIN (R293). -/
def State.enterRetrain (s : State) (p : Nat) : State :=
  if (s.port p).tx = .service then
    (((s.modPort p (fun x => { x with tx := .retrain, since := s.now, peerRecv := false, bothSince := none })).bump (xportReg p 0x07C) 0 16 1).irq .xport p 4).sendXts p
  else s

/-- Whether a swap of a line of a port's fibre is between its trigger and its end, and whether it pauses the transmitter now (R272, R298). -/
def State.portSwap (s : State) (p : Nat) (paused : Bool) : Bool :=
  (List.range 10).any (fun l => match (sget {} s.lines (41 * portFibre p + l)).swap with
    | some w => w.trigger.isSome && !w.resumed && (!paused || w.paused)
    | none => false)

/-- The STANDBY slot that a lane is spared onto (R266, R295): the one calibrated last, else the lowest; none that is still to be relocked in place. -/
def Port.spareOnto (x : Port) : Option (Fin 10) :=
  let free := (List.finRange 10).filter (fun o => decide (x.txLanes.get o = .standby) && !x.inPlace.contains o)
  match x.calFresh with
  | some f => if free.contains f then some f else free.head?
  | none => free.head?
/-- Start the next sparing that is due in a transmit direction (R293, R295, R298): one at a time, in SERVICE, and not during a swap. A slot that XPORT.CMD names
is taken where it is still STANDBY. A lane that has failed needs a STANDBY slot; another waits for a slot that is being calibrated. -/
def State.portSpareNext (s : State) (p : Nat) : State :=
  let x := s.port p
  match x.spareWant with
  | [] => s
  | (lane, named) :: t =>
    let onto := match named with | some o => if x.txLane o = .standby then some o else x.spareOnto | none => x.spareOnto
    let failed := decide (x.txLanes.get (x.txMap.get lane) = .failed)
    if x.spare.isSome ∨ x.tx ≠ .service ∨ s.portSwap p false then s
    else
      match onto with
      | some o =>
        if x.inPlace.contains o then s
        else
          let x1 := { (x.setTx o .shadow) with spareWant := t, spare := some ⟨lane, x.txMap.get lane, o, s.now⟩ }
          ((s.setPort p x1).irq .xport p 2).lctl p 2 lane o
      | none =>
        if x.txLanes.toList.contains .standby ∨ (x.txLanes.toList.contains .cal ∧ !failed) then s
        else
          let s1 := (s.setPort p { x with spareWant := t }).irq .xport p 6
          if failed then s1.portDown p true else s1

/-- Whether a lane of a transmit direction is being spared. -/
def Port.sparing (x : Port) (lane : Fin 8) : Bool := match x.spare with | some k => decide (k.lane = lane) | none => false
/-- Ask for a lane of a transmit direction to be spared (R295); one already being spared is not asked for again. -/
def State.portSpareAsk (s : State) (p : Nat) (lane : Fin 8) : State :=
  let x := s.port p
  if x.sparing lane || x.spareWant.any (fun w => decide (w.1 = lane)) then s
  else (s.setPort p { x with spareWant := x.spareWant ++ [(lane, none)] }).portSpareNext p
/-- An ACTIVE lane of a transmit direction has failed hard (R293, R324): in SERVICE or PAUSED with no lane STANDBY the direction is DOWN, else the lane is to be
spared. -/
def State.portHard (s : State) (p : Nat) (lane : Fin 8) : State :=
  let x := s.port p
  let s1 := s.setPort p (x.setTx (x.txMap.get lane) .failed)
  if (x.tx = .service ∨ x.tx = .paused) ∧ !x.sparing lane ∧ !x.txLanes.toList.contains .standby then (s1.irq .xport p 6).portDown p true
  else s1.portSpareAsk p lane

/-- A ring of a port's transmitter is near an end of its heater's range: its slot is calibrated next (R259). -/
def State.portCalDue (s : State) (p : Nat) (o : Fin 10) : State := s.modPort p (fun x => { x with calDue := if x.calDue.contains o then x.calDue else x.calDue ++ [o] })

/-- A receive lane of a port fails hard or loses lock (R227, R293, R295): SPARE_REQ goes to the neighbour, or without a STANDBY lane the
direction is DOWN. -/
def State.portLaneFail (s : State) (p off cause : Nat) : State :=
  let x := s.port p
  if (x.rxLane off).state ≠ .active then s
  else
    let s1 := (s.setPort p (x.modRx off (fun l => { l with state := .failed }))).portLog p off 1 cause
    if !x.rxLanes.toList.any (fun l => decide (l.state = .standby)) then (s1.irq .xport p 6).portDown p false
    else
      match (List.finRange 8).find? (fun k => decide ((x.rxMap.get k).val = off)) with
      | some k => s1.lctl p 1 k 0
      | none => s1

/-- The lanes of a port's own transmit rings are to be calibrated (R259, R296): the STANDBY slots are relocked in place, and then each ACTIVE lane is spared, in
ascending slot offset, those whose ring is due first. A direction without a STANDBY slot is calibrated in PAUSED (R297). -/
def State.portCalStart (s : State) (p : Nat) : State :=
  let x := s.port p
  let standby := (List.finRange 10).filter (fun o => decide (x.txLanes.get o = .standby))
  let all := (List.finRange 10).filterMap (fun o => (List.finRange 8).find? (fun k => decide (x.txMap.get k = o)))
  let lanes := all.filter (fun k => x.calDue.contains (x.txMap.get k)) ++ all.filter (fun k => !x.calDue.contains (x.txMap.get k))
  if x.tx ≠ .service ∨ standby = [] then s
  else
    let fresh := standby.filter (fun o => !x.inPlace.contains o)
    s.setPort p { x with
      inPlace := x.inPlace ++ fresh, calFresh := none, calSince := fresh.foldl (fun m o => sput m o s.now) x.calSince
      spareWant := x.spareWant ++ (lanes.filter (fun k => !x.spareWant.any (fun w => decide (w.1 = k)))).map (fun k => (k, none)) }
/-- A port's part in a pass is over once no lane of it is still to be spared or calibrated (R265, R296). -/
def State.portCalDone (s : State) (p : Nat) : State :=
  let x := s.port p
  if x.spareWant = [] ∧ x.spare = none ∧ x.inPlace = [] ∧ !x.txLanes.toList.contains .cal then
    ({ s with calPass := { s.calPass with ports := s.calPass.ports.filter (fun q => decide (q ≠ p)) } }).passOver
  else s
/-- The start of the device's idle interval in a pass (R297): each port whose receive lanes have no STANDBY slot asks the neighbour to pause. -/
def State.pauseReqs (s : State) : State :=
  if s.calPass.running then
    (List.range 6).foldl (fun t p => if t.portIn p ∧ !(t.port p).rxLanes.toList.any (fun l => decide (l.state = .standby)) then t.lctl p 5 0 0 else t) s
  else s

/-- A transmit lane of a port fails (R260, R264): it is spared. -/
def State.portTxFail (s : State) (p off : Nat) : State :=
  let x := s.port p
  if x.txLane off ≠ .active then s
  else
    let s1 := s.portLog p off 0 4
    match (List.finRange 8).find? (fun k => decide ((x.txMap.get k).val = off)) with
    | some k => s1.portHard p k
    | none => s1.setPort p (x.setTx off .failed)

end Sys2Proof.Machine
end

