-- ==== Sys2Proof/Machine/Light.lean ====
section
/-!
DEFINITION. Sys2Proof/Machine/Light.lean: laser source modules, lines, REF_LIGHT, ring lock, lane identity, rolling calibration, fades and
swaps, and the eye-safety interlock (R240 to R279). Powers are in 0.01 dB, frequency offsets in 10 MHz.
-/
namespace Sys2Proof.Machine

/-! ## Names -/

/-- The LSM that feeds a fibre, and its output (R243). -/
def fibreLsm (f : Nat) : Nat × Nat := if f < 24 then (f / 4, f % 4) else (6, f - 24)
/-- The fibres of the outputs named in a mask (R243). -/
def lsmFibres (lsm : Nat) (outs : BitVec 4) : List Nat := ((List.range (if lsm = 6 then 2 else 4)).filter (fun j => outs.getLsbD j)).map (· + 4 * lsm)
/-- The number of lines that a fibre carries (R243). -/
def fibreLines (f : Nat) : Nat := if f < 24 then 41 else 10
/-- A line of a fibre. -/
def State.line (s : State) (f l : Nat) : LaserLine := sget {} s.lines (41 * f + l)
/-- Update a line. -/
def State.modLine (s : State) (f l : Nat) (g : LaserLine → LaserLine) : State := { s with lines := sset {} s.lines (41 * f + l) (g (s.line f l)) }
/-- A laser input. -/
def State.input (s : State) (f : Nat) : Input := sget {} s.inputs f
/-- Update a laser input. -/
def State.modInput (s : State) (f : Nat) (g : Input → Input) : State := { s with inputs := sset {} s.inputs f (g (s.input f)) }
/-- An LSM. -/
def State.lsm (s : State) (k : Nat) : Lsm := s.lsms.toList.getD k {}
/-- Update an LSM. -/
def State.modLsm (s : State) (k : Nat) (g : Lsm → Lsm) : State := { s with lsms := s.lsms.setIfInBounds k (g (s.lsm k)) }
/-- An LSM register. -/
def lsmReg (k off : Nat) : Nat := regAddr .lsm k off
/-- The powers measured in the `ns` nanoseconds before a line's last visit, with their times, newest first. -/
def LaserLine.recent (x : LaserLine) (ns : Nat) : List (Nat × Int) :=
  match x.hist with
  | [] => []
  | (t, _) :: _ => x.hist.filter (fun e => decide (t < e.1 + ns))
/-- The power of a line, averaged over 100 ms (R269). -/
def LaserLine.average (x : LaserLine) : Int :=
  let h := x.recent 100000000
  if h.isEmpty then x.power else (h.map Prod.snd).sum / (h.length : Int)
/-- The loss of the active laser of a line (R269). -/
def LaserLine.loss (x : LaserLine) : Int := x.average - x.base.getD x.average
/-- Whether the line fitted by least squares to the loss figures of the last 200 ms falls more steeply than 0.5 dB/s (R271). -/
def LaserLine.falling (x : LaserLine) : Bool :=
  let h := x.recent 200000000
  let t := fun (e : Nat × Int) => (e.1 : Int)
  let n : Int := h.length
  let st := (h.map t).sum
  let sy := (h.map Prod.snd).sum
  let den := n * (h.map (fun e => t e * t e)).sum - st * st
  decide (0 < den ∧ 1000000000 * (n * (h.map (fun e => t e * e.2)).sum - st * sy) < -50 * den)
/-- A signed 16-bit field as an integer (R468). -/
def signed16 (v : Nat) : Int := (BitVec.ofNat 16 v).toInt
/-- The reading in use of the diode of a die, in 0.1 °C (R444, R468 DIODE_STAT). -/
def State.reading (s : State) (c : Nat) : Int := signed16 (s.fld (regAddr .therm 0 (0x400 + 4 * c)) 0 16)

/-- The groups whose lanes stand on a line of a fibre, with the slot offset. -/
def lineGroups (f l : Nat) : List (Nat × Nat) :=
  ((List.range 1158).filter (fun g => decide (grpFibre g = f) && decide (10 * (grpNo g % 4) ≤ l) && decide (l < 10 * (grpNo g % 4) + 10))).map
    (fun g => (g, l % 10))
/-- The outputs that the laser pair of a fibre's lines feeds, as its LSM reports them (R245); the fibre's own output where none is reported. -/
def State.pairOuts (s : State) (f : Nat) : BitVec 4 :=
  (((s.lsm (fibreLsm f).1).pairs).find? (fun m => m.getLsbD (fibreLsm f).2)).getD (BitVec.twoPow 4 (fibreLsm f).2)
/-- The fibres that the laser pair of a fibre's lines feeds. -/
def State.pairFibres (s : State) (f : Nat) : List Nat := lsmFibres (fibreLsm f).1 (s.pairOuts f)
/-- Update a line on every fibre that its laser pair feeds. -/
def State.modPair (s : State) (f l : Nat) (g : LaserLine → LaserLine) : State := (s.pairFibres f).foldl (fun t k => t.modLine k l g) s
/-- Whether a group's lane map uses a slot offset. -/
def Group.uses (x : Group) (off : Nat) : Bool := (x.laneOf off).isSome

/-! ## Bringing up the light (R246 to R249) -/

/-- Whether every line of fibres 0 to 23 has been measured and steered to within ±0.25 GHz (R247 t2). -/
def State.linesReady (s : State) : Bool :=
  (List.range 24).all (fun f => (List.range 41).all (fun l => (s.line f l).first.isSome && decide ((s.line f l).offset.natAbs ≤ 25)))
/-- Every group that is OFF enters TRAINING, all ten lanes to LOCKING, once LSM 0 to 5 are lit, REF_LIGHT is valid and the lines are ready (R228, R247 t3). -/
def State.startGroups (s : State) : State :=
  if (List.range 6).all (fun k => decide ((s.lsm k).mode = .lit)) ∧ s.refLight.valid ∧ s.linesReady then
    (List.range 1158).foldl (fun t g =>
      let x := t.grp g
      if x.state = .off ∧ (40 ≤ grpHome g ∨ t.stackActive (grpHome g)) then
        t.setGrp g { x with state := .training, attempts := 0, lanes := Vector.replicate 10 { state := .locking, since := t.now } }
      else t) s
  else s

/-- Whether the folio's LSM table names a model (R246, R493): records of 32 bytes of names and nine actions of 4 bytes. -/
def State.modelApproved (s : State) (names : BitVec 256) : Bool :=
  match objSection s.vault.folio 0x04 with
  | none => false
  | some x => (List.range (min 16 (x.len / 68))).any (fun i => decide (x.field (68 * i) 32 = names.toNat))

/-- An LSM that is not to be used: in Larva LSM 0 to 5 stop the device, LSM 6 leaves the ports out (R248). -/
def State.lsmDown (s : State) (k : Nat) (m : LsmMode) : State :=
  let s1 := s.modLsm k (fun x => { x with mode := m, enabled := 0 })
  if k < 6 ∧ s.stage = .larva then { s1 with bootWait := 7 } else s1

/-- The outputs of an LSM that the device uses (R243). -/
def lsmUsed (k : Nat) : BitVec 4 := if k = 6 then 3 else 15
/-- LSM_IDENTIFY (R246 to R249, R277): first identified and checked (t0 of R247), with the used outputs at their probe setting; then, by the probes' outcome (t1), set to full
power, or shut where the probe fails. A new serial number has every laser commissioned afresh. -/
def execLsmIdentify (lsm : Fin 7) (present : Bool) (names : BitVec 256) (read : LsmRead) (probes : BitVec 4) (s : State) :
    Host.Outcome State Fault Refusal :=
  let k := lsm.val
  if s.stage ≠ .larva then .next s
  else if !present then .next (s.lsmDown k .absent)
  else if !s.modelApproved names then .next ((s.lsmDown k .fault).irq .lsm k 7)
  else if (s.lsm k).mode ≠ .probe then
    .next (s.modLsm k (fun x => { x with mode := .probe, approved := true, outputs := read.outputs, pairs := read.pairs, enabled := lsmUsed k, shut := 0, enHigh := false, cmisRow := 0 }))
  else
    let used := lsmUsed k
    let folded : Dword := BitVec.ofNat 64 (bits read.serial.toNat 0 64 ^^^ bits read.serial.toNat 64 64)
    let fresh := decide (s.rd64 (lsmReg k 0x048) ≠ folded)
    let bad := used &&& ~~~probes
    let s1 := s.wr64 (lsmReg k 0x048) folded
    let s2 := s1.modLsm k (fun x => { x with mode := (if bad = 0 then .lit else .shut), approved := true, enabled := used &&& probes, shut := bad, enHigh := decide (bad ≠ 0), cmisRow := 0 })
    let s3 := if bad = 0 then s2 else s2.irq .lsm k 5
    let s4 := (lsmFibres k used).foldl (fun t f => (List.range (fibreLines f)).foldl (fun u l =>
      u.modLine f l (fun y => if fresh then { lit := true } else { y with lit := true, first := none })) t) s3
    .next s4.startGroups

/-- The ports whose transmitters a fibre feeds (R280). -/
def fibrePorts (f : Nat) : List Nat := (List.range 6).filter (fun p => decide (portFibre p = f))
/-- The transmitters of the ports on darkened fibres fail: their directions are DOWN, which is a job fault (R227, R293). -/
def State.darkPorts (s : State) (fs : List Nat) : State :=
  (fs.flatMap fibrePorts).foldl (fun t p =>
    if (t.port p).tx = .off ∨ (t.port p).tx = .out ∨ (t.port p).tx = .down then t
    else ((t.modPort p (fun x => { x with txLanes := Vector.replicate 10 .failed })).portLog p 0 0 1).portDown p true) s
/-- Every lane on a darkened input fails, and its group with it; the darkening is one job fault (R227, R249, R276, R513). -/
def State.darken (s : State) (fs : List Nat) : State :=
  let gs := (List.range 1158).filter (fun g => fs.contains (grpFibre g) && (s.grp g).inService)
  let s1 := gs.foldl (fun t g =>
    let x := t.grp g
    let lanes : Vector Lane 10 := x.lanes.map (fun l => if l.state = .dark then l else { l with state := .failed, since := t.now })
    (((t.setGrp g { x with lanes := lanes, state := .faulted, token := .kept, sparing := none }).laneLog g 0 1).irq .phoHome (grpHome g) 0).irq .phoHome (grpHome g) 2) s
  let s2 := fs.foldl (fun t f => (List.range (fibreLines f)).foldl (fun u l => u.modLine f l (fun y => { y with lit := false, swap := none })) t) s1
  (if gs.isEmpty then s2 else s2.jobFault 5 5 0 (fs.headD 0)).darkPorts fs

/-- CMIS_FAIL (R246): retries are counted, and three failed transactions in a row set the LSM to FAULT. -/
def execCmisFail (lsm : Fin 7) (retries : Fin 4) (good : Bool) (s : State) : Host.Outcome State Fault Refusal :=
  let k := lsm.val
  let s1 := s.bump (lsmReg k 0x074) 0 16 retries
  if good then .next (s1.modLsm k (fun x => { x with cmisRow := 0 }))
  else
    let n := (s.lsm k).cmisRow + 1
    let s2 := ((s1.bump (lsmReg k 0x074) 16 16 1).irq .lsm k 8).modLsm k (fun x => { x with cmisRow := n })
    if n = 3 then .next (((s2.lsmDown k .fault).irq .lsm k 7).darken (lsmFibres k 15)) else .next s2

/-- LSM_REMOVAL (R249). -/
def execLsmRemoval (lsm : Fin 7) (s : State) : Host.Outcome State Fault Refusal :=
  let k := lsm.val
  let s1 := (s.lsmDown k .absent).modLsm k (fun x => { x with swapping := none })
  if s.dst = .d0 ∨ s.dst = .d1 then .next (s1.darken (lsmFibres k 15)) else .next s1

/-! ## REF_LIGHT (R250, R253) -/

/-- REF_LIGHT_LOSS (R253): once Larva is over the device goes into holdover; in Larva it waits. -/
def execRefLightLoss (s : State) : Host.Outcome State Fault Refusal :=
  let s1 := (List.range 7).foldl (fun t k => t.irq .lsm k 6) s
  if s.stage = .pupa ∨ s.stage = .imago then
    .next { s1 with refLight := { s.refLight with valid := false, since := s.now, holdover := some (s.refLight.holdover.getD s.now) } }
  else .next { s1 with refLight := { s.refLight with valid := false, since := s.now }, bootWait := (if s.stage = .larva ∧ s.bootWait = 0 then 2 else s.bootWait) }

/-- REF_LIGHT_RESTORED (R250, R253): REF_LIGHT becomes valid again, which Larva waits for; once it has been valid for 10 s the holdover ends. -/
def execRefLightRestored (s : State) : Host.Outcome State Fault Refusal :=
  if !s.refLight.valid then
    let s1 := { s with refLight := { s.refLight with valid := true, since := s.now }, bootWait := (if s.bootWait = 2 then 0 else s.bootWait) }
    .next (if s.stage = .larva then s1.startGroups else s1)
  else if s.refLight.since + 10000000000 ≤ s.now then .next { s with refLight := { s.refLight with holdover := none, expired := false } }
  else .next s

/-- HOLDOVER_EXPIRY (R253): 3,600 s of holdover end serving as an orderly stop. -/
def execHoldoverExpiry (s : State) : Host.Outcome State Fault Refusal :=
  match s.refLight.holdover with
  | none => .next s
  | some t =>
    if s.refLight.expired ∨ s.now < t + 3600000000000 then .next s
    else .next { s with refLight := { s.refLight with expired := true }, stopAsked := some (3, 0) }

/-! ## Lock loops (R259, R260) -/

/-- The number a ring is kept under. -/
def ringKey : Ring → Nat
  | .receive g o => 10 * g.val + o.val
  | .modulator n g o => 20000 + (n.val * 1158 + g.val) * 10 + o.val
  | .arbitration n w => arbKey n w
  | .portTx p o => 2000000 + 10 * p.val + o.val
  | .portRx p o => 2000100 + 10 * p.val + o.val
/-- The frequency offset of the line that a ring works on, in 0.01 GHz (R251): a port's receive ring follows the neighbour's line. -/
def State.ringLine (s : State) : Ring → Int
  | .receive g o => (s.line (grpFibre g) (grpSlot g o)).offset
  | .modulator _ g o => (s.line (grpFibre g) (grpSlot g o)).offset
  | .arbitration _ w => (s.line (w.val % 24) 40).offset
  | .portTx p o => (s.line (portFibre p) o).offset
  | .portRx _ _ => 0
/-- The required shift of ring `r` of a position (R254, R255): its resonance with no heater power, −1.2 GHz/K from 25 °C, less its line's frequency. -/
def State.required (s : State) (ring : Ring) (r : Nat) : Int := Config.ringRest (ringKey ring) r - 12 * (s.reading 0 - 250) - s.ringLine ring
/-- The member of a list with the least weight, the first of several. -/
def leastBy (w : Nat → Nat) : List Nat → Option Nat
  | [] => none
  | r :: t => match leastBy w t with | some q => if w q < w r then some q else some r | none => some r
/-- The ring to select by the required shifts of a triplet (R255): the smallest in [5, 55] GHz, else the one in [0, 60] GHz nearest 30 GHz, else none. -/
def chooseRing (f : Nat → Int) : Option Nat :=
  match leastBy (fun r => (f r).toNat) ([0, 1, 2].filter (fun r => decide (500 ≤ f r ∧ f r ≤ 5500))) with
  | some r => some r
  | none => leastBy (fun r => (f r - 3000).natAbs) ([0, 1, 2].filter (fun r => decide (0 ≤ f r ∧ f r ≤ 6000)))
/-- Set ring positions from their tables, the starting point of a lock (R256). -/
def State.seedKeys (s : State) (ks : List Nat) : State :=
  let t := s.reading 0
  { s with rings := ks.foldl (fun m k => smod {} m k (fun _ => { pick := s.pickFor (ringItem k) t, shift := (s.codeFor (ringItem k) t).toNat })) s.rings }
/-- Set some rings from their tables. -/
def State.seedRings (s : State) (rs : List Ring) : State := s.seedKeys (rs.map ringKey)
/-- Calibrate ring positions (R255, R256): each is reselected, locked, and has fresh user values; one that cannot be locked stays as it is. -/
def State.calRings (s : State) (rs : List Ring) : State :=
  let t := s.reading 0
  let got : List (Nat × Nat × Int) := rs.filterMap (fun r => (chooseRing (s.required r)).map (fun i => (ringKey r, i, s.required r i)))
  ({ s with rings := got.foldl (fun m (e : Nat × Nat × Int) => smod {} m e.1 (fun _ => { pick := e.2.1, shift := e.2.2.toNat })) s.rings }).userMeasured
    (got.map (fun (e : Nat × Nat × Int) => (ringItem e.1, userValue (some e.2.1) (e.2.2 - lerp (Config.factoryCode (ringItem e.1)) t))))
/-- The span of a ring's heater in 0.01 GHz (R254, R257). -/
def ringSpan : Ring → Nat
  | .arbitration _ _ => 13000
  | _ => 6000

/-- One update of a lock loop (R259): the heater moves by at most 0.01 GHz toward the line; a ring above its line needs more
shift. -/
def RingSt.update (r : RingSt) (span : Nat) (err : Int) (now : Nat) : RingSt :=
  let shift := if 0 < err then min span (r.shift + 1) else if err < 0 then r.shift - 1 else r.shift
  let errSince := if err.natAbs ≤ 30 then none else some (r.errSince.getD now)
  let endSince := if shift = 0 ∨ shift = span then some (r.endSince.getD now) else none
  let old := fun (t : Option Nat) => match t with | some t0 => decide (t0 + 5000 ≤ now) | none => false
  { shift := shift, errSince := errSince, endSince := endSince, lost := old errSince || old endSince }

/-- The writer sites that have a group of a home channel in reach. -/
def State.reachLeft (s : State) (site h : Nat) : Bool :=
  (homeGroups h).any (fun g => inReach site g && !(s.grp g).isAway site && decide ((s.grp g).state ≠ .retired))

/-- A ring has lost lock (R260): a receive ring fails its lane, a modulator ring takes the group out of its writer's reach, an
arbitration ring loses the tokens it relays. The lane of an internal ring is calibrated next. -/
def State.ringLost (s : State) (r : Ring) : State :=
  match r with
  | .receive g o => if ((s.grp g).lane o).state = .active then s.failLane g o 4 else s
  | .modulator n g o =>
    let s1 := s.modGrp g (fun x => { x.setLane o { x.lane o with calDue := true } with away := (if x.away.contains (n.val, o.val) then x.away else x.away ++ [(n.val, o.val)]) })
    if s1.reachLeft n (grpHome g) then s1 else s1.jobFault 5 3 (homeDie n) g
  | .arbitration n w =>
    let gs := (List.range 1158).filter (fun g => decide (grpWave g = w.val))
    gs.foldl (fun t g => let x := t.grp g; if x.token = .free ∨ x.token = .sleep then t.setGrp g { x with token := .absent, tokenSeen := t.now } else t)
      (s.irq .phoSite n 2)
  | .portRx p o => s.portLaneFail p o 4
  | .portTx p o => s.portTxFail p o

/-- Whether a writer holds a modulator ring parked (R258): it does not hold the ring's group. -/
def State.parked (s : State) : Ring → Bool
  | .modulator n g _ => decide ((s.grp g).token ≠ .held n.val)
  | _ => false
/-- How far above its line a ring is to stand, in 0.01 GHz: a parked ring 12 GHz (R258). -/
def State.ringBias (s : State) (ring : Ring) : Int := if s.parked ring then 1200 else 0
/-- Whether a burst of a writer is on its way on a group: it holds the token, awake, and the burst awaits its status. -/
def State.sending (s : State) (n g : Nat) : Bool :=
  decide ((s.grp g).token = .held n) && (s.site n).bursts.any (fun b => decide (b.grp = g) && decide (b.due = 0))
/-- The heater of a ring in 0.01 GHz (R258): what its lock loop holds, less its bias, and for a modulator ring the power it absorbs while modulating, removed from the
first character of a burst to its last. -/
def State.heater (s : State) (ring : Ring) : Int :=
  let held := ((sget {} s.rings (ringKey ring)).shift : Int) - s.ringBias ring
  match ring with
  | .modulator n g _ => if s.sending n g then held else held + Config.absorbed (ringKey ring)
  | _ => held
/-- LOCK_LOOP_UPDATE (R258 to R260): the error is against the line, or against the place 12 GHz above it where the ring is parked. A ring near an end of its range is due to be
calibrated. -/
def execLockLoopUpdate (ring : Ring) (err : Int) (s : State) : Host.Outcome State Fault Refusal :=
  let k := ringKey ring
  let r := sget {} s.rings k
  let r1 : RingSt := { r.update (ringSpan ring) (err - s.ringBias ring) s.now with pick := r.pick }
  let s1 := { s with rings := sset {} s.rings k r1 }
  let near := decide (r1.shift ≤ 500) || decide (ringSpan ring ≤ r1.shift + 500)
  let s2 := match ring with
    | .receive g o => if near then s1.modLane g o (fun l => { l with calDue := true }) else s1
    | .modulator _ g o => if near then s1.modLane g o (fun l => { l with calDue := true }) else s1
    | .portTx p o => if near then s1.portCalDue p o else s1
    | _ => s1
  if r1.lost ∧ !r.lost then .next (s2.ringLost ring) else .next s2

/-! ## Lane identity (R261 to R263) -/

/-- The writers with modulators on a group that take part in a sweep. -/
def sweepers (g : Nat) : List Nat := (List.range 59).filter (fun n => inReach n g)
/-- The writers that take their turns in a sweep of a lane, in ascending upstream distance (R262): all of them, or in a second sweep those still to check (R263). -/
def turns (g : Nat) (check : List Nat) : List Nat :=
  let ws := if check = [] then sweepers g else check
  (List.range 58).filterMap (fun d => ws.find? (fun n => decide (upstream (grpHome g) n = d)))
/-- Whether a run of MARKs is what its writer sends in its turn of a sweep of a slot that started at `start` (R261, R262). -/
def markRight (g off start : Nat) (order : List Nat) (m : MarkRun) : Bool :=
  let r := order.idxOf m.site.val
  decide (m.set = setMark (grpSlot g off) (sitePos m.site)) && decide (r < order.length) && decide (start + 1250 * r ≤ m.first) && decide (m.first ≤ m.last) && decide (m.last ≤ start + 1250 * r + 1000)
/-- Whether a slot sends and counts MARK (R261): in LOCKING, in CAL, or in STANDBY where it is being recalibrated in place. -/
def Group.marking (x : Group) (off : Fin 10) : Bool :=
  match (x.lane off).state with
  | .locking => true
  | .cal => true
  | .standby => x.inPlace.contains off || (x.lane off).calDue
  | _ => false
/-- The ring positions of a lane: its receive ring, and the modulator rings of some writers. -/
def laneRings (g : Fin 1158) (o : Fin 10) (ws : List Nat) : List Ring := .receive g o :: ws.map (fun n => .modulator (Fin.ofNat 59 n) g o)

/-- MARK_SWEEP (R261, R262): the rings start from their tables, the writers send MARK in ranked turns of 1,250 ns from the start time on, and the reader counts each
writer's. -/
def execMarkSweep (grp : Fin 1158) (off : Fin 10) (heard : SweepHeard) (s : State) : Host.Outcome State Fault Refusal :=
  let x := s.grp grp
  let l := x.lane off
  let order := turns grp l.check
  if x.marking off ∧ heard.start + 1250 * order.length ≤ s.now then
    let s1 := if l.sweeps = 0 then s.seedRings (laneRings grp off (sweepers grp)) else s
    .next (s1.modLane grp off (fun k => { k with sweepAt := some s.now, sweeps := k.sweeps + 1, marks := (heard.marks.filter (markRight grp off heard.start order)).map (fun m => (m.site.val, m.count)) }))
  else .next s

/-- A lane whose rings are all confirmed (R262): in CAL its calibration is complete, and it trains. -/
def Lane.sweepOk (l : Lane) (now : Nat) : Lane :=
  let l1 := { l with confirmed := true, sweepAt := none, check := [], marks := [], again := false, sweeps := 0, calDue := false }
  if l.state = .cal then { l1 with state := .training, since := now, tries := 0 } else l1

/-- A lane's check is over (R256, R266): in a calibration the rings that it confirmed are calibrated, and a STANDBY slot that was recalibrated in place is the one
recalibrated last. -/
def State.laneChecked (s : State) (g : Fin 1158) (o : Fin 10) (ws : List Nat) : State :=
  let x := s.grp g
  if (x.lane o).state = .standby then
    (s.setGrp g { x with inPlace := x.inPlace.filter (fun k => decide (k ≠ o)), calFresh := some o }).calRings (laneRings g o ws)
  else if (x.lane o).state = .training then s.calRings (laneRings g o ws)
  else s
/-- SWEEP_OUTCOME (R263). -/
def execSweepOutcome (grp : Fin 1158) (off : Fin 10) (s : State) : Host.Outcome State Fault Refusal :=
  let g := grp.val
  let x := s.grp g
  let l := x.lane off
  if l.sweepAt.isNone then .next s
  else
    let valid := fun (n : Nat) => l.marks.any (fun m => decide (m.1 = n) && decide (16 ≤ m.2))
    let wrong := fun (t : State) => (t.laneLog g off 3).irq .phoHome (grpHome g) 3
    let back := x.away.filter (fun e => !(decide (e.2 = off.val) && valid e.1))
    if l.check ≠ [] then
      let lost := l.check.filter (fun n => !valid n)
      let x1 := { x with away := (back ++ lost.map (fun n => (n, off.val))).dedup }
      let s1 := (s.setGrp g (x1.setLane off (l.sweepOk s.now))).laneChecked grp off (l.check.filter valid)
      .next (if lost.isEmpty then s1 else wrong s1)
    else
      let ws := (sweepers g).filter (fun n => !x.isAway n)
      let bad := ws.filter (fun n => !valid n)
      if ws.length ≤ 2 * (ws.length - bad.length) then
        let x1 := { x with away := back }
        let seen := (sweepers g).filter valid
        if bad.isEmpty then .next ((s.setGrp g (x1.setLane off (l.sweepOk s.now))).laneChecked grp off seen)
        else .next (wrong ((s.setGrp g (x1.setLane off { l with confirmed := true, check := bad, sweepAt := none, marks := [] })).calRings (if l.state = .locking then [] else laneRings grp off seen)))
      else if l.again ∨ 2 ≤ l.locks then
        .next ((wrong (s.modLane g off (fun k => { k with state := .failed, since := s.now, sweepAt := none, marks := [], again := false }))).laneLog g off 4)
      else
        .next (wrong (s.modLane g off (fun k => { k with again := true, locks := k.locks + 1, sweepAt := none, marks := [] })))

/-! ## Rolling calibration (R265 to R268) -/

/-- VREF_CAL is measured (R461): a free value in 0.1 mV, as it lies outside the device; out of range the device uses factory gains. -/
def State.vrefCheck (s : State) : State :=
  let x := s.fresh
  let v := Config.freeNat x.1 % 2 ^ 16
  let ok := decide (11500 ≤ v) && decide (v ≤ 12500)
  let s1 := (x.2.setFld (regAddr .cal 0 0x04C) 0 16 v).setFld (regAddr .cal 0 0x044) 2 1 (b2n ok)
  if ok then s1 else s1.irq .cal 0 1

/-- Whether the base reading has moved by more than CAL_DELTA since the last pass began (R462). -/
def State.passMoved (s : State) : Bool := decide ((s.fld (regAddr .cal 0 0x040) 0 8 : Int) < ((s.reading 0 - s.calPass.baseTemp).natAbs : Int))
/-- Whether a pass may run now (R462): in D0 and D1, and not while an orderly stop is under way, which defers it to Pupa (R449). -/
def State.mayPass (s : State) : Bool := (decide (s.dst = .d0) || decide (s.dst = .d1)) && (decide (s.stop.cause = 0) || s.stop.stopped)
/-- CAL_PASS_START (R265, R296, R460, R462): the base reading has moved by more than CAL_DELTA, or a pass is asked for; a trigger in a pass
waits for its end, and one in D2 or in an orderly stop is held. -/
def execCalPassStart (s : State) : Host.Outcome State Fault Refusal :=
  let p := s.calPass
  let t := s.reading 0
  if s.stage ≠ .pupa ∧ s.stage ≠ .imago then .next s
  else if p.running ∨ !s.mayPass then .next (if s.passMoved then { s with calPass := { p with pending := true } } else s)
  else if p.pending ∨ s.passMoved then
    let gs := (List.range 1158).filter (fun g => (s.grp g).inService)
    let s1 := gs.foldl (fun u g => u.modGrp g (fun x =>
      { x with calTodo := (List.finRange 10).filter (fun o => decide ((x.lanes.get o).state = .active)), calFresh := none
               inPlace := (List.finRange 10).filter (fun o => decide ((x.lanes.get o).state = .standby)) })) s
    let ps := (List.range 6).filter (fun q => s.portIn q && decide ((s.port q).tx = .service))
    let s2 := (ps.foldl (fun u q => (u.lctl q 4 0 0).portCalStart q) s1).setFld (regAddr .cal 0 0x044) 16 16 ((t % 65536).toNat)
    .next (({ s2 with calPass := { running := true, groups := gs, ports := ps, began := s.now, baseTemp := t, first := p.first, awaited := p.awaited } }).passOver).vrefCheck
  else .next s

/-- A group of a pass is done; the pass is over with the last one (R265, R469). -/
def State.calGroupDone (s : State) (g : Nat) : State :=
  ({ s with calPass := { s.calPass with groups := s.calPass.groups.filter (fun k => decide (k ≠ g)) } }).passOver

/-- Whether a swap is armed on a line that a group uses (R275): its standby is ready, and its t4 is still to come. -/
def State.swapArmed (s : State) (g : Nat) : Bool :=
  (List.range 10).any (fun o => match (s.line (grpFibre g) (grpSlot g o)).swap with
    | some w => (w.trigger.isSome || (s.line (grpFibre g) (grpSlot g o)).ready) && !w.resumed
    | none => false)

/-- Whether a slot of a group is out of service for calibration (R267): in CAL, or training after it. -/
def Group.calOut (x : Group) : Bool := (List.finRange 10).any (fun o => decide ((x.lanes.get o).state = .cal) || decide ((x.lanes.get o).state = .training))
/-- The groups that firmware is calibrating (R265). -/
def State.calBusy (s : State) : Nat := (s.groups.filter (fun e => e.2.inService && (e.2.sparing.isSome || e.2.calOut || decide (e.2.blockFor = 3)))).length
/-- The ACTIVE lane of a group that is to be calibrated next, ahead of any pass (R259, R260). -/
def Group.urgent (x : Group) : Option (Fin 10) :=
  if x.inService then (List.finRange 10).find? (fun o => decide ((x.lanes.get o).state = .active) && (x.lanes.get o).calDue) else none
/-- The STANDBY slot that a lane is spared onto for calibration (R266): the one recalibrated last, else the lowest whose recalibration is not still to come. -/
def Group.calOnto (x : Group) : Option (Fin 10) :=
  let free := (List.finRange 10).filter (fun o => decide ((x.lanes.get o).state = .standby) && !x.inPlace.contains o)
  match x.calFresh with
  | some f => if free.contains f then some f else free.head?
  | none => free.head?
/-- Spare a lane out for calibration (R266, R275): not while a sparing of the group is in progress, a slot of it is out, a swap of one of its lines is armed, or 64
groups are being calibrated. -/
def State.spareForCal (s : State) (g : Nat) (o : Fin 10) (todo : List (Fin 10)) : State :=
  let x := s.grp g
  match x.calOnto, x.laneOf o with
  | some f, some k => if 64 ≤ s.calBusy then s else (s.setGrp g { x with calTodo := todo, calFresh := some o }).startSparing g k f
  | some _, none => s.setGrp g { x with calTodo := todo }
  | none, _ => s

/-- LANE_CAL (R259, R260, R265, R266, R275): a lane whose ring is due is calibrated ahead of any pass; in a pass the next ACTIVE lane of a group is spared onto the STANDBY slot
recalibrated last, and after the last one the group is done. -/
def execLaneCal (grp : Fin 1158) (s : State) : Host.Outcome State Fault Refusal :=
  let g := grp.val
  let x := s.grp g
  if x.sparing.isSome ∨ x.calOut ∨ s.swapArmed g then .next s
  else
    match x.urgent with
    | some o => .next (s.spareForCal g o (x.calTodo.filter (fun k => decide (k ≠ o))))
    | none =>
      if !s.calPass.running ∨ !s.calPass.groups.contains g ∨ s.groups.any (fun e => e.2.urgent.isSome && e.2.calOnto.isSome) then .next s
      else
        match x.calTodo with
        | [] => if x.spare.isSome ∧ x.inPlace.isEmpty then .next (s.calGroupDone g) else .next s
        | o :: t => .next (s.spareForCal g o t)

/-- Whether a group may be blocked for calibration (R265, R268): in the idle interval, in a pass that still has it to do, with no STANDBY lane, no other group of its home channel
blocked for calibration, and fewer than 64 groups under way. -/
def State.mayBlockCal (s : State) (g : Nat) : Bool :=
  let x := s.grp g
  s.idleInterval && s.calPass.running && s.calPass.groups.contains g && x.spare.isNone && x.sparing.isNone && decide (x.state = .service) && decide (x.blockFor = 0) &&
  decide (s.calBusy < 64) && !((homeGroups (grpHome g)).any (fun k => decide ((s.grp k).blockFor = 3)))
/-- The block of a calibration is over (R268): the lanes that pass their check have new user values, those that do not fail hard, and the master unblocks the group. -/
def State.blockCalEnd (s : State) (g : Fin 1158) (good : BitVec 10) : State :=
  let x := s.grp g
  let act := (List.finRange 10).filter (fun o => decide ((x.lanes.get o).state = .active))
  let ok := act.filter (fun o => good.getLsbD o.val)
  let lanes : Vector Lane 10 := Vector.ofFn (fun o : Fin 10 => if ok.contains o then { x.lanes.get o with calDue := false } else x.lanes.get o)
  let s1 := s.setGrp g { x with state := .service, token := .free, tokenAt := 58, tokenSeen := s.now, blockFor := 0, calTodo := [], lanes := lanes }
  let s2 := (s1.calRings (ok.flatMap (fun o => laneRings g o (sweepers g)))).calGroupDone g
  (act.filter (fun o => !good.getLsbD o.val)).foldl (fun t o => t.failLane g o 4) s2
/-- BLOCKING_CAL (R268): the master of a group without a STANDBY lane is asked to block it; once it is blocked, every ACTIVE lane has been recalibrated in place, `good`
says which pass their check, and the block ends. -/
def execBlockingCal (grp : Fin 1158) (good : BitVec 10) (s : State) : Host.Outcome State Fault Refusal :=
  let x := s.grp grp
  if x.state = .blocked ∧ x.blockFor = 3 then .next (s.blockCalEnd grp good)
  else if s.mayBlockCal grp then .next (s.setGrp grp { x with blockFor := 3 })
  else .next s

/-! ## Steering, fade and swap (R251, R252, R269 to R275) -/

/-- Spare the lanes that use a faded line with no standby left (R274, R298). -/
def State.spareFaded (s : State) (f l : Nat) : State :=
  if l = 40 then s
  else if 24 ≤ f then
    (fibrePorts f).foldl (fun t p =>
      let x := t.port p
      match (List.finRange 8).find? (fun k => decide ((x.txMap.get k).val = l)) with
      | some k => if x.txLanes.toList.contains .standby then t.portHard p k else t
      | none => t) s
  else
    (lineGroups f l).foldl (fun t e =>
      let x := t.grp e.1
      match x.laneOf e.2 with
      | none => t
      | some k => if x.inService ∧ x.sparing.isNone then (match x.spare with | some o => t.startSparing e.1 k o | none => t) else t) s

/-- Decide a swap of a line's laser pair, on every input it feeds (R245, R270 to R272): the standby is lit if it is not; with none left the line shows so and its lanes are
spared. -/
def State.decideSwap (s : State) (f l : Nat) : State :=
  let fs := s.pairFibres f
  let y := s.line f l
  if fs.any (fun k => (s.line k l).swap.isSome) then s
  else if y.standbyGone then
    if y.mode = .noStandby then s
    else fs.foldl (fun t k => t.spareFaded k l) ((s.modPair f l (fun k => { k with mode := .noStandby })).irq .lsm (fibreLsm f).1 4)
  else s.modPair f l (fun k => { k with mode := .swapping, standbyLit := true, swap := some { decided := s.now } })

/-- Whether the monitor of a fibre visits a line now (R251, R272 t5): the next in ascending order, or the one whose swap is being checked. -/
def State.visits (s : State) (f l : Nat) : Bool :=
  decide (l < fibreLines f) && (decide ((s.input f).visit = l) || (match (s.line f l).swap with | some w => w.resumed | none => false))
/-- LINE_MONITOR_VISIT (R247, R251, R252): power and offset are measured, the latter against the reference resonance corrected by its residual offset; an offset beyond
±0.10 GHz is corrected once in 10 ms, and one that would take the laser beyond ±5 GHz counts as a fade of −3.0 dB. -/
def execLineMonitorVisit (fibre : Fin 26) (line : Fin 41) (power offset0 : Int) (s0 : State) : Host.Outcome State Fault Refusal :=
  let f := fibre.val
  let l := line.val
  let offset := offset0 + Config.residual l
  if !s0.visits f l then .next s0
  else
    let s := s0.modInput f (fun i => if i.visit = l then { i with visit := (l + 1) % fibreLines f } else i)
    let y := s.line f l
    let y1 := { y with power := power, offset := offset, first := some (y.first.getD s.now), hist := (s.now, power) :: y.hist.filter (fun e => decide (s.now < e.1 + 200000000)) }
    let loss := y1.loss
    let bar : Option Int := match y.mode with | .warning => some (-100) | .standbyLit => some (-200) | _ => none
    let y2 := { y1 with recoverAt := (match bar with | some b => if b < loss then some (y.recoverAt.getD s.now) else none | none => none) }
    let due := decide (10 < offset.natAbs) && (match y.steered with | some t => decide (t + 10000000 ≤ s.now) | none => true)
    let s1 := s.modLine f l (fun _ => y2)
    if !due then .next (if s.stage = .larva then s1.startGroups else s1)
    else if 500 < (y.tune - offset).natAbs then .next (s1.decideSwap f l)
    else .next ((s1.modLine f l (fun k => { k with tune := y.tune - offset, steered := some s.now })).bump (lsmReg (fibreLsm f).1 0x07C) 0 16 1)

/-- COMMISSIONING (R269): the power over the first 100 ms of light becomes the commissioning value, recorded as an amendment. -/
def execCommissioning (fibre : Fin 26) (line : Fin 41) (power : Int) (s : State) : Host.Outcome State Fault Refusal :=
  let f := fibre.val
  let l := line.val
  let y := s.line f l
  if fibreLines f ≤ l ∨ !y.lit ∨ y.base.isSome then .next s
  else .next ((s.modLine f l (fun k => { k with base := some power })).amend 0x09 false (f * 64 + l) ((power % 2 ^ 64).toNat))

/-- FADE_CROSSING (R270): warning at −1.5 dB, standby lit at −2.5 dB, swap at −3.0 dB. -/
def execFadeCrossing (fibre : Fin 26) (line : Fin 41) (s : State) : Host.Outcome State Fault Refusal :=
  let f := fibre.val
  let l := line.val
  let k := (fibreLsm f).1
  let loss := (s.line f l).loss
  let s1 := if loss ≤ -150 ∧ (s.line f l).mode = .normal then (s.modPair f l (fun y => { y with mode := .warning, recoverAt := none })).irq .lsm k 0 else s
  let s2 := if loss ≤ -250 ∧ (s1.line f l).mode = .warning ∧ !(s1.line f l).standbyGone then
      (s1.modPair f l (fun y => { y with mode := .standbyLit, standbyLit := true, recoverAt := none })).irq .lsm k 1
    else s1
  .next (if loss ≤ -300 then s2.decideSwap f l else s2)

/-- FADE_RECOVERY (R270): −1.0 dB for 10 s clears the warning; −2.0 dB for 60 s extinguishes the standby. -/
def execFadeRecovery (fibre : Fin 26) (line : Fin 41) (s : State) : Host.Outcome State Fault Refusal :=
  let y := s.line fibre line
  match y.recoverAt, y.mode with
  | some t, .warning =>
    if t + 10000000000 ≤ s.now then .next (s.modPair fibre line (fun k => { k with mode := .normal, recoverAt := none })) else .next s
  | some t, .standbyLit =>
    if t + 60000000000 ≤ s.now then .next (s.modPair fibre line (fun k => { k with mode := .warning, standbyLit := false, ready := false, recoverAt := none })) else .next s
  | _, _ => .next s

/-- RAPID_FADE (R271): a slope fitted to the last 200 ms steeper than −0.5 dB/s, at −0.5 dB or lower, once a minute is measured. -/
def execRapidFade (lsm : Fin 7) (out : Fin 4) (line : Fin 41) (s : State) : Host.Outcome State Fault Refusal :=
  let fibre := 4 * lsm.val + out.val
  let y := s.line fibre line
  let minute : Bool := match y.first with | some t => decide (t + 60000000000 ≤ s.now) | none => false
  if fibre < 26 ∧ minute ∧ y.falling ∧ y.loss ≤ -50 then .next (s.decideSwap fibre line) else .next s

/-- The lines of a laser pair: one on each fibre that it feeds. -/
def State.pairReady (s : State) (fs : List Nat) (l : Nat) : Bool :=
  !fs.isEmpty && fs.all (fun f => match (s.line f l).swap with | some w => w.trigger.isNone && (s.line f l).ready | none => false)
/-- The groups that a pair's line serves. -/
def pairGroups (fs : List Nat) (l : Nat) : List (Nat × Nat) := if l = 40 then [] else fs.flatMap (fun f => if f < 24 then lineGroups f l else [])

/-- Whether an earlier swap of an LSM is still to be made (R275): decided before `t` on one of its fibres, and not triggered. -/
def State.swapBefore (s : State) (k t : Nat) : Bool :=
  s.lines.any (fun e => decide ((fibreLsm (e.1 / 41)).1 = k) && (match e.2.swap with | some w => w.trigger.isNone && decide (w.decided < t) | none => false))
/-- SWAP_TRIGGER (R272 t1, R275): the swaps of an LSM go one at a time in the order decided, and none while a group on the line has a sparing under way. -/
def execSwapTrigger (lsm : Fin 7) (outs : BitVec 4) (line : Fin 41) (s : State) : Host.Outcome State Fault Refusal :=
  let fs := lsmFibres lsm outs
  let t0 := match fs with | f :: _ => (match (s.line f line).swap with | some w => w.decided | none => 0) | [] => 0
  if (s.lsm lsm).swapping.isSome ∨ !s.pairReady fs line ∨ !fs.all (fun f => decide (s.pairOuts f = outs)) ∨ s.swapBefore lsm t0 ∨ (pairGroups fs line).any (fun e => (s.grp e.1).sparing.isSome) ∨ fs.any (fun f => (fibrePorts f).any (fun p => (s.port p).spare.isSome)) then .next s
  else
    let s1 := s.modLsm lsm (fun x => { x with swapping := some (outs, line.val) })
    .next (fs.foldl (fun t f => t.modLine f line (fun y => { y with swap := y.swap.map (fun w => { w with trigger := some t.now }) })) s1)

/-- The trigger time of the swap in progress on a pair. -/
def State.swapAt (s : State) (lsm : Nat) (outs : BitVec 4) (l : Nat) : Option Swap :=
  if (s.lsm lsm).swapping = some (outs, l) then
    match lsmFibres lsm outs with
    | f :: _ => (s.line f l).swap
    | [] => none
  else none

/-- SWAP_PAUSE_START (R272 t2): 7.5 µs after the trigger the masters keep the tokens of the groups whose lane maps use the line. -/
def execSwapPauseStart (lsm : Fin 7) (outs : BitVec 4) (line : Fin 41) (s : State) : Host.Outcome State Fault Refusal :=
  match s.swapAt lsm outs line with
  | none => .next s
  | some w =>
    match w.trigger with
    | none => .next s
    | some t1 =>
      if w.paused ∨ s.now < t1 + 7500 then .next s
      else
        let fs := lsmFibres lsm outs
        let s1 := fs.foldl (fun t f => t.modLine f line (fun y => { y with swap := y.swap.map (fun v => { v with paused := true }) })) s
        .next ((pairGroups fs line).foldl (fun t e =>
          let x := t.grp e.1
          if x.uses e.2 then t.setGrp e.1 { x with paused := true, token := (if x.token = .free then .kept else x.token) } else t) s1)

/-- SWAP_PAUSE_END (R272 t4): 9.5 µs after the trigger the masters launch FREE tokens. -/
def execSwapPauseEnd (lsm : Fin 7) (outs : BitVec 4) (line : Fin 41) (s : State) : Host.Outcome State Fault Refusal :=
  match s.swapAt lsm outs line with
  | none => .next s
  | some w =>
    match w.trigger with
    | none => .next s
    | some t1 =>
      if !w.paused ∨ w.resumed ∨ s.now < t1 + 9500 then .next s
      else
        let fs := lsmFibres lsm outs
        let s1 := fs.foldl (fun t f => t.modLine f line (fun y => { y with swap := y.swap.map (fun v => { v with resumed := true }) })) s
        .next ((pairGroups fs line).foldl (fun t e =>
          let x := t.grp e.1
          if x.paused then
            t.setGrp e.1 { x with paused := false, token := (if x.token = .kept ∧ x.state = .service then .free else x.token), tokenAt := 58, tokenSeen := t.now }
          else t) (fs.foldl (fun t f => (fibrePorts f).foldl (fun u p => u.portSpareNext p) t) s1))

/-- A line after a swap that passed its check, or after a swap back (R273): the old laser is spent, or the standby failed. -/
def LaserLine.swapped (y : LaserLine) (back : Bool) (power offset : Int) : LaserLine :=
  { y with mode := .normal, swap := none, standbyLit := false, ready := false, standbyGone := true, spent := !back, power := power, offset := offset, hist := [], base := (if back then y.oldBase else none), oldBase := (if back then none else y.base) }

/-- SWAP_CHECK (R273 t5). -/
def execSwapCheck (lsm : Fin 7) (outs : BitVec 4) (line : Fin 41) (power offset : Int) (s : State) : Host.Outcome State Fault Refusal :=
  match s.swapAt lsm outs line with
  | none => .next s
  | some w =>
    if !w.resumed then .next s
    else
      let fs := lsmFibres lsm outs
      let k := lsm.val
      let s0 := s.modLsm k (fun x => { x with swapping := none })
      let bad := !w.back && fs.any (fun f => match (s.line f line).base with | some b => decide (power < b - 300) | none => false) || (!w.back && decide (50 < offset.natAbs))
      if w.back then
        .next ((fs.foldl (fun t f => t.modLine f line (fun y => (y.swapped true power offset))) s0).bump (lsmReg k 0x068) 16 16 1)
      else if bad then
        let s1 := (s0.bump (lsmReg k 0x068) 0 16 1).irq .lsm k 3
        .next (fs.foldl (fun t f => (t.modLine f line (fun y => { y with oldBase := y.base, standbyGone := true, swap := some { decided := t.now, back := true } })).amend 0x0A false (f * 64 + line.val) 1) s1)
      else
        let s1 := (s0.bump (lsmReg k 0x068) 0 16 1).irq .lsm k 2
        .next (fs.foldl (fun t f => (t.modLine f line (fun y => y.swapped false power offset)).amend 0x0A false (f * 64 + line.val) 0) s1)

/-! ## The interlock (R276, R277) and LINE_SEL (R279) -/

/-- A swap is abandoned (R275): its line's swap ends on every input the pair feeds, and the groups that pause for it go on. -/
def State.swapOff (s : State) (k : Nat) (w : Option (BitVec 4 × Nat)) : State :=
  match w with
  | none => s
  | some (outs, l) =>
    let fs := lsmFibres k outs
    let s1 := fs.foldl (fun t f => t.modLine f l (fun y => { y with swap := none, mode := (if y.mode = .swapping then .standbyLit else y.mode) })) s
    (pairGroups fs l).foldl (fun t e =>
      let x := t.grp e.1
      if x.paused then t.setGrp e.1 { x with paused := false, token := (if x.token = .kept ∧ x.state = .service then .free else x.token), tokenAt := 58, tokenSeen := t.now } else t) s1
/-- INTERLOCK_UNMATED (R276 t1, t2): tap power more than 10 dB low for 10 µs, in service or in a probe; the output is disabled. A swap on the LSM that concerns the input is
abandoned (R275). A later read-back that the output is disabled is taken. -/
def execInterlockUnmated (fibre : Fin 26) (tap : Int) (disabled : Bool) (s : State) : Host.Outcome State Fault Refusal :=
  let f := fibre.val
  let k := (fibreLsm f).1
  let j := (fibreLsm f).2
  if -1000 ≤ tap then .next s
  else if !(s.lsm k).enabled.getLsbD j then .next (if (s.lsm k).shut.getLsbD j ∧ disabled then s.modInput f (fun i => { i with confirmed := true }) else s)
  else
    let s1 := s.modInput f (fun i => { i with tap := tap, mated := false, lowSince := some (s.now - 10000), disabledAt := some s.now, confirmed := disabled, probeAt := s.now })
    let s2 := (s1.modLsm k (fun x => { x with enabled := x.enabled &&& ~~~(BitVec.twoPow 4 j), shut := x.shut ||| BitVec.twoPow 4 j, mode := .shut, swapping := x.swapping.filter (fun w => !w.1.getLsbD j) })).irq .lsm k 5
    .next ((s2.swapOff k ((s.lsm k).swapping.filter (fun w => w.1.getLsbD j))).darken [f])

/-- INTERLOCK_ENABLE_DROP (R276 t3): 0.9 ms without confirmation drives LSM_EN_N high, which darkens every output of the LSM. -/
def execInterlockEnableDrop (fibre : Fin 26) (s : State) : Host.Outcome State Fault Refusal :=
  let f := fibre.val
  let k := (fibreLsm f).1
  let i := s.input f
  match i.lowSince with
  | none => .next s
  | some t0 =>
    if i.confirmed ∨ !(s.lsm k).shut.getLsbD (fibreLsm f).2 ∨ s.now < t0 + 900000 then .next s
    else .next ((s.modLsm k (fun x => { x with enHigh := true, enabled := 0 })).darken (lsmFibres k 15))

/-- Restore a shut output (R277): LSM_EN_N is driven low again once no output of that LSM is shut. -/
def State.restoreOutput (s : State) (f : Nat) : State :=
  let k := (fibreLsm f).1
  let j := (fibreLsm f).2
  if !(s.lsm k).shut.getLsbD j then s
  else
    let s1 := s.modLsm k (fun x =>
      let shut := x.shut &&& ~~~(BitVec.twoPow 4 j)
      { x with shut := shut, enabled := x.enabled ||| BitVec.twoPow 4 j, enHigh := decide (shut ≠ 0), mode := (if shut = 0 then .lit else .shut) })
    let s2 := s1.modInput f (fun i => { i with mated := true, lowSince := none, disabledAt := none, confirmed := false })
    (List.range (fibreLines f)).foldl (fun t l => t.modLine f l (fun y => { y with lit := true })) s2

/-- PROBE (R277): with auto_restore, a shut output is probed once a second, and restored within 3 dB of the expectation. -/
def execProbe (fibre : Fin 26) (tap : Int) (s : State) : Host.Outcome State Fault Refusal :=
  let f := fibre.val
  let k := (fibreLsm f).1
  let i := s.input f
  if s.fld (lsmReg k 0x06C) 0 1 = 0 ∨ !(s.lsm k).shut.getLsbD (fibreLsm f).2 ∨ s.now < i.probeAt + 1000000000 then .next s
  else
    let s1 := s.modInput f (fun x => { x with tap := tap, probeAt := s.now })
    .next (if tap.natAbs ≤ 300 then s1.restoreOutput f else s1)

/-- SAFETY_CMD as written (R277, R279). -/
def State.restoreOuts (t : State) (lsm : Nat) (outs : BitVec 4) : State := (lsmFibres lsm outs).foldl (fun u f => u.restoreOutput f) t
/-- SAFETY_RESTORE. -/
def execSafetyRestore (ini : Initiator) (ep : Byte) (lsm : Fin 7) (outs : BitVec 4) (s : State) : Host.Outcome State Fault Refusal :=
  .next (s.busDo ini ep .lsm lsm 0x070 (fun t => t.restoreOuts lsm outs))

/-- Store LINE_SEL where the LSM carries the output, bits [1:0], and the line, bits [5:0] (R279). -/
def State.setLineSel (s : State) (lsm : Nat) (v : Nat) : State :=
  if bits v 0 2 < (if lsm = 6 then 2 else 4) ∧ bits v 0 6 < (if lsm = 6 then 10 else 41) then s.wr (lsmReg lsm 0x060) (BitVec.ofNat 32 (v &&& 0x13F))
  else s.errCount .lsm lsm 2
/-- LINE_SEL_WRITE. -/
def execLineSelWrite (ini : Initiator) (ep : Byte) (lsm : Fin 7) (v : Word) (s : State) : Host.Outcome State Fault Refusal :=
  .next (s.busDo ini ep .lsm lsm 0x060 (fun t => t.setLineSel lsm v.toNat))

end Sys2Proof.Machine
end

