-- ==== Sys2Proof/Machine/Links.lean ====
section
/-!
DEFINITION. Sys2Proof/Machine/Links.lean: the hall fabric links (R280 to R323): codewords, training and discovery, the states of a port
direction, sparing and calibration, cells and their routes, credits, the output port and the replay of cells.
-/
namespace Sys2Proof.Machine

/-! ## Codewords (R282 to R288) -/

/-- What the receiver makes of the character times of its lanes (R287): the items, its place, and what is still too short to be told. A burst whose SOB is not
whole is discarded, and one whose next cell place is unknown on logical lane 0 ends there (DEDUCED, log entry 120). -/
def parseCols : Nat → RxPlace → List (List (Option Byte)) → List RxItem × RxPlace × List (List (Option Byte))
  | 0, m, cs => ([], m, cs)
  | _, m, [] => ([], m, [])
  | f + 1, .between, a :: t =>
    if laneZero a ≠ some 0xBC then parseCols f .between t
    else
      match t with
      | [] => ([], .between, [a])
      | b :: u =>
        if laneZero b = some 0xFB then parseCols f (if colsWhole [a, b] then .burst else .lost) u
        else if laneZero b = some 0x50 then parseCols f .between u
        else if laneZero b = some 0xFE then
          if u.length < 2 then ([], .between, a :: t)
          else
            let r := parseCols f .between (u.drop 2)
            (if colsWhole (a :: b :: u.take 2) then .sleep :: r.1 else r.1, r.2)
        else parseCols f .between t
  | f + 1, m, a :: t =>
    if laneZero a = some 0xFD then parseCols f .between t
    else if laneZero a = none then
      let r := parseCols f .between t
      (.lost :: r.1, r.2)
    else if t.length < 5 then ([], m, a :: t)
    else
      let c := a :: t.take 5
      let good := decide (m = .burst) && colsWhole c
      let r := parseCols f (if good then .burst else .lost) (t.drop 5)
      ((if good then .cell (cellOfCols c) else .lost) :: r.1, r.2)
/-- The message bytes of a codeword on a logical lane, none where it is uncorrectable (R285, R287): what all lanes have is read. -/
def Port.takeMsg (x : Port) (lane : Fin 8) (bytes : List (Option Byte)) : Port :=
  let q := x.rxMsg.set lane (x.rxMsg.get lane ++ bytes)
  let n := (q.toList.map List.length).foldl min 4096
  let r := parseCols (n + 1) x.rxBurst ((List.range n).map (fun i => q.toList.map (fun l => l.getD i none)))
  { x with rxBurst := r.2.1, rxItems := x.rxItems ++ r.1, rxMsg := Vector.ofFn (fun l : Fin 8 => r.2.2.map (fun c => c.getD l.val none) ++ (q.get l).drop n) }
/-- A released codeword of a slot: it counts for the logical lane that the receiver's map gives the slot. -/
def Port.takeWord (x : Port) (off : Fin 10) (bytes : List (Option Byte)) : Port :=
  match (List.finRange 8).find? (fun k => decide (x.rxMap.get k = off)) with
  | some k => x.takeMsg k bytes
  | none => x

/-- CODEWORD_DECODE (R283 to R287): corrected bytes are released, or the codeword is uncorrectable; the first codeword after a wake, or after the XSTART that
ends the neighbour's XTS, ends the waking or the training of the receiver. -/
def execCodewordDecode (port : Fin 6) (off : Fin 10) (chars : List Byte) (bad disp : BitVec 136) (s : State) : Host.Outcome State Fault Refusal :=
  let p := port.val
  let x := s.port p
  if chars.length ≠ 136 ∨ !(x.rx = .service ∨ x.rx = .waking ∨ (x.rx = .retrain ∧ x.receiving)) then .next s
  else
    let erased := rsErased bad.toNat disp.toNat
    let viol := ((List.range 136).filter (fun i => bitOf bad.toNat i || bitOf disp.toNat i)).length
    let x1 := { x with rx := .service }
    match rsDecode (chars.map BitVec.toNat) erased with
    | none =>
      let s1 := s.setPort p ((x1.modRx off (fun l => { l with bad := l.bad + 1, good := 0, viol := min 65535 (l.viol + viol) })).takeWord off (List.replicate 128 none))
      .next ((s1.bump (xportReg p 0x064) 16 16 1).emit (.released p off []))
    | some (w, v) =>
      let s1 := s.setPort p ((x1.modRx off (fun l => { l with bad := 0, good := l.good + 1, viol := min 65535 (l.viol + viol) })).takeWord off ((w.take 128).map (fun b => some (BitVec.ofNat 8 b))))
      let s2 := s1.bump (xportReg p 0x064) 0 16 (b2n (decide (erased ≠ [] ∨ v ≠ 0)))
      let s3 := (s2.bump (xportReg p 0x068) 0 16 erased.length).bump (xportReg p 0x068) 16 16 v
      .next (s3.emit (.released p off ((w.take 128).map (BitVec.ofNat 8))))

/-- The receive lanes of a port start again from XTS. -/
def Port.rxRestart (x : Port) : Port :=
  { x with receiving := false, rxSpare := none, rxMsg := Vector.replicate 8 [], rxBurst := .between, rxLanes := x.rxLanes.map (fun l => { l with confirmed := false, bad := 0, good := 0, state := (if l.state = .failed then .failed else .training) }) }

/-- ALIGNMENT_LOSS (R288, R293): 128 uncorrectable codewords in a row on a lane of the map; the receiver asks the neighbour to retrain. -/
def execAlignmentLoss (port : Fin 6) (off : Fin 10) (s : State) : Host.Outcome State Fault Refusal :=
  let p := port.val
  let x := s.port p
  if x.rx ≠ .service ∨ (x.rxLane off).bad < 128 ∨ !x.rxMap.toList.contains off then .next s
  else
    let s1 := s.setPort p { x.rxRestart with rx := .retrain }
    .next (((s1.portLog p off 1 5).irq .xport p 4).lctl p 6 0 0)

/-! ## Training and discovery (R289 to R302) -/

/-- PORT_TRAIN_START (R290 t0, R299): a port that is OFF, with its axis used, its fibre lit and the device in D0. -/
def execPortTrainStart (port : Fin 6) (s : State) : Host.Outcome State Fault Refusal :=
  let p := port.val
  let x := s.port p
  if x.tx ≠ .off ∨ x.disabled ∨ !s.portUsed p ∨ s.stage = .ovum ∨ s.stage = .recovery ∨ !s.spineUp ∨ (s.dst ≠ .d0 ∧ s.dst ≠ .d1) ∨ (s.lsm 6).mode ≠ .lit then .next s
  else .next (s.portTrain p false)

/-- Take coordinates from a neighbour (R300). -/
def State.takeCoord (s : State) (p : Nat) (nb : Nat) : State :=
  if s.coordValid then s else (s.setFld (fabReg 0x044) 0 12 (s.stepTo nb p (decide (p % 2 = 1)))).setFld (fabReg 0x044) 16 1 1

/-- The discovery check that a neighbour fails (R301), 0 where it fails none. -/
def State.discFault (s : State) (p sender flags coord dims : Nat) : Nat :=
  if sender ≠ (p ^^^ 1) then 1
  else if bitOf flags 0 ∧ s.coordValid ∧ coord ≠ s.stepTo s.coord p (decide (p % 2 = 0)) then 2
  else if dims ≠ s.fld (fabReg 0x040) 0 12 ∨ bitOf flags 1 ≠ s.g4 then 3
  else if s.g4 ∧ s.coordValid ∧ s.wrapLink p then 2
  else 0

/-- The lane map that the announced roles form (R291): each logical lane exactly once. -/
def Port.announced (x : Port) : Option (Vector (Fin 10) 8) :=
  let at_ := fun (k : Nat) => (List.finRange 10).filter (fun o => (x.rxLanes.get o).confirmed && decide ((x.rxLanes.get o).role.toNat = k))
  if (List.range 8).all (fun k => decide ((at_ k).length = 1)) then some (Vector.ofFn (fun k : Fin 8 => (at_ k.val).headD 0)) else none

/-- A slot has been accepted (R290 t2, R291): its role joins the receiver's lane map, and with all eight lanes the port is receiving. In
SERVICE only a slot outside the map changes, and it becomes STANDBY (R296). -/
def Port.accept (x : Port) (off : Nat) (role : Byte) : Port :=
  if x.rx = .service then
    (if (x.rxLane off).state = .active ∨ (x.rxLane off).state = .shadow then x else x.modRx off (fun l => { l with state := .standby, role := role, confirmed := true }))
  else
    let x1 := x.modRx off (fun l => { l with state := .standby, role := role, confirmed := true, viol := 0 })
    match x1.announced with
    | some m =>
      { x1 with receiving := true, rxMap := m, rxLanes := x1.rxLanes.map (fun l => if l.confirmed ∧ l.role.toNat < 8 then { l with state := .active } else l) }
    | none =>
      if x1.rxLanes.toList.all (fun l => l.confirmed) then x1.rxRestart else x1

/-- XTS_RECEIVE (R264, R291, R300, R301): on a line within ±1.0 GHz of the device's own grid channel, a slot that shows sixteen
valid XTS is accepted, or a wrong lock is found; the neighbour's data are taken and checked. -/
def execXtsReceive (port : Fin 6) (lane : PortLine) (slot role sender flags : Byte) (coord dims : BitVec 12) (serial : Dword) (expect : BitVec 12) (s : State) :
    Host.Outcome State Fault Refusal :=
  let p := port.val
  let x := s.port p
  if x.rx = .off ∨ x.rx = .down ∨ x.rx = .out ∨ 100 < lane.light.natAbs ∨
      !(List.range 8).any (fun i => decide (lane.sets = sixteenXts slot.toNat role.toNat sender.toNat flags.toNat coord.toNat dims.toNat serial.toNat expect.toNat i)) then .next s
  else if slot.toNat ≠ lane.off.val then
    .next (((s.setPort p (x.modRx lane.off (fun l => { l with state := .locking, confirmed := false }))).portLog p lane.off 1 3).irq .xport p 3)
  else
    let f := flags.toNat
    let s1 := (s.wr (xportReg p 0x048) (BitVec.ofNat 32 (coord.toNat + sender.toNat % 8 * 2 ^ 12 + b2n (bitOf f 0) * 2 ^ 15))).wr64 (xportReg p 0x04C) serial
    let s2 := if sender.toNat = (p ^^^ 1) ∧ bitOf f 0 then s1.takeCoord p coord.toNat else s1
    let c := s2.discFault p sender.toNat f coord.toNat dims.toNat
    if c ≠ 0 then .next (s2.portOut p c)
    else
      let x1 := if x.rx = .asleep then { x with rx := .waking } else x
      let x2 := if x.rx = .asleep ∨ x.rx = .waking then x1 else x1.accept lane.off role
      .next (s2.setPort p { x2 with peerRecv := bitOf f 2, bothSince := (if bitOf f 2 ∧ bitOf f 3 then some (x.bothSince.getD s.now) else none), peerSeq := expect.toNat })

/-- Whether the peer has shown receiving and ready for 1 µs (R290 t3). -/
def Port.peerReady (x : Port) (now : Nat) : Bool := match x.bothSince with | some t => decide (t + 1000 ≤ now) | none => false

/-- XSTART (R290 t3, R292, R293, R294): the direction is in SERVICE; after training with new credits and the peer's sequence number,
after RETRAIN sending again from the peer's expected number. -/
def execXstart (port : Fin 6) (s : State) : Host.Outcome State Fault Refusal :=
  let p := port.val
  let x := s.port p
  match x.tx with
  | .training =>
    if x.receiving ∧ x.peerReady s.now ∧ s.coordValid ∧ s.fld (xportReg p 0x048) 15 1 = 1 then
      let x1 := { x with tx := .service, rx := .service, attempts := 0, retrains := 0, txNext := x.peerSeq, replay := [], resend := none, timeouts := 0, lastCell := s.now, credits := #v[48, 48, 48, 48, 16],
                         txLanes := Vector.ofFn (fun o : Fin 10 => if x.txMap.toList.contains o then .active else .standby) }
      .next ((((s.setPort p x1).irq .xport p 0).sendOnMap p setXstart).discCheck)
    else .next s
  | .retrain =>
    if x.peerReady s.now then
      let held := x.replay.any (fun e => decide (e.1 = x.peerSeq))
      .next ((s.setPort p { x with tx := .service, retrains := 0, timeouts := 0, advanced := s.now, resend := (if held then some x.peerSeq else none), resendStart := x.peerSeq, rx := (if x.rx = .retrain ∧ x.receiving then .service else x.rx) }).sendOnMap p setXstart)
    else .next s
  | .waking =>
    if x.since + 200 ≤ s.now then .next ((s.setPort p { x with tx := .service, lastCell := s.now }).sendOnMap p setXstart) else .next s
  | _ => .next s

/-- TRAIN_ATTEMPT_TIMEOUT (R290): 10 ms without t3; the third attempt, or the one attempt of a port that was DOWN, puts the port OUT. -/
def execTrainAttemptTimeout (port : Fin 6) (s : State) : Host.Outcome State Fault Refusal :=
  let p := port.val
  let x := s.port p
  if x.tx ≠ .training ∨ s.now < x.t0 + 10000000 then .next s
  else if x.oneTry then .next (s.portOut p 5)
  else if 2 ≤ x.attempts then .next (s.portOut p 4)
  else .next (s.setPort p { x.rxRestart with t0 := s.now, attempts := x.attempts + 1, bothSince := none, peerRecv := false })

/-- XTS_AT_BOUNDARY (R292): XTS at a codeword boundary on 6 lanes or more; the receiver leaves codeword reception and trains. -/
def execXtsAtBoundary (port : Fin 6) (lanes : BitVec 8) (s : State) : Host.Outcome State Fault Refusal :=
  let x := s.port port
  if x.rx = .service ∧ 6 ≤ popCount lanes.toNat 8 then .next (s.setPort port { x.rxRestart with rx := .retrain }) else .next s

/-- DISCOVERY_TIMEOUT (R302): without coordinates at FAB.DISC_TMO all six ports stay out of service. -/
def execDiscoveryTimeout (s : State) : Host.Outcome State Fault Refusal :=
  if s.coordValid ∨ s.fld (fabReg 0x044) 18 2 ≠ 0 ∨ s.stage = .ovum ∨ s.stage = .recovery ∨ s.now < s.discStart + 1000000 * s.fld (fabReg 0x048) 0 16 then .next s
  else
    let s1 := (s.setFld (fabReg 0x044) 18 2 2).irq .fab 0 1
    .next ((List.range 6).foldl (fun t p => t.portOut p 4) s1)

/-! ## Sleep, retrain and pause (R293, R294, R297) -/

/-- Whether a port has a cell to send. -/
def State.portHasCell (s : State) (p : Nat) : Bool :=
  let x := s.port p
  !x.inject.isEmpty || !x.egress.isEmpty || s.ports.toList.any (fun y => y.inBuf.any (fun e => decide (e.2.1 = p)))

/-- PORT_SLEEP (R294). -/
def execPortSleep (port : Fin 6) (s : State) : Host.Outcome State Fault Refusal :=
  let p := port.val
  let x := s.port p
  let idle := s.rdn (xportReg p 0x060)
  let why := decide (s.dst = .d1) || s.stop.stopped || (decide (idle ≠ 0) && decide (x.lastCell + idle ≤ s.now) && !s.portHasCell p)
  if x.tx = .service ∧ why ∧ x.replay.isEmpty ∧ x.owed.toList.all (· = 0) then .next ((((s.portSend p (colsOf setSleep)).portFill p).modPort p (fun y => { y with tx := .asleep })).passOver)
  else .next s

/-- SLEEP (R287, R294): after decoding it, the receiver keeps only the activity detector of logical lane 0. -/
def execSleep (port : Fin 6) (s : State) : Host.Outcome State Fault Refusal :=
  let x := s.port port
  match x.rxItems with
  | .sleep :: t => if x.rx = .service then .next (s.setPort port { x with rx := .asleep, rxItems := t }) else .next s
  | _ => .next s

/-- PORT_WAKE (R294): a cell, a LACK or an LCREDIT to send. -/
def execPortWake (port : Fin 6) (s : State) : Host.Outcome State Fault Refusal :=
  let p := port.val
  let x := s.port p
  if x.tx = .asleep ∧ (s.dst = .d0 ∨ s.dst = .d1) ∧ (s.portHasCell p ∨ x.unacked ≠ 0 ∨ x.owed.toList.any (· ≠ 0) ∨ x.nakDue) then
    .next (((s.setPort p { x with tx := .waking, since := s.now }).sendOnMap p (List.replicate 16 setWake).flatten).sendXts p)
  else .next s

/-- PORT_RETRAIN (R293). -/
def execPortRetrain (port : Fin 6) (s : State) : Host.Outcome State Fault Refusal := .next (s.enterRetrain port)
/-- RETRAIN_REQ (R293, R305). -/
def execRetrainReq (port : Fin 6) (s : State) : Host.Outcome State Fault Refusal := .next (s.enterRetrain port)

/-- RETRAIN_TIMEOUT (R293): 1 ms without SERVICE; the third in a row sends the direction DOWN. -/
def execRetrainTimeout (port : Fin 6) (s : State) : Host.Outcome State Fault Refusal :=
  let p := port.val
  let x := s.port p
  if x.tx ≠ .retrain ∨ s.now < x.since + 1000000 then .next s
  else if 2 ≤ x.retrains then .next (s.portDown p true)
  else .next (((s.setPort p { x with retrains := x.retrains + 1, since := s.now, bothSince := none, peerRecv := false }).bump (xportReg p 0x07C) 0 16 1).sendXts p)

/-- A transmit direction without a STANDBY slot pauses for calibration (R297). -/
def State.portPause (s : State) (p : Nat) : State :=
  let x := s.port p
  if x.tx = .service ∧ !x.txLanes.toList.contains .standby then (s.setPort p { x with tx := .paused, since := s.now, peerRecv := false }).sendXts p else s
/-- PAUSED_ENTRY (R297): in the idle interval between wingbeats, while a calibration pass runs. -/
def execPausedEntry (port : Fin 6) (s : State) : Host.Outcome State Fault Refusal :=
  if s.idleInterval ∧ s.calPass.running then .next (s.portPause port) else .next s
/-- PAUSE_REQ (R297). -/
def execPauseReq (port : Fin 6) (s : State) : Host.Outcome State Fault Refusal := .next (s.portPause port)
/-- PAUSED_END (R293, R296, R297): the rings are confirmed, or 199 µs have passed; a sparing that waited begins (R324). -/
def execPausedEnd (port : Fin 6) (s : State) : Host.Outcome State Fault Refusal :=
  let p := port.val
  let x := s.port p
  if x.tx = .paused ∧ (x.peerRecv ∨ x.since + 199000 ≤ s.now) then .next ((((s.setPort p { x with tx := .service, calDue := [] }).sendOnMap p setXstart).portSpareNext p).portCalDone p)
  else .next s

/-! ## Sparing and calibration (R295, R296) -/

/-- SPARE_REQ (R295): the neighbour's receiver asks for a lane to be spared. -/
def execSpareReq (port : Fin 6) (lane : Fin 8) (s : State) : Host.Outcome State Fault Refusal :=
  if (s.port port).sparing lane then .next s else .next (s.portHard port lane)

/-- SPARE_BEGIN (R295 t1): the receiver watches the shadowed slot. -/
def execSpareBegin (port : Fin 6) (lane : Fin 8) (off : Fin 10) (s : State) : Host.Outcome State Fault Refusal :=
  let x := s.port port
  if x.rxSpare.isSome then .next s
  else .next (s.setPort port { (x.modRx off (fun l => { l with state := .shadow, good := 0, bad := 0 })) with rxSpare := some ⟨lane, x.rxMap.get lane, off, s.now⟩ })

/-- SPARE_SWITCH (R295 t2): 16 good codewords on the spare, the same bytes as the lane's unless that lane has failed. -/
def execSpareSwitch (port : Fin 6) (same : Bool) (s : State) : Host.Outcome State Fault Refusal :=
  let p := port.val
  let x := s.port p
  match x.rxSpare with
  | none => .next s
  | some k =>
    let failed := decide ((x.rxLane k.old).state = .failed)
    if (x.rxLane k.new).good < 16 ∨ !(same ∨ failed) then .next s
    else
      let x1 := (x.modRx k.new (fun l => { l with state := .active, viol := 0 })).modRx k.old (fun l => { l with state := (if failed then .failed else .cal) })
      .next ((s.setPort p { x1 with rxMap := x.rxMap.set k.lane k.new, rxSpare := none }).lctl p 3 k.lane k.new)

/-- SPARE_DONE (R295 t3): the transmitter leaves the old slot, which goes to CAL, or stays FAILED; the next sparing begins. -/
def execSpareDone (port : Fin 6) (lane : Fin 8) (s : State) : Host.Outcome State Fault Refusal :=
  let p := port.val
  let x := s.port p
  match x.spare with
  | none => .next s
  | some k =>
    if k.lane ≠ lane then .next s
    else
      let x1 := (x.setTx k.new .active).setTx k.old (if x.txLane k.old = .failed then .failed else .cal)
      .next ((s.setPort p { x1 with txMap := x.txMap.set lane k.new, spare := none, calSince := sput x.calSince k.old s.now }).portSpareNext p)

/-- SPARE_SHADOW_TIMEOUT (R295): no switch within 10 µs ends the shadow; the spare is FAILED, and the other is tried. -/
def execSpareShadowTimeout (port : Fin 6) (s : State) : Host.Outcome State Fault Refusal :=
  let p := port.val
  let x := s.port p
  match x.spare with
  | none => .next s
  | some k =>
    if s.now < k.t1 + 10000 then .next s
    else .next ((s.setPort p { (x.setTx k.new .failed) with spare := none, spareWant := (k.lane, none) :: x.spareWant }).portSpareNext p)

/-- CAL_REQ (R296): the neighbour's pass covers this transmitter's lanes. -/
def execCalReq (port : Fin 6) (s : State) : Host.Outcome State Fault Refusal := .next (s.portCalStart port)

/-- CAL_TIMEOUT (R264, R267, R296): 199 µs end a slot's calibration: an internal lane trains, a port's slot has been
reselected and locked, in CAL or in place, and is STANDBY. -/
def execCalTimeout (ring : Ring) (s : State) : Host.Outcome State Fault Refusal :=
  match ring with
  | .receive g o =>
    let l := (s.grp g).lane o
    if l.state = .cal ∧ l.since + 199000 ≤ s.now then .next (s.modLane g o (fun k => { k with state := .training, since := s.now, tries := 0 })) else .next s
  | .portTx p o =>
    let x := s.port p
    match sfind x.calSince o with
    | none => .next s
    | some t =>
      if (x.txLane o = .cal ∨ (x.txLane o = .standby ∧ x.inPlace.contains o)) ∧ t + 199000 ≤ s.now then
        .next ((((s.calRings [.portTx p o]).setPort p { (x.setTx o .standby) with
          calSince := serase x.calSince o, calDue := x.calDue.filter (fun k => decide (k ≠ o)), inPlace := x.inPlace.filter (fun k => decide (k ≠ o)), calFresh := some o }).portSpareNext p).portCalDone p)
      else .next s
  | _ => .next s

/-- LANE_HARD_FAIL (R227, R295): an internal lane, or a receive lane of a port. -/
def execLaneHardFail (ring : Ring) (loss : LaneLoss) (s : State) : Host.Outcome State Fault Refusal :=
  match ring with
  | .receive g o =>
    let l := (s.grp g).lane o
    let often := decide (8 ≤ onesIn l.hist.toNat 32)
    if l.state = .active ∧ (10000 ≤ loss.dark ∨ often) then .next (s.failLane g o (if 10000 ≤ loss.dark then 1 else 2)) else .next s
  | .portRx p o => if 10000 ≤ loss.dark ∨ 8 ≤ loss.bad then .next (s.portLaneFail p o (if 10000 ≤ loss.dark then 1 else 2)) else .next s
  | _ => .next s

/-! ## Register commands (R326) -/

/-- An XPORT.CMD that is not taken counts (R326). -/
def State.xportIgnored (s : State) (p : Nat) : State := s.errCount .xport p 2
/-- The retrain action of XPORT.CMD. -/
def State.portRetrainDo (t : State) (port : Nat) : State := if (t.port port).tx = .out then t.xportIgnored port else t.enterRetrain port
/-- PORT_RETRAIN_CMD. -/
def execPortRetrainCmd (ini : Initiator) (ep : Byte) (port : Fin 6) (s : State) : Host.Outcome State Fault Refusal :=
  .next (s.busDo ini ep .xport port 0x05C (fun t => t.portRetrainDo port))
/-- The spare action of XPORT.CMD. -/
def State.portSpareDo (t : State) (port : Nat) (lane : Fin 8) (off : Nat) : State :=
  let x := t.port port
  if x.tx = .out ∨ x.spare.isSome ∨ x.txLane off ≠ .standby then t.xportIgnored port
  else (t.setPort port { x with spareWant := (lane, some (Fin.ofNat 10 off)) :: x.spareWant }).portSpareNext port
/-- PORT_SPARE_CMD. -/
def execPortSpareCmd (ini : Initiator) (ep : Byte) (port : Fin 6) (lane : Fin 8) (off : BitVec 4) (s : State) : Host.Outcome State Fault Refusal :=
  .next (s.busDo ini ep .xport port 0x05C (fun t => t.portSpareDo port lane off.toNat))
/-- The disable action of XPORT.CMD: both directions are OFF until the port is enabled. -/
def State.portDisableDo (t : State) (port : Nat) : State :=
  if (t.port port).tx = .out then t.xportIgnored port
  else (t.modPort port (fun x => { x with tx := .off, rx := .off, disabled := true, replay := [], resend := none, txMsg := [] })).passOver
/-- PORT_DISABLE. -/
def execPortDisable (ini : Initiator) (ep : Byte) (port : Fin 6) (s : State) : Host.Outcome State Fault Refusal :=
  .next (s.busDo ini ep .xport port 0x05C (fun t => t.portDisableDo port))
/-- The enable action of XPORT.CMD: a disabled port trains again. -/
def State.portEnableDo (t : State) (port : Nat) : State :=
  if (t.port port).tx = .out then t.xportIgnored port else if (t.port port).disabled then t.portTrain port false else t
/-- PORT_ENABLE. -/
def execPortEnable (ini : Initiator) (ep : Byte) (port : Fin 6) (s : State) : Host.Outcome State Fault Refusal :=
  .next (s.busDo ini ep .xport port 0x05C (fun t => t.portEnableDo port))

/-- RANKMAP_WRITE (R306, R327): both copies take the word. -/
def execRankmapWrite (ini : Initiator) (ep : Byte) (page : Fin 4) (reg : Fin 512) (v : Word) (s : State) : Host.Outcome State Fault Refusal :=
  .next (s.busDo ini ep .rankmap page (0x800 + 4 * reg.val) (fun t => t.wr (regAddr .rankmap page (0x800 + 4 * reg.val)) v))
/-- RANKMAP_MISMATCH (R306, R327, R513): the copies of a page differ. -/
def execRankmapMismatch (page : Fin 4) (s : State) : Host.Outcome State Fault Refusal :=
  .next (((s.setFld (regAddr .rankmap page 0x040) 8 1 0).irq .rankmap page 0).jobFault 2 6 0x17 page)

/-! ## Cells (R303 to R316) -/

/-- Owe the neighbour a credit (R316). -/
def State.owe (s : State) (p vc : Nat) : State :=
  s.modPort p (fun x => { x with owed := x.owed.setIfInBounds vc (x.owed.toList.getD vc 0 + 1), owedSince := some (x.owedSince.getD s.now) })

/-- The buffer cells of a VC (R315). -/
def vcRoom (vc : Nat) : Nat := if vc = 4 then 16 else 48

/-- Whether a cell type of R305 and R346 is one that a device takes from outside. -/
def typeKnown (t : Nat) : Bool :=
  (decide (0x10 ≤ t) && decide (t ≤ 0x14)) || (decide (0x20 ≤ t) && decide (t ≤ 0x26)) || (decide (0x28 ≤ t) && decide (t ≤ 0x2A)) || decide (t = 0x2C)

/-- Send a transit cell across the base, or leave it in its buffer while no credit is held (R311). -/
def State.crossBase (s : State) (p out : Nat) (c : CellBits) : State :=
  let c1 := s.hop c (some p) out
  let vc := hf c1 48 3
  let y := s.port out
  if y.base.toList.getD vc 0 = 0 then s.modPort p (fun x => { x with inBuf := x.inBuf ++ [(vc, out, c)] })
  else
    let v := putBits c1.toNat 72 20 0
    let cell := fun (ty : Byte) (pay : Payload) =>
      Msg.cell ty (BitVec.ofNat 8 (niDie (some out))) (BitVec.ofNat 8 (niDie (some p))) (BitVec.ofNat 8 (8 * out + vc)) 0 0 0 pay
    let s1 := s.setPort out { y with base := y.base.setIfInBounds vc (y.base.toList.getD vc 0 - 1) }
    ((s1.emit (cell 0x16 (BitVec.ofNat 256 v))).emit (cell 0x17 (BitVec.ofNat 256 (v / 2 ^ 256 % 2 ^ 96)))).owe p (hf c 48 3)

/-- Route an accepted cell (R304, R305, R309 to R314): deliver it, drop it, or pass it on. -/
def State.routeCell (s : State) (p : Nat) (c : CellBits) : State :=
  let t := hf c 0 8
  let vc := hf c 48 3
  let tag := hf c 32 16
  let link := decide (0x10 ≤ t) && decide (t ≤ 0x13)
  let deliver := fun (u : State) => u.emit (.delivered (BitVec.ofNat 8 (niDie (some p))) c)
  if link then (if t = 0x13 then (deliver s).owe p vc else deliver s)
  else if s.g4 ∧ (vc = 1 ∨ vc = 3) then (s.dropCell c 5).owe p vc
  else if !typeKnown t then (s.dropCell c 2).owe p vc
  else if hf c 8 12 = s.coord then
    let s1 := s.owe p vc
    if t = 0x14 then
      (if tag ≠ 0 ∧ tag ≠ s.jobTag then s1.dropCell c 1
       else if hf c 96 8 = 0 ∨ 5 < hf c 96 8 then s1.dropCell c 2
       else deliver s1)
    else if tag = 0 ∨ tag ≠ s.jobTag ∨ s.restart.busy then s1.dropCell c 1
    else deliver s1
  else if !s.inDims (hf c 8 12) then (s.dropCell c 4).owe p vc
  else
    match s.nextPort (hf c 8 12) (hf c 52 2) with
    | none => (s.dropCell c 3).owe p vc
    | some out =>
      if !(s.port out).open_ then (s.dropCell c 3).owe p vc
      else if out % 2 = p % 2 then s.modPort p (fun x => { x with inBuf := x.inBuf ++ [(hf (s.hop c (some p) out) 48 3, out, c)] })
      else s.crossBase p out c

/-- Note that the expected cell is missing: LNAK is due once (R319). -/
def State.missing (s : State) (p : Nat) : State :=
  s.modPort p (fun x => if x.nakSince.isSome then x else { x with nakSince := some s.now, nakDue := true })

/-- LINK_CELL_RECEIVE (R287, R316, R319): the next cell of the message, whole or lost, is accepted, a duplicate, without a buffer, or discarded until the expected
number arrives. -/
def execLinkCellReceive (port : Fin 6) (cell : CellBits) (whole : Bool) (s : State) : Host.Outcome State Fault Refusal :=
  let p := port.val
  let due := decide ((s.port p).rxItems.head? = some (if whole then .cell cell else .lost))
  let x := { s.port p with rxItems := (s.port p).rxItems.tail }
  let s1 := s.setPort p x
  let t := hf cell 0 8
  let n := hf cell 72 12
  let vc := hf cell 48 3
  if x.rx ≠ .service ∨ !due then .next s
  else if !whole ∨ !cellGood cell then .next (s1.missing p)
  else if t = 0x10 ∨ t = 0x11 then .next (s1.routeCell p cell)
  else if n = x.rxNext then
    if t ≠ 0x12 ∧ vcRoom vc ≤ (x.inBuf.filter (fun e => decide (hf e.2.2 48 3 = vc))).length then .next (s1.bump (xportReg p 0x06C) 16 16 1)
    else
      let cv := hf cell 84 3
      let x1 := { x with rxNext := (n + 1) % 4096, nakSince := none, nakDue := false, unacked := x.unacked + 1, unackedSince := some (x.unackedSince.getD s.now), credits := x.credits.setIfInBounds cv (x.credits.toList.getD cv 0 + hf cell 88 4) }
      .next ((s.setPort p x1).routeCell p cell)
  else if 1 ≤ (x.rxNext + 4096 - n) % 4096 ∧ (x.rxNext + 4096 - n) % 4096 ≤ 2048 then .next (s1.bump (xportReg p 0x06C) 16 16 1)
  else .next (s1.missing p)

/-- XTRH (R311): the first half of a transit cell is held for its port and VC. -/
def execXtrh (out : Fin 6) (vc : Fin 5) (data : Payload) (s : State) : Host.Outcome State Fault Refusal :=
  .next (s.modPort out (fun x => { x with halves := sput x.halves vc data }))
/-- XTRT (R311): the second half completes the cell in its egress buffer of 32 cells. -/
def execXtrt (out : Fin 6) (vc : Fin 5) (data : BitVec 96) (s : State) : Host.Outcome State Fault Refusal :=
  let x := s.port out
  match sfind x.halves vc with
  | none => .next s
  | some h =>
    let c : CellBits := BitVec.ofNat 384 (h.toNat + data.toNat * 2 ^ 256)
    if 32 ≤ (x.egress.filter (fun e => decide (e.1 = vc.val))).length then .next s
    else .next (s.setPort out { x with halves := serase x.halves vc, egress := x.egress ++ [(vc.val, c)] })

/-! ## The output port (R315 to R317, R321) -/

/-- The cells that wait for an output port on a VC, by source: its network interface's three input ports, the other interface, and this
device (R317). -/
def State.sourceCell (s : State) (p vc src : Nat) : Option CellBits :=
  if src < 3 then
    let i := 2 * src + p % 2
    ((s.port i).inBuf.find? (fun e => decide (e.1 = vc) && decide (e.2.1 = p))).map (fun e => s.hop e.2.2 (some i) p)
  else if src = 3 then ((s.port p).egress.find? (fun e => decide (e.1 = vc))).map Prod.snd
  else ((s.port p).inject.find? (fun e => decide (e.1 = vc))).map Prod.snd
/-- The source that a VC serves next, round-robin (R317). -/
def State.nextSource (s : State) (p vc : Nat) : Option Nat :=
  let last := (s.port p).turn.toList.getD vc 0
  ([1, 2, 3, 4, 5].map (fun k => (last + k) % 5)).find? (fun i => (s.sourceCell p vc i).isSome)
/-- Whether a VC has an eligible cell: a credit, room in the replay buffer, and a source (R316, R317, R321). -/
def State.eligible (s : State) (p vc : Nat) : Bool :=
  let x := s.port p
  decide (0 < x.credits.toList.getD vc 0) && decide (x.replay.length < 256) && (s.nextSource p vc).isSome

/-- Send a cell in a burst of its own (R286). -/
def State.sendBurst (s : State) (p : Nat) (c : CellBits) : State := (s.emit (.portCell p c)).portSend p (burstCols c)
/-- Write the link fields and the CRC, and send a sequenced cell (R303, R311, R318, R321): it stays in the replay buffer. -/
def State.sendSeq (s : State) (p : Nat) (c : CellBits) : State :=
  let x := s.port p
  let cv := ((List.range 5).find? (fun v => decide (x.owed.toList.getD v 0 ≠ 0))).getD 0
  let n := min 15 (x.owed.toList.getD cv 0)
  let owed := x.owed.setIfInBounds cv (x.owed.toList.getD cv 0 - n)
  let v := putBits (putBits (putBits c.toNat 72 12 x.txNext) 84 3 cv) 88 4 n
  let c1 : CellBits := BitVec.ofNat 384 (putBits v 352 32 (crc32c v 44))
  let none_ := owed.toList.all (· = 0)
  let x1 := { x with owed := owed, owedSince := (if none_ then none else x.owedSince), creditDue := (if none_ then false else x.creditDue), replay := x.replay ++ [(x.txNext, c1)], txNext := (x.txNext + 1) % 4096, advanced := (if x.replay.isEmpty then s.now else x.advanced), lastCell := s.now }
  let s1 := (s.setPort p x1).sendBurst p c1
  if x.replay.length = 255 then s1.irq .xport p 5 else s1

/-- Cells that wait to cross the base toward an output port go on when a credit is back (R311). -/
def State.flushBase (s : State) (p vc : Nat) : State :=
  match (List.range 6).find? (fun i => decide (i % 2 ≠ p % 2) && (s.port i).inBuf.any (fun e => decide (e.1 = vc) && decide (e.2.1 = p))) with
  | none => s
  | some i =>
    match (s.port i).inBuf.find? (fun e => decide (e.1 = vc) && decide (e.2.1 = p)) with
    | none => s
    | some e => (s.modPort i (fun x => { x with inBuf := dropFirst (fun d => decide (d = e)) x.inBuf })).crossBase i p e.2.2

/-- Take the cell of a source from where it waits: a buffer cell of an input port is credited, one of the egress buffer lets another
cross. -/
def State.takeSource (s : State) (p vc src : Nat) : State :=
  if src < 3 then
    let i := 2 * src + p % 2
    match (s.port i).inBuf.find? (fun e => decide (e.1 = vc) && decide (e.2.1 = p)) with
    | none => s
    | some e => ((s.modPort i (fun x => { x with inBuf := dropFirst (fun d => decide (d = e)) x.inBuf })).owe i (hf e.2.2 48 3)).bump (fabReg 0x058) 0 32 1
  else if src = 3 then
    let s1 := s.modPort p (fun x => { x with egress := dropFirst (fun e => decide (e.1 = vc)) x.egress, base := x.base.setIfInBounds vc (x.base.toList.getD vc 0 + 1) })
    (s1.bump (fabReg 0x058) 0 32 1).flushBase p vc
  else s.modPort p (fun x => { x with inject := dropFirst (fun e => decide (e.1 = vc)) x.inject })

/-- Send the next cell of a VC. -/
def State.sendVc (s : State) (p vc : Nat) : State :=
  match s.nextSource p vc with
  | none => s
  | some src =>
    match s.sourceCell p vc src with
    | none => s
    | some c =>
      let s1 := (s.takeSource p vc src).modPort p (fun x => { x with credits := x.credits.setIfInBounds vc (x.credits.toList.getD vc 0 - 1), turn := x.turn.setIfInBounds vc src })
      s1.sendSeq p c

/-- A link cell to the neighbour, without a sequence number (R305). -/
def State.linkCell (s : State) (p ty n : Nat) : State :=
  let v := (extCell ty (s.fld (xportReg p 0x048) 0 12) s.coord 0 4 0 (63 * 2048) (BitVec.ofNat 256 n)).toNat
  s.sendBurst p (BitVec.ofNat 384 (putBits v 352 32 (crc32c v 44)))

/-- The next cell of a resend in progress (R321). -/
def State.sendAgain (s : State) (p q : Nat) : State :=
  let x := s.port p
  match x.replay.dropWhile (fun e => decide (e.1 ≠ q)) with
  | [] => s.setPort p { x with resend := none }
  | e :: t => ((s.setPort p { x with resend := (t.head?.map Prod.fst), lastCell := s.now }).sendBurst p e.2).bump (xportReg p 0x06C) 0 16 1

/-- CELL_SEND (R272, R286, R317): one slot of an output port. A resend in progress goes before new sequenced cells; with none to send, and in the pause of a swap, the
port sends IDLE. -/
def execCellSend (port : Fin 6) (s : State) : Host.Outcome State Fault Refusal :=
  let p := port.val
  let x := s.port p
  if x.tx ≠ .service then .next s
  else if s.portSwap p true then .next (s.portSend p (colsOf setIdle))
  else
    let hungry := (List.range 2).find? (fun v => decide (16 ≤ x.starve.toList.getD v 0) && s.eligible p v)
    let pick : Option Nat := match hungry with
      | some v => some v
      | none => [4, 3, 2, 1, 0].find? (fun v => s.eligible p v)
    let count := fun (t : State) (chosen : Option Nat) =>
      t.modPort p (fun y => { y with starve := Vector.ofFn (fun v : Fin 2 => if s.eligible p v.val ∧ chosen ≠ some v.val then min 16 (x.starve.get v + 1) else 0) })
    match x.resend.isNone, hungry with
    | true, some v => .next (count (s.sendVc p v) (some v))
    | _, _ =>
      if x.ackDue then
        .next (count ((s.modPort p (fun y => { y with ackDue := false, unacked := 0, unackedSince := none })).linkCell p 0x10 ((x.rxNext + 4095) % 4096)) none)
      else if x.nakDue then
        .next (count (((s.modPort p (fun y => { y with nakDue := false })).linkCell p 0x11 x.rxNext).bump (xportReg p 0x06C) 16 16 1) none)
      else
        match x.resend with
        | some q => .next (count (s.sendAgain p q) none)
        | none =>
          if x.creditDue ∧ x.replay.length < 256 then
            let pay := (List.range 5).foldl (fun acc v => acc + min 255 (x.owed.toList.getD v 0) * 256 ^ v) 0
            let c := extCell 0x12 (s.fld (xportReg p 0x048) 0 12) s.coord 0 4 0 (63 * 2048) (BitVec.ofNat 256 pay)
            .next (count ((s.modPort p (fun y => { y with owed := Vector.replicate 5 0, owedSince := none, creditDue := false })).sendSeq p c) none)
          else
            match pick with
            | some v => .next (count (s.sendVc p v) (some v))
            | none => .next (s.portSend p (colsOf setIdle))

/-! ## Acknowledgement and replay (R319 to R322) -/

/-- LACK (R320 to R322): the replay buffer is free up to the number named; a number outside it is a protocol error. -/
def execLack (port : Fin 6) (seq : BitVec 12) (s : State) : Host.Outcome State Fault Refusal :=
  let p := port.val
  let x := s.port p
  let n := seq.toNat
  if x.replay.any (fun e => decide (e.1 = n)) then
    let rest := (x.replay.dropWhile (fun e => decide (e.1 ≠ n))).drop 1
    let resend := match x.resend with
      | some q => if rest.any (fun e => decide (e.1 = q)) then some q else rest.head?.map Prod.fst
      | none => none
    .next (s.setPort p { x with replay := rest, resend := resend, advanced := s.now, timeouts := 0 })
  else .next (s.enterRetrain p)

/-- The place of a number in the replay buffer. -/
def Port.placeOf (x : Port) (n : Nat) : Nat := x.replay.findIdx (fun e => decide (e.1 = n))

/-- Resend from a number on, unless a resend in progress covers it (R321, R324). -/
def State.resendFrom (s : State) (p n : Nat) : State :=
  let x := s.port p
  let covered := x.resend.isSome && decide (x.placeOf x.resendStart ≤ x.placeOf n) && x.replay.any (fun e => decide (e.1 = x.resendStart))
  if covered then s else s.setPort p { x with resend := some n, resendStart := n }

/-- LNAK (R321, R322). -/
def execLnak (port : Fin 6) (seq : BitVec 12) (s : State) : Host.Outcome State Fault Refusal :=
  if (s.port port).replay.any (fun e => decide (e.1 = seq.toNat)) then .next (s.resendFrom port seq.toNat) else .next (s.enterRetrain port)

/-- LCREDIT (R316): credits of an accepted LCREDIT, one byte for each VC. -/
def execLcredit (port : Fin 6) (counts : BitVec 40) (s : State) : Host.Outcome State Fault Refusal :=
  .next (s.modPort port (fun x => { x with credits := Vector.ofFn (fun v : Fin 5 => x.credits.get v + bits counts.toNat (8 * v.val) 8) }))

/-- LACK_DUE (R320): after 32 accepted cells, or 100 ns after one that is not acknowledged. -/
def execLackDue (port : Fin 6) (s : State) : Host.Outcome State Fault Refusal :=
  let x := s.port port
  match x.unackedSince with
  | some t => if 32 ≤ x.unacked ∨ t + 100 ≤ s.now then .next (s.setPort port { x with ackDue := true }) else .next s
  | none => .next s
/-- LCREDIT_DUE (R316): 32 credits owed, or one owed for 500 ns. -/
def execLcreditDue (port : Fin 6) (s : State) : Host.Outcome State Fault Refusal :=
  let x := s.port port
  match x.owedSince with
  | some t => if 32 ≤ x.owed.toList.sum ∨ t + 500 ≤ s.now then .next (s.setPort port { x with creditDue := true }) else .next s
  | none => .next s
/-- LNAK_REPEAT (R319): every 1 µs until the expected number arrives. -/
def execLnakRepeat (port : Fin 6) (s : State) : Host.Outcome State Fault Refusal :=
  let x := s.port port
  match x.nakSince with
  | some t => if t + 1000 ≤ s.now then .next (s.setPort port { x with nakSince := some s.now, nakDue := true }) else .next s
  | none => .next s

/-- REPLAY_TIMEOUT (R321): the oldest cell has waited XPORT.REPLAY_TMO; 8 in a row without progress retrain the direction. -/
def execReplayTimeout (port : Fin 6) (s : State) : Host.Outcome State Fault Refusal :=
  let p := port.val
  let x := s.port p
  match x.replay with
  | [] => .next s
  | e :: _ =>
    if x.tx ≠ .service ∨ s.now < x.advanced + s.fld (xportReg p 0x078) 0 16 then .next s
    else
      let s1 := (s.setPort p { x with advanced := s.now, timeouts := x.timeouts + 1 }).bump (xportReg p 0x07C) 16 16 1
      if 7 ≤ x.timeouts then .next (s1.enterRetrain p) else .next (s1.resendFrom p e.1)

end Sys2Proof.Machine
end

