-- ==== Sys2Proof/Machine/Hall.lean ====
section
/-!
DEFINITION. Sys2Proof/Machine/Hall.lean: hall requests at the target (R330 to R339, R342), replies and the hang watchdog at the issuer
(R340 to R345, R521), and KRELAY (R352).
-/
namespace Sys2Proof.Machine

/-! ## The region table (R336 to R338) -/

/-- A REGION register of an entry (R356). -/
def entryReg (i off : Nat) : Nat := regAddr .region (i / 128) (0x800 + 16 * (i % 128) + off)
/-- Whether a region entry is valid. -/
def State.regionValid (s : State) (i : Nat) : Bool := decide (s.fld (entryReg i 0) 0 1 = 1)
/-- The base JVA of a region. -/
def State.regionBase (s : State) (i : Nat) : Nat := bits (s.rd64 (entryReg i 0)).toNat 21 27 * 2 ^ 21
/-- The region that holds an address (R337). -/
def State.regionOf (s : State) (a : Nat) : Option Nat :=
  (List.range 1024).find? (fun i => s.regionValid i && decide (s.regionBase i ≤ a ∧ a < s.regionBase i + 2 ^ s.fld (entryReg i 8) 0 6))
/-- Whether the device at some coordinates owns a region (R337). -/
def State.ownsRegion (s : State) (i src : Nat) : Bool :=
  let e := s.rankEntry (s.fld (entryReg i 8) 8 12)
  bitOf e 15 && decide (bits e 0 12 = src)
/-- The region word of an entry (R338). -/
def State.regionWord (s : State) (i : Nat) : Nat :=
  s.fld (entryReg i 8) 8 13 + b2n (s.regionValid i) * 2 ^ 13 + s.rdn (entryReg i 12) * 2 ^ 32
/-- The kettle word of a kettle (R348). -/
def State.kettleWord (s : State) (k : Nat) : Nat := s.kettleCount k + s.rdn (kettleReg k 0x04C) * 2 ^ 32

/-- The rank at some coordinates, 0xFFF where none is (R356). -/
def State.rankAt (s : State) (c : Nat) : Nat :=
  ((List.range 4096).find? (fun r => bitOf (s.rankEntry r) 15 && decide (bits (s.rankEntry r) 0 12 = c))).getD 0xFFF

/-! ## Performing a request at the target -/

/-- Send a reply on the RSP class with the request's path class and tag (R334, R342, R346). -/
def State.hallAnswer (s : State) (r : HallReq) (ty : Nat) (pay : Payload) : State :=
  s.sendCell (extCell ty r.src.toNat s.coord s.jobTag 2 r.cls.toNat r.tag.toNat pay)

/-- The reply's cell type: HRSP, HWACK for stores and block writes, HBRSP for a block read (R346). -/
def replyType (kind : Nat) : Nat := if kind = 1 ∨ kind = 4 then 0x29 else if kind = 3 then 0x2A else 0x28

/-- Refuse a request: the refusal is counted and latched at the target, and the reply carries its status (R335, R356). -/
def State.hallRefuse (s : State) (r : HallReq) (status : Nat) : State :=
  (s.hallLog status 1 (s.rankAt r.src.toNat) r.addr.toNat 2).hallAnswer r (replyType r.kind) (payload [(0, 1, status), (1, 1, r.units - 1)])

/-- Answer a request that has been performed. -/
def State.hallDone (s : State) (r : HallReq) (flags : Nat) (old : Nat) : State :=
  s.hallAnswer r (replyType r.kind) (if r.kind = 1 ∨ r.kind = 4 then 0 else payload [(1, 1, flags), (16, 16, old)])

/-- A kettle word read or a hall kettle add (R330, R348, R353). -/
def State.hallKettle (s : State) (r : HallReq) : State :=
  let k := haLocal r.addr.toNat
  let old := s.kettleWord k
  if r.kind = 0 then s.hallDone r 0 old
  else if r.lo.toNat = 0 ∨ 65535 < r.lo.toNat then s.hallRefuse r 5
  else if s.kettleMode k ≠ 1 ∨ 2 ^ 32 ≤ s.kettleCount k + r.lo.toNat then s.hallRefuse r 6
  else (s.kettleAdd k r.lo.toNat 1).hallDone r 0 old

/-- A region word read or a hand-off (R338). -/
def State.hallRegion (s : State) (r : HallReq) : State :=
  let i := haLocal r.addr.toNat
  let old := s.regionWord i
  if !s.regionValid i then s.hallRefuse r 1
  else if r.kind = 0 then s.hallDone r 0 old
  else if !s.ownsRegion i r.src.toNat then s.hallRefuse r 2
  else if !bitOf r.lo.toNat 13 then s.hallRefuse r 5
  else if r.cmpLo.toNat % 2 ^ 13 ≠ old % 2 ^ 13 then s.hallDone r 0 old
  else
    let s1 := (s.setFld (entryReg i 8) 8 13 (r.lo.toNat % 2 ^ 13)).bump (entryReg i 12) 0 32 1
    ((s1.bump (regAddr .region 0 0x05C) 0 16 1).irq .region 0 3).hallDone r 0 old

/-- The region check of a request (R337): its status, 0 where it passes. -/
def State.regionCheck (s : State) (r : HallReq) : Nat :=
  match s.regionOf (haLocal r.addr.toNat) with
  | none => 1
  | some i =>
    if r.kind = 0 ∨ r.kind = 3 then 0
    else if s.ownsRegion i r.src.toNat then 0
    else if r.kind = 2 ∧ s.fld (entryReg i 8) 20 1 = 1 then 0
    else 2

/-- The data cells of a block read (R342). -/
def State.sendData (s : State) (r : HallReq) (v : Nat) : State :=
  (List.range (2 * r.units)).foldl (fun t i => t.hallAnswer r 0x26 (BitVec.ofNat 256 (v / 2 ^ (256 * i)))) s

/-- Perform a request of space 0 at its physical address (R333, R342), after every access to its units that arrived before it (R149). -/
def State.hallPerform (s : State) (r : HallReq) (pa : Nat) : State :=
  let c := s.chanOf pa
  if r.kind = 3 then
    let x := s.readBulk pa r.units
    match x.1 with
    | none => x.2.hallRefuse r 4
    | some v => (x.2.hallAnswer r 0x2A (payload [(1, 1, r.units - 1)])).sendData r v
  else if r.kind = 4 then
    (s.writeBulk pa (r.bulk.foldr (fun p acc => p.toNat + 2 ^ 256 * acc) 0) r.units).hallDone r 0 0
  else
    let s1 := s.settle c (probe (s.blkOf pa) (pa % 1024 / 64) 1)
    let x := s1.hallUnit c (s.blkOf pa) (pa / 1024 * 1024) (pa % 1024) r.kind r.op r.size (r.lo.toNat + 2 ^ 64 * r.hi.toNat) (r.cmpLo.toNat + 2 ^ 64 * r.cmpHi.toNat)
    match x.1 with
    | none => x.2.hallRefuse r 4
    | some (old, f) => x.2.hallDone r f.toNat old

/-- The hall translator of a network interface (R334). -/
def hallUnitNo (r : HallReq) : Nat := if r.m15 then 41 else 40

/-- Handle a request of space 0 that nothing holds back (R334): refuse it, perform it, or walk. -/
def State.hallTry (s : State) (r : HallReq) : State :=
  let out := fun (t : State) => { t with hallWait := t.hallWait.filter (fun q => decide (q.id ≠ r.id)) }
  let a := haLocal r.addr.toNat
  if r.fail ≠ 0 then
    let s1 := (out s).hallRefuse r (if r.fail = 7 then 4 else 3)
    if r.fail = 7 then s1.jobFault 2 4 (if r.m15 then 0x1F else 0x17) 0
    else if r.fail = 0x0B ∨ r.fail = 0x0C then s1.jobFault 3 r.fail (if r.m15 then 0x1F else 0x17) 0 else s1
  else
    let x := s.translate (hallUnitNo r) a (decide (r.kind = 1 ∨ r.kind = 2 ∨ r.kind = 4))
    match x.1 with
    | .fault _ => (out x.2).hallRefuse r 3
    | .miss => (x.2.modHall r.id (fun q => { q with waits := true })).startWalk (hallUnitNo r) (.target r.id) a
    | .hit pa =>
      let st := s.regionCheck r
      if st ≠ 0 then (out x.2).hallRefuse r st
      else if !s.inCapacity pa then (out x.2).hallRefuse r 3
      else (out x.2).hallPerform r pa

/-- The first request that may go on: it waits for nothing, and none to its page is before it in its translator (R341). -/
def nextHall : List HallReq → List HallReq → Option HallReq
  | _, [] => none
  | seen, r :: t =>
    if !r.waits && !seen.any (fun q => decide (q.m15 = r.m15) && decide (q.addr.toNat / 4096 = r.addr.toNat / 4096)) then some r
    else nextHall (seen ++ [r]) t

/-- Handle requests while one may go on. -/
def State.hallPump (s : State) : Nat → State
  | 0 => s
  | n + 1 =>
    match nextHall [] s.hallWait with
    | none => s
    | some r => (s.hallTry r).hallPump n

/-- Take a whole request (R304, R329, R334): foreign tags are dropped, what R329 and R330 do not allow is refused, the rest is handled. -/
def State.hallRequest (s : State) (r : HallReq) : State :=
  let a := r.addr.toNat
  let block := decide (3 ≤ r.kind)
  let bad := if block then decide (haSpace a ≠ 0) || decide (haLocal a % 64 ≠ 0) || decide (1024 < haLocal a % 1024 + 64 * r.units) || !haGlobal a
    else haBad a r.kind r.op r.size || decide (5 < r.op) || !haGlobal a
  if bad then s.hallRefuse r 5
  else if haSpace a = 1 then s.hallKettle r
  else if haSpace a = 2 then s.hallRegion r
  else
    let r1 := { r with id := s.hallSeq }
    { s with hallSeq := s.hallSeq + 1, hallWait := s.hallWait ++ [r1] }.hallPump (s.hallWait.length + 1)

/-- Whether a hall cell carries the job tag in force and no restart drops it (R304, R521); another is dropped and counted. -/
def State.hallGate (s : State) (job : BitVec 16) (src : BitVec 12) (ty : Nat) (f : State → State) : State :=
  if job = 0 ∨ job.toNat ≠ s.jobTag ∨ s.restart.busy then s.dropCell (extCell ty s.coord src.toNat job.toNat 0 0 0 0) 1 else f s

/-- HRD (R330, R334). -/
def execHrd (m15 : Bool) (job : BitVec 16) (src : BitVec 12) (cls : BitVec 2) (tag : BitVec 17) (addr : Dword) (size : Bool) (s : State) :
    Host.Outcome State Fault Refusal :=
  .next (s.hallGate job src 0x20 (fun t => t.hallRequest { m15 := m15, kind := 0, size := size, src := src, cls := cls, tag := tag, addr := addr }))
/-- HWR (R330, R337). -/
def execHwr (m15 : Bool) (job : BitVec 16) (src : BitVec 12) (cls : BitVec 2) (tag : BitVec 17) (addr : Dword) (size : Bool) (lo hi : Dword) (s : State) :
    Host.Outcome State Fault Refusal :=
  .next (s.hallGate job src 0x21 (fun t => t.hallRequest { m15 := m15, kind := 1, size := size, src := src, cls := cls, tag := tag, addr := addr, lo := lo, hi := hi }))
/-- HATM (R330, R333, R346): a cas of size 0 brings its compare value in the high half; a cas of size 1 waits for its HATX. -/
def execHatm (m15 : Bool) (job : BitVec 16) (src : BitVec 12) (cls : BitVec 2) (tag : BitVec 17) (addr : Dword) (size : Bool) (op : Byte) (lo hi : Dword)
    (s : State) : Host.Outcome State Fault Refusal :=
  .next (s.hallGate job src 0x22 (fun t =>
    let r : HallReq := { m15 := m15, kind := 2, op := op.toNat, size := size, src := src, cls := cls, tag := tag, addr := addr, lo := lo, hi := hi }
    if op = 4 ∧ size then { t with hallAsm := t.hallAsm ++ [r] }
    else if op = 4 then t.hallRequest { r with hi := 0, cmpLo := hi }
    else t.hallRequest r))
/-- Whether a request in assembly is the one a following cell belongs to (R342). -/
def asmOf (m15 : Bool) (src : BitVec 12) (tag : BitVec 17) (r : HallReq) : Bool := decide (r.m15 = m15) && decide (r.src = src) && decide (r.tag = tag)
/-- HATX (R346): the compare value of a cas of size 1. -/
def execHatx (m15 : Bool) (job : BitVec 16) (src : BitVec 12) (tag : BitVec 17) (lo hi : Dword) (s : State) : Host.Outcome State Fault Refusal :=
  .next (s.hallGate job src 0x23 (fun t =>
    match t.hallAsm.find? (fun r => decide (r.kind = 2) && asmOf m15 src tag r) with
    | none => t
    | some r => { t with hallAsm := dropFirst (fun q => decide (q = r)) t.hallAsm }.hallRequest { r with cmpLo := lo, cmpHi := hi }))
/-- HBRD (R342). -/
def execHbrd (m15 : Bool) (job : BitVec 16) (src : BitVec 12) (cls : BitVec 2) (tag : BitVec 17) (addr : Dword) (units : BitVec 4) (s : State) :
    Host.Outcome State Fault Refusal :=
  .next (s.hallGate job src 0x24 (fun t => t.hallRequest { m15 := m15, kind := 3, src := src, cls := cls, tag := tag, addr := addr, units := units.toNat + 1 }))
/-- HBWR (R342): the header of a block write; the request is whole with its last data cell. -/
def execHbwr (m15 : Bool) (job : BitVec 16) (src : BitVec 12) (cls : BitVec 2) (tag : BitVec 17) (addr : Dword) (units : BitVec 4) (s : State) :
    Host.Outcome State Fault Refusal :=
  .next (s.hallGate job src 0x25 (fun t =>
    { t with hallAsm := t.hallAsm ++ [{ m15 := m15, kind := 4, src := src, cls := cls, tag := tag, addr := addr, units := units.toNat + 1 }] }))

/-! ## Replies at the issuer (R340 to R345) -/

/-- A reply whose tag is not outstanding (R345). -/
def State.stale (s : State) : State := s.bump (regAddr .region 0 0x058) 0 16 1
/-- Free a remote tag. -/
def State.freeTag (s : State) (n tag : Nat) : State := s.setXe n { s.xe n with tags := serase (s.xe n).tags tag }
/-- A reply to a quarantined tag frees it and is discarded (R521); `f` takes any other outstanding one. -/
def State.onTag (s : State) (n tag : Nat) (f : TagUse → State) : State :=
  match sfind (s.xe n).tags tag with
  | none => s.stale
  | some u => if u.quarantined then (s.freeTag n tag).stale else f u

/-- A remote piece is refused or expires (R335, R343): REMOTE fails its chain, and its tag is free. -/
def State.remoteFail (s : State) (n tag : Nat) (u : TagUse) (status bit : Nat) : State :=
  let s1 := s.hallLog status 0 (peerRank u.addr.toNat) u.addr.toNat bit
  let e := s1.xe n
  let core := 50 * n + u.core.val
  let s2 := s1.setXe n { e with tags := serase e.tags tag, pieces := serase e.pieces (256 + tag) }
  match s2.chain n u.seq with
  | some _ => (s2.failChain n u.seq 0x0D u.addr.toNat status).settleChain n u.seq
  | none => s2.xeFatal n core u.ctx none 0x0D u.addr.toNat status

/-- Write the registers of a load or atomic that has come back, and set the flags (R55, R332, R340). -/
def State.hallReturn (s : State) (n tag : Nat) (u : TagUse) (flags : BitVec 4) (lo hi : Dword) : State :=
  let core := 50 * n + u.core.val
  let s1 := s.freeTag n tag
  if u.drop then s1
  else
    let s2 := s1.modCtx core u.ctx (fun k =>
      let k1 := clearPend k u.rd u.size
      if u.kind = 1 then k1 else if u.size then (k1.setG u.rd lo).setG (u.rd + 1) hi else k1.setG u.rd lo)
    s2.numFlags core u.ctx flags

/-- HRSP (R335, R340, R345). -/
def execHrsp (stack : Fin 40) (tag : BitVec 11) (status : Byte) (flags : BitVec 4) (lo hi : Dword) (s : State) : Host.Outcome State Fault Refusal :=
  let n := stack.val
  .next (s.onTag n tag.toNat (fun u =>
    if u.xe ∨ u.kind = 1 then s.stale
    else if status = 0 then s.hallReturn n tag.toNat u flags lo hi
    else s.hallRefused n tag.toNat u (status.toNat % 16) 0))

/-- HWACK (R340, R342): a store completes, or the write piece of an XE has landed. -/
def execHwack (stack : Fin 40) (tag : BitVec 11) (status : Byte) (s : State) : Host.Outcome State Fault Refusal :=
  let n := stack.val
  let t := tag.toNat
  .next (s.onTag n t (fun u =>
    if u.xe then
      (if status = 0 then s.modPiece n (256 + t) (fun q => { q with finished := true }) else s.remoteFail n t u (status.toNat % 16) 0)
    else if u.kind ≠ 1 then s.stale
    else if status = 0 then s.hallReturn n t u 0 0 0
    else s.hallRefused n t u (status.toNat % 16) 0))

/-- HBRSP (R342): with status OK the data follow; another refuses the piece. -/
def execHbrsp (stack : Fin 40) (tag : BitVec 11) (status : Byte) (_units : BitVec 4) (s : State) : Host.Outcome State Fault Refusal :=
  let n := stack.val
  .next (s.onTag n tag.toNat (fun u =>
    if !u.xe then s.stale else if status = 0 then s else s.remoteFail n tag.toNat u (status.toNat % 16) 0))

/-- HBDAT (R342): placed by its position after its header, at a network interface for a block write, at a stack for a block read. -/
def execHbdat (die : Byte) (job : BitVec 16) (src : BitVec 12) (tag : BitVec 17) (data : Payload) (s : State) : Host.Outcome State Fault Refusal :=
  match stackOfDie die.toNat with
  | some n =>
    let k := 256 + tag.toNat % 2048
    match sfind (s.xe n).pieces k with
    | none => .next s
    | some p =>
      if p.srcSpace.val ≠ 3 ∨ p.finished ∨ p.full then .next s
      else
        let q := p.fill (32 * popCount p.got.toNat 32) data.toNat 1
        let s1 := s.modPiece n k (fun _ => q)
        .next (if q.full then s1.pieceLand n k else s1)
  | none =>
    .next (s.hallGate job src 0x26 (fun t =>
      let m15 := decide (die = 0x1F)
      match t.hallAsm.find? (fun r => decide (r.kind = 4) && asmOf m15 src tag r) with
      | none => t
      | some r =>
        let r1 := { r with bulk := r.bulk ++ [data] }
        if r1.bulk.length < 2 * r.units then { t with hallAsm := modFirst (fun q => decide (q = r)) (fun _ => r1) t.hallAsm }
        else { t with hallAsm := dropFirst (fun q => decide (q = r)) t.hallAsm }.hallRequest r1))

/-- When a hall operation or remote piece expires (R343). -/
def State.expiry (s : State) (u : TagUse) : Nat := u.born + 1000000 * s.fld (regAddr .region 0 0x044) 0 16

/-- HANG_WATCHDOG_EXPIRY (R343): every expiry is a job fault. -/
def execHangWatchdogExpiry (stack : Fin 40) (tag : BitVec 11) (s : State) : Host.Outcome State Fault Refusal :=
  let n := stack.val
  let t := tag.toNat
  match sfind (s.xe n).tags t with
  | none => .next s
  | some u =>
    if u.quarantined ∨ s.now < s.expiry u then .next s
    else if u.xe then .next (s.remoteFail n t u 8 1)
    else .next (s.hallRefused n t u 8 1)

/-- QUARANTINE_RELEASE (R521): a quarantined tag whose operation would have expired is free. -/
def execQuarantineRelease (stack : Fin 40) (tag : BitVec 11) (s : State) : Host.Outcome State Fault Refusal :=
  match sfind (s.xe stack.val).tags tag.toNat with
  | none => .next s
  | some u => if u.quarantined ∧ s.expiry u ≤ s.now then .next (s.freeTag stack.val tag.toNat) else .next s

/-- KRELAY (R352, R353): by the mode of the kettle named. -/
def execKrelay (job : BitVec 16) (kettle : BitVec 8) (_gen : Word) (s : State) : Host.Outcome State Fault Refusal :=
  let k := kettle.toNat
  .next (s.hallGate job 0 0x2C (fun t =>
    if t.kettleMode k = 1 then t.kettleAdd k 1 1
    else if t.kettleMode k = 2 then (t.bump (kettleReg k 0x054) 0 32 1).kettleReleases k
    else (t.bump (kettleReg k 0x054) 0 32 1).kettleErr k))

end Sys2Proof.Machine
end

