-- ==== Sys2Proof/Machine/Pager.lean ====
section
/-!
DEFINITION. Sys2Proof/Machine/Pager.lean: walks (R172, R174), the Pager (R176 to R178) and the writes to TABLE_BASE and TAG_LIMIT (R198).
-/
namespace Sys2Proof.Machine

/-- A PAGER register. -/
def pagerReg (n off : Nat) : Nat := regAddr .pager n off

/-- What goes on after a walk or a settled fault of a unit: the notifications of a stack's chains, the requests of a hall translator. -/
def State.afterWalk (s : State) (n : Nat) : State :=
  if n < 40 then s.notifyAll n (s.chainSeqs n) else s.hallPump (2 * s.hallWait.length + 1)

/-- WALK_STEP (R172, R174 to R176). -/
def execWalkStep (unit : Fin 42) (walk : Fin 8) (s : State) : Host.Outcome State Fault Refusal :=
  if !s.memOn ∨ (sfind (s.xe unit.val).walks walk).isNone then .next s else .next ((s.walkStep unit walk).afterWalk unit)

/-- Update a fault of a Pager. -/
def State.modFault (s : State) (n tag : Nat) (f : PFault → PFault) : State :=
  s.setPager n { s.pager n with faults := modFirst (fun q => decide (q.tag = tag)) f (s.pager n).faults }
/-- Remove a fault from a Pager's queue. -/
def State.dropFault (s : State) (n tag : Nat) : State :=
  s.setPager n { s.pager n with faults := (s.pager n).faults.filter (fun q => decide (q.tag ≠ tag)) }
/-- Whether a Pager is enabled (R199): with enable 0 every DEFER fault waits. -/
def State.pagerOn (s : State) (n : Nat) : Bool := decide (s.fld (pagerReg n 0x044) 0 1 = 1)
/-- A fault is settled (R176, R199): it counts, and a RESUME follows. -/
def State.settleFault (s : State) (n : Nat) (f : PFault) : State :=
  let s1 := s.modFault n f.tag (fun q => { q with settled := true })
  (s1.bump (pagerReg n 0x054) (if f.zero then 0 else 16) 16 1).raiseTo (pagerReg n 0x05C) 0 16 ((s.now - f.born) / 1000)

/-- A fault ends fatally for every client that waits on it (R177, R178); the hall translators' requests are refused. -/
def State.failFault (s : State) (n : Nat) (f : PFault) (code : Nat) : State :=
  let s1 := (s.dropFault n f.tag).eachClient (fun t c a => t.clientFail n c code a) f.clients
  s1.hallPump (2 * s1.hallWait.length + 1)

/-- Read the entry of a fault again (R177, R178): a present one settles it, another is a fault of its own kind. -/
def State.readAgain (s : State) (n : Nat) (f : PFault) : State :=
  let x := s.readEntry f.entryPa
  match x.1 with
  | none => x.2.failFault n f 0x07
  | some e =>
    match entryKind (s.w * 2 ^ 40) f.level e.toNat with
    | .leaf => x.2.settleFault n f
    | .pointer => x.2.settleFault n f
    | .deferZero => x.2.modFault n f.tag (fun q => { q with entry := e, zero := true, page := none })
    | .deferLoad => x.2.modFault n f.tag (fun q => { q with entry := e, zero := false, page := none })
    | .unmapped => x.2.failFault n f 0x01
    | .malformed => x.2.failFault n f 0x03
    | .range => x.2.failFault n f 0x06

/-- PAGER_FAULT_RECEIVE (R176, R177): the fault joins the one on its entry, or one of 64 places; a loading entry is read again. -/
def execPagerFaultReceive (stack : Fin 40) (s : State) : Host.Outcome State Fault Refusal :=
  let n := stack.val
  let p := s.pager n
  match p.inbox with
  | [] => .next s
  | f :: t =>
    if !s.pagerOn n then .next s
    else
      match p.faults.find? (fun q => decide (q.entryPa = f.entryPa) && !q.settled) with
      | some q =>
        .next ((s.setPager n { p with inbox := t }).modFault n q.tag (fun k => { k with clients := k.clients ++ f.clients.filter (fun c => !k.clients.any (fun d => decide (d.1 = c.1))) }))
      | none =>
        if 64 ≤ p.faults.length then .next s
        else
          let tag := ((List.range 65).find? (fun i => !p.faults.any (fun q => decide (q.tag = i)))).getD 0
          let g := { f with tag := tag }
          let s1 := s.setPager n { p with inbox := t, faults := p.faults ++ [g] }
          .next (if f.zero then s1 else s1.readAgain n g)

/-- The tag of the swap of a fault: above those of the XE's pieces, below those of its records. -/
def swapTag (t : Nat) : Nat := 0x4000 + t
/-- The entry that a zero fill places (R178). -/
def filledEntry (e : Nat) (page : Nat) : Nat := putBits (putBits (putBits e 0 1 1) 4 2 0) 8 34 (page / 256)

/-- ZERO_FILL (R178): the oldest DEFER_ZERO fault that has not begun takes a page, at most four at once; the page is written with zeros,
and the swap of the entry is sent to its memory-port die. An empty pool raises pool_low and waits for firmware, or is OUT_OF_PAGES where the job's is empty. -/
def execZeroFill (stack : Fin 40) (s : State) : Host.Outcome State Fault Refusal :=
  let n := stack.val
  let p := s.pager n
  let started := (p.faults.filter (fun q => q.page.isSome && !q.settled)).length
  match p.faults.find? (fun q => q.zero && q.page.isNone && !q.settled) with
  | none => .next s
  | some f =>
    if 4 ≤ started ∨ !s.memOn ∨ !s.pagerOn n then .next s
    else
      let big := decide (f.level = 2)
      match (if big then p.pool2M else p.pool64K) with
      | [] =>
        if (if big then s.jobPool2M else s.jobPool64).isEmpty then .next ((s.failFault n f 0x0B).irq .pager n 1) else .next (s.irq .pager n 0)
      | page :: t =>
        let s1 := s.setPager n (if big then { p with pool2M := t } else { p with pool64K := t })
        let s2 := if t.length < 16 then s1.irq .pager n 0 else s1
        let s3 := (s2.writeBulk page 0 (if big then 32768 else 1024)).modFault n f.tag (fun q => { q with page := some page })
        let new := filledEntry f.entry.toNat page
        .next (s3.emit (memCell 0x07 n (chanDie (s.chanOf f.entryPa)) f.entryPa 0 (swapTag f.tag) (payload [(0, 8, f.entryPa), (8, 8, f.entry.toNat), (16, 8, new)])))

/-- Return a page to the pool it came from, or to the job's where firmware has filled that pool to 64 pages since (DESIGN CHOICE, log entry 117). -/
def State.giveBackPage (s : State) (n : Nat) (f : PFault) : State :=
  let p := s.pager n
  match f.page with
  | none => s
  | some a =>
    if f.level = 2 then (if p.pool2M.length < 64 then s.setPager n { p with pool2M := a :: p.pool2M } else { s with jobPool2M := a :: s.jobPool2M })
    else if p.pool64K.length < 64 then s.setPager n { p with pool64K := a :: p.pool64K } else { s with jobPool64 := a :: s.jobPool64 }

/-- MCASR (R178, R199): the swap settles the fault, or was lost: the page goes back and the entry is read again. With the Pager disabled the fault waits, settled later. -/
def execMcasr (dst : Byte) (tag : BitVec 16) (_found : Dword) (success : Bool) (s : State) : Host.Outcome State Fault Refusal :=
  match stackOfDie dst.toNat with
  | none => .next s
  | some n =>
    match (s.pager n).faults.find? (fun q => decide (swapTag q.tag = tag.toNat) && q.page.isSome && !q.settled && !q.noted) with
    | none => .next s
    | some f =>
      if success then .next (if s.pagerOn n then s.settleFault n f else s.modFault n f.tag (fun q => { q with noted := true }))
      else
        let s1 := ((s.giveBackPage n f).modFault n f.tag (fun q => { q with page := none })).bump (pagerReg n 0x058) 0 16 1
        .next (if s.pagerOn n then s1.readAgain n { f with page := none } else s1)

/-- MPOISON (R145, R175, R197): the chain of the piece, in any state, or of the record, fails with POISON; a poisoned swap fails
the Pager's fault. -/
def execMpoison (dst : Byte) (tag : BitVec 16) (_chunk : BitVec 5) (s : State) : Host.Outcome State Fault Refusal :=
  match stackOfDie dst.toNat with
  | none => .next s
  | some n =>
    if isRecordTag tag then
      match (s.xe n).chains.find? (fun c => decide (c.seq % 0x8000 = tag.toNat - 0x8000)) with
      | none => .next s
      | some c => .next (s.failChain n c.seq 0x07 ((c.descs.head?.map (fun d => dRecord d.raw.toNat)).getD 0) 4)
    else if swapTag 0 ≤ tag.toNat then
      match (s.pager n).faults.find? (fun q => decide (swapTag q.tag = tag.toNat) && q.page.isSome && !q.settled) with
      | none => .next s
      | some f => .next ((s.giveBackPage n f).failFault n f 0x07)
    else
      match sfind (s.xe n).pieces tag.toNat with
      | none => .next s
      | some p =>
        .next ((s.modPiece n tag.toNat (fun q => { q with poison := true, finished := true })).failPiece n p 0x07 p.src 4)

/-- The broadcast of a ticket (R177, R199): every Pager settles the faults that wait on it; one that is disabled notes it for them. -/
def State.ticketBroadcast (s : State) (ticket : Nat) : State :=
  (List.range 40).foldl (fun t n =>
    ((t.pager n).faults.filter (fun f => !f.zero && !f.settled && decide (bits f.entry.toNat 48 16 = ticket))).foldl (fun u f => if u.pagerOn n then u.settleFault n f else u.modFault n f.tag (fun q => { q with noted := true })) t) s

/-- RESUME (R176, R190, R199): the clients of a settled fault walk again; a chain in FAULT_WAIT is ACTIVE. A fault whose settling was noted while the Pager was disabled is
settled first. -/
def execResume (stack : Fin 40) (entry : BitVec 42) (s : State) : Host.Outcome State Fault Refusal :=
  let n := stack.val
  match (s.pager n).faults.find? (fun q => (q.settled || q.noted) && decide (q.entryPa = entry.toNat)) with
  | none => .next s
  | some f =>
    if !s.pagerOn n then .next s
    else
    let s0 := if f.settled then s else s.settleFault n f
    let s1 := (s0.dropFault n f.tag).eachClient (fun t c _ => t.clientGo n c) f.clients
    let s2 := s1.notifyAll n (s1.chainSeqs n)
    .next (s2.hallPump (2 * s2.hallWait.length + 1))

/-- LOAD_TMO (R177): the oldest load that has waited longer than PAGER.LOAD_TMO; the time counts while its chain is SUSPENDED. -/
def execLoadTmo (stack : Fin 40) (s : State) : Host.Outcome State Fault Refusal :=
  let n := stack.val
  let tmo := 1000000 * s.fld (pagerReg n 0x048) 0 16
  match (if s.pagerOn n then (s.pager n).faults.find? (fun q => !q.zero && !q.settled && !q.noted && decide (q.born + tmo < s.now)) else none) with
  | none => .next s
  | some f => .next ((s.failFault n f 0x0C).irq .pager n 2)

/-- Add a page to a pool, or ignore and count the push (R199). -/
def State.poolPush (s : State) (n v : Nat) : State :=
  let p := s.pager n
  let a := bits v 16 26 * 2 ^ 16
  let big := bitOf v 0
  if (if big then decide (64 ≤ p.pool2M.length) || decide (a % 2 ^ 21 ≠ 0) else decide (64 ≤ p.pool64K.length)) then s.errCount .pager n 2
  else if big then { s with jobPool2M := s.jobPool2M.filter (fun x => decide (x ≠ a)) }.setPager n { p with pool2M := p.pool2M ++ [a] }
  else { s with jobPool64 := s.jobPool64.filter (fun x => decide (x ≠ a)) }.setPager n { p with pool64K := p.pool64K ++ [a] }
/-- POOL_PUSH. -/
def execPoolPush (ini : Initiator) (ep : Byte) (stack : Fin 40) (page : Dword) (s : State) : Host.Outcome State Fault Refusal :=
  .next (s.busDo ini ep .pager stack 0x060 (fun t => t.poolPush stack page.toNat))

/-- Whether a chain of a stack is ACTIVE (R198). -/
def State.anyActive (s : State) (n : Nat) : Bool := (s.xe n).chains.any (fun c => decide (c.state = .active))
/-- Take a new table base (R169, R198). -/
def State.setTableBase (s : State) (n : Nat) (v : Dword) : State :=
  if s.anyActive n then s.errCount .xe n 2 else s.wr64 (xeReg n 0x044) (BitVec.ofNat 64 (v.toNat &&& 0x3FFFFE00001))
/-- TABLE_BASE_WRITE. -/
def execTableBaseWrite (ini : Initiator) (ep : Byte) (stack : Fin 40) (v : Dword) (s : State) : Host.Outcome State Fault Refusal :=
  .next (s.busDo ini ep .xe stack 0x044 (fun t => t.setTableBase stack v))
/-- Take a new tag limit (R198). -/
def State.setTagLimit (s : State) (n v : Nat) : State :=
  if s.anyActive n then s.errCount .xe n 2 else s.wr (xeReg n 0x04C) (BitVec.ofNat 32 (min 2048 v))
/-- TAG_LIMIT_WRITE. -/
def execTagLimitWrite (ini : Initiator) (ep : Byte) (stack : Fin 40) (v : BitVec 12) (s : State) : Host.Outcome State Fault Refusal :=
  .next (s.busDo ini ep .xe stack 0x04C (fun t => t.setTagLimit stack v.toNat))

end Sys2Proof.Machine
end

