-- ==== Sys2Proof/Machine/Manifest.lean ====
section
/-!
DEFINITION. Sys2Proof/Machine/Manifest.lean: the sections of a job manifest (R501, R502), where a job's pages and tables stand in memory (R169 to
R171), and how firmware reads and writes job memory.
-/
namespace Sys2Proof.Machine

/-! ## Sections (R502) -/

/-- A field of a section of an object, 0 where the section is absent. -/
def secField (o : List Word) (ty off n : Nat) : Nat :=
  match objSection o ty with
  | some x => x.field off n
  | none => 0
/-- The number of records of a section. -/
def secCount (o : List Word) (ty size : Nat) : Nat :=
  match objSection o ty with
  | some x => x.len / size
  | none => 0

/-- The manifest's rank of this device. -/
def State.jobRank (s : State) : Nat := secField s.job.manifest 0x20 2 2
/-- The rank count. -/
def State.jobRanks (s : State) : Nat := secField s.job.manifest 0x20 4 2
/-- Sequence slots in use. -/
def State.jobSlots (s : State) : Nat := secField s.job.manifest 0x20 6 2
/-- Context length C. -/
def State.jobC (s : State) : Nat := secField s.job.manifest 0x20 8 4
/-- Tail length. -/
def State.jobTail (s : State) : Nat := secField s.job.manifest 0x20 12 2
/-- Epoch E (R374). -/
def State.jobE (s : State) : Nat := secField s.job.manifest 0x20 16 8
/-- The JVA of a serving area (R379): 0 wingbeat record, 1 slot table, 2 result table, 3 prompt area. -/
def State.jobArea (s : State) (i : Nat) : Nat := secField s.job.manifest 0x27 (8 * i) 8
/-- An FDOOR register of port `i`. -/
def fdReg (i off : Nat) : Nat := regAddr .fdoor i off
/-- The wingbeat period W in ns (R374). -/
def State.wing (s : State) : Nat := 1000 * s.fld (fdReg 0 0x080) 0 20
/-- The boundary B of a wingbeat number (R374). -/
def State.bnd (s : State) (k : Nat) : Nat := s.jobE + k * s.wing
/-- The wingbeat of a time (R374). -/
def State.beatAt (s : State) (t : Nat) : Nat := (t - s.jobE) / s.wing
/-- The first wingbeat whose boundary lies at least at `t`. -/
def State.beatFrom (s : State) (t : Nat) : Nat := (t - s.jobE + s.wing - 1) / s.wing

/-- A record of MAP. -/
structure MapRec where
  jva : Nat
  len : Nat
  page : Nat
  write : Bool
  durable : Bool
  defer : Nat
  ticket : Nat
deriving DecidableEq, Repr
/-- The MAP section. -/
def mapRecs (o : List Word) : List MapRec := (List.range (secCount o 0x25 32)).map (fun i =>
  let f := fun b n => secField o 0x25 (32 * i + b) n
  { jva := f 0 8, len := f 8 8, page := f 16 1, write := bitOf (f 17 1) 0, durable := bitOf (f 17 1) 1, defer := f 18 1, ticket := f 20 2 })
/-- The size of a page (R502 MAP). -/
def pageSize (p : Nat) : Nat := if p = 0 then 2 ^ 16 else if p = 1 then 2 ^ 21 else 2 ^ 30
/-- The level of the leaf of a page (R169). -/
def pageLevel (p : Nat) : Nat := 3 - p

/-- A record of CORES. -/
structure CoreRec where
  first : Nat
  last : Nat
  prog : Nat
  banks : Nat
  start : Nat
  save : Nat
  tmo : Nat
deriving DecidableEq, Repr
/-- The CORES section. -/
def coreRecs (o : List Word) : List CoreRec := (List.range (secCount o 0x2A 24)).map (fun i =>
  let f := fun b n => secField o 0x2A (24 * i + b) n
  { first := f 0 2, last := f 2 2, prog := f 4 1, banks := f 6 2, start := f 8 4, save := f 12 2, tmo := f 16 8 })
/-- The cores of a range. -/
def CoreRec.cores (r : CoreRec) : List Nat := (List.range (r.last + 1 - r.first)).map (· + r.first)
/-- The cores of the job. -/
def State.jobCores (s : State) : List Nat := (coreRecs s.job.manifest).flatMap CoreRec.cores

/-- The programs of PROGRAMS: number, bundle count, and where in the section its bundles begin; `n` bounds the count. -/
def programs (o : List Word) (off : Nat) : Nat → List (Nat × Nat × Nat)
  | 0 => []
  | n + 1 =>
    if secCount o 0x29 1 < off + 8 then []
    else
      let c := secField o 0x29 (off + 2) 2
      (secField o 0x29 off 1, c, off + 8) :: programs o (off + 8 + 32 * c) n

/-- A record of PRELOAD. -/
structure PreRec where
  jva : Nat
  len : Nat
  stack : Nat
  row : Nat
deriving DecidableEq, Repr
/-- The PRELOAD section. -/
def preRecs (o : List Word) : List PreRec := (List.range (secCount o 0x2B 24)).map (fun i =>
  let f := fun b n => secField o 0x2B (24 * i + b) n
  { jva := f 0 8, len := f 8 8, stack := f 16 1, row := f 20 4 })
/-- The SETTINGS section, or the DEFAULTS section of a folio: address and value. -/
def pairRecs (o : List Word) (ty : Nat) : List (Nat × Nat) := (List.range (secCount o ty 8)).map (fun i => (secField o ty (8 * i) 4, secField o ty (8 * i + 4) 4))

/-- A record of SEGMENTS, at place `i`. -/
structure SegRec where
  id : Nat
  len : Nat
  jva : Nat
  ticket : Nat
  digest : List Byte
deriving DecidableEq, Repr
/-- The record of a segment. -/
def segRec (o : List Word) (i : Nat) : SegRec :=
  let f := fun b n => secField o 0x28 (192 * i + b) n
  { id := f 0 4, len := f 8 8, jva := f 16 8, ticket := f 24 2, digest := leBytes 64 (f 32 64) }
/-- Source `k` of a segment: its kind, and its peer rank or UDP port, and its address. -/
def segSource (o : List Word) (i k : Nat) : Nat × Nat × Nat :=
  let f := fun b n => secField o 0x28 (192 * i + 96 + 24 * k + b) n
  (f 0 1, f 2 2, f 8 16)

/-! ## Pages and tables (R169 to R171) -/

/-- The next multiple of `a` from `v` on. -/
def alignUp (v a : Nat) : Nat := (v + a - 1) / a * a
/-- The physical address of each MAP record's first page: the pages ascend from 1 GiB on, in the order of the section; zero_fill pages have none. -/
def placeMaps (next : Nat) : List MapRec → List (MapRec × Nat)
  | [] => []
  | r :: t =>
    if r.defer = 1 then (r, 0) :: placeMaps next t
    else
      let a := alignUp next (pageSize r.page)
      (r, a) :: placeMaps (a + r.len) t
/-- Where the pages of MAP end. -/
def mapsEnd (next : Nat) : List MapRec → Nat
  | [] => next
  | r :: t => if r.defer = 1 then mapsEnd next t else mapsEnd (alignUp next (pageSize r.page) + r.len) t

/-- A leaf (R170): page address, write, durable, present, defer and ticket. -/
def leafEntry (r : MapRec) (pa : Nat) (present : Bool) : Nat :=
  b2n present + 2 + 4 * b2n r.write + 8 * b2n r.durable + (if present then 0 else 16 * r.defer) + (if r.defer = 1 then 0 else pa) +
    (if r.defer = 2 then r.ticket * 2 ^ 48 else 0)
/-- A present pointer (R170). -/
def pointerEntry (pa : Nat) : Nat := 1 + pa

/-- A page of the job: its JVA, its record and its physical address. -/
structure PageRec where
  jva : Nat
  rec_ : MapRec
  pa : Nat
deriving DecidableEq, Repr
/-- The pages of a manifest. -/
def jobPages (o : List Word) : List PageRec := (placeMaps (2 ^ 30) (mapRecs o)).flatMap (fun x =>
  (List.range (x.1.len / pageSize x.1.page)).map (fun i =>
    { jva := x.1.jva + i * pageSize x.1.page, rec_ := x.1, pa := if x.1.defer = 1 then 0 else x.2 + i * pageSize x.1.page }))

/-- Where the tables stand: the level-1 table at 0, then those of level 2, then those of level 3, each in the order in which MAP first
needs it. -/
structure Tables where
  l2 : List Nat
  l3 : List Nat
deriving DecidableEq, Repr
/-- The tables that pages need: the level-2 tables by JVA bits [47:30], the level-3 tables by JVA bits [47:21]. -/
def tablesOf (ps : List PageRec) : Tables :=
  { l2 := ((ps.filter (fun p => decide (p.rec_.page ≠ 2))).map (fun p => p.jva / 2 ^ 30)).eraseDups
    l3 := ((ps.filter (fun p => decide (p.rec_.page = 0))).map (fun p => p.jva / 2 ^ 21)).eraseDups }
/-- The address of the level-2 table of a JVA. -/
def Tables.at2 (t : Tables) (jva : Nat) : Nat := 2 ^ 21 + 4096 * t.l2.findIdx (fun x => decide (x = jva / 2 ^ 30))
/-- The address of the level-3 table of a JVA. -/
def Tables.at3 (t : Tables) (jva : Nat) : Nat := 2 ^ 21 + 4096 * t.l2.length + 256 * t.l3.findIdx (fun x => decide (x = jva / 2 ^ 21))
/-- Where the tables end. -/
def Tables.end_ (t : Tables) : Nat := 2 ^ 21 + 4096 * t.l2.length + 256 * t.l3.length
/-- The address of a page's leaf. -/
def Tables.leafAt (t : Tables) (p : PageRec) : Nat :=
  if p.rec_.page = 2 then 8 * tableIndex 1 p.jva
  else if p.rec_.page = 1 then t.at2 p.jva + 8 * tableIndex 2 p.jva
  else t.at3 p.jva + 8 * tableIndex 3 p.jva

/-- Write bytes of main memory from a physical address on, in the present step; `fuel` bounds the units. -/
def State.putPhys (s : State) (pa : Nat) (l : List Byte) : Nat → State
  | 0 => s
  | fuel + 1 =>
    if l.isEmpty then s
    else
      let n := min l.length (64 - pa % 64)
      let c := s.chanOf pa
      let s1 := s.settle c (probe (s.blkOf pa) (pa % 1024 / 64) 1)
      State.putPhys (s1.storeAt c (s.blkOf pa) (pa % 1024) (leNat (l.take n)) n) (pa + n) (l.drop n) fuel
/-- Write a table entry. -/
def State.putEntry (s : State) (pa e : Nat) : State := s.putPhys pa (leBytes 8 e) 2
/-- Read bytes of main memory from a physical address on: none where a unit is uncorrectable. -/
def State.getPhys (s : State) (pa n : Nat) : Option (List Byte) × State :=
  let x := s.readBulk (pa / 64 * 64) ((pa % 64 + n + 63) / 64)
  (x.1.map (fun v => (List.range n).map (fun i => byteOf v (pa % 64 + i))), x.2)

/-- Build the tables of the job (R171, R505): zeros, the pointers, and each page's leaf, present where `live` says so. -/
def State.buildTables (s : State) (ps : List PageRec) (live : PageRec → Bool) : State :=
  let t := tablesOf ps
  let s1 := s.writeBulk 0 0 ((t.end_ + 63) / 64)
  let s2 := t.l2.foldl (fun u x => u.putEntry (8 * (x % 2 ^ 18)) (pointerEntry (t.at2 (x * 2 ^ 30)))) s1
  let s3 := t.l3.foldl (fun u x => u.putEntry (t.at2 (x * 2 ^ 21) + 8 * (x % 512)) (pointerEntry (t.at3 (x * 2 ^ 21)))) s2
  ps.foldl (fun u p => u.putEntry (t.leafAt p) (leafEntry p.rec_ p.pa (live p))) s3
/-- Whether a page is present as the manifest gives it. -/
def PageRec.atLoad (p : PageRec) : Bool := decide (p.rec_.defer = 0)

/-! ## Job memory as firmware sees it -/

/-- The leaf that maps a JVA, found from the level-1 table (R169, R172): its physical address, none where nothing is mapped. -/
def State.firmWalk (s : State) (entry level jva : Nat) : Nat → Option Nat × State
  | 0 => (none, s)
  | fuel + 1 =>
    let x := s.readEntry entry
    match x.1 with
    | none => (none, x.2)
    | some e =>
      match entryKind (s.w * 2 ^ 40) level e.toNat with
      | .leaf => (some (leafPhys level e.toNat jva), x.2)
      | .pointer => x.2.firmWalk (entryAddr e.toNat + 8 * tableIndex (level + 1) jva) (level + 1) jva fuel
      | _ => (none, x.2)
/-- The physical address of a JVA. -/
def State.firmXlat (s : State) (jva : Nat) : Option Nat × State := s.firmWalk (8 * tableIndex 1 jva) 1 jva 3

/-- Read `n` bytes of job memory, page by page; none where one is not mapped or is uncorrectable. -/
def State.firmRead (s : State) (jva n : Nat) : Nat → Option (List Byte) × State
  | 0 => (some [], s)
  | fuel + 1 =>
    if n = 0 then (some [], s)
    else
      let m := min n (65536 - jva % 65536)
      let x := s.firmXlat jva
      match x.1 with
      | none => (none, x.2)
      | some pa =>
        let y := x.2.getPhys pa m
        match y.1 with
        | none => (none, y.2.jobFault 2 4 (chanDie (s.chanOf pa)) (s.chanOf pa))
        | some a =>
          let z := y.2.firmRead (jva + m) (n - m) fuel
          (z.1.map (a ++ ·), z.2)
/-- Write bytes of job memory, page by page; a page that is not mapped takes nothing. -/
def State.firmWrite (s : State) (jva : Nat) (l : List Byte) : Nat → State
  | 0 => s
  | fuel + 1 =>
    if l.isEmpty then s
    else
      let m := min l.length (65536 - jva % 65536)
      let x := s.firmXlat jva
      let s1 := match x.1 with
        | some pa => x.2.putPhys pa (l.take m) (m / 64 + 2)
        | none => x.2
      s1.firmWrite (jva + m) (l.drop m) fuel
/-- Read job memory. -/
def State.jobRead (s : State) (jva n : Nat) : Option (List Byte) × State := s.firmRead jva n (n / 65536 + 2)
/-- Write job memory. -/
def State.jobWrite (s : State) (jva : Nat) (l : List Byte) : State := s.firmWrite jva l (l.length / 65536 + 2)

end Sys2Proof.Machine
end

