-- ==== Sys2Proof/Machine/FrontDoor.lean ====
section
/-!
DEFINITION. Sys2Proof/Machine/FrontDoor.lean: the front-door ports and the request protocol (R358 to R373, R386, R393).
-/
namespace Sys2Proof.Machine

/-! ## Ports and addresses (R358, R359) -/

/-- Whether a front-door port passes messages: enabled, and its link up (R393). -/
def State.fdUp (s : State) (p : Nat) : Bool := bitOf (s.rdn (fdReg p 0x048)) 0 && bitOf (s.rdn (fdReg p 0x044)) 2
/-- Whether a received frame reaches the active Keeper (R358, R359). -/
def State.frameOk (s : State) (f : Frame) : Bool :=
  s.fdUp f.peer.port && (s.tally.active.isSome || decide (s.stage = .recovery)) && decide (s.dst ≠ .d3) && !s.rstLow && decide (f.length ≤ 1518) && !f.unsupported && !f.options && !f.badSum
/-- A port's MAC address. -/
def State.mac (s : State) (p : Nat) : BitVec 48 := BitVec.ofNat 48 (s.rd64 (fdReg p 0x04C)).toNat
/-- The IPv6 link-local address formed from a MAC address by modified EUI-64 (R480). -/
def linkLocal (mac : Nat) : Nat :=
  0xFE80 * 2 ^ 112 + ((mac / 2 ^ 24) ^^^ (2 * 2 ^ 16)) * 2 ^ 40 + 0xFFFE * 2 ^ 24 + mac % 2 ^ 24
/-- A port's IPv6 address (R359, R480). -/
def State.ip6 (s : State) (p : Nat) : Nat :=
  let a := (List.range 4).foldl (fun acc i => acc + s.rdn (fdReg p (0x060 + 4 * i)) * 2 ^ (32 * i)) 0
  if s.stage = .recovery ∧ a = 0 then linkLocal (s.mac p).toNat else a
/-- A port's IPv4 address where it has one. -/
def State.ip4 (s : State) (p : Nat) : Option Nat := if bitOf (s.rdn (fdReg p 0x058)) 8 then some (s.rdn (fdReg p 0x054)) else none

/-- ARP_REQUEST (R359). -/
def execArpRequest (f : Frame) (target : BitVec 32) (_mac : BitVec 48) (s : State) : Host.Outcome State Fault Refusal :=
  if s.frameOk f ∧ !f.peer.v6 ∧ s.ip4 f.peer.port = some target.toNat then .next (s.emit (.arp f.peer target (s.mac f.peer.port))) else .next s
/-- NEIGHBOUR_SOLICITATION (R359). -/
def execNeighbourSolicitation (f : Frame) (target : BitVec 128) (_mac : BitVec 48) (s : State) : Host.Outcome State Fault Refusal :=
  if s.frameOk f ∧ f.peer.v6 ∧ s.ip6 f.peer.port = target.toNat then .next (s.emit (.neighbour f.peer target (s.mac f.peer.port))) else .next s
/-- Whether an address is a port's own. -/
def State.ownAddr (s : State) (f : Frame) (dst : Nat) : Bool :=
  if f.peer.v6 then decide (s.ip6 f.peer.port = dst) else decide (s.ip4 f.peer.port = some dst)
/-- ECHO_REQUEST (R359). -/
def execEchoRequest (f : Frame) (dst : BitVec 128) (data : List Byte) (s : State) : Host.Outcome State Fault Refusal :=
  if s.frameOk f ∧ s.ownAddr f dst.toNat then .next (s.emit (.echo f.peer data)) else .next s

/-! ## Messages (R361 to R365) -/

/-- A message header (R361). -/
structure Hdr where
  ty : Nat
  body : Nat
  key : Nat
  job : Nat
  flags : Nat
  seq : Nat
  id : Nat
deriving DecidableEq, Repr
/-- The header of a message. -/
def hdrOf (m : List Byte) : Hdr :=
  let f := fun o n => beNat (slice m o n)
  { ty := f 3 1, body := f 4 2, key := f 6 2, job := f 8 2, flags := f 10 1, seq := f 16 8, id := f 24 8 }
/-- The body of a message. -/
def bodyOf (m : List Byte) : List Byte := slice m 32 (m.length - 48)
/-- R363 step 1. -/
def malformed (fetch : Bool) (m : List Byte) : Bool :=
  let h := hdrOf m
  decide (m.length ≠ 48 + h.body) || decide (1088 < h.body) || decide (beNat (slice m 0 3) ≠ 0xAE7701) ||
  decide (beNat (slice m 11 5) ≠ 0) || decide (2 ≤ h.flags) ||
  (if fetch then decide (h.ty ≠ 16 ∧ h.ty ≠ 17) else decide (h.ty = 0 ∨ 6 < h.ty))

/-- The key that a message is under, with its number in the replay windows: a session key, or the fetch key as 16 (R362, R391). -/
def State.keyOfMsg (s : State) (fetch : Bool) (h : Hdr) : Option (Nat × List Byte) :=
  if fetch then (if s.job.fetchKey.isEmpty then none else some (16, s.job.fetchKey))
  else (s.job.keys[h.key]?).map (fun k => (h.key, k))
/-- Whether a number passes the replay check (R364). -/
def seqFresh (w : Nat × Nat) (seq : Nat) : Bool :=
  decide (w.1 < seq) || (decide (0 < seq) && decide (seq < w.1) && decide (w.1 - seq ≤ 1024) && !bitOf w.2 (w.1 - seq - 1))
/-- Mark a number (R364): bit `i` of the map stands for the number `i + 1` below the highest. -/
def seqMark (w : Nat × Nat) (seq : Nat) : Nat × Nat :=
  if w.1 < seq then (seq, if 1024 < seq - w.1 then 0 else ((2 * w.2 + 1) * 2 ^ (seq - w.1 - 1)) % 2 ^ 1024) else (w.1, w.2 ||| 2 ^ (w.1 - seq - 1))

/-- The checks of R363 on a received message: the header where it is taken, and the state with what was counted and marked. -/
def State.fdTake (s : State) (f : Frame) (fetch : Bool) (m : List Byte) : Option Hdr × State :=
  let p := f.peer.port
  let h := hdrOf m
  if !s.frameOk f then (none, s)
  else if malformed fetch m then (none, s.bump (fdReg p 0x078) 0 16 1)
  else
    match s.keyOfMsg fetch h with
    | none => (none, (s.bump (fdReg p 0x074) 0 16 1).irq .fdoor p 1)
    | some (n, k) =>
      if (hmac256 k (m.take (m.length - 16))).take 16 ≠ m.drop (m.length - 16) then (none, (s.bump (fdReg p 0x074) 0 16 1).irq .fdoor p 1)
      else
        let w := sget (0, 0) s.serving.rx n
        if !seqFresh w h.seq then (none, (s.bump (fdReg p 0x074) 16 16 1).irq .fdoor p 1)
        else
          let s1 := { s with serving := { s.serving with rx := sset (0, 0) s.serving.rx n (seqMark w h.seq) } }
          if h.flags = 1 ∨ (fetch ∧ h.ty = 16) ∨ (!fetch ∧ (h.ty = 2 ∨ h.ty = 5)) ∨ h.job ≠ s.jobTag then (none, s1.bump (fdReg p 0x078) 16 16 1)
          else (some h, s1.bump (fdReg p 0x070) 0 16 1)

/-- The bytes of a message of the device (R361, R362). -/
def message (key : List Byte) (ty keyId job seq id : Nat) (body : List Byte) : List Byte :=
  let h := beBytes 3 0xAE7701 ++ beBytes 1 ty ++ beBytes 2 body.length ++ beBytes 2 keyId ++ beBytes 2 job ++ [1, 0, 0, 0, 0, 0] ++ beBytes 8 seq ++ beBytes 8 id ++ body
  h ++ (hmac256 key h).take 16
/-- Send a message of the request protocol (R361, R364), numbered per key; without the key nothing can be sent. -/
def State.fdSend (s : State) (to_ : Peer) (key ty id : Nat) (body : List Byte) : State :=
  match s.job.keys[key]? with
  | none => s
  | some k =>
    let n := sget 0 s.serving.tx key + 1
    let s1 := { s with serving := { s.serving with tx := sset 0 s.serving.tx key n } }
    (s1.emit (.datagram to_ 7410 (message k ty key s.jobTag n id body))).bump (fdReg to_.port 0x070) 16 16 1
/-- Where an unprompted message goes (R360): by the other port if its own is down. -/
def State.unprompted (s : State) (p : Peer) : Peer := if !s.fdUp p.port ∧ s.fdUp (1 - p.port.val) then { p with port := 1 - p.port } else p

/-! ## Times and places -/

/-- Whether an orderly stop is in progress (R447). -/
def State.stopping (s : State) : Bool := decide (s.stop.cause ≠ 0) && !s.stop.stopped
/-- The next boundary of the job (R374), in ns; 0 with no job. -/
def State.nextBoundary (s : State) : Nat :=
  if s.jobPhase = 0 then 0 else if s.now < s.jobE then s.jobE else s.bnd (s.beatAt s.now + 1)
/-- FDOOR.WB_NUM (R375): the current wingbeat, or until the first one that runs work, that of the next boundary. -/
def State.beatNow (s : State) : Nat :=
  if s.jobPhase = 0 then 0
  else
    match s.serving.first with
    | none => if s.now < s.jobE then 0 else s.beatAt s.now + 1
    | some k => max k (s.beatAt s.now)
/-- The request with an id. -/
def State.req (s : State) (id : Nat) : Option Request := s.serving.reqs.find? (fun r => decide (r.id.toNat = id))
/-- Update a request. -/
def State.modReq (s : State) (id : Nat) (f : Request → Request) : State :=
  { s with serving := { s.serving with reqs := modFirst (fun r => decide (r.id.toNat = id)) f s.serving.reqs } }
/-- Release a request and its id (R371). -/
def State.dropReq (s : State) (id : Nat) : State :=
  { s with serving := { s.serving with reqs := s.serving.reqs.filter (fun r => decide (r.id.toNat ≠ id)), queue := s.serving.queue.filter (fun x => decide (x.toNat ≠ id)) } }
/-- Requests in a state. -/
def State.reqsIn (s : State) (p : ReqState → Bool) : List Request := s.serving.reqs.filter (fun r => p r.state)
/-- Whether a request holds a sequence slot. -/
def inSlot : ReqState → Bool
  | .prefill => true
  | .decode => true
  | _ => false
/-- The queue position of a request. -/
def State.queuePos (s : State) (id : Nat) : Nat := s.serving.queue.findIdx (fun x => decide (x.toNat = id))

/-! ## Replies -/

/-- Send an ACK (R368): status, slot, queue position and the number acknowledged. -/
def State.fdAck (s : State) (p : Peer) (h : Hdr) (status slot pos : Nat) : State :=
  let s1 := if 4 ≤ status then s.bump (fdReg p.port 0x07C) 16 16 1 else s
  s1.fdSend p h.key 6 h.id (beBytes 1 status ++ [0] ++ beBytes 2 slot ++ beBytes 4 pos ++ beBytes 8 h.seq)
/-- Send a BUSY (R370). -/
def State.fdBusy (s : State) (p : Peer) (h : Hdr) (reason : Nat) : State :=
  let hint := (s.nextBoundary - s.now + 999999) / 1000000
  (({ s with reportOut := { s.reportOut with busy := s.reportOut.busy + 1 } }.bump (fdReg p.port 0x07C) 0 16 1).irq .fdoor p.port 2).fdSend p h.key 5 h.id (beBytes 1 reason ++ [0, 0, 0] ++ beBytes 4 hint)
/-- The body of a TOKENS (R367). -/
def tokensBody (first : Nat) (ts : List Word) (end_ flags k : Nat) : List Byte :=
  beBytes 4 first ++ beBytes 2 ts.length ++ beBytes 1 end_ ++ beBytes 1 flags ++ beBytes 4 k ++ beBytes 4 0 ++ ts.flatMap (fun t => beBytes 4 t.toNat)
/-- Send TOKENS of a request (R360, R367) and note the number of a final one. -/
def State.sendTokens (s : State) (id : Nat) (body : List Byte) (final : Bool) : State :=
  match s.req id with
  | none => s
  | some r =>
    let s1 := s.fdSend (s.unprompted r.peer) r.key 2 id body
    if final then s1.modReq id (fun q => { q with seqs := q.seqs ++ [(r.key, sget 0 s1.serving.tx r.key)] }) else s1
/-- End a request (R371): the final TOKENS carries the given tokens and end code. -/
def State.endReq (s : State) (id first : Nat) (ts : List Word) (code k : Nat) : State :=
  let body := tokensBody first ts code 0 k
  let s1 := s.modReq id (fun r => { r with state := .ended, endCode := code, final := body, finalAt := s.now, sentAt := s.now, resends := 0, acked := false, cancel := none })
  ({ s1 with serving := { s1.serving with queue := s1.serving.queue.filter (fun x => decide (x.toNat ≠ id)) } }).sendTokens id body true

/-! ## SUBMIT (R366, R371) -/

/-- Wake the device for a cause of R428: 1 SUBMIT, 2 STATE_CMD D0, 3 port light, 4 WAKE_AT, 5 another message, 6 STATE_CMD D1. -/
def State.wakeFor (s : State) (cause : Nat) : State :=
  if s.power.wake.isNone ∧ (s.dst = .d2 ∨ (s.dst = .d1 ∧ (cause = 1 ∨ cause = 2 ∨ cause = 4))) then { s with power := { s.power with wake := some cause } } else s
/-- The status with which a part is refused for itself (R366, R368, R371), 0 where it is good. -/
def State.partFault (s : State) (b : List Byte) : Nat :=
  let f := fun o n => beNat (slice b o n)
  let l := f 4 4
  let c := f 2 2
  let stops := f 10 1
  if b.length < 64 ∨ c = 0 ∨ 1024 < c ∨ l = 0 ∨ 262144 < l ∨ f 8 2 = 0 ∨ 4 < stops ∨ f 11 1 ≠ 0 ∨ f 60 4 ≠ 0 ∨ c ≤ f 0 2 ∨ c ≠ (l + 255) / 256 ∨
      (List.range 4).any (fun i => decide (stops ≤ i ∧ f (12 + 4 * i) 4 ≠ 0)) ∨ b.length ≠ 64 + 4 * (min (256 * f 0 2 + 256) l - 256 * f 0 2) then 4
  else if s.jobC ≤ l then 5
  else 0
/-- The token ids of a part. -/
def partToks (b : List Byte) : List Word := (List.range ((b.length - 64) / 4)).map (fun i => BitVec.ofNat 32 (beNat (slice b (64 + 4 * i) 4)))
/-- Field of the bytes 2 to 63 that every part of a request shares. -/
def Request.field (r : Request) (off n : Nat) : Nat := beNat (slice r.head (off - 2) n)
/-- max_new of a request. -/
def Request.maxNew (r : Request) : Nat := r.field 8 2
/-- The stop token ids of a request. -/
def Request.stops (r : Request) : List Word := (List.range (r.field 10 1)).map (fun i => BitVec.ofNat 32 (r.field (12 + 4 * i) 4))

/-- Keep a part; with the last one the request is queued, or refused for want of room (R371). -/
def State.keepPart (s : State) (p : Peer) (h : Hdr) (r : Request) (b : List Byte) : State :=
  let parts := sput r.parts (beNat (slice b 0 2)) (partToks b)
  let s1 := s.modReq h.id (fun q => { q with parts := parts })
  if parts.length < r.field 2 2 then s1
  else if 4096 ≤ s.serving.queue.length then (s1.dropReq h.id).fdBusy p h 1
  else
    let s2 := s1.modReq h.id (fun q => { q with state := .queued, prompt := parts.flatMap Prod.snd, parts := [] })
    ({ s2 with serving := { s2.serving with queue := s2.serving.queue ++ [BitVec.ofNat 64 h.id] } }).fdAck p h 1 0xFFFF s.serving.queue.length

/-- A SUBMIT part that R363 lets through. -/
def State.submit (s : State) (p : Peer) (h : Hdr) (b : List Byte) : State :=
  match s.req h.id with
  | some r =>
    let s1 := s.modReq h.id (fun q => { q with peer := p, key := h.key })
    match r.state with
    | .assembling =>
      let bad := s.partFault b
      if bad ≠ 0 then (s1.dropReq h.id).fdAck p h bad 0xFFFF 0xFFFFFFFF
      else if slice b 2 62 ≠ r.head then (s1.dropReq h.id).fdAck p h 6 0xFFFF 0xFFFFFFFF
      else if shas r.parts (beNat (slice b 0 2)) then s1
      else s1.keepPart p h r b
    | .queued => s1.fdAck p h 1 0xFFFF (s.queuePos h.id)
    | .ended => s1.fdAck p h 0 0xFFFF 0xFFFFFFFF
    | _ => s1.fdAck p h 0 r.slot 0xFFFFFFFF
  | none =>
    let bad := s.partFault b
    if s.restart.busy then s.fdBusy p h 4
    else if s.stage ≠ .imago ∨ s.stopping then s.fdBusy p h 3
    else if bad ≠ 0 then s.fdAck p h bad 0xFFFF 0xFFFFFFFF
    else if 64 ≤ (s.reqsIn (fun x => decide (x = .assembling))).length then s.fdBusy p h 2
    else
      let r : Request := { id := BitVec.ofNat 64 h.id, key := h.key, peer := p, born := s.now, head := slice b 2 62 }
      ({ s with serving := { s.serving with reqs := s.serving.reqs ++ [r] } }).keepPart p h r b

/-- A message of the request protocol of type `ty`: taken under R363 and handled by `g`; one of another type is not this row's. In D2 it wakes
the device (R428). -/
def State.fdMessage (s : State) (f : Frame) (ty : Nat) (m : List Byte) (g : State → Hdr → State) : State :=
  match s.fdTake f false m with
  | (none, t) => t
  | (some h, t) => if h.ty = ty then g (t.wakeFor (if ty = 1 then 1 else 5)) h else s

/-- SUBMIT. -/
def execSubmit (f : Frame) (msg : List Byte) (s : State) : Host.Outcome State Fault Refusal :=
  .next (s.fdMessage f 1 msg (fun t h => t.submit f.peer h (bodyOf msg)))

/-! ## CANCEL, STATUS, ACK (R368, R369, R372, R386) -/

/-- A CANCEL that R363 lets through. -/
def State.cancelReq (s : State) (p : Peer) (h : Hdr) (b : List Byte) : State :=
  if !b.isEmpty then s.fdAck p h 4 0xFFFF 0xFFFFFFFF
  else
    match s.req h.id with
    | none => s.fdAck p h 3 0xFFFF 0xFFFFFFFF
    | some r =>
      let s1 := s.modReq h.id (fun q => { q with peer := p, key := h.key })
      match r.state with
      | .assembling => (s1.dropReq h.id).fdAck p h 2 0xFFFF 0xFFFFFFFF
      | .queued => (s1.fdAck p h 2 0xFFFF 0xFFFFFFFF).endReq h.id r.toks.length [] 3 s.beatNow
      | .ended => s1.fdAck p h 2 0xFFFF 0xFFFFFFFF
      | _ => (s1.modReq h.id (fun q => { q with cancel := (if q.cancel.isSome then q.cancel else some s.serving.begun) })).fdAck p h 2 r.slot 0xFFFFFFFF
/-- CANCEL. -/
def execCancel (f : Frame) (msg : List Byte) (s : State) : Host.Outcome State Fault Refusal :=
  .next (s.fdMessage f 3 msg (fun t h => t.cancelReq f.peer h (bodyOf msg)))

/-- The stage byte of a STATUS (R369). -/
def State.statusStage (s : State) : Nat :=
  if s.restart.busy then 2 else if s.stopping then 3 else if s.stage = .imago ∧ !s.stop.stopped then 1 else 0
/-- The code of a request state (R369). -/
def reqCode : ReqState → Nat
  | .assembling => 1
  | .queued => 2
  | .prefill => 3
  | .decode => 4
  | .ended => 5
/-- The first part of a request that is missing. -/
def Request.missing (r : Request) : Nat := ((List.range (r.field 2 2)).find? (fun i => !shas r.parts i)).getD 0
/-- Send the committed tokens of a request again from a position (R369). -/
def State.resendFrom_ (s : State) (r : Request) (from_ : Nat) : State :=
  let n := (r.toks.length - from_ + 255) / 256
  (List.range n).foldl (fun t i =>
    let code := if i + 1 = n then r.endCode else 0
    t.sendTokens r.id.toNat (tokensBody (from_ + 256 * i) ((r.toks.drop (from_ + 256 * i)).take 256) code 1 s.beatNow) (decide (code ≠ 0))) s
/-- A STATUS query that R363 lets through. -/
def State.statusReq (s : State) (p : Peer) (h : Hdr) (b : List Byte) : State :=
  if b.length ≠ 8 ∨ beNat (slice b 1 3) ≠ 0 ∨ 1 < beNat (slice b 0 1) then s.fdAck p h 4 0xFFFF 0xFFFFFFFF
  else if beNat (slice b 0 1) = 0 then
    s.fdSend p h.key 4 0 ([0] ++ beBytes 1 s.statusStage ++ beBytes 2 (s.reqsIn inSlot).length ++ beBytes 2 s.serving.queue.length ++
      beBytes 2 (s.reqsIn (fun x => decide (x = .assembling))).length ++ beBytes 4 (s.wing / 1000) ++ beBytes 4 0 ++ beBytes 8 s.beatNow ++ beBytes 8 s.nextBoundary)
  else
    match s.req h.id with
    | none => s.fdAck p h 3 0xFFFF 0xFFFFFFFF
    | some r =>
      let s1 := s.modReq h.id (fun q => { q with peer := p, key := h.key })
      let asm := decide (r.state = .assembling)
      let pos := if asm then r.parts.length else if r.state = .queued then s.queuePos h.id else 0
      let s2 := s1.fdSend p h.key 4 h.id ([1] ++ beBytes 1 (reqCode r.state) ++ beBytes 2 (if inSlot r.state then r.slot else 0xFFFF) ++ beBytes 4 pos ++
        beBytes 4 (if asm then r.missing else 0) ++ beBytes 4 r.toks.length ++ beBytes 1 r.endCode ++ List.replicate 15 0)
      let from_ := beNat (slice b 4 4)
      if from_ ≠ 0xFFFFFFFF ∧ from_ < r.toks.length then s2.resendFrom_ { r with peer := p, key := h.key } from_ else s2
/-- STATUS. -/
def execStatus (f : Frame) (msg : List Byte) (s : State) : Host.Outcome State Fault Refusal :=
  .next (s.fdMessage f 4 msg (fun t h => t.statusReq f.peer h (bodyOf msg)))

/-- ACK (R371, R372): one that names a sending of the final TOKENS stops its resends. -/
def execAck (f : Frame) (msg : List Byte) (s : State) : Host.Outcome State Fault Refusal :=
  .next (s.fdMessage f 6 msg (fun t h =>
    let b := bodyOf msg
    match t.req h.id with
    | none => t
    | some r =>
      if b.length = 16 ∧ beNat (slice b 0 1) = 0 ∧ r.state = .ended ∧ r.seqs.contains (h.key, beNat (slice b 8 8)) then
        t.modReq h.id (fun q => { q with peer := f.peer, key := h.key, acked := true })
      else t.modReq h.id (fun q => { q with peer := f.peer, key := h.key })))

/-- ASSEMBLY_TIMEOUT (R371). -/
def execAssemblyTimeout (id : Dword) (s : State) : Host.Outcome State Fault Refusal :=
  match s.req id.toNat with
  | none => .next s
  | some r => if r.state = .assembling ∧ r.born + 1000000000 ≤ s.now then .next (s.dropReq id.toNat) else .next s

/-- TOKENS_RESEND (R372). -/
def execTokensResend (id : Dword) (s : State) : Host.Outcome State Fault Refusal :=
  match s.req id.toNat with
  | none => .next s
  | some r =>
    if r.state = .ended ∧ !r.acked ∧ r.resends < 10 ∧ r.sentAt + 100000000 ≤ s.now then
      .next ((s.modReq id.toNat (fun q => { q with resends := q.resends + 1, sentAt := s.now })).sendTokens id.toNat r.final true)
    else .next s

/-- LINGER_EXPIRY (R371): FDOOR.LINGER seconds after the final TOKENS was first sent. -/
def execLingerExpiry (id : Dword) (s : State) : Host.Outcome State Fault Refusal :=
  match s.req id.toNat with
  | none => .next s
  | some r =>
    if r.state = .ended ∧ r.finalAt + 1000000000 * s.fld (fdReg 0 0x0A8) 0 10 ≤ s.now then .next (s.dropReq id.toNat) else .next s

/-! ## The links of the ports (R360, R393, R397) -/

/-- FRONT_DOOR_LINK_DOWN: by the line, or because the port's PHY PLL fails (R397). -/
def execFrontDoorLinkDown (port : Fin 2) (pll : Bool) (s : State) : Host.Outcome State Fault Refusal :=
  let s1 := ((s.setFld (fdReg port 0x044) 0 1 0).setFld (fdReg port 0x044) 2 1 0).irq .fdoor port 0
  .next (if pll then ((s1.bump (regAddr .timebase 0 0x074) 0 16 1).latchLog (regAddr .timebase 0 0x070) (7 + port.val * 16 + 2 * 2 ^ 15)).irq .timebase 0 5 else s1)
/-- FRONT_DOOR_LINK_UP: with RS-FEC as PORT_CTL sets it (R358). -/
def execFrontDoorLinkUp (port : Fin 2) (s : State) : Host.Outcome State Fault Refusal :=
  if s.dst = .d3 ∨ s.rstLow then .next s
  else .next (s.setFld (fdReg port 0x044) 0 4 (5 + 2 * s.fld (fdReg port 0x048) 1 1))

end Sys2Proof.Machine
end

