-- ==== Sys2Proof/Machine/Store.lean ====
section
/-!
DEFINITION. Sys2Proof/Machine/Store.lean: what a register keeps of a value written to it: access codes (R14 to R16), limits, and the registers that
read the same in every instance of their page.
-/
namespace Sys2Proof.Machine

/-- The factory thresholds of a THRESH register (R443). -/
def factoryThresh (off : Nat) : Nat := resetWord .therm off
/-- A byte of a threshold: not above the factory figure, and at most 10 °C below it (R443). -/
def threshByte (f v lsb : Nat) : Nat := clamp (bits f lsb 8 - 10) (bits f lsb 8) (bits v lsb 8) * 2 ^ lsb
/-- A THRESH register as stored. -/
def threshWord (f v : Nat) : Nat := threshByte f v 0 + threshByte f v 8 + threshByte f v 16 + threshByte f v 24

/-- Limit a field of a word. -/
def clampFld (v lsb w lo hi : Nat) : Nat := putBits v lsb w (clamp lo hi (bits v lsb w))

/-- The greatest WB_IDLE of a W (R377). -/
def wbIdleMax (w : Nat) : Nat := min 2000 (w / 4)

/-- A register's value as its limits let it stand: the nearer limit where it lies outside (R134, R135, R165, R198, R199, R238, R239, R325, R326, R347, R356,
R377, R393, R418, R443, R469). -/
def State.limited (s : State) (t : PageType) (off v : Nat) : Nat :=
  match t, off with
  | .rows, 0x05C => clampFld v 8 16 100 60000
  | .rows, 0x060 => min (bits v 0 8) 55 + 256 * min (bits v 8 8) 68
  | .mchan, 0x054 => clampFld v 8 8 1 168
  | .mchan, 0x060 => clampFld v 0 16 100 10000
  | .xe, 0x04C => clampFld v 0 12 0 2048
  | .pager, 0x048 => clampFld v 0 16 1 60000
  | .phoHome, 0x054 => clampFld v 0 16 500 65535
  | .phoSite, 0x048 => clampFld v 0 4 1 8
  | .phoSite, 0x050 => clampFld v 0 16 200 10000
  | .fab, 0x048 => clampFld v 0 16 100 60000
  | .xport, 0x078 => clampFld v 0 16 500 20000
  | .region, 0x044 => clampFld v 0 16 1 60000
  | .kettle, 0x040 => if bits v 0 2 = 3 then putBits v 0 2 0 else v
  | .kettle, 0x044 => if v = 0 then 1 else v
  | .fdoor, 0x080 => clampFld v 0 20 2000 500000
  | .fdoor, 0x084 => clampFld v 0 11 50 (wbIdleMax (s.fld (fdReg 0 0x080) 0 20))
  | .fdoor, 0x0A8 => clampFld v 0 10 1 600
  | .timebase, 0x050 => clampFld v 8 8 1 255
  | .cal, 0x040 => clampFld v 0 8 10 100
  | .therm, 0x060 => threshWord (factoryThresh off) v
  | .therm, 0x064 => threshWord (factoryThresh off) v
  | .therm, 0x068 => threshWord (factoryThresh off) v
  | .therm, 0x06C => threshWord (factoryThresh off) v
  | _, _ => v

/-- Whether the register reads the same in every instance of its page, and one write applies to all (R356, R393). -/
def sharedReg (t : PageType) (off : Nat) : Bool :=
  match t with
  | .region => decide (0x040 ≤ off) && decide (off < 0x800)
  | .fdoor => (decide (0x080 ≤ off) && decide (off ≤ 0x0AC))
  | _ => false
/-- The address at which a register is kept. -/
def keptAddr (t : PageType) (i off : Nat) : Nat := regAddr t (if sharedReg t off then 0 else i) off

/-- Store a value in a block register: its RW and RWL bits take it, a 1 clears an RW1C bit, every other bit stands (R14 to R16). -/
def State.regStore (s : State) (t : PageType) (i off v : Nat) : State :=
  let r := regRow t off
  let m := r.half off (r.rw ||| r.rwl)
  let c := r.half off r.rw1c
  let a := keptAddr t i off
  let old := s.rdn a
  let kept := (old &&& (all32 ^^^ m)) &&& (all32 ^^^ (c &&& v))
  let s1 := s.wr a (BitVec.ofNat 32 (s.limited t off (kept ||| (v &&& m))))
  if t = .fdoor ∧ off = 0x080 then
    let b := keptAddr .fdoor 0 0x084
    s1.wr b (BitVec.ofNat 32 (s1.limited .fdoor 0x084 (s1.rdn b)))
  else s1

/-- Store a value at an address, in firmware's own name. -/
def State.put (s : State) (a v : Nat) : State :=
  match decodeAddr a with
  | some (t, i, off) => if 0x040 ≤ off then s.regStore t i off v else s
  | none => s
/-- Lock a page (R18). -/
def State.lockPage (s : State) (t : PageType) (i : Nat) : State := s.setFld (hdr t i 0x008) 2 1 1
/-- Clear a page's lock. -/
def State.unlockPage (s : State) (t : PageType) (i : Nat) : State := s.setFld (hdr t i 0x008) 2 1 0
/-- Lock, or unlock, every instance of a page type. -/
def State.lockAll (s : State) (t : PageType) (on : Bool) : State :=
  (List.range (pageInfo t).insts).foldl (fun u i => if on then u.lockPage t i else u.unlockPage t i) s

/-- Clear the words of the pages that `p` names, as those units' registers stand when their domain comes on. -/
def State.clearPages (s : State) (p : PageType → Bool) : State :=
  let keep := fun (e : Nat × Word) => match decodeAddr e.1 with
    | some (t, _, _) => !p t
    | none => true
  { s with regs := s.regs.filter keep }

end Sys2Proof.Machine
end

