-- ==== Sys2Proof/Machine/Domains.lean ====
section
/-!
DEFINITION. Sys2Proof/Machine/Domains.lean: the end of a Surge (R437), switching the domains off (R419, R423, R451, R566), and Larva: how it begins,
waits and ends, and how a folio takes effect (R452, R471 to R473, R493 to R499).
-/
namespace Sys2Proof.Machine

/-! ## Surge (R433 to R437) -/

/-- A PWR register. -/
def pwrReg (off : Nat) : Nat := regAddr .pwr 0 off
/-- How much of an interval lies within the 300 s that end at `t`. -/
def spanWithin (t : Nat) (p : Nat × Nat) : Nat := min p.2 t - max p.1 (t - 300000000000)
/-- The allowance in ns (R434). -/
def State.allowance (s : State) : Nat :=
  let ps := if s.power.surge then s.power.spans ++ [(s.power.surgeAt, s.now)] else s.power.spans
  30000000000 - (ps.map (spanWithin s.now)).sum
/-- The wear budget left, in s (R435). -/
def State.wearLeft (s : State) : Nat := s.fld (pwrReg 0x054) 8 24 - ((s.vault.surgeSecs.take 719).sum + s.surgeNow / 1000000000)
/-- surge_grant of every active stack (R433, R437): a BCAST_WRITE of ROWS.CAP_CTL. -/
def State.grantAll (s : State) (on : Bool) : State :=
  (List.range 40).foldl (fun t n => if t.stackActive n then t.setFld (rowsReg n 0x064) 0 1 (b2n on) else t) s
/-- A Surge in force ends (R436, R437). -/
def State.surgeEnd (s : State) (cause : Nat) : State :=
  if !s.power.surge then s
  else
    let s1 := (s.grantAll false).wr (pwrReg 0x05C) (BitVec.ofNat 32 (cause * 2 ^ 12 + min 4095 ((s.now - s.power.surgeAt) / 100000000) * 2 ^ 16))
    let s2 := { s1 with power := { s.power with surge := false, spans := (s.power.spans.filter (fun (p : Nat × Nat) => decide (s.now < p.2 + 300000000000))) ++ [(s.power.surgeAt, s.now)] } }
    let s3 := s2.irq .pwr 0 2
    if 2 ≤ cause ∧ cause ≤ 5 then s3.bump (pwrReg 0x07C) 16 16 1 else s3

/-! ## Everything off -/

/-- What of a group stays: that it is retired (R230). -/
def Group.kept (x : Group) : Group := if x.state = .retired then { state := .retired } else {}
/-- What of a site stays: its withdrawn transmitters (R232). -/
def Site.kept (x : Site) : Site := { gone := x.gone }
/-- What of a line stays: commissioning values, a spent laser, a failed standby (R269, R273). -/
def LaserLine.kept (x : LaserLine) : LaserLine :=
  { base := x.base, oldBase := x.oldBase, standbyGone := x.standbyGone, spent := x.spent }
/-- What of a diode stays: its raw reading and that it is broken (R455). -/
def Diode.kept (d : Diode) : Diode := { raw := d.raw, valid := d.valid, use := d.use, broken := d.broken }
/-- What of a channel stays: that it leaves service at the next Larva, and the units of this ageing epoch that were uncorrectable (R141). -/
def Chan.kept (c : Chan) : Chan := { outDue := c.outDue, ueUnits := c.ueUnits, mode := (if c.mode = .failed then .failed else .off) }

/-- The machine with every domain off: what is fused, in flash, or outside it stays. An image whose write is under way is lost (R481, R573). -/
def State.bare (s : State) : State :=
  { State.reset with
    pending := s.pending, timebase := s.timebase, free := s.free, out := s.out, dies := s.dies, thirds := s.thirds, trip := s.trip
    stks := smapv {} Stack.kept s.stks
    groups := smapv {} Group.kept s.groups
    sites := smapv {} Site.kept s.sites
    lines := smapv {} LaserLine.kept s.lines
    diodes := smapv {} Diode.kept s.diodes
    chans := smapv {} Chan.kept s.chans
    vault := { s.vault with running := [], imageDue := [], image := (if s.vault.imageDue.isEmpty then s.vault.image else []) }
    clock := { valid := s.clock.valid }
    refLight := { valid := s.refLight.valid }
    power := { spans := s.power.spans }
    reportOut := { records := s.reportOut.records }
    originLow := s.originLow, epochs := s.epochs, surgeNow := s.surgeNow, tap := s.tap, activeStacks := s.activeStacks, rstLow := s.rstLow }
/-- FOLIO.BOOT_STAT. -/
def bootReg : Nat := regAddr .folio 0 0x070
/-- The device goes to D3 (R423, R431, R451). -/
def State.powerOff (s : State) : State := { (s.surgeEnd 7).bare with dst := .d3 }
/-- A Keeper that an amendment records as failed (R491). -/
def State.keeperLost (s : State) (k : Nat) : Bool := s.vault.amends.any (fun a => decide (a.kind = 0x0C) && decide (a.res = k))
/-- Ovum begins (R471 t0): the Keeper ROMs start. -/
def State.ovumStart (s : State) : State :=
  ({ s with stage := .ovum, dst := .d0, rstLow := false, keepers := Vector.ofFn (fun k : Fin 3 => { role := (if s.keeperLost k then .failed else .starting), since := s.now }) }).bump bootReg 16 16 1
/-- The device starts from Ovum with its always-on domain left on (R480, R489, R512). -/
def State.toOvum (s0 : State) : State :=
  let s := s0.surgeEnd 7
  let kept := (s.clearPages (fun t => !([PageType.kettle, .lsm, .pwr, .therm, .timebase, .tally].contains t))).regs
  ({ s.bare with regs := kept, mgmt := s.mgmt, inputs := s.inputs, clock := { s.clock with locked := false }, power := { s.power with wake := none } }.setFld bootReg 16 16 (s.fld bootReg 16 16)).ovumStart

/-! ## Light, groups and ports off -/

/-- Every group that is not retired is OFF, and nothing of the base is in flight (R228). -/
def State.groupsOff (s : State) : State :=
  { s with groups := smapv {} Group.kept s.groups, sites := smapv {} Site.kept s.sites, statusQ := [], statusHeld := [], rings := [], calPass := {} }
/-- Every port direction is OFF; `left` says which ports stay as they are. -/
def State.portsOff (s : State) (left : Port → Bool) : State :=
  { s with ports := s.ports.map (fun x => if left x then x else { disabled := x.disabled }) }
/-- Discovery begins afresh (R300): the strap ORIGIN_N is sampled, a free value as it lies outside the device; low, the device takes (0, 0, 0). -/
def State.discover (s : State) : State :=
  let x := s.fresh
  let low := Config.freeBool x.1
  { (x.2.wr (fabReg 0x044) (if low then BitVec.ofNat 32 (3 * 2 ^ 16) else 0)) with discStart := s.now, originLow := low }

/-! ## A folio in force (R493, R495, R497 to R499) -/

/-- The words of a section's body. -/
def secBody (o : List Word) (ty : Nat) : List Word :=
  match objSection o ty with
  | some x => x.body
  | none => []
/-- Record the amendments that waited for the job's end or restart (R230, R232). -/
def State.flushAmends (s : State) : State := { s with vault := ({ s.vault with amendDue := [] } : Vault).record s.vault.amendDue }
/-- The latest value recorded for a resource under the folio version in force. -/
def State.boundValue (s : State) (kind res : Nat) : Option Nat :=
  ((s.vault.amends.filter (fun a => decide (a.kind = kind) && decide (a.res = res) && decide (a.folio = objVersion s.vault.folio))).getLast?).map (fun a => a.value)
/-- Guard bands and frequency table tops take effect (R466): an amendment's value is the guard band in 5 mV steps, and the top in [15:8]. -/
def State.applyMargins (s : State) : State :=
  (List.range 160).foldl (fun t r =>
    let x := sget {} t.regions r
    let y := match t.boundValue 0x0F r with
      | some v => { x with guard := bits v 0 8, ftop := bits v 8 8, ftopDue := bits v 8 8, droop := min x.droop (bits v 8 8) }
      | none => { x with guard := 0, ftop := 80, ftopDue := 80 }
    { t with regions := sset {} t.regions r y }) s

/-- A released resource is in service again (R499). -/
def State.giveBack (s : State) (kind res : Nat) : State :=
  match kind with
  | 0x01 => s.setStk res { s.stk res with retired := false }
  | 0x02 => s.setStk res { s.stk res with half := false }
  | 0x05 => if s.thirds.contains res ∨ 3 ≤ res then s else { s with thirds := [0, 1, 2].filter (fun t => s.thirds.contains t || decide (t = res)) }
  | 0x06 => if (s.grp res).state = .retired then s.setGrp res {} else s
  | 0x07 => s.setSite (res / 128) { s.site (res / 128) with gone := (s.site (res / 128)).gone.filter (fun x => decide (x ≠ res % 128)) }
  | 0x08 => if res % 64 < 24 then (if (s.grp (24 * (res / 64) + res % 64)).state = .retired then s.setGrp (24 * (res / 64) + res % 64) {} else s)
    else s.setSite (res / 64) { s.site (res / 64) with gone := (s.site (res / 64)).gone.filter (fun x => decide (x ≠ res % 64 - 24)) }
  | 0x09 => { s with lines := smod {} s.lines (41 * (res / 64) + res % 64) (fun x => { x with base := none, oldBase := none }) }
  | 0x0A => { s with lines := smod {} s.lines (41 * (res / 64) + res % 64) (fun x => { x with mode := .normal, standbyGone := false, spent := false }) }
  | 0x0B => { s with diodes := smod {} s.diodes res (fun d => { d with broken := false }) }
  | 0x0D => s.setDie (0x40 + res / 64) { s.die (0x40 + res / 64) with bad := BitVec.ofNat 52 (putBits (s.die (0x40 + res / 64)).bad.toNat (res % 64) 1 0) }
  | _ => s
/-- The RELEASE entries of the folio in force drop the records they name (R499). -/
def State.release (s : State) : State :=
  (pairRecs s.vault.folio 0x0A).foldl (fun t e =>
    let hit := fun (a : Amend) => decide (a.kind = e.1) && decide (a.res = e.2) && !a.bound
    if t.vault.amends.any hit then ({ t with vault := t.vault.drop hit }).giveBack e.1 e.2 else t) s

/-- Give the front-door ports their addresses from the folio (R480, R493). -/
def State.netRegs (s : State) : State :=
  let net := Config.netField (secBody s.vault.folio 0x06)
  (List.range 2).foldl (fun t p =>
    let u := (((t.put (fdReg p 0x054) (net p 0)).put (fdReg p 0x058) (net p 1 % 64 + net p 2 % 2 * 256)).put (fdReg p 0x048) (t.fld (fdReg p 0x048) 0 1 + 2 * (net p 4 % 2)))
    (List.range 4).foldl (fun w i => w.put (fdReg p (0x060 + 4 * i)) (bits (net p 3) (32 * i) 32)) u) s
/-- Whether an address is a stack's CAP register, which firmware writes in Pupa (R134). -/
def capAddr (a : Nat) : Bool := match decodeAddr a with | some (.rows, _, off) => decide (off = 0x060) | _ => false
/-- Write the registers that a folio gives but for the caps of the stacks, and lock their pages (R493, R495, R536). -/
def State.folioRegs (s0 : State) : State :=
  let o := s0.vault.folio
  let pf := Config.profileField (secBody o 0x01)
  let fab := Config.fabricField (secBody o 0x07)
  let budget := (((s0.vault.amends.filter (fun a => decide (a.kind = 0x11))).getLast?).map (fun a => a.value)).getD 36000
  let s := { s0 with activeStacks := clamp 1 40 (pf 0) }
  let s1 := (s.put (pwrReg 0x054) (pf 1 % 2 + 256 * budget)).put (pwrReg 0x048) (pf 6 % 2 ^ 16 + pf 7 % 2 * 2 ^ 16)
  let s2 := (((s1.put (fdReg 0 0x080) (pf 2)).put (fdReg 0 0x084) (pf 3)).put (fdReg 0 0x0AC) (pf 4)).put (fdReg 0 0x0A8) (pf 5)
  let s3 := (List.range 4).foldl (fun t i => t.put (regAddr .therm 0 (0x060 + 4 * i)) (if (objSection o 0x02).isSome then secField o 0x02 (4 * i) 4 else factoryThresh (0x060 + 4 * i))) s2
  let s4 := (pairRecs o 0x03).foldl (fun t e => if capAddr e.1 then t else t.put e.1 e.2) s3
  let s5 := s4.netRegs
  let s6 := if (objSection o 0x07).isSome then (s5.put (fabReg 0x040) (fab 0 % 4096 + fab 1 % 2 * 2 ^ 16)).put (fabReg 0x048) (fab 2) else s5
  [PageType.sieve, .phoSite, .fdoor, .lsm, .pwr, .therm].foldl (fun t y => t.lockAll y true) s6

/-! ## Larva (R452, R471 to R473) -/

/-- The input that the base PLL takes in Larva (R396): the one selected, or the other where only that one is valid. -/
def State.larvaInput (s : State) : Option (Fin 2) :=
  let sel : Fin 2 := if s.fld (regAddr .timebase 0 0x048) 0 1 = 1 then 1 else 0
  if s.clock.valid.get sel then some sel else if s.clock.valid.get (1 - sel) then some (1 - sel) else none
/-- Retirements that were waiting take effect (R123, R128, R141). -/
def State.retirements (s : State) : State :=
  let s1 := (List.range 40).foldl (fun t n =>
    let k := t.stk n
    if k.retireDue ∧ !k.retired then t.retireNow n else t) s
  let failed := (List.range 384).filter (fun c => (s.chan c).outDue)
  if failed.isEmpty then s1 else s1.dropThirds failed
/-- A core remap takes effect (R37, R548). -/
def State.remaps (s : State) : State := { s with dies := s.dies.map (fun e => (e.1, { e.2 with bad := e.2.bad ||| e.2.badDue, badDue := 0 })) }
/-- A resource whose loss stops the device in Larva (R22, R142, R231): a Keeper, the last third, the groups of a memory-port die or of a Keeper. -/
def State.larvaStops (s : State) : Bool :=
  let left := fun (h : Nat) => ((homeGroups h).filter (fun g => decide ((s.grp g).state ≠ .retired))).length
  s.thirds.isEmpty || (s.keepers.toList.any (fun k => decide (k.role = .failed))) || (List.range 16).any (fun m => decide (left (40 + m) < 6) || decide (s.txCount (40 + m) < 32)) ||
  (List.range 3).any (fun k => decide (left (56 + k) = 0) || decide (s.txCount (56 + k) = 0))
/-- A compute home channel with too few groups, or a stack site with too few transmitters, retires its stack (R231). -/
def State.homeLosses (s : State) : State :=
  (List.range 40).foldl (fun t n =>
    let gs := (homeGroups n).filter (fun g => decide ((t.grp g).state ≠ .retired))
    if !(t.stk n).retired ∧ (gs.length < 12 ∨ !gs.any (fun g => decide (grpNo g < 4)) ∨ t.txCount n < 12) then t.retireNow n else t) s
/-- The photonic group directions that stacks have lost with their cell-path bonds are retired (R129): a group of the home channel, or a transmitter of the
site. -/
def State.cellActions (s : State) : State :=
  (List.range 40).foldl (fun t n =>
    let u := (t.stk n).cellDue.foldl (fun v d =>
      if d < 24 then (if (v.grp (24 * n + d)).state = .retired then v else v.retireGroup (24 * n + d) 0x08 (64 * n + d))
      else if (v.site n).gone.contains (d - 24) then v
      else (v.loseTx n (d - 24)).amend 0x08 false (64 * n + d) 0) t
    u.setStk n { u.stk n with cellDue := [] }) s

/-- The folio in force reaches the registers, and discovery and the light begin (R471 t3, R473). -/
def State.folioUp (s : State) : State :=
  let s1 := (s.release.folioRegs.applyMargins).discover
  { s1 with bootWait := (if s.refLight.valid then 0 else 2) }
/-- A pending folio is made current (R495): the current one becomes prior, and the current folio-bound amendments are copied to the new version, but for
the user calibration values that the new CAL section sets (R499). -/
def State.takePending (s : State) : State :=
  let v := s.vault
  if v.pendingFolio.isEmpty then s
  else
    let old := objVersion v.folio
    let cal := secBody v.pendingFolio 0x05
    let mine := v.amends.filter (fun a => a.bound && decide (a.folio = old) && !(decide (a.kind = 0x0E) && Config.calSets cal a.res))
    let w : Vault := { v with folio := v.pendingFolio, prior := v.folio, priorRejected := false, pendingFolio := [], newFolio := true }
    { s with vault := w.record (mine.map (fun a => { a with folio := objVersion v.pendingFolio, hour := v.hours })) }
/-- Larva goes on once it can (R396, R452, R471 t2 to t3, R473): the base PLL locks, the spine is trained. -/
def State.larvaGo (s : State) : State :=
  if s.stage ≠ .larva ∨ s.spineUp ∨ s.bootWait = 7 ∨ s.dst ≠ .d0 then s
  else
    match s.larvaInput with
    | none => { s with bootWait := 1 }
    | some i =>
      if s.trip.isSome ∧ s.diodes.any (fun d => d.2.warn) then { s with bootWait := 0 }
      else
        let s1 := { s with clock := { s.clock with locked := true, inUse := i, holdover := none }, spineUp := true, identAt := [], bootWait := 0 }
        let s2 := (({ s1 with vault := s1.vault.chained.getD s1.vault }.retirements.homeLosses).remaps).flushAmends.takePending
        if s1.vault.chained.isNone ∨ s2.larvaStops then { s2 with bootWait := 7 }
        else if s2.vault.folio.isEmpty then { s2 with bootWait := 3 }
        else s2.folioUp
/-- Larva begins again under a folio (R495): die identification, training and the zero fill are skipped, and all light is lit and locked again. -/
def State.warmLarva (s : State) : State :=
  let s1 := ((s.groupsOff).portsOff (fun _ => false))
  let s2 := { s1 with stage := .larva, warm := true, stop := {}, stopAsked := none, lsms := Vector.replicate 7 {}, chans := smapv {} (fun (c : Chan) => if c.mode = ChanMode.service then { c with retrainDue := some s.now } else c) s.chans }
  let s3 := s2.retirements.homeLosses.remaps
  if s3.larvaStops then { s3 with bootWait := 7 } else s3.folioUp
/-- A fold back (R496): the prior folio is current, the one it leaves is prior and rejected, and Larva and Pupa run again under the restored folio. -/
def State.foldBack (s : State) : State :=
  let v := s.vault
  if v.prior.isEmpty ∨ v.priorRejected then { s with vault := { v with foldBackAsked := false } }
  else (({ s with dst := .d0, vault := { v with folio := v.prior, prior := v.folio, priorRejected := true, newFolio := false, foldBackAsked := false } }).warmLarva).irq .folio 0 3
/-- Whether die identification has passed (R22, R471 t3): every site has been asked, and no die is missing but those of retired stacks. -/
def State.identified (s : State) : Bool :=
  (List.range 59 ++ [63]).all (fun n => shas s.identAt n) &&
  dieCodes.all (fun c => (s.die c).fitted || ((decide (dieClass c = 3) || decide (dieClass c = 4)) && (s.stk (c % 64)).retired))
/-- Whether Larva is complete (R471 t5). -/
def State.larvaDone (s : State) : Bool :=
  decide (s.stage = .larva) && s.spineUp && decide (s.bootWait ≠ 3) && decide (s.bootWait ≠ 7) && s.refLight.valid && decide (s.fld (fabReg 0x044) 18 2 ≠ 0) &&
  (List.range 6).all (fun k => decide ((s.lsm k).mode = .lit)) && (s.warm || s.identified) &&
  (List.range 384).all (fun c => !s.thirds.contains (c / 128) || decide ((s.chan c).mode = .service)) &&
  (List.range 1158).all (fun g => (decide (grpHome g < 40) && !s.stackActive (grpHome g)) || (decide ((s.grp g).state ≠ .off) && decide ((s.grp g).state ≠ .training)))
/-- In Pupa firmware writes the caps of the stacks from the folio and locks their pages (R134). -/
def State.capRegs (s : State) : State :=
  ((pairRecs s.vault.folio 0x03).foldl (fun t e => if capAddr e.1 then t.put e.1 e.2 else t) s).lockAll .rows true
/-- Larva ends and Pupa begins, with a calibration pass (R471 t5 to t6), once the retirements found in Larva have taken effect (R128, R129, R231): a loss that stops
the device does so. -/
def State.larvaEnd (s : State) : State :=
  if s.larvaDone then
    let s1 := s.retirements.cellActions.homeLosses
    if s1.larvaStops then { s1 with bootWait := 7 }
    else { s1 with stage := .pupa, warm := false, bootWait := 0, calPass := { s1.calPass with pending := true, awaited := true } }.userSet.capRegs
  else s
/-- What firmware looks for as time passes in Larva. -/
def State.bootCheck (s : State) : State := if s.stage = .larva then ((s.larvaGo).discCheck).larvaEnd else s

end Sys2Proof.Machine
end

