-- ==== Sys2Proof/Machine/Job.lean ====
section
/-!
DEFINITION. Sys2Proof/Machine/Job.lean: job load, model fetch, preload and eclosion, unload, and what a job restart rebuilds (R36, R390 to R392, R501 to
R506, R517 to R524).
-/
namespace Sys2Proof.Machine

/-! ## What the manifest installs (R505 steps 1 to 4) -/

/-- Whether a device-wide core is in service (R33, R37). -/
def State.coreServes (s : State) (c : Nat) : Bool := s.stackActive (c / 50) && decide (c % 50 < (s.enabledCores (c / 50)).length)
/-- The rank map entry of a rank as a manifest gives it (R306, R502). -/
def manRank (o : List Word) (r : Nat) : Nat := if r < secField o 0x20 4 2 then secField o 0x22 (2 * r) 2 else 0
/-- Write the rank map, and lock it. -/
def State.loadRanks (s : State) : State :=
  let o := s.job.manifest
  ((List.range 2048).foldl (fun t j => t.put (regAddr .rankmap (j / 512) (0x800 + 4 * (j % 512))) (manRank o (2 * j) + manRank o (2 * j + 1) * 2 ^ 16)) s).lockAll .rankmap true
/-- Owner and atomic_any of each region as the manifest gives them (R336, R520). -/
def State.loadOwners (s : State) : State :=
  let o := s.job.manifest
  (List.range (secCount o 0x23 16)).foldl (fun t i =>
    let f := fun b n => secField o 0x23 (16 * i + b) n
    t.put (entryReg i 8) (f 8 1 + f 10 2 % 4096 * 2 ^ 8 + f 9 1 % 2 * 2 ^ 20)) s
/-- Write the region table, and lock it. -/
def State.loadRegions (s : State) : State :=
  let o := s.job.manifest
  let s1 := (List.range 1024).foldl (fun t i =>
    let a := if i < secCount o 0x23 16 then secField o 0x23 (16 * i) 8 + 1 else 0
    (((t.put (entryReg i 0) (bits a 0 32)).put (entryReg i 4) (bits a 32 32)).put (entryReg i 8) 0).wr (entryReg i 12) 0) s
  s1.loadOwners.lockAll .region true
/-- A kettle's count and generation become 0 (R347, R537). -/
def State.kettleClear (s : State) (k : Nat) : State :=
  { ((s.wr (kettleReg k 0x048) 0).wr (kettleReg k 0x04C) 0).wr (kettleReg k 0x050) 0 with kettleIn := sset [] s.kettleIn k [], krelDue := s.krelDue.filter (fun e => decide (e.1 ≠ k)) }
/-- Write the kettles' configuration, and lock it. -/
def State.loadKettles (s : State) : State :=
  let o := s.job.manifest
  let s1 := (List.range 256).foldl (fun t k =>
    let u := ((t.put (kettleReg k 0x040) 0).put (kettleReg k 0x044) 1).kettleClear k
    let v := (List.range 8).foldl (fun w e => w.put (kettleReg k (0x060 + 4 * e)) 0) u
    (List.range 63).foldl (fun w r => w.put (kettleReg k (0x100 + 4 * r)) 0) v) s
  ((List.range (secCount o 0x24 296)).foldl (fun t i =>
    let f := fun b n => secField o 0x24 (296 * i + b) n
    let k := f 0 1
    let u := (t.put (kettleReg k 0x040) (f 1 1 % 4 + bits (f 2 1) 0 5 * 2 ^ 8 + bits (f 2 1) 7 1 * 2 ^ 16)).put (kettleReg k 0x044) (f 4 4)
    let v := (List.range 8).foldl (fun w e => w.put (kettleReg k (0x060 + 4 * e)) (f (8 + 4 * e) 4)) u
    (List.range 63).foldl (fun w r => w.put (kettleReg k (0x100 + 4 * r)) (f (40 + 4 * r) (if r = 62 then 2 else 4))) v) s1).lockAll .kettle true

/-- Write the core registers that CORES names (R505, R517 t5). -/
def State.coreRegs (s : State) : State :=
  (coreRecs s.job.manifest).foldl (fun t r => r.cores.foldl (fun u c =>
    (((u.put (coreReg c 0x044) r.banks).put (coreReg c 0x050) r.start).put (coreReg c 0x078) r.save).wr64 (coreReg c 0x060) (BitVec.ofNat 64 r.tmo)) t) s
/-- Write the seed of VRNG, and lock the cores' pages (R70, R505). -/
def State.coreSeeds (s : State) : State :=
  s.jobCores.foldl (fun u c => (u.wr64 (coreReg c 0x068) (BitVec.ofNat 64 (secField s.job.manifest 0x20 32 8))).lockPage .core c) s
/-- Write the registers that SETTINGS names and lock their pages (R505, R517, R536). -/
def State.settings (s : State) : State :=
  (pairRecs s.job.manifest 0x2C).foldl (fun t e =>
    let u := t.put e.1 e.2
    match decodeAddr e.1 with
    | some (y, i, _) => if (pageInfo y).hasRwl then u.lockPage y i else u
    | none => u) s

/-- A context as a job finds it (R520): IDLE, its general registers as they stand, everything else cleared. -/
def Context.afresh (k : Context) : Context := { g := k.g, lastTb := k.lastTb }
/-- Zero every core buffer and clear the stitch counters of both contexts of every core (R36). -/
def State.zeroCores (s : State) : State :=
  let zero : Vector Dword 32 := Vector.replicate 32 0
  { s with coreBuf := {}, cores := smapv {} (fun (k : Core) => { k with d := { k.d with ctr := zero }, p := { k.p with ctr := zero } }) s.cores }
/-- Zero the core buffers, clear the stitch counters and load the instruction stores of the job's cores (R36, R520). -/
def State.loadCores (s0 : State) : State :=
  let s := s0.zeroCores
  let o := s.job.manifest
  let ps := programs o 0 8
  let body := secBody o 0x29
  (coreRecs o).foldl (fun t r =>
    match ps.find? (fun p => decide (p.1 = r.prog)) with
    | none => t
    | some (_, n, off) =>
      let code := packNat 32 (((body.drop (off / 4)).take (8 * n)).map BitVec.toNat)
      r.cores.foldl (fun u c =>
        let k := u.core c
        let v := u.setCore c { d := k.d.afresh, p := k.p.afresh, cycles := k.cycles }
        { v with instStore := (v.instStore.clear (instKey c 0) (instKey (c + 1) 0)).put (instKey c 0) code (32 * n) }.wr (coreReg c 0x070) 0) t) s

/-- Every XE, walk and Pager as a job finds it; remote tags stay, quarantined where `q` says so (R517, R521). -/
def State.clearXes (s : State) (q : Bool) : State :=
  let s1 := (List.range 40).foldl (fun t n =>
    let e := t.xe n
    let some_ := !e.chains.isEmpty
    let u := t.setXe n { nextSeq := e.nextSeq, tags := (if q then e.tags.map (fun g => (g.1, { g.2 with quarantined := true, drop := true })) else []) }
    if some_ then u.irq .xe n 3 else u) s
  { s1 with xes := s1.xes.filter (fun e => decide (e.1 < 40)), pagers := [], hallWait := [], hallAsm := [] }
/-- The job's pool pages (R178, R502 POOL): those of each size after the pages of MAP, in ascending order. -/
def State.loadPools (s : State) : State :=
  let o := s.job.manifest
  let a := alignUp (mapsEnd (2 ^ 30) (mapRecs o)) (2 ^ 16)
  let n := secField o 0x26 0 4
  let b := alignUp (a + n * 2 ^ 16) (2 ^ 21)
  { s with jobPool64 := (List.range n).map (fun i => a + i * 2 ^ 16), jobPool2M := (List.range (secField o 0x26 4 4)).map (fun i => b + i * 2 ^ 21) }

/-! ## Model fetch (R390 to R392) -/

/-- The chunks of a segment. -/
def SegRec.chunks (r : SegRec) : Nat := (r.len + 1023) / 1024
/-- The next source of a segment after `k`, in turn; `k` itself where it is the only one. -/
def nextSrc (o : List Word) (i k : Nat) : Nat :=
  (([k + 1, k + 2, k + 3, k + 4].map (· % 4)).find? (fun j => decide ((segSource o i j).1 ≠ 0))).getD k
/-- Update a segment. -/
def State.modSeg (s : State) (i : Nat) (f : Seg → Seg) : State := { s with job := { s.job with segs := modFirst (fun x => decide (x.idx = i)) f s.job.segs } }
/-- Ask a fetch server for chunks (R391). -/
def State.sendFreq (s : State) (i first n : Nat) : State :=
  match s.job.segs.find? (fun x => decide (x.idx = i)) with
  | none => s
  | some x =>
    let r := segRec s.job.manifest i
    let src := segSource s.job.manifest i x.src
    let v6 := decide (src.1 = 3)
    let ip := if v6 then beNat (leBytes 16 src.2.2) else beNat (leBytes 4 src.2.2)
    let p := s.unprompted { port := 0, v6 := v6, ip := BitVec.ofNat 128 ip, udp := BitVec.ofNat 16 src.2.1 }
    let num := sget 0 s.serving.tx 16 + 1
    let s1 := { s with serving := { s.serving with tx := sset 0 s.serving.tx 16 num } }
    let body := beBytes 4 r.id ++ beBytes 8 (1024 * first) ++ beBytes 2 n ++ [0, 0]
    (((s1.modSeg i (fun y => { y with asked := y.asked.filter (fun a => decide (a.1 < first ∨ first + n ≤ a.1)) ++ (List.range n).map (fun j => (first + j, s.now)) })).emit
      (.datagram p 7411 (message s.job.fetchKey 16 0 s.jobTag num 0 body))).bump (fdReg p.port 0x070) 16 16 1)
/-- The chunks that a server of this segment's source is asked for and has not sent. -/
def State.outstanding (s : State) (src : Nat × Nat × Nat) : Nat :=
  (s.job.segs.map (fun x => if !x.delivered ∧ segSource s.job.manifest x.idx x.src = src then x.asked.length else 0)).sum
/-- Ask for what a segment still lacks, up to 256 chunks outstanding per server and 64 in a request (R391). -/
def State.fetchSeg (s : State) (i : Nat) : Nat → State
  | 0 => s
  | fuel + 1 =>
    match s.job.segs.find? (fun x => decide (x.idx = i)) with
    | none => s
    | some x =>
      let src := segSource s.job.manifest i x.src
      let room := 256 - s.outstanding src
      let want := fun (c : Nat) => !shas x.got c && !x.asked.any (fun a => decide (a.1 = c))
      if x.delivered ∨ src.1 < 2 ∨ room = 0 then s
      else
        let n := (segRec s.job.manifest i).chunks
        match (List.range n).find? want with
        | none => s
        | some c =>
          let run := ((List.range (min 64 room)).takeWhile (fun j => decide (c + j < n) && want (c + j))).length
          (s.sendFreq i c run).fetchSeg i fuel
/-- Begin, or go on with, the fetch of every segment; a peer source is read by the XEs (R392). -/
def State.fetchAll (s : State) : State :=
  s.job.segs.foldl (fun t x =>
    let src := segSource t.job.manifest x.idx x.src
    if x.delivered then t
    else if src.1 = 1 then t.emit (.fetchPeer src.2.1 (segRec t.job.manifest x.idx).id)
    else t.fetchSeg x.idx 5) s

/-- Write a segment's data into the pages of its target range (R177, R390). -/
def State.writeSegment (s : State) (r : SegRec) (data : List Byte) : State :=
  (jobPages s.job.manifest).foldl (fun t p =>
    let lo := max p.jva r.jva
    let hi := min (p.jva + pageSize p.rec_.page) (r.jva + r.len)
    if hi ≤ lo ∨ p.rec_.defer = 1 then t
    else
      let d := slice data (lo - r.jva) (hi - lo)
      t.putPhys (p.pa + (lo - p.jva)) d (d.length / 64 + 2)) s
/-- The pages of a ticket are present once every segment of the ticket is delivered (R177). -/
def State.ticketPages (s : State) (ticket : Nat) : State :=
  let o := s.job.manifest
  if s.job.segs.all (fun x => decide ((segRec o x.idx).ticket ≠ ticket) || x.delivered) then
    let ps := jobPages o
    let t := tablesOf ps
    (ps.filter (fun p => decide (p.rec_.defer = 2) && decide (p.rec_.ticket = ticket))).foldl (fun u p => u.putEntry (t.leafAt p) (leafEntry p.rec_ p.pa true)) s
  else s
/-- A FDOOR count or interrupt that both instances show. -/
def State.fetchNote (s : State) (lsb bit : Nat) : State :=
  let s1 := (s.bump (fdReg 0 0x0B0) lsb 16 1).bump (fdReg 1 0x0B0) lsb 16 1
  if bit = 0 then s1 else (s1.irq .fdoor 0 bit).irq .fdoor 1 bit

/-! ## Notices between the ranks (R522, R523) -/

/-- A restart notice to a rank: kind 1 RESTART, 2 READY, 3 GO, 4 ABANDON. -/
def State.sendNotice (s : State) (rank kind num v : Nat) : State :=
  let e := s.rankEntry rank
  if !bitOf e 15 then s
  else s.sendCell (extCell 0x14 (bits e 0 12) s.coord s.jobTag 4 (if s.g4 then 0 else permitted e 0) 0 (payload [(0, 1, 5), (1, 1, kind), (2, 2, s.jobRank), (4, 4, num), (8, 4, v)]))
/-- A restart notice to every other rank. -/
def State.noticeAll (s : State) (kind num v : Nat) : State :=
  (List.range s.jobRanks).foldl (fun t r => if r = s.jobRank then t else t.sendNotice r kind num v) s
/-- Rank 0 fixes the resume wingbeat once it holds every READY (R375, R523); before the first one, it is the first that runs work. -/
def State.tryGo (s : State) : State :=
  if s.restart.resume.isNone ∧ s.jobRank = 0 ∧ (List.range s.jobRanks).all (fun r => s.restart.ready.contains r) then
    let k := s.beatFrom (s.now + 20000000)
    let s1 := s.noticeAll 3 s.restart.num k
    if s1.restart.busy then { s1 with restart := { s1.restart with resume := some k } }
    else { s1 with serving := { s1.serving with first := some k } }
  else s
/-- Send READY to rank 0, or hold one's own (R523). -/
def State.sayReady (s : State) : State :=
  let s1 := { s with restart := { s.restart with sentAt := s.now } }
  if s.jobRank = 0 then { s1 with restart := { s1.restart with ready := if s1.restart.ready.contains 0 then s1.restart.ready else 0 :: s1.restart.ready } }.tryGo
  else s1.sendNotice 0 2 s.restart.num 0

/-! ## Preload and eclosion (R429, R471, R479, R505) -/

/-- Load the row-store preload list; every other row holds zeros. -/
def State.preload (s : State) : State :=
  let s0 := { s with rowStore := {} }
  (preRecs s.job.manifest).foldl (fun t p =>
    (List.range (p.len / 512)).foldl (fun u i =>
      let x := u.jobRead (p.jva + 512 * i) 512
      match x.1 with
      | some d => x.2.writeRow p.stack (p.row + i) (leNat d)
      | none => x.2) t) s0
/-- Fuses are blown up to the running image's security version, and generation 0 is revoked where the image says so (R479). -/
def State.fuse (s : State) : State :=
  let o := s.vault.running
  { s with vault := { s.vault with fusedMin := max s.vault.fusedMin (objField o 24 1), revoked0 := s.vault.revoked0 || (decide (objField o 25 1 = 1) && Config.revokes o) } }
/-- The device enters Imago (R471 t8, R375): the first wingbeat that runs work is fixed, or READY goes to rank 0. -/
def State.eclose (s : State) : State :=
  let s1 := ((s.preload).fuse).irq .folio 0 4
  let s2 := { s1 with stage := .imago, jobPhase := 3, vault := { s1.vault with newFolio := false }, serving := { s1.serving with eclosed := s1.now } }
  if s2.jobRanks ≤ 1 then { s2 with serving := { s2.serving with first := some (s2.beatFrom (s2.now + 1000000)) } } else s2.sayReady
/-- ECLOSION (R471): every model segment is delivered, after the calibration pass of t6. -/
def execEclosion (s : State) : Host.Outcome State Fault Refusal :=
  if s.stage = .pupa ∧ s.jobPhase = 2 ∧ s.dst = .d0 ∧ s.stop.cause = 0 ∧ !s.restart.busy ∧ s.faultsDue.isEmpty ∧ !s.calPass.awaited ∧ s.job.segs.all (fun x => x.delivered) then .next s.eclose else .next s

/-! ## Unload (R506, R524) -/

/-- Stop every core of the job: both contexts IDLE, nothing running or queued (R517 t1 to t2). -/
def State.stopCores (s : State) : State :=
  s.jobCores.foldl (fun t c =>
    let k := t.core c
    t.setCore c { k with me := none, ve := none, rm := none, d := { k.d with mode := .idle, qMe := [], qVe := [], qRm := [], pend := 0 }, p := { k.p with mode := .idle, qMe := [], qVe := [], qRm := [], pend := 0 } }) s
/-- The end of a job (R506): every request ends with end 3, the keys go, the pages that the job locked are unlocked. -/
def State.jobEnd (s : State) : State :=
  let s1 := (s.surgeEnd 7)
  let live := (s1.reqsIn (fun x => decide (x = .queued) || inSlot x)).map (fun r => (r.id.toNat, r.toks.length))
  let s2 := live.foldl (fun t x => t.endReq x.1 x.2 [] 3 t.beatNow) s1
  let s3 := (s2.stopCores).clearXes true
  let s4 := ((((s3.lockAll .core false).lockAll .rankmap false).lockAll .region false).lockAll .kettle false).unlockPage .fab 0
  let s5 := (pairRecs s.job.manifest 0x2C).foldl (fun t e => match decodeAddr e.1 with | some (y, i, _) => t.unlockPage y i | none => t) s4
  let s6 := ((s5.setFld (fabReg 0x050) 0 16 0).flushAmends).irq .folio 0 5
  { s6 with stage := .pupa, jobPhase := 0, job := {}, serving := {}, stop := {}, faultsDue := [], idleInterval := false, jobPool64 := [], jobPool2M := []
            stks := smapv {} (fun k => { k with reqs := [] }) s6.stks
            dst := (if s.dst = .d1 then .d0 else s.dst)
            restart := { abandoned := s.restart.abandoned } }
/-- A job is unloaded; a fold back that was asked for follows (R496). -/
def State.finishUnload (s : State) : State := if s.vault.foldBackAsked then s.jobEnd.foldBack else s.jobEnd
/-- Mark the newest fault record (R531). -/
def State.markRecord (s : State) (bit : Nat) : State :=
  match s.reportOut.records with
  | [] => s
  | r :: t => { s with reportOut := { s.reportOut with records := { r with flags := r.flags ||| BitVec.ofNat 4 (2 ^ bit) } :: t } }
/-- Abandon the job (R524): notices go to every other rank, and the job is unloaded. -/
def State.abandon (s : State) : State :=
  let s1 := (s.noticeAll 4 s.restart.num 0).markRecord 2
  let s2 := s1.finishUnload
  { s2 with restart := { abandoned := true } }
/-- A job load that is refused after its acceptance (R390). -/
def State.refuseLoad (s : State) (code sec : Nat) : State :=
  let s1 := s.finishUnload.irq .folio 0 1
  { s1 with staging := { s1.staging with state := 4, code := code, secType := sec, reason := 0, words := [] } }

/-! ## Job load (R505) -/

/-- Load an accepted manifest. -/
def State.loadJob (s : State) (o : List Word) (keys : List (List Byte)) (fetchKey : List Byte) : State :=
  let segs := (List.range (secCount o 0x28 192)).map (fun i => ({ idx := i, src := nextSrc o i 3 } : Seg))
  let s0 := { s with job := { manifest := o, keys := keys, fetchKey := fetchKey, accepted := s.now, segs := segs, w := s.w }, serving := {}, restart := {}, jobPhase := 2, clock := { s.clock with armed := none } }
  let s1 := ((s0.loadRanks).loadRegions).loadKettles
  let s2 := ((s1.clearXes false).buildTables (jobPages o) PageRec.atLoad).loadPools
  let s3 := (List.range 40).foldl (fun t n => t.wr64 (xeReg n 0x044) 1) s2
  let s4 := ((s3.loadCores).coreRegs).coreSeeds
  let s5 := (s4.settings.put (fabReg 0x050) (secField o 0x20 0 2)).lockPage .fab 0
  s5.fetchAll

/-! ## Restart (R517 t1 to t5, R520) -/

/-- Quit what the network interfaces, XEs and kettles hold for the job (R517 t1 to t2, R521). -/
def State.quiesce (s : State) : State :=
  let s1 := (s.stopCores).clearXes true
  let s2 := (List.range 256).foldl (fun t k => t.kettleClear k) s1
  { s2 with idleInterval := false, stks := smapv {} (fun k => { k with reqs := [] }) s2.stks }
/-- Groups and ports at a restart (R226, R230, R274, R293): a FAULTED group is RETIRED, a failed lane of a group in service makes one further attempt unless its line has faded with no standby, a port that is DOWN has its one attempt at training. -/
def State.groupsAtRestart (s : State) : State :=
  let s0 := ((s.groups.filter (fun e => decide (e.2.state = .faulted))).map Prod.fst).foldl (fun t g => t.retireGroup g 0x06 g) s
  let s1 := { s0 with groups := s0.groups.map (fun e => (e.1, e.2.retryLanes s.now (fun o => s.lineFaded e.1 o))) }
  (List.range 6).foldl (fun t p => if (t.port p).tx = .down ∨ (t.port p).rx = .down then t.portTrain p true else t) s1
/-- Whether the manifest as installed still fits the resources in service (R524). -/
def State.stillFits (s : State) : Bool :=
  let o := s.job.manifest
  let parts := fun (i : Nat) => (List.range 2000).filter (fun c => bitOf (secField o 0x24 (296 * i + 40 + c / 8) 1) (c % 8))
  (List.range (secCount o 0x24 296)).all (fun i => (parts i).all s.coreServes) && s.jobCores.all s.coreServes &&
  decide (s.coordValid ∧ bits (s.rankEntry s.jobRank) 0 12 = s.coord ∧ bitOf (s.rankEntry s.jobRank) 15) &&
  (preRecs o).all (fun p => s.stackActive p.stack)

/-- The pages that are present now, each with its physical address. -/
def State.present (s : State) : List PageRec → List (PageRec × Nat) × State
  | [] => ([], s)
  | p :: t =>
    let x := s.firmXlat p.jva
    let y := State.present x.2 t
    (match x.1 with | some a => (p, a) :: y.1 | none => y.1, y.2)
/-- The durable pages among them that read without an uncorrectable word (R520). -/
def State.durableGood (s : State) : List (PageRec × Nat) → List (PageRec × Nat) × State
  | [] => ([], s)
  | (p, a) :: t =>
    if !p.rec_.durable then State.durableGood s t
    else
      let x := s.readBulk a (pageSize p.rec_.page / 64)
      let y := State.durableGood x.2 t
      (if x.1.isSome then (p, a) :: y.1 else y.1, y.2)
/-- Return the job's pages to their manifest state, but for the durable ones that pass their check; every page of a segment with one that fails
is loading again (R520). `w0` is the w under which the job's memory was laid out: where it has changed, nothing is resident (R142). -/
def State.rebuild (s : State) (now_ : List (PageRec × Nat)) (w0 : Nat) : State :=
  let o := s.job.manifest
  let ps := jobPages o
  let x := if s.w = w0 then s.durableGood now_ else ([], s)
  let good := x.1
  let keeps := fun (p : PageRec) => good.any (fun g => decide (g.1.jva = p.jva))
  let whole := fun (ticket : Nat) => (ps.filter (fun p => decide (p.rec_.defer = 2) && decide (p.rec_.ticket = ticket))).all keeps
  let s1 := (x.2.buildTables ps (fun p => if p.rec_.defer = 2 then whole p.rec_.ticket else p.atLoad)).loadPools
  let t := tablesOf ps
  let zeros := good.filter (fun g => decide (g.1.rec_.defer = 1))
  let s2 := zeros.foldl (fun u g => u.putEntry (t.leafAt g.1) (leafEntry { g.1.rec_ with defer := 0 } g.2 true)) s1
  let held := zeros.map Prod.snd
  let failed := decide ((now_.filter (fun g => g.1.rec_.durable)).length ≠ good.length)
  let s3 := { s2 with jobPool64 := s2.jobPool64.filter (fun a => !held.contains a), jobPool2M := s2.jobPool2M.filter (fun a => !held.contains a)
                      job := { s2.job with w := s2.w, segs := s2.job.segs.map (fun g =>
                        if g.delivered ∧ whole (segRec o g.idx).ticket ∧ ps.any (fun p => decide (p.rec_.defer = 2 ∧ p.rec_.ticket = (segRec o g.idx).ticket)) then g
                        else { idx := g.idx, src := g.src }) } }
  if failed then s3.markRecord 3 else s3

/-- Re-queue every sequence in a slot ahead of the queue, in slot order, its prompt extended by its committed tokens (R373, R387). -/
def State.requeue (s : State) : State :=
  let rs := s.reqsIn inSlot
  let ids := (List.range 256).flatMap (fun k => (rs.filter (fun r => decide (r.slot = k))).map (fun r => r.id))
  { s with serving := { s.serving with queue := ids ++ s.serving.queue, phase := 0, reqs := s.serving.reqs.map (fun r =>
      if inSlot r.state then { r with state := .queued, ext := r.toks.length, pos := 0 } else r) } }

/-- The last stage before t6 (R517 t5): cores, row stores and registers as at job load; then the resume wingbeat is fixed or asked for. -/
def State.restartLoad (s : State) : State :=
  let s1 := (((s.loadCores).coreRegs).settings).preload
  let s2 := (List.range 40).foldl (fun t n => t.wr64 (xeReg n 0x044) 1) s1
  let s3 : State := { s2 with restart := { s2.restart with t5 := s2.now } }
  if s3.jobPhase = 2 then { s3 with restart := { s3.restart with busy := false } }
  else if s3.jobRanks ≤ 1 then { s3 with restart := { s3.restart with resume := some (s3.beatFrom (s3.now + 1000000)) } }
  else s3.sayReady
/-- Go on to t5 once no segment is being fetched again. -/
def State.restartGo (s : State) : State :=
  if s.restart.busy ∧ s.restart.t5 = 0 ∧ s.job.segs.all (fun x => x.delivered) then s.restartLoad else s
/-- t1 to t3 (R517): the pages that were present come back beside the state. -/
def State.restartStop (s : State) : List (PageRec × Nat) × State :=
  let s1 := (s.requeue).quiesce
  let x := s1.present (jobPages s1.job.manifest)
  let s1b := (List.range 40).foldl (fun t n => t.bondActions n) x.2
  let s2 := (((((s1b.retirements).groupsAtRestart).cellActions).homeLosses).flushAmends).applyMargins
  (x.1, { s2 with restart := { s2.restart with busy := true, t5 := 0, resume := none, ready := [] } })
/-- t3 to t5 (R517, R524). -/
def State.restartBuild (s : State) (now_ : List (PageRec × Nat)) (w0 : Nat) : State :=
  if s.stillFits then
    let s4 := (s.rebuild now_ w0).loadOwners
    (if s4.jobPhase = 2 then s4.restartLoad else s4.restartGo).fetchAll
  else s.abandon
/-- A restart from t1 to t5 (R517), under the restart number in force; with no third left the device stops in Larva (R142, R515). -/
def State.restartRun (s : State) : State :=
  let x := s.restartStop
  if x.2.thirds.isEmpty then { x.2 with stage := .larva, bootWait := 7 } else x.2.restartBuild x.1 s.job.w

/-! ## Delivery (R177, R390) -/

/-- A segment's data is whole: it is delivered where its digest agrees, and otherwise fetched once more from the next source, or the load is refused. -/
def State.segWhole (s : State) (i : Nat) (data : List Byte) : State :=
  let o := s.job.manifest
  let r := segRec o i
  if sha512 data = r.digest ∧ data.length = r.len then
    ((((s.writeSegment r data).modSeg i (fun x => { x with delivered := true, got := [], asked := [] })).ticketPages r.ticket).fetchNote 0 0).restartGo
  else
    let s1 := s.fetchNote 16 5
    let n := ((s.job.segs.find? (fun x => decide (x.idx = i))).map (fun x => x.misses)).getD 0
    if 1 ≤ n then s1.refuseLoad 3 0x28
    else (s1.modSeg i (fun x => { x with src := nextSrc o i x.src, got := [], asked := [], silent := 0, misses := n + 1 })).fetchAll

/-- TICKET_DONE (R177, R390, R392): a segment from a peer rank arrives with its ticket; once the ticket's pages are present, every Pager settles the
faults that wait on it. -/
def execTicketDone (ticket : BitVec 16) (data : List Byte) (s : State) : Host.Outcome State Fault Refusal :=
  let o := s.job.manifest
  let mine := s.job.segs.filter (fun x => decide ((segRec o x.idx).ticket = ticket.toNat))
  let s1 : State := match mine.find? (fun x => !x.delivered && decide ((segSource o x.idx x.src).1 = 1)) with
    | some x => s.segWhole x.idx data
    | none => s
  if !mine.isEmpty ∧ (s1.job.segs.filter (fun x => decide ((segRec o x.idx).ticket = ticket.toNat))).all (fun x => x.delivered) ∧ s1.jobPhase ≠ 0 then
    .next ((s1.emit (.ticketDone ticket.toNat)).ticketBroadcast ticket.toNat)
  else .next s1

/-- FDATA (R391): a chunk of a segment; the last one completes it. -/
def execFdata (f : Frame) (msg : List Byte) (s : State) : Host.Outcome State Fault Refusal :=
  match s.fdTake f true msg with
  | (none, t) => .next t
  | (some _, t) =>
    let b := bodyOf msg
    let o := t.job.manifest
    let off := beNat (slice b 4 8)
    match t.job.segs.find? (fun x => decide ((segRec o x.idx).id = beNat (slice b 0 4))) with
    | none => .next (t.bump (fdReg f.peer.port 0x078) 0 16 1)
    | some x =>
      let r := segRec o x.idx
      let d := b.drop 16
      if b.length < 16 ∨ off % 1024 ≠ 0 ∨ r.len ≤ off ∨ d.length ≠ min 1024 (r.len - off) ∨ beNat (slice b 12 4) ≠ 0 then .next (t.bump (fdReg f.peer.port 0x078) 0 16 1)
      else if x.delivered then .next t
      else
        let got := sput x.got (off / 1024) d
        let t1 := t.modSeg x.idx (fun y => { y with got := got, asked := y.asked.filter (fun a => decide (a.1 ≠ off / 1024)), silent := 0 })
        if got.length = r.chunks then .next ((t1.segWhole x.idx (got.flatMap Prod.snd)).fetchAll) else .next (t1.fetchSeg x.idx 5)

/-- FETCH_CHUNK_TIMEOUT (R391): a chunk asked for 20 ms ago is asked for again; after 10 requests in a row without answer the source is abandoned. -/
def execFetchChunkTimeout (seg : Word) (chunk : Nat) (s : State) : Host.Outcome State Fault Refusal :=
  let o := s.job.manifest
  match s.job.segs.find? (fun x => decide ((segRec o x.idx).id = seg.toNat)) with
  | none => .next s
  | some x =>
    if x.delivered ∨ !x.asked.any (fun a => decide (a.1 = chunk) && decide (a.2 + 20000000 ≤ s.now)) then .next s
    else if 9 ≤ x.silent then .next ((s.modSeg x.idx (fun y => { y with src := nextSrc o x.idx y.src, asked := [], silent := 0 })).fetchAll)
    else .next ((s.modSeg x.idx (fun y => { y with silent := y.silent + 1 })).sendFreq x.idx chunk 1)

end Sys2Proof.Machine
end

