-- ==== Sys2Proof/Machine/Wingbeat.lean ====
section
/-!
DEFINITION. Sys2Proof/Machine/Wingbeat.lean: wingbeat boundaries, commit and the idle interval (R374 to R388), orderly stops (R447 to R449), and the start
of job restarts with the rejoin of the ranks (R515 to R525).
-/
namespace Sys2Proof.Machine

/-! ## Starting a restart (R516, R517, R525, R531) -/

/-- Keep fault records, newest first, eight at most (R531). -/
def State.recordFaults (s : State) (fs : List FaultRec) : State :=
  { s with reportOut := { s.reportOut with records := (fs.reverse ++ s.reportOut.records).take 8 } }
/-- The records of the faults at hand: the first begins the restart, the others join it (R519). -/
def joined : List FaultRec → List FaultRec
  | [] => []
  | f :: t => f :: t.map (fun g => { g with flags := g.flags ||| 2 })
/-- Run a restart under a number, for the faults given; `send` says that RESTART goes to the other ranks (R523). The fifth counted restart within 600 s
abandons the job (R525). -/
def State.restartWith (s : State) (num : Nat) (send : Bool) (fs : List FaultRec) : State :=
  let h : FaultRec := fs.headD { cls := 0, code := 0, die := 0, inst := 0 }
  let n := if 1 ≤ h.cls ∧ h.cls ≤ 8 then s.now :: s.restart.counted.filter (fun t => decide (s.now ≤ t + 600000000000)) else s.restart.counted
  let s1 := (((ueCores fs).foldl (fun t c => t.coreUe c) s.eccMarks).surgeEnd 7).recordFaults (joined fs)
  let s2 : State := { s1 with faultsDue := [], dst := (if s1.dst = .d1 then .d0 else s1.dst), stage := (if s1.jobPhase = 3 ∧ !s1.calPass.awaited then .imago else s1.stage)
                              restart := { num := num, busy := true, cls := h.cls, code := h.code, t0 := h.t0, counted := n, abandoned := false } }
  let s3 := if send then s2.noticeAll 1 num (h.cls % 256 + h.code % 256 * 256) else s2
  if 5 ≤ n.length ∧ n ≠ s.restart.counted then s3.abandon else s3.restartRun
/-- A restart of class 0, after an orderly stop or a D2 wake (R449, R429, R515). -/
def State.restartZero (s : State) : State :=
  s.restartWith (s.restart.num + 1) true ({ cls := 0, code := 0, die := 0, inst := 0, rank := s.jobRank, t0 := s.now } :: s.faultsDue)
/-- Whether the device can run a restart now (R515). -/
def State.mayRestart (s : State) : Bool :=
  decide (2 ≤ s.jobPhase) && (decide (s.stage = .pupa) || decide (s.stage = .imago)) && decide (s.stop.cause = 0) && (decide (s.dst = .d0) || decide (s.dst = .d1)) && s.spineUp && decide (s.jobPhase ≤ 3)

/-- JOB_RESTART (R513, R516, R517, R519): the job faults that have come are the active Keeper's to handle. -/
def execJobRestart (s : State) : Host.Outcome State Fault Refusal :=
  if s.faultsDue.isEmpty ∨ !s.mayRestart then .next s
  else .next (s.restartWith (s.restart.num + 1) true (s.faultsDue.map (fun f => { f with rank := s.jobRank })))

/-- Whether a notice is of the job in force (R522). -/
def State.noticeOk (s : State) (job : BitVec 16) : Bool := decide (s.jobTag ≠ 0) && decide (job.toNat = s.jobTag) && decide (2 ≤ s.jobPhase)

/-- RESTART_NOTICE (R523): a number above r starts a restart with class 9. -/
def execRestartNotice (job : BitVec 16) (rank : BitVec 16) (num : Word) (cls code : Byte) (s : State) : Host.Outcome State Fault Refusal :=
  if !s.noticeOk job ∨ num.toNat ≤ s.restart.num then .next s
  else
    let f : FaultRec := { cls := 9, code := cls.toNat, die := 0xFF, inst := 0, flags := 0, rank := rank.toNat, t0 := s.now }
    if s.mayRestart then .next (s.restartWith num.toNat false (f :: s.faultsDue.map (fun g => { g with rank := s.jobRank })))
    else if s.stop.cause ≠ 0 ∧ s.stop.cause ≤ 5 then .next { s with faultsDue := s.faultsDue ++ [f] }
    else .next s

/-- READY_NOTICE (R523): at rank 0 it counts toward GO; after GO it is answered with GO again. -/
def execReadyNotice (job : BitVec 16) (rank : BitVec 16) (num : Word) (s : State) : Host.Outcome State Fault Refusal :=
  if !s.noticeOk job ∨ s.jobRank ≠ 0 ∨ num.toNat ≠ s.restart.num ∨ s.jobPhase ≠ 3 then .next s
  else
    match (if s.restart.busy then s.restart.resume else s.restart.resume.or s.serving.first) with
    | some k => .next (s.sendNotice rank.toNat 3 s.restart.num k)
    | none =>
      let r := s.restart.ready
      .next ({ s with restart := { s.restart with ready := if r.contains rank.toNat then r else rank.toNat :: r } }).tryGo

/-- The wingbeat that the low 32 bits of a GO name: the one nearest to the present. -/
def State.goNamed (s : State) (k : Nat) : Nat :=
  let now := s.beatAt s.now
  let c := now / 2 ^ 32 * 2 ^ 32 + k
  if c + 2 ^ 31 < now then c + 2 ^ 32 else if now + 2 ^ 31 < c ∧ 2 ^ 32 ≤ c then c - 2 ^ 32 else c
/-- The wingbeat that a GO lets run first: the one it names, or the first boundary after GO where that one has passed (R523). -/
def State.goBeat (s : State) (k : Nat) : Nat := if s.bnd (s.goNamed k) < s.now then s.beatFrom s.now else s.goNamed k

/-- GO_NOTICE (R375, R523): with the number in force, it fixes the wingbeat from which work runs. -/
def execGoNotice (job : BitVec 16) (_rank : BitVec 16) (num : Word) (k : Word) (s : State) : Host.Outcome State Fault Refusal :=
  if !s.noticeOk job ∨ num.toNat ≠ s.restart.num ∨ s.jobPhase ≠ 3 then .next s
  else if s.restart.busy then
    (if s.restart.t5 ≠ 0 ∧ s.restart.resume.isNone then .next { s with restart := { s.restart with resume := some (s.goBeat k.toNat) } } else .next s)
  else if s.serving.first.isNone then .next { s with serving := { s.serving with first := some (s.goBeat k.toNat) } }
  else .next s

/-- ABANDON_NOTICE (R524). -/
def execAbandonNotice (job : BitVec 16) (_rank : BitVec 16) (num : Word) (s : State) : Host.Outcome State Fault Refusal :=
  if s.noticeOk job ∧ s.restart.num ≤ num.toNat ∧ s.jobPhase ≤ 3 then .next s.abandon else .next s

/-- Whether the device waits for GO: at t5 of a restart, or at eclosion (R375, R523). -/
def State.waitsForGo (s : State) : Bool :=
  decide (s.jobPhase = 3) && decide (2 ≤ s.jobRanks) && s.restart.resume.isNone &&
  (if s.restart.busy then decide (s.restart.t5 ≠ 0) else s.serving.first.isNone)
/-- READY_REPEAT (R523): every 100 ms. -/
def execReadyRepeat (s : State) : Host.Outcome State Fault Refusal :=
  if s.waitsForGo ∧ s.restart.sentAt + 100000000 ≤ s.now then .next s.sayReady else .next s
/-- REJOIN_TIMEOUT (R524): 10 s at t5 without GO, or at rank 0 without every READY. -/
def execRejoinTimeout (s : State) : Host.Outcome State Fault Refusal :=
  if s.waitsForGo ∧ s.restart.busy ∧ s.restart.t5 + 10000000000 ≤ s.now then .next s.abandon else .next s
/-- GO_WAIT_TIMEOUT (R375): 10 s after eclosion without GO(0). -/
def execGoWaitTimeout (s : State) : Host.Outcome State Fault Refusal :=
  if s.waitsForGo ∧ !s.restart.busy ∧ s.serving.eclosed + 10000000000 ≤ s.now then .next s.abandon else .next s

/-! ## The ends of an orderly stop (R447, R506) -/

/-- Physical cores in retention keep everything but the accumulators' contents, which are lost (R424, R447): free values. -/
def State.retainCores (s : State) : State :=
  let v := fun (c x i : Nat) => BitVec.ofNat 32 (Config.freeWord (s.free + (c * 2 + x) * 8192 + i)).toNat
  let acc := fun (c x : Nat) => (List.range 8192).filterMap (fun i => if v c x i = 0 then none else some (i, v c x i))
  let s1 := s.jobCores.foldl (fun t c =>
    let k := t.core c
    t.setCore c { k with d := { k.d with acc := acc c 0 }, p := { k.p with acc := acc c 1 } }) s
  { s1 with free := s.free + 2 * 2000 * 8192 }
/-- A STOP_LOG value and the count of orderly stops (R468). -/
def State.stopNote (s : State) (cause die : Nat) : State :=
  ((s.wr (regAddr .therm 0 0x048) (BitVec.ofNat 32 (die % 256 + cause * 256 + 2 ^ 31))).bump (regAddr .therm 0 0x054) 16 8 1).irq .therm 0 2
/-- t3 of a stop (R447): for heat or a lost reference the device stands in Pupa, for D3 every domain goes off, for an unload the job ends. -/
def State.stopReached (s : State) : State :=
  let s1 : State := { s with idleInterval := false, serving := { s.serving with phase := 0, idleSince := none } }
  if s.stop.cause = 5 then s1.powerOff
  else if s.stop.cause = 6 then s1.finishUnload
  else if s.stop.abandon then { s1.finishUnload with stop := { s1.stop with stopped := true, abandon := false } }
  else { s1.retainCores with stage := (if s1.stage = .imago then .pupa else s1.stage), dst := (if s1.dst = .d1 then .d0 else s1.dst), stop := { s1.stop with stopped := true } }
/-- Whether every P context of the job is parked, idle or halted. -/
def State.pStill (s : State) : Bool :=
  s.jobCores.all (fun c => match (s.ctx c .p).mode with | .idle => true | .parked => true | .halted => true | _ => false)
/-- Whether every D context of the job is idle or halted, and no issued piece of a cancelled chain is left (R376 t1). -/
def State.dStill (s : State) : Bool :=
  s.jobCores.all (fun c => match (s.ctx c .d).mode with | .idle => true | .halted => true | _ => false) &&
  (List.range 40).all (fun n => (s.xe n).pieces.all (fun p => (s.xe n).chains.any (fun c => decide (c.seq = p.2.seq))))

/-- D1 entry (R424). -/
def State.enterD1 (s : State) : State :=
  let s1 := (s.surgeEnd 7).retainCores
  ({ s1 with dst := .d1, idleInterval := false, serving := { s1.serving with phase := 0, idleSince := none, d1Asked := false, d1Since := s1.now } }).irq .pwr 0 0
/-- After t2, once every P context is still (R376, R377, R423, R447): the idle interval opens, or the stop or D1 entry goes on. -/
def State.afterCommit (s : State) : State :=
  if s.serving.phase ≠ 2 ∨ !s.pStill ∨ s.idleInterval then s
  else if s.stop.committed then s.stopReached
  else if s.serving.d1Asked then s.enterD1
  else if s.dst = .d0 then ({ s with idleInterval := true, serving := { s.serving with idleSince := some s.now } }).pauseReqs
  else s

/-- Begin an orderly stop (R447 t0, R467): with no work to drain it is reached at once; a boundary past its own t0 serves as t1. -/
def State.stopBegin (s : State) (cause die : Nat) : State :=
  if s.stop.cause ≠ 0 then s
  else
    let s1 := s.surgeEnd 7
    let s2 : State := { (if cause ≤ 5 then s1.stopNote cause die else s1) with stop := { cause := cause, die := die, t0 := s1.now }, stopAsked := none }
    let working := decide (s2.stage = .imago) && decide (3 ≤ s2.jobPhase) && decide (s2.dst = .d0) && s2.serving.last.isSome && !s2.restart.busy
    if !working then s2.stopReached
    else if s2.serving.phase = 0 then s2
    else ({ s2 with idleInterval := false, stop := { s2.stop with begun := true, committed := decide (s2.serving.phase = 2) } }).afterCommit

/-! ## Boundaries (R376) -/

/-- t0 (R376): d_abort and p_preempt to every core of the job. -/
def State.boundaryAbort (s : State) : State :=
  s.jobCores.foldl (fun t c => ((t.abortD c).cancelChains c .d).preemptP c) s
/-- Count a wingbeat without D work (R378). -/
def State.overrun (s : State) : State := ((s.bump (fdReg 0 0x0A4) 0 16 1).irq .fdoor 0 3).irq .fdoor 1 3

/-- WINGBEAT_BOUNDARY (R375, R376, R377, R447 t1, R517 t7): the boundary of the present wingbeat, once. After a restart the resume boundary runs from t2. -/
def execWingbeatBoundary (s : State) : Host.Outcome State Fault Refusal :=
  let k := s.beatAt s.now
  let from_ := if s.restart.busy then s.restart.resume else s.serving.first
  if s.stage ≠ .imago ∨ s.jobPhase < 3 ∨ s.dst ≠ .d0 ∨ s.now < s.jobE ∨ s.serving.last = some k ∨ s.stop.begun ∨ (s.restart.busy ∧ s.restart.t5 = 0) then .next s
  else
    match from_ with
    | none => .next s
    | some f =>
      if k < f then .next s
      else
        let s1 := if s.serving.phase ≠ 0 then s.overrun else s
        let s2 : State := { s1 with idleInterval := false, stop := (if s1.stop.cause ≠ 0 then { s1.stop with begun := true } else s1.stop)
                                    serving := { s1.serving with last := some k, begun := s1.serving.begun + 1, phase := 1, idleSince := none } }
        if s2.restart.busy then .next { s2 with restart := { s2.restart with busy := false, resume := none } } else .next s2.boundaryAbort
/-- ORDERLY_STOP_DEADLINE (R447 t1): t0 + 100 ms comes before the next boundary; the abort runs as that of the current wingbeat. -/
def execOrderlyStopDeadline (s : State) : Host.Outcome State Fault Refusal :=
  if s.stop.cause = 0 ∨ s.stop.begun ∨ s.stop.stopped ∨ s.now < s.stop.t0 + 100000000 then .next s
  else .next ({ s with stop := { s.stop with begun := true }, idleInterval := false, serving := { s.serving with begun := s.serving.begun + 1, phase := 1, idleSince := none } }).boundaryAbort

/-! ## Commit (R381 to R385) -/

/-- Positions of a request's prompt, committed tokens counted as prompt by a restart among them (R387). -/
def Request.promptLen (r : Request) : Nat := r.prompt.length + r.ext
/-- The commit limit of a slot (R379). -/
def State.commitLimit (s : State) (r : Request) : Nat := min (min 8 s.jobTail) (min (r.maxNew - r.toks.length) (s.jobC - r.pos))
/-- The tokens of a result record, where the slot accepts it (R381, R382); `none` where it is absent, and whether its done word was right. -/
def State.takeRecord (s : State) (r : Request) (b : List Byte) : Option (List Word) × Bool :=
  let n := leNat (slice b 0 1)
  let w := leNat (slice b 64 8)
  let ts := (List.range n).map (fun i => BitVec.ofNat 32 (leNat (slice b (4 + 4 * i) 4)))
  let dec := decide (r.state = .decode)
  let right := decide (bits w 0 32 = (if dec then s.serving.recK % 2 ^ 32 else r.adm % 2 ^ 32)) && decide (bits w 32 8 = (if dec then 1 else 2)) && decide (bits w 40 23 = 0) && bitOf w 63
  let good := if dec then decide (n ≤ s.commitLimit r) else decide (n = 1)
  if !right then (none, true) else if good then (some ts, true) else (none, false)
/-- Commit tokens in order (R383): the request, those committed, and the end code met. -/
def commitToks (c : Nat) (r : Request) : List Word → Request × List Word × Nat
  | [] => (r, [], 0)
  | t :: ts =>
    let r1 := { r with toks := r.toks ++ [t], pos := r.pos + 1 }
    let e := if r.stops.contains t then 1 else if r1.maxNew ≤ r1.toks.length then 2 else if c ≤ r1.pos then 4 else 0
    if e ≠ 0 then (r1, [t], e)
    else
      let y := commitToks c r1 ts
      (y.1, t :: y.2.1, y.2.2)

/-- Note a TOKENS of this commit for the copy of R388. -/
def State.noteSent (s : State) (id : Dword) (body : List Byte) : State := { s with serving := { s.serving with sent := s.serving.sent ++ [(id, body)] } }
/-- The commit of one slot (R382 to R384, R386). -/
def State.commitSlot (s : State) (r : Request) : State :=
  let id := r.id.toNat
  let gen := r.toks.length
  let k := s.serving.recK
  let cancelled : Bool := match r.cancel with | some c => decide (c < s.serving.begun) | none => false
  if cancelled then (s.endReq id gen [] 3 k).noteSent r.id (tokensBody gen [] 3 0 k)
  else
    let x := s.jobRead (s.jobArea 2 + 128 * r.slot) 128
    let y : Option (List Word) × Bool := match x.1 with | some b => s.takeRecord r b | none => (none, true)
    let s1 := if y.2 then x.2 else ((x.2.bump (fdReg 0 0x0A4) 16 16 1).irq .fdoor 0 4).irq .fdoor 1 4
    match y.1 with
    | none => if r.state = .decode then s1.bump (fdReg 0 0x0A0) 16 16 1 else s1
    | some ts =>
      let r0 := if r.state = .prefill then { r with pos := r.promptLen, state := .decode } else r
      let z := commitToks s.jobC r0 ts
      let s2 := (s1.modReq id (fun _ => z.1)).bump (fdReg 0 0x0A0) 0 16 1
      let body := tokensBody gen z.2.1 z.2.2 0 k
      let s3 := if z.2.2 ≠ 0 then s2.endReq id gen z.2.1 z.2.2 k else s2.sendTokens id body false
      s3.noteSent r.id body

/-- The request in a slot. -/
def State.inSlotNo (s : State) (k : Nat) : Option Request := s.serving.reqs.find? (fun r => inSlot r.state && decide (r.slot = k))
/-- Admit the next queued request to a free slot (R373, R379): its prompt is written. -/
def State.admitNext (s : State) (k : Nat) : State :=
  match s.inSlotNo k, s.serving.queue with
  | none, q :: t =>
    match s.req q.toNat with
    | none => { s with serving := { s.serving with queue := t } }
    | some r =>
      let s1 := s.modReq q.toNat (fun x => { x with state := .prefill, slot := k, adm := s.serving.nextAdm, pos := 0 })
      ({ s1 with serving := { s1.serving with queue := t, nextAdm := s.serving.nextAdm + 1 } }).jobWrite (s.jobArea 3 + 4 * s.jobC * k) ((r.prompt ++ r.toks.take r.ext).flatMap (fun (w : Word) => leBytes 4 w.toNat))
  | _, _ => s
/-- The slot record of R379. -/
def State.slotRecord (s : State) (k : Nat) : List Byte :=
  match s.inSlotNo k with
  | none => List.replicate 64 0
  | some r =>
    leBytes 4 (if r.state = .prefill then 1 else 2) ++ leBytes 4 r.adm ++ leBytes 4 r.pos ++ leBytes 4 r.promptLen ++ leBytes 4 r.toks.length ++
      leBytes 4 ((r.toks.getLast?.map BitVec.toNat).getD 0) ++ leBytes 4 (s.commitLimit r) ++ leBytes 4 0 ++ slice r.head 26 32
/-- Write the wingbeat record and the slot table (R379). -/
def State.writeTables (s : State) (k : Nat) : State :=
  let count := fun (x : ReqState) => (s.reqsIn (fun y => decide (y = x))).length
  let rec_ := leBytes 8 k ++ leBytes 8 (s.bnd k) ++ leBytes 8 (s.bnd (k + 1)) ++ leBytes 2 (count .decode) ++ leBytes 2 (count .prefill) ++ leBytes 4 0
  (s.jobWrite (s.jobArea 0) rec_).jobWrite (s.jobArea 1) ((List.range s.jobSlots).flatMap s.slotRecord)
/-- The copy to the standby Keepers at t2 (R388); a Keeper that waited for it resumes its role (R487, R491). -/
def State.copyOut (s : State) : State :=
  let s1 : State := { s with serving := { s.serving with copy := { reqs := s.serving.reqs, queue := s.serving.queue, tx := s.serving.tx, sent := s.serving.sent } } }
  (List.range 3).foldl (fun t i =>
    let k := t.keepers.toList.getD i {}
    if k.role = .starting ∧ k.verdict = some true then
      ({ t with keepers := t.keepers.setIfInBounds i { k with role := k.after, inSync := true, healthy := true, lastHealth := s.now } }).irq .keeper i 0
    else t) s1
/-- BOUNDARY_COMMIT (R376 t2, R382 to R388, R393, R423): once D is drained. In an orderly stop nothing is admitted. -/
def execBoundaryCommit (s : State) : Host.Outcome State Fault Refusal :=
  if s.serving.phase ≠ 1 ∨ !s.dStill ∨ s.restart.busy ∨ s.jobPhase < 3 then .next s
  else
    let stopping := decide (s.stop.cause ≠ 0)
    let k := s.serving.last.getD 0
    let s0 : State := { s with serving := { s.serving with sent := [] } }
    let s1 := (List.range s.jobSlots).foldl (fun t i => match t.inSlotNo i with | some r => t.commitSlot r | none => t) s0
    let s2 := if stopping then s1 else (List.range s.jobSlots).foldl (fun t i => t.admitNext i) s1
    let s3 := s2.writeTables k
    let empty := (s3.reqsIn inSlot).isEmpty && s3.serving.queue.isEmpty
    let runs := if empty then s3.serving.idleRuns + 1 else 0
    let lim := s3.fld (fdReg 0 0x0AC) 0 16
    let d1 := empty && (s3.serving.d1Asked || (decide (lim ≠ 0) && decide (lim ≤ runs))) && !stopping
    let s4 := if s3.serving.d1Asked ∧ !empty then s3.errCount .pwr 0 2 else s3
    let s5 : State := { s4 with serving := { s4.serving with recK := k, phase := 2, idleRuns := runs, d1Asked := d1 }, stop := (if stopping then { s4.stop with committed := true } else s4.stop) }
    .next s5.userRecord.copyOut.afterCommit

/-- PARK_COMPLETE (R75, R195, R376, R447): a P context is parked; with the last one the idle interval, or the end of a stop, may follow. -/
def execParkComplete (core : Fin 2000) (s : State) : Host.Outcome State Fault Refusal := .next (s.parkDone core).afterCommit

/-- IDLE_INTERVAL_END (R376 t3 to t4, R378): after WB_IDLE, D starts unless it would come too late; a parked P resumes, and an IDLE one starts where a slot
is in PREFILL. -/
def execIdleIntervalEnd (s : State) : Host.Outcome State Fault Refusal :=
  match s.serving.idleSince with
  | none => .next s
  | some t =>
    if !s.idleInterval ∨ s.now < t + 1000 * s.fld (fdReg 0 0x084) 0 11 then .next s
    else
      let late := decide (s.bnd (s.serving.last.getD 0 + 1) < s.now + 100000)
      let pre := !(s.reqsIn (fun x => decide (x = .prefill))).isEmpty
      let s1 : State := { (if late then s.overrun else s) with idleInterval := false, serving := { s.serving with phase := 0, idleSince := none } }
      let s2 := if late then s1 else s1.jobCores.foldl (fun u c => u.startCtx c .d) s1
      .next (s2.jobCores.foldl (fun u c =>
        match (u.ctx c .p).mode with
        | .parked => u.resumeP c
        | .idle => if pre then u.startCtx c .p else u
        | _ => u) s2)

/-! ## Orderly stops (R447 to R449) -/

/-- The die of lowest position code at its orderly-stop threshold (R467). -/
def State.stopDie (s : State) : Option Nat := (s.diodes.find? (fun d => d.2.stop)).map Prod.fst
/-- ORDERLY_STOP (R447): a die has reached its threshold, or another cause asks for a stop. -/
def execOrderlyStop (s : State) : Host.Outcome State Fault Refusal :=
  if (s.stage ≠ .pupa ∧ s.stage ≠ .imago) ∨ s.stop.cause ≠ 0 ∨ (s.dst ≠ .d0 ∧ s.dst ≠ .d1) then .next s
  else
    match s.stopDie with
    | some d => .next (s.stopBegin 1 d)
    | none =>
      match s.stopAsked with
      | some (c, d) => .next (s.stopBegin c d)
      | none => .next s
/-- PARK_DEADLINE (R190, R448): at t0 + 500 ms a P context that is not parked is halted, its save discarded and its chains cancelled, and t3 is reached. -/
def execParkDeadline (s : State) : Host.Outcome State Fault Refusal :=
  if s.stop.cause = 0 ∨ s.stop.stopped ∨ s.now < s.stop.t0 + 500000000 then .next s
  else
    .next (s.jobCores.foldl (fun t c =>
      match (t.ctx c .p).mode with
      | .idle => t
      | .parked => t
      | .halted => t
      | _ => (t.modCtx c .p (fun k => { k with mode := .halted, qMe := [], qVe := [], qRm := [] })).cancelChains c .p) s).stopReached
/-- ORDERLY_STOP_RETURN (R253, R449): the cause has cleared. The job restarts, any pass that was deferred follows, as after a stop for REF_LIGHT a pass since does, and
then the device is in Imago again. -/
def execOrderlyStopReturn (s : State) : Host.Outcome State Fault Refusal :=
  let clear : Bool := match s.stop.cause with
    | 1 => (match s.stop.coolSince with | some t => decide (t + 10000000000 ≤ s.now) | none => false)
    | 2 => (match s.stop.coolSince with | some t => decide (t + 10000000000 ≤ s.now) | none => false)
    | 3 => s.refLight.valid && s.refLight.holdover.isNone
    | 4 => s.clock.valid.get 0 || s.clock.valid.get 1
    | _ => false
  let stale := decide (s.stop.cause = 3) && decide (s.calPass.began < s.refLight.since + 10000000000)
  if !s.stop.stopped ∨ !clear then .next s
  else
    let p := s.calPass
    let s1 := ({ s with stop := {}, calPass := { p with pending := p.pending || stale, awaited := p.running || p.pending || stale } }).irq .therm 0 5
    .next (if s.jobPhase = 2 ∨ s.jobPhase = 3 then s1.restartZero else s1)

end Sys2Proof.Machine
end

