-- ==== Sys2Proof/Machine/Clocks.lean ====
section
/-!
DEFINITION. Sys2Proof/Machine/Clocks.lean: reference inputs and PLLs (R394 to R399), the compute clock regions (R400 to R404, R415 to R417) and the
timebase (R407 to R412, R418).
-/
namespace Sys2Proof.Machine

/-- A TIMEBASE register. -/
def tbReg (off : Nat) : Nat := regAddr .timebase 0 off
/-- A CLKREG register of a region. -/
def clkReg (r off : Nat) : Nat := regAddr .clkreg r off
/-- A clock region. -/
def State.region (s : State) (r : Nat) : Region := sget {} s.regions r
/-- Update a clock region. -/
def State.modRegion (s : State) (r : Nat) (f : Region → Region) : State := { s with regions := sset {} s.regions r (f (s.region r)) }

/-! ## Reference inputs (R395, R396) -/

/-- The PLL takes another input (R396): counted in REF_STAT. -/
def State.refSwitch (s : State) (i : Fin 2) : State :=
  if s.clock.inUse = i then s
  else ({ s with clock := { s.clock with inUse := i } }.bump (tbReg 0x04C) 16 16 1).irq .timebase 0 0
/-- REFCLK_INVALID (R395, R396): the input in use hands over to the other, or with neither valid the PLL is in reference holdover. -/
def execRefclkInvalid (inp : Fin 2) (s : State) : Host.Outcome State Fault Refusal :=
  if !s.clock.valid.get inp then .next s
  else
    let s1 : State := { s with clock := { s.clock with valid := s.clock.valid.set inp false } }
    if !s.clock.locked ∨ s.clock.inUse ≠ inp then .next s1
    else
      let s2 := s1.pllEvent 1 0 1
      if s.clock.valid.get (1 - inp) then .next (s2.refSwitch (1 - inp))
      else .next ({ s2 with clock := { s2.clock with holdover := some s.now } }.irq .timebase 0 1)
/-- REFCLK_VALID (R395, R396): after 10 ms of validity. It ends a reference holdover; in Larva the base PLL may now lock. -/
def execRefclkValid (inp : Fin 2) (s : State) : Host.Outcome State Fault Refusal :=
  if s.clock.valid.get inp then .next s
  else
    let s1 : State := { s with clock := { s.clock with valid := s.clock.valid.set inp true } }
    let s2 : State := if s.clock.holdover.isSome then { s1 with clock := { s1.clock with holdover := none } }.refSwitch inp else s1
    .next s2.bootCheck
/-- REF_HOLDOVER_STOP (R396): 100 ms of reference holdover call for an orderly stop. -/
def execRefHoldoverStop (s : State) : Host.Outcome State Fault Refusal :=
  match s.clock.holdover with
  | none => .next s
  | some t =>
    if s.now < t + 100000000 ∨ s.stop.cause ≠ 0 ∨ (s.stage ≠ .pupa ∧ s.stage ≠ .imago) then .next s
    else .next { s with stopAsked := some (4, 0) }
/-- REF_CTL (R418): a write naming an input that is not valid is ignored and counted. -/
def State.setRefCtl (s : State) (v : Nat) : State :=
  let i : Fin 2 := if bitOf v 0 then 1 else 0
  if s.clock.valid.get i then s.regStore .timebase 0 0x048 v else s.errCount .timebase 0 2
/-- REF_CTL_WRITE. -/
def execRefCtlWrite (ini : Initiator) (ep : BitVec 8) (v : Word) (s : State) : Host.Outcome State Fault Refusal :=
  .next (s.busDo ini ep .timebase 0 0x048 (fun t => t.setRefCtl v.toNat))

/-- BASE_PLL_UNLOCK (R397, R515): the device returns to Larva, where all light is lit and locked again; the job stays and restarts once Larva is
complete (R513 class 7). -/
def execBasePllUnlock (s : State) : Host.Outcome State Fault Refusal :=
  if !s.clock.locked then .next s
  else
    let s1 := (s.surgeEnd 7).pllEvent 1 0 2
    let s2 := if s.jobPhase = 2 ∨ s.jobPhase = 3 then s1.jobFault 7 2 0 0 else s1
    let s3 := (s2.groupsOff).portsOff (fun _ => false)
    .next { s3 with stage := .larva, dst := .d0, spineUp := false, idleInterval := false, stop := {}, stopAsked := none, lsms := Vector.replicate 7 {}
                    clock := { s3.clock with locked := false, holdover := none }
                    serving := { s3.serving with phase := 0, idleSince := none, d1Asked := false }
                    chans := smapv {} (fun (c : Chan) => if c.mode = ChanMode.failed then c else { c with mode := ChanMode.off, queue := [] }) s3.chans }

/-! ## Serialisers and row-store PLLs (R397 to R399) -/

/-- The instance number of a serialiser, in the order in which R397 counts them: stacks, memory ports, Keepers, ports. -/
def serialiserNo (site tx : Nat) : Nat := if site < 40 then 24 * site + tx else if site < 56 then 960 + 64 * (site - 40) + tx else if site < 59 then 1984 + 2 * (site - 56) + tx else 1990 + tx
/-- SERIALISER_ALARM (R397, R398): a base transmitter is withdrawn (R232), an external TX goes through RETRAIN (R293). -/
def execSerialiserAlarm (site : Fin 60) (tx : BitVec 7) (cause : BitVec 3) (s : State) : Host.Outcome State Fault Refusal :=
  let n := site.val
  let x := tx.toNat
  let fits := if n = 59 then decide (x < 6) else decide (x < txFitted n) && !(s.site n).gone.contains x
  if !fits ∨ cause = 0 ∨ 4 < cause.toNat ∨ !s.spineUp then .next s
  else
    let s1 := s.pllEvent 4 (serialiserNo n x) cause.toNat
    .next (if n = 59 then s1.enterRetrain x else s1.withdrawTx n x 2)
/-- ROWSTORE_PLL_FAILOVER (R399, R513): the other PLL takes over; with both failed the job faults, and at the restart the stack is missing (R22). -/
def execRowstorePllFailover (stack : Fin 40) (s : State) : Host.Outcome State Fault Refusal :=
  let n := stack.val
  let k := sget 0 s.clock.rowPll n
  if 2 ≤ k ∨ !s.stackOn n then .next s
  else
    let s1 := ({ s with clock := { s.clock with rowPll := sset 0 s.clock.rowPll n (k + 1) } }).pllEvent 2 (2 * n + k) 2
    .next (if k = 1 then ((s1.setStk n { s1.stk n with retireDue := true }).irq .rows n 7).jobFault 6 3 (0x80 + n) n else s1)

/-! ## Compute clock regions (R400 to R404, R415) -/

/-- The steps that the heat manager asks of a region: the most that its compute die, row-store die or the base asks (R446). -/
def State.heatSteps (s : State) (r : Nat) : Nat :=
  max (sget {} s.diodes (0x40 + r / 4)).steps (max (sget {} s.diodes (0x80 + r / 4)).steps (sget {} s.diodes 0).steps)
/-- The thermal ceiling in 25 MHz (R432, R446): the lower of the heat manager's and the input trim, not below 0.8 GHz or above the table top. -/
def State.thermCeiling (s : State) (r : Nat) : Nat := clamp 32 (s.region r).ftop (min (80 - s.heatSteps r) (80 - s.power.trim))
/-- f_set (R400, R464): the lowest of the governor ceiling, the thermal ceiling, the droop limit and the table top. -/
def State.fsetOf (s : State) (r : Nat) : Nat :=
  clamp 32 (s.region r).ftop (min (s.stk (r / 4)).ceiling (min (s.thermCeiling r) (s.region r).droop))
/-- F_SET_CHANGE (R400): at an alignment point. -/
def execFSetChange (region : Fin 160) (s : State) : Host.Outcome State Fault Refusal :=
  if s.regionOn region then .next (s.modRegion region (fun x => { x with fset := s.fsetOf region })) else .next s
/-- REGION_GEN_FAIL (R400, R417): the region switches to its ring oscillator, and its cores go on. -/
def execRegionGenFail (region : Fin 160) (ref : Bool) (s : State) : Host.Outcome State Fault Refusal :=
  if !s.regionOn region ∨ !(s.region region).locked then .next s
  else
    let s1 := ((s.modRegion region (fun x => { x with gen := false, locked := false })).pllEvent 3 region (if ref then 1 else 2)).irq .clkreg region 2
    .next ((s1.bump (clkReg region 0x064) 16 16 1).irq .clkreg region 0)
/-- CTL.src as written (R400, R415): a return while the generator is not locked is ignored and counted; whether one that lost its lock has it again
is free. Three failed returns since boot leave the region on its ring oscillator. -/
def State.setClkSrc (s : State) (r v : Nat) : State :=
  let x := s.region r
  if !bitOf v 0 then (s.modRegion r (fun y => { y with gen := false })).regStore .clkreg r 0x044 v
  else
    let z := s.fresh
    let good := decide (x.failed < 3) && (x.locked || Config.freeBool z.1)
    let t := if x.locked then s else z.2
    if good then (t.modRegion r (fun y => { y with gen := true, locked := true })).regStore .clkreg r 0x044 v
    else ((t.modRegion r (fun y => { y with failed := min 15 (y.failed + 1) })).errCount .clkreg r 2).irq .clkreg r 3
/-- CLK_SRC_WRITE. -/
def execClkSrcWrite (ini : Initiator) (ep : BitVec 8) (region : Fin 160) (v : Word) (s : State) : Host.Outcome State Fault Refusal :=
  .next (s.busDo ini ep .clkreg region 0x044 (fun t => t.setClkSrc region v.toNat))

/-- The stretches of a region within the last microsecond, in ps. -/
def Region.stretched (x : Region) (now : Nat) : Nat := ((x.stretches.filter (fun p => decide (now < p.1 + 1000))).map Prod.snd).sum
/-- Whether a stretch keeps to R402: at most a doubled cycle with notice, at most 25 % without, no two without notice in a row, and 5 % in 1 µs. -/
def Region.mayStretch (x : Region) (noticed : Bool) (added now : Nat) : Bool :=
  x.gen && decide (x.stretched now + added ≤ 50000) &&
  (if noticed then decide (added * x.fset ≤ 40000) else decide (4 * added * x.fset ≤ 40000) && !(x.unannounced && decide (x.lastStretch = now)))
/-- STRETCH (R402, R417): a cycle longer than its period by `added` ps. -/
def execStretch (region : Fin 160) (noticed : Bool) (added : Nat) (s : State) : Host.Outcome State Fault Refusal :=
  let x := s.region region
  if !s.regionOn region ∨ added = 0 ∨ !x.mayStretch noticed added s.now then .next s
  else
    let y := { x with stretches := (x.stretches.filter (fun p => decide (s.now < p.1 + 1000))) ++ [(s.now, added)], unannounced := !noticed, lastStretch := s.now }
    .next (((s.modRegion region (fun _ => y)).bump (clkReg region 0x05C) (if noticed then 0 else 16) 16 1).raiseTo (clkReg region 0x060) 0 8 (y.stretched s.now / 1000))
/-- DROOP_LIMIT_LOWER (R402): stretches of more than 2 % in 1 µs lower the limit by 25 MHz, once for a window. -/
def execDroopLimitLower (region : Fin 160) (s : State) : Host.Outcome State Fault Refusal :=
  let x := s.region region
  if !s.regionOn region ∨ x.stretched s.now ≤ 20000 ∨ x.droop ≤ 32 ∨ (x.lowered ≠ 0 ∧ s.now < x.lowered + 1000) then .next s
  else .next (s.modRegion region (fun y => { y with droop := y.droop - 1, lowered := s.now }))
/-- DROOP_LIMIT_RAISE (R402, R464): 10 µs without a stretch raise it by 25 MHz, up to the table top. -/
def execDroopLimitRaise (region : Fin 160) (s : State) : Host.Outcome State Fault Refusal :=
  let x := s.region region
  if !s.regionOn region ∨ x.ftop ≤ x.droop ∨ s.now < max x.lastStretch x.raised + 10000 then .next s
  else .next (s.modRegion region (fun y => { y with droop := y.droop + 1, raised := s.now }))
/-- CROSSING_ERROR (R404, R417, R513): the job faults. -/
def execCrossingError (region : Fin 160) (s : State) : Host.Outcome State Fault Refusal :=
  if !s.regionOn region then .next s
  else .next (((s.bump (clkReg region 0x064) 0 16 1).irq .clkreg region 1).jobFault 7 1 (0x40 + region.val / 4) region)

/-! ## SYNC_IN (R409 to R412) -/

/-- The phase error of a sample: what it is past the nearest second, in ns (R409). -/
def phaseError (t : Nat) : Int := ((t + 500000000) % 1000000000 : Nat) - (500000000 : Int)
/-- Whether an edge is valid (R409). -/
def State.edgeValid (s : State) : Bool :=
  (match s.clock.lastEdge with | some t => decide (t + 999000000 ≤ s.now) | none => true) &&
  (!s.clock.aligned || decide ((phaseError s.now).natAbs ≤ 1000000))
/-- A valid edge (R410 to R412): the armed set, or while aligned the rate and the phase are corrected. -/
def State.goodEdge (s : State) : State :=
  let e := phaseError s.now
  let s1 := ((s.bump (tbReg 0x068) 0 16 1).wr (tbReg 0x060) (BitVec.ofInt 32 e))
  match s.clock.armed with
  | some n =>
    let t := BitVec.ofNat 64 (n.toNat * 1000000000)
    ({ s1 with timebase := t, clock := { s.clock with armed := none, aligned := true, lastEdge := some t.toNat, syncLost := false, slew := 0 } }).irq .timebase 0 2
  | none =>
    let c := { s.clock with lastEdge := some s.now, syncLost := false }
    if !s.clock.aligned then { s1 with clock := c }
    else
      let s2 : State := { s1 with clock := { c with rate := max (-200000) (min 200000 (c.rate - e)), slew := -e * 1000000000 } }
      if 1000 < e.natAbs then s2.irq .timebase 0 4 else s2
/-- SYNC_EDGE (R409): an edge in µs mode, or one that is not valid, is ignored and counted. -/
def execSyncEdge (s : State) : Host.Outcome State Fault Refusal :=
  if s.dst = .d3 ∨ s.fld (tbReg 0x050) 0 1 = 0 then .next s
  else if s.clock.locked ∧ s.edgeValid then .next s.goodEdge
  else .next (s.bump (tbReg 0x068) 16 16 1)
/-- SEC_SET as written (R410, R418): armed, unless a job is loaded. -/
def State.armSec (t : State) (n : Dword) : State := if t.jobPhase = 0 then { t with clock := { t.clock with armed := some n } } else t.errCount .timebase 0 2
/-- SEC_SET. -/
def execSecSet (ini : Initiator) (ep : BitVec 8) (n : Dword) (s : State) : Host.Outcome State Fault Refusal :=
  .next (s.busDo ini ep .timebase 0 0x054 (fun t => t.armSec n))
/-- The time since the last valid edge. -/
def State.sinceEdge (s : State) : Nat := s.now - s.clock.lastEdge.getD 0
/-- SYNC_HOLDOVER (R412): 1.5 s without a valid edge. -/
def execSyncHoldover (s : State) : Host.Outcome State Fault Refusal :=
  if s.clock.syncLost ∨ s.dst = .d3 ∨ s.sinceEdge < 1500000000 then .next s
  else .next ({ s with clock := { s.clock with syncLost := true } }.irq .timebase 0 3)
/-- SYNC_HOLDOVER_EXPIRY (R412): holdover_s without a valid edge. -/
def execSyncHoldoverExpiry (s : State) : Host.Outcome State Fault Refusal :=
  if !s.clock.syncLost ∨ !s.clock.aligned ∨ s.sinceEdge < 1000000000 * s.fld (tbReg 0x050) 8 8 then .next s
  else .next { s with clock := { s.clock with aligned := false } }

end Sys2Proof.Machine
end

