-- ==== Sys2Proof/Machine/Power.lean ====
section
/-!
DEFINITION. Sys2Proof/Machine/Power.lean: the device states (R422 to R429), the input supply (R431, R432), Surge (R433 to R438) and power telemetry (R439).
-/
namespace Sys2Proof.Machine

/-! ## State commands (R423) -/

/-- A STATE_CMD that the state does not list (R423). -/
def State.cmdRefused (s : State) : State := s.errCount .pwr 0 2
/-- A write to STATE_CMD, by what it does; in D2 only the management port reaches it (R428, R541). -/
def State.stateCmd (s : State) (ini : Initiator) (ep : Byte) (f : State → State) : State := s.busDo ini ep .pwr 0 0x044 f
/-- STATE_CMD with target D0: it wakes the device from D1 or D2. -/
def State.cmdD0 (t : State) (ini : Initiator) : State := if t.dst = .d1 ∨ (t.dst = .d2 ∧ ini = .i3c) then t.wakeFor 2 else t.cmdRefused
/-- STATE_CMD_D0. -/
def execStateCmdD0 (ini : Initiator) (ep : Byte) (s : State) : Host.Outcome State Fault Refusal := .next (s.stateCmd ini ep (fun t => t.cmdD0 ini))
/-- STATE_CMD with target D1: in D0, where every slot is FREE and the queue empty, the next boundary's t2 enters D1; it wakes the device from D2. -/
def State.cmdD1 (t : State) (ini : Initiator) : State :=
  if t.dst = .d0 ∧ (t.reqsIn inSlot).isEmpty ∧ t.serving.queue.isEmpty then { t with serving := { t.serving with d1Asked := true } }
  else if t.dst = .d2 ∧ ini = .i3c then t.wakeFor 6
  else t.cmdRefused
/-- STATE_CMD_D1. -/
def execStateCmdD1 (ini : Initiator) (ep : Byte) (s : State) : Host.Outcome State Fault Refusal := .next (s.stateCmd ini ep (fun t => t.cmdD1 ini))

/-- Groups that are in service after a D2 wake, from ring tables at the base diode reading (R256, R429 t4). -/
def State.groupsUp (s : State) : State :=
  (List.range 1158).foldl (fun t g =>
    let x := t.grp g
    if x.state = .retired ∨ (grpHome g < 40 ∧ !t.stackActive (grpHome g)) then t
    else
      let lanes : Vector Lane 10 := Vector.ofFn (fun o : Fin 10 => { state := (if o.val < 8 then .active else .standby), since := t.now })
      t.setGrp g { state := .service, lanes := lanes, token := .free, tokenSeen := t.now, lastBurst := t.now }) (s.seedKeys (s.rings.map Prod.fst))
/-- The pages of domains that D2 switches off and that firmware writes again at the wake. -/
def offInD2 (t : PageType) : Bool := [PageType.core, .cdie, .xe, .pager, .clkreg, .mport, .mchan, .sieve, .xport].contains t
/-- The pages of M7's memory-port logic (R534), whose contents firmware brings back at the wake as they were; their locks end with the domain's power
(R18, R419). -/
def memPortPages : List PageType := [.fab, .rankmap, .region]
/-- D2 entry (R427): ports, cores, bank groups, memory ports and groups are off; LPDDR6 is in self-refresh; the timebase runs in µs mode. -/
def State.enterD2 (s0 : State) : State :=
  let s := s0.flushChans
  let s1 := (memPortPages.foldl (fun (t : State) y => t.lockAll y false) ((s.groupsOff).portsOff (fun x => decide (x.tx = .out)))).clearPages offInD2
  let low := decide (s.fld (pwrReg 0x048) 16 1 = 1)
  let s2 : State := { s1 with dst := .d2, spineUp := false, identAt := [], cores := [], coreBuf := {}, instStore := {}, rowStore := {}, xes := [], pagers := [], sieves := [], kettleIn := []
                              krelDue := [], hallWait := [], hallAsm := [], regions := smapv {} (fun (x : Region) => { x with gen := false, stretches := [] }) s1.regions
                              stks := smapv {} Stack.kept s1.stks
                              calPass := { s.calPass with running := false, groups := [], ports := [], pending := s.calPass.pending || s.calPass.running }
                              chans := smapv {} (fun (c : Chan) => if c.mode = ChanMode.failed ∨ c.mode = ChanMode.off then c else { c with mode := ChanMode.selfRefresh, queue := [] }) s1.chans
                              diodes := s1.diodes.map (fun (e : Nat × Diode) => if e.1 = 0 ∨ s.tally.active.map (fun k => k.val + 1) = some e.1 then e else (e.1, { e.2 with valid := false, hist := [], steps := 0 }))
                              clock := { s1.clock with locked := false, holdover := none }
                              power := { s1.power with trim := 0, trimOn := false, overSince := none } }
  (if low then { s2 with lsms := s2.lsms.map (fun (x : Lsm) => if x.mode = LsmMode.lit then { x with mode := LsmMode.ident } else x), lines := smapv {} (fun (y : LaserLine) => { y with lit := false }) s2.lines } else s2).irq .pwr 0 0
/-- STATE_CMD with target D2: from D1. -/
def State.cmdD2 (t : State) : State := if t.dst = .d1 ∧ t.power.wake.isNone then t.enterD2 else t.cmdRefused
/-- STATE_CMD_D2. -/
def execStateCmdD2 (ini : Initiator) (ep : Byte) (s : State) : Host.Outcome State Fault Refusal := .next (s.stateCmd ini ep (fun t => t.cmdD2))
/-- STATE_CMD with target D3: an orderly stop from D0, which goes on to D3 where one is under way or over; from D1 and D2 at once. -/
def State.cmdD3 (t : State) : State :=
  if t.dst ≠ .d0 ∨ t.stop.stopped ∨ (t.stage ≠ .pupa ∧ t.stage ≠ .imago) then t.powerOff
  else if t.stop.cause ≠ 0 then { t with stop := { t.stop with cause := 5 } }
  else { t with stopAsked := some (5, 0) }
/-- STATE_CMD_D3. -/
def execStateCmdD3 (ini : Initiator) (ep : Byte) (s : State) : Host.Outcome State Fault Refusal := .next (s.stateCmd ini ep (fun t => t.cmdD3))
/-- D2_IDLE_EXPIRY (R423): D2_IDLE seconds in D1, with a job of one rank. -/
def execD2IdleExpiry (s : State) : Host.Outcome State Fault Refusal :=
  let n := s.fld (pwrReg 0x048) 0 16
  if s.dst = .d1 ∧ s.power.wake.isNone ∧ n ≠ 0 ∧ s.jobPhase = 3 ∧ s.jobRanks ≤ 1 ∧ s.serving.d1Since + 1000000000 * n ≤ s.now then .next s.enterD2 else .next s

/-! ## Waking (R425, R428, R429) -/

/-- The wake cause as PWR.STATE gives it (R441): a message that is no SUBMIT counts as one. -/
def wakeCode (c : Nat) : Nat := if c = 5 then 1 else if c = 6 then 2 else c
/-- The regions of the active stacks start on their ring oscillators and return to their generators (R415). -/
def State.regionsUp (s : State) : State :=
  (List.range 160).foldl (fun t r => if t.stackActive (r / 4) then t.modRegion r (fun x => { x with gen := x.locked && decide (x.failed < 3), fset := t.fsetOf r }) else t) s
/-- Note a wake that is over. -/
def State.woken (s : State) (c : Nat) : State := ({ s with power := { s.power with wake := none } }.setFld (pwrReg 0x040) 17 3 (wakeCode c)).irq .pwr 0 0
/-- D1_WAKE (R425): every region of the last wave runs on its generator; the device is in D0, after the pass that a D2 wake waits for (R462). -/
def execD1Wake (s : State) : Host.Outcome State Fault Refusal :=
  match s.power.wake with
  | none => .next s
  | some c =>
    if s.dst ≠ .d1 ∨ (s.calPass.first ∧ (s.calPass.running ∨ s.calPass.pending)) then .next s
    else .next (({ s with dst := .d0, calPass := { s.calPass with first := false }, serving := { s.serving with idleRuns := 0, d1Asked := false } }).regionsUp.woken c)
/-- PORT_LIGHT_WAKE (R428): a tap sees modulated light. -/
def execPortLightWake (port : Fin 6) (s : State) : Host.Outcome State Fault Refusal :=
  .next (if (s.port port).tx = .out then s else if s.dst = .d2 then s.wakeFor 3 else s)
/-- WAKE_AT_REACHED (R423, R428, R440): a wake from D1 or D2; WAKE_AT is cleared. -/
def execWakeAtReached (s : State) : Host.Outcome State Fault Refusal :=
  let t := (s.rd64 (pwrReg 0x04C)).toNat
  if t = 0 ∨ s.now < t ∨ s.dst = .d3 then .next s else .next ((s.wr64 (pwrReg 0x04C) 0).wakeFor 4)
/-- What is on again by t4 of a D2 wake (R429). -/
def State.d2Up (s : State) (i : Fin 2) : State :=
  let s1 : State := { s with dst := .d1, spineUp := true, clock := { s.clock with locked := true, inUse := i, holdover := none }
                             lsms := s.lsms.map (fun (x : Lsm) => if x.mode = LsmMode.ident ∧ x.approved then { x with mode := LsmMode.lit } else x)
                             lines := smapv {} (fun (y : LaserLine) => { y with lit := true }) s.lines
                             chans := smapv {} (fun (c : Chan) => if c.mode = ChanMode.selfRefresh then { c with mode := ChanMode.service, lastRetrain := s.now, retrainDue := none } else c) s.chans
                             keepers := s.keepers.map (fun k => { k with lastHealth := s.now }) }
  let s2 := s1.groupsUp.regionsUp
  (List.range 6).foldl (fun t p => if (t.port p).tx = .off ∧ !(t.port p).disabled ∧ t.portUsed p ∧ (t.lsm 6).mode = .lit then t.portTrain p false else t) s2
/-- The job restart at t4 of a D2 wake, with the seeds and locks of a job load that the domains lost (R18, R429, R505, R515). -/
def State.d2Restart (s : State) : State :=
  if 2 ≤ s.jobPhase then (memPortPages.foldl (fun (t : State) y => t.lockAll y true) s.coreSeeds).restartZero else s
/-- D2_WAKE (R429, R462): through t5; then in D0 where the event was a SUBMIT, STATE_CMD D0 or WAKE_AT, in D1 while a calibration pass comes first, and in D1 otherwise. -/
def execD2Wake (s : State) : Host.Outcome State Fault Refusal :=
  match s.power.wake, s.larvaInput with
  | some c, some i =>
    if s.dst ≠ .d2 then .next s
    else
      let s1 := (s.d2Up i).d2Restart
      let up := decide (c = 1 ∨ c = 2 ∨ c = 4)
      if up ∧ (s1.calPass.pending ∨ s1.passMoved) then
        .next { s1 with dst := .d1, serving := { s1.serving with d1Since := s1.now, idleRuns := 0, d1Asked := false }, calPass := { s1.calPass with pending := true, first := true } }
      else
      let s2 : State := if up then { s1 with dst := .d0, serving := { s1.serving with idleRuns := 0, d1Asked := false } }
        else { s1 with dst := .d1, serving := { s1.serving with d1Since := s1.now }, restart := (if s1.jobRanks ≤ 1 then { s1.restart with busy := false, resume := none } else s1.restart) }
      .next (s2.woken c)
  | _, _ => .next s

/-! ## Input supply (R431, R432) -/

/-- A step of input trim (R432): 25 MHz lower, not below 0.8 GHz. -/
def State.trimStep (s : State) : State :=
  if s.now < s.power.trimAt + 100000 ∧ s.power.trim ≠ 0 then s else { s with power := { s.power with trim := min 48 (s.power.trim + 1), trimAt := s.now } }
/-- Input trim comes into force, counted once an activation (R432). -/
def State.trimStart (s : State) : State :=
  if s.power.trimOn then s else ({ s with power := { s.power with trimOn := true } }.bump (pwrReg 0x080) 0 16 1).irq .pwr 0 3
/-- The limit in force, in W (R432). -/
def State.inputLimit (s : State) : Nat := if s.power.surge then 3600 else 3050
/-- INPUT_UNDERVOLT (R431, R436): below 44 V a Surge ends, below 40 V the input is trimmed. -/
def execInputUndervolt (mv : Nat) (s : State) : Host.Outcome State Fault Refusal :=
  if s.dst = .d3 ∨ 44000 ≤ mv then .next s
  else
    let s1 := { s with power := { s.power with voltLowAt := some s.now } }.surgeEnd 5
    .next (if mv < 40000 then (s1.irq .pwr 0 4).trimStart.trimStep else s1)
/-- INPUT_FAULT (R431): below 38 V or above 62 V every domain goes off. -/
def execInputFault (mv : Nat) (s : State) : Host.Outcome State Fault Refusal :=
  if s.dst = .d3 ∨ (38000 ≤ mv ∧ mv ≤ 62000) then .next s else .next s.powerOff
/-- INPUT_TRIM (R432): firmware looks at the input window. -/
def execInputTrim (window : Nat) (s0 : State) : Host.Outcome State Fault Refusal :=
  if s0.dst = .d3 ∨ s0.dst = .d2 then .next s0
  else
    let s := (s0.setFld (pwrReg 0x06C) 0 16 (min window 65535)).raiseTo (pwrReg 0x070) 0 16 window
    let lim := s.inputLimit
    if !s.power.trimOn then
      (if 100 * window ≤ 102 * lim then .next { s with power := { s.power with overSince := none } }
       else
         let t := s.power.overSince.getD s.now
         let s1 : State := { s with power := { s.power with overSince := some t } }
         if t + 10000000 ≤ s.now then .next s1.trimStart.trimStep else .next s1)
    else if lim < window then .next s.trimStep
    else if window + 100 < lim ∧ s.power.trimAt + 1000000 ≤ s.now then
      .next { s with power := { s.power with trim := s.power.trim - 1, trimAt := s.now, trimOn := decide (1 < s.power.trim), overSince := none } }
    else .next s

/-! ## Surge (R433 to R438) -/

/-- The THRESH register of a die's class (R443, R468). -/
def threshOff (c : Nat) : Nat := if c = 0 then 0x068 else if c < 0x10 then 0x06C else if c < 0x80 then 0x060 else 0x064
/-- A threshold of a die in 0.1 °C: 0 warn, 1 throttle, 2 orderly stop, 3 trip. -/
def State.thresh (s : State) (c k : Nat) : Int := 10 * (s.fld (regAddr .therm 0 (threshOff c)) (8 * k) 8 : Int)
/-- The diode of a die. -/
def State.diode (s : State) (c : Nat) : Diode := sget {} s.diodes c
/-- Active stacks that have been limiting for 100 ms (R433). -/
def State.wanting (s : State) : Nat :=
  ((List.range 40).filter (fun n => s.stackActive n && (s.stk n).limiting && (match (s.stk n).limitSince with | some t => decide (t + 100000000 ≤ s.now) | none => false))).length
/-- Whether a Surge may be entered (R433, R436). -/
def State.maySurge (s : State) (mv : Nat) : Bool :=
  let volts : Bool := match s.power.voltLowAt with | some t => decide (t + 1000000000 ≤ s.now) | none => true
  !s.power.surge && decide (s.fld (pwrReg 0x054) 0 1 = 1) && decide (s.fld (pwrReg 0x058) 0 1 = 0) && decide (s.dst = .d0) && decide (s.stop.cause = 0) &&
  decide (5000000000 ≤ s.allowance) && decide (300 ≤ s.wearLeft) && decide (45000 ≤ mv) && (decide (s.fld (pwrReg 0x05C) 12 3 ≠ 5) || volts) &&
  dieCodes.all (fun c => decide ((s.diode c).use + 30 ≤ s.thresh c 0)) && decide (4 ≤ s.wanting) && (List.range 40).all (fun n => !(s.stk n).floor)
/-- SURGE_ENTRY (R433). -/
def execSurgeEntry (mv : Nat) (s : State) : Host.Outcome State Fault Refusal :=
  if s.maySurge mv then .next ((({ s with power := { s.power with surge := true, surgeAt := s.now } }.grantAll true).bump (pwrReg 0x07C) 0 16 1).irq .pwr 0 1) else .next s
/-- SURGE_END (R436 causes 6 and 7, R437): fewer than four stacks limiting for 1 s, or a state that is not for Surge. -/
def execSurgeEnd (s : State) : Host.Outcome State Fault Refusal :=
  if s.dst ≠ .d0 ∨ s.stop.cause ≠ 0 ∨ s.restart.busy then .next (s.surgeEnd 7)
  else
    match s.power.demandSince with
    | some t => if t + 1000000000 ≤ s.now ∧ s.power.surgeAt + 1000000000 ≤ s.now then .next (s.surgeEnd 6) else .next s
    | none => .next s
/-- SURGE_ALLOWANCE_EXPIRY (R434). -/
def execSurgeAllowanceExpiry (s : State) : Host.Outcome State Fault Refusal := if s.allowance = 0 then .next (s.surgeEnd 1) else .next s
/-- WEAR_BUDGET_EXHAUST (R435). -/
def execWearBudgetExhaust (s : State) : Host.Outcome State Fault Refusal := if s.wearLeft = 0 then .next (s.surgeEnd 2) else .next s
/-- SURGE_INHIBIT as written (R436). -/
def State.setInhibit (s : State) (v : Nat) : State :=
  let s1 := s.regStore .pwr 0 0x058 v
  if bitOf v 0 then s1.surgeEnd 4 else s1
/-- SURGE_INHIBIT_WRITE. -/
def execSurgeInhibitWrite (ini : Initiator) (ep : Byte) (v : Word) (s : State) : Host.Outcome State Fault Refusal :=
  .next (s.busDo ini ep .pwr 0 0x058 (fun t => t.setInhibit v.toNat))
/-- GRANT_WITHDRAW (R438): 16 brakes within 1 s, or cap_floor, in a Surge. -/
def execGrantWithdraw (stack : Fin 40) (s : State) : Host.Outcome State Fault Refusal :=
  let n := stack.val
  let k := s.stk n
  let hot := decide (16 ≤ (k.brakes.filter (fun t => decide (s.now < t + 1000000000))).length) || k.floor
  if !s.power.surge ∨ s.fld (rowsReg n 0x064) 0 1 = 0 ∨ !hot then .next s
  else .next ((s.setFld (rowsReg n 0x064) 0 1 0).bump (pwrReg 0x080) 16 16 1)
/-- CAP_FLOOR_FAULT (R438, R513): floor set for 100 ms outside a Surge; the stack is retired at the restart. -/
def execCapFloorFault (stack : Fin 40) (s : State) : Host.Outcome State Fault Refusal :=
  let n := stack.val
  let k := s.stk n
  let long : Bool := match k.floorSince with | some t => decide (t + 101000000 ≤ s.now) | none => false
  if s.power.surge ∨ !k.floor ∨ !long ∨ k.retireDue ∨ k.retired then .next s
  else .next (((s.setStk n { k with retireDue := true }).irq .rows n 7).jobFault 6 2 (0x40 + n) n)

/-! ## Telemetry (R439, R441) -/

/-- wear_low: less than 3,600 s of budget (R441). -/
def State.wearCheck (s : State) : State := if s.wearLeft < 3600 then s.irq .pwr 0 5 else s
/-- POWER_TELEMETRY (R439, R441): once per millisecond. -/
def execPowerTelemetry (p : PowerFigures) (s : State) : Host.Outcome State Fault Refusal :=
  if s.dst = .d3 then .next s
  else
    let s1 := (((s.setFld (pwrReg 0x064) 0 16 p.volt).setFld (pwrReg 0x068) 0 16 p.amp).setFld (pwrReg 0x06C) 0 16 p.watt).raiseTo (pwrReg 0x070) 0 16 p.watt
    let s2 := s1.wr64 (pwrReg 0x074) (s1.rd64 (pwrReg 0x074) + BitVec.ofNat 64 p.joule)
    let s3 := p.dies.foldl (fun t d => if dieCodes.contains d.1 then t.setFld (pwrReg (0x400 + 4 * d.1)) 0 16 d.2 else t) s2
    let s4 := (List.range 16).foldl (fun t m => t.setFld (pwrReg (0x200 + 4 * m)) 0 16 (p.mem.getD m 0)) s3
    let low := if p.volt < 4500 then some s.now else s.power.voltLowAt
    let f := s.reportOut.figs
    .next ({ s4 with power := { s4.power with voltLowAt := low }, reportOut := { s4.reportOut with inputPeak := max s4.reportOut.inputPeak p.watt, figs := [f.getD 0 0 + p.watt, f.getD 1 0 + 1] } }).wearCheck

end Sys2Proof.Machine
end

