-- ==== Sys2Proof/Machine/Heat.lean ====
section
/-!
DEFINITION. Sys2Proof/Machine/Heat.lean: diodes and thresholds (R442 to R446, R450 to R456), region recalibration and calibration commands (R457 to
R462), ageing (R463 to R466).
-/
namespace Sys2Proof.Machine

/-- A THERM register. -/
def thermReg (off : Nat) : Nat := regAddr .therm 0 off
/-- Replace a die's diode. -/
def State.setDiode (s : State) (c : Nat) (d : Diode) : State := { s with diodes := sset {} s.diodes c d }
/-- A temperature in 0.1 °C as a signed 16-bit field. -/
def tempBits (t : Int) : Nat := (t % 65536).toNat
/-- DIODE_STAT of a die (R468). -/
def State.noteDiode (s : State) (c : Nat) : State :=
  let d := s.diode c
  s.wr (thermReg (0x400 + 4 * c)) (BitVec.ofNat 32 (tempBits d.use + b2n d.warn * 2 ^ 16 + b2n d.throttle * 2 ^ 17 + b2n d.stop * 2 ^ 18 + b2n d.broken * 2 ^ 19 + b2n d.suspect * 2 ^ 20 + b2n d.subst * 2 ^ 21))

/-! ## The reading in use (R444, R456) -/

/-- Stacks adjacent in row or column (R23). -/
def adjacent (n : Nat) : List Nat :=
  (if 0 < n % 8 then [n - 1] else []) ++ (if n % 8 < 7 then [n + 1] else []) ++ (if 8 ≤ n then [n - 8] else []) ++ (if n < 32 then [n + 8] else [])
/-- The neighbours of a die (R456). -/
def neighbours (c : Nat) : List Nat :=
  if c = 0 then dieCodes.filter (fun x => decide (x ≠ 0))
  else if c < 0x10 then [1, 2, 3].filter (fun x => decide (x ≠ c))
  else if c < 0x40 then
    let m := c - 0x10
    (if 0 < m % 8 then [c - 1] else []) ++ (if m % 8 < 7 then [c + 1] else []) ++ [if m < 8 then 0x40 + m else 0x40 + 32 + (m - 8)]
  else if c < 0x80 then (c + 0x40) :: (adjacent (c - 0x40)).map (· + 0x40)
  else (c - 0x40) :: (adjacent (c - 0x80)).map (· + 0x80)
/-- The hottest of some dies' readings in use, where any is left that is read and not broken. -/
def State.hottest (s : State) (cs : List Nat) : Option Int :=
  (cs.filter (fun c => (s.diode c).valid && !(s.diode c).broken)).foldl (fun a c => match a with | some x => some (max x (s.diode c).use) | none => some (s.diode c).use) none
/-- Whether the profile is Full (R421). -/
def State.fullProfile (s : State) : Bool := decide (20 < s.activeStacks)
/-- A model estimate in 0.1 °C. -/
def modelTenths (m : Option Rat) (d : Int) : Int := match m with | some x => (x * 10).floor | none => d
/-- The substitute of a broken diode (R456). -/
def State.substitute (s : State) (c : Nat) : Int :=
  let worst := if 1 ≤ c ∧ c ≤ 3 then s.thresh c 0 else s.thresh c 1
  match s.fullProfile, s.hottest (neighbours c) with
  | false, some t => if 0x80 ≤ c then max (t + 80) (modelTenths (s.diode c).model (t + 80)) else t + 80
  | false, none => s.thresh c (if 1 ≤ c ∧ c ≤ 3 then 0 else 1)
  | true, _ => worst
/-- The reading in use (R444). -/
def State.inUse (s : State) (c : Nat) : Int :=
  let d := s.diode c
  if d.broken then s.substitute c else if d.suspect then max (modelTenths d.model d.raw) d.raw else d.raw

/-- A die's reading in use against its thresholds (R445 to R447): Keepers have no throttle and no stop. -/
def State.judge (s : State) (c : Nat) : State :=
  let u := s.inUse c
  let d := s.diode c
  let kp := decide (1 ≤ c ∧ c ≤ 3)
  let warn := decide (s.thresh c 0 ≤ u) || (d.warn && decide (s.thresh c 0 - 20 < u))
  let thr := !kp && (decide (s.thresh c 1 ≤ u) || (d.throttle && decide (s.thresh c 1 - 20 ≤ u)))
  let hist := if s.now < d.histAt + 1000000 ∧ !d.hist.isEmpty then d.hist else (u :: d.hist).take 50
  let at_ := if s.now < d.histAt + 1000000 ∧ !d.hist.isEmpty then d.histAt else s.now
  let s1 := s.setDiode c { d with use := u, warn := warn, throttle := thr, stop := !kp && decide (s.thresh c 2 ≤ u), subst := d.broken, hist := hist, histAt := at_ }
  let s2 := if warn ∧ !d.warn then (((s1.bump (thermReg 0x054) 0 8 1).irq .therm 0 0).surgeEnd 3) else s1
  let s3 := if thr ∧ !d.throttle then (s2.bump (thermReg 0x054) 8 8 1).irq .therm 0 1 else s2
  let cool := dieCodes.all (fun x => decide ((s3.diode x).use + 50 ≤ s3.thresh x 0))
  let s4 : State := { s3 with stop := { s3.stop with coolSince := if cool then some (s3.stop.coolSince.getD s3.now) else none } }
  s4.noteDiode c

/-- Whether a die's diode is read now (R442): its domain is on, and in D2 it is the base's or the active Keeper's. -/
def State.diodeRead (s : State) (c : Nat) : Bool :=
  dieCodes.contains c && (match s.dst with
  | .d3 => false
  | .d2 => decide (c = 0) || decide (s.tally.active.map (fun k => k.val + 1) = some c)
  | _ => (decide (c < 0x10) || s.spineUp) && (decide (c < 0x40) || s.stackActive (c % 64)))
/-- A Keeper that tripped and is not active any more may restart once its diode reads below its warn threshold (R487). -/
def State.keeperCool (s : State) (c : Nat) : State :=
  if h : 1 ≤ c ∧ c ≤ 3 then
    let k : Fin 3 := ⟨c - 1, by omega⟩
    let x := s.keepers.get k
    if x.tripped ∧ x.role ≠ .active ∧ (s.diode c).use < s.thresh c 0 then { s with keepers := s.keepers.set k { x with tripped := false } } else s
  else s
/-- DIODE_SAMPLE (R442 to R445): a diode is read. -/
def execDiodeSample (die : Byte) (raw : Int) (check : Bool) (s : State) : Host.Outcome State Fault Refusal :=
  let c := die.toNat
  if !s.diodeRead c then .next s
  else
    let d := s.diode c
    let out := decide (raw < -400 ∨ 1500 < raw)
    let hot := decide (s.thresh c 3 < raw) && !d.broken
    let d1 := { d with raw := raw, valid := true, badRun := (if out then d.badRun + 1 else 0), checkRun := (if check then 0 else d.checkRun + 1), tripSince := (if hot then some (d.tripSince.getD s.now) else none) }
    .next ((((s.setDiode c d1).wr (thermReg (0x800 + 4 * c)) (BitVec.ofNat 32 (tempBits raw + 2 ^ 16))).judge c).keeperCool c).bootCheck

/-- THROTTLE_STEP (R446): once per millisecond a die at throttle asks one step more, and one more than 2 °C below gives one back in 10 ms. -/
def execThrottleStep (s : State) : Host.Outcome State Fault Refusal :=
  if s.dst ≠ .d0 ∧ s.dst ≠ .d1 then .next s
  else
    let step := fun (c : Nat) (d : Diode) =>
      let top := if 0x10 ≤ c ∧ c < 0x40 then 4 else 48
      if c = 1 ∨ c = 2 ∨ c = 3 then d
      else if s.thresh c 1 ≤ d.use then
        (if s.now < d.stepAt + 1000000 ∧ d.stepAt ≠ 0 then d else { d with steps := min top (d.steps + 1), stepAt := s.now })
      else if d.use < s.thresh c 1 - 20 ∧ 0 < d.steps ∧ d.stepAt + 10000000 ≤ s.now then { d with steps := d.steps - 1, stepAt := s.now }
      else d
    .next { s with diodes := s.diodes.filterMap (fun e => if step e.1 e.2 = {} then none else some (e.1, step e.1 e.2)) }

/-! ## Trips (R450 to R452) -/

/-- The line through readings a millisecond apart, latest first: its slope for a millisecond and its value now (least squares). -/
def fitLine (h : List Int) : Rat × Rat :=
  let n : Rat := (h.length : Nat)
  let ts := (List.range h.length).map (fun i => -((i : Nat) : Rat))
  let xs := h.map (fun x => (x : Rat))
  let st := ts.sum
  let sx := xs.sum
  let sxt := ((ts.zip xs).map (fun p => p.1 * p.2)).sum
  let stt := (ts.map (fun t => t * t)).sum
  let den := n * stt - st * st
  if den = 0 then (0, (xs.headD 0))
  else
    let b := (n * sxt - st * sx) / den
    (b, (sx - b * st) / n)
/-- Trip the device (R451): the base keeps the record. -/
def State.tripDevice (s : State) (c : Nat) (predicted : Bool) : State := { s with trip := some { die := BitVec.ofNat 8 c, predicted := predicted } }.powerOff
/-- PREDICTED_TRIP (R450): the fitted line of the last 50 ms reaches the trip threshold before t0 + 500 ms. -/
def execPredictedTrip (die : Byte) (s : State) : Host.Outcome State Fault Refusal :=
  let c := die.toNat
  let d := s.diode c
  let t0 := if s.stop.cause = 0 then s.now else s.stop.t0
  if !dieCodes.contains c ∨ !d.stop ∨ s.stop.stopped ∨ s.dst = .d3 ∨ t0 + 500000000 ≤ s.now ∨ d.hist.length < 2 then .next s
  else
    let l := fitLine d.hist
    let ms : Rat := ((t0 + 500000000 - s.now : Nat) : Rat) / 1000000
    if (s.thresh c 3 : Rat) ≤ l.2 + l.1 * ms ∨ (s.thresh c 3 : Rat) ≤ l.2 then .next (s.tripDevice c true) else .next s
/-- THERMAL_TRIP (R451): a raw diode above its trip threshold for 100 µs; a Keeper's own domain alone goes off, and the Tally acts. -/
def execThermalTrip (die : Byte) (s : State) : Host.Outcome State Fault Refusal :=
  let c := die.toNat
  let d := s.diode c
  match d.tripSince with
  | none => .next s
  | some t =>
    if d.broken ∨ s.dst = .d3 ∨ s.now < t + 100000 then .next s
    else if h : 1 ≤ c ∧ c ≤ 3 then
      let k : Fin 3 := ⟨c - 1, by omega⟩
      .next { s with keepers := s.keepers.set k { s.keepers.get k with tripped := true, healthy := false, inSync := false, role := (if (s.keepers.get k).role = .active ∨ (s.keepers.get k).role = .failed then (s.keepers.get k).role else .starting) } }
    else .next (s.tripDevice c false)

/-! ## The middle layer and broken sensors (R453 to R455) -/

/-- MIDDLE_MODEL_UPDATE (R453, R454): once per millisecond for each active stack. -/
def execMiddleModelUpdate (stack : Fin 40) (s : State) : Host.Outcome State Fault Refusal :=
  let n := stack.val
  let c := 0x80 + n
  let d := s.diode c
  if !s.stackOn n then .next s
  else
    let tc : Rat := ((s.diode (0x40 + n)).use : Rat) / 10
    let tb : Rat := ((s.diode 0).use : Rat) / 10
    let ps : Rat := ((s.fld (rowsReg n 0x06C) 10 10 + s.fld (rowsReg n 0x06C) 20 10 : Nat) : Rat) / 10
    let m0 : Rat := d.model.getD ((d.raw : Rat) / 10)
    let tss := tc + Config.theta n * ps + Config.beta n * (tb - tc)
    let m := m0 + (tss - m0) / 20
    let x := modelTenths (some m) 0
    let above := decide (m * 10 - (d.raw : Rat) > 60)
    let near := decide (m * 10 - (d.raw : Rat) ≤ 30 ∧ (d.raw : Rat) - m * 10 ≤ 30)
    let d1 := { d with model := some m, overSince := (if above then some (d.overSince.getD s.now) else none), nearSince := (if near then some (d.nearSince.getD s.now) else none) }
    let rises : Bool := !d.suspect && !d.broken && (match d1.overSince with | some t => decide (t + 100000000 ≤ s.now) | none => false)
    let falls : Bool := d.suspect && (match d1.nearSince with | some t => decide (t + 60000000000 ≤ s.now) | none => false)
    let sus := (d.suspect && !falls) || rises
    let s1 := (s.setDiode c { d1 with suspect := sus, suspectSince := (if rises then s.now else d.suspectSince) }).wr (thermReg (0x100 + 4 * n)) (BitVec.ofNat 32 (tempBits x + b2n sus * 2 ^ 16))
    .next ((if rises then (s1.bump (thermReg 0x054) 24 8 1).irq .therm 0 4 else s1).judge c)
/-- DIODE_BROKEN (R455, R456): recorded, and its comparator is disabled. -/
def execDiodeBroken (die : Byte) (s : State) : Host.Outcome State Fault Refusal :=
  let c := die.toNat
  let d := s.diode c
  let long := d.suspect && decide (d.suspectSince + 600000000000 ≤ s.now)
  if !dieCodes.contains c ∨ d.broken ∨ (d.badRun < 10 ∧ d.checkRun < 10 ∧ !long) then .next s
  else .next ((((s.setDiode c { d with broken := true, tripSince := none, suspect := false }).irq .therm 0 3).amendLater 0x0B false c 0).judge c)

/-! ## Calibration (R457 to R462, R469) -/

/-- CAL_DELTA in 0.1 °C. -/
def State.calDelta (s : State) : Nat := s.fld (regAddr .cal 0 0x040) 0 8
/-- REGION_RECAL (R462): in the idle interval, a compute die that has moved by more than CAL_DELTA, or after an ageing epoch. -/
def execRegionRecal (die : Fin 40) (s : State) : Host.Outcome State Fault Refusal :=
  let c := 0x40 + die.val
  let d := s.diode c
  let rs := (List.range 4).map (· + 4 * die.val)
  if !s.idleInterval ∨ !s.stackOn die ∨ (!(rs.any (fun r => (s.region r).recalDue)) ∧ (d.use - d.calTemp).natAbs ≤ s.calDelta) then .next s
  else
    let s1 := (s.setDiode c { d with calTemp := d.use }).userChanged rs
    .next ((rs.foldl (fun t r => t.modRegion r (fun x => { x with recalDue := false })) s1).bump (regAddr .cal 0 0x054) 16 16 4)
/-- CAL.CMD as written (R462, R469). -/
def State.calCmd (t : State) (v : Nat) : State := if bitOf v 0 then { t with calPass := { t.calPass with pending := true } } else t
/-- CAL_START. -/
def execCalStart (ini : Initiator) (ep : Byte) (v : Word) (s : State) : Host.Outcome State Fault Refusal :=
  .next (s.busDo ini ep .cal 0 0x048 (fun t => t.calCmd v.toNat))

/-! ## Ageing (R463 to R466) -/

/-- HOUR_COUNT (R435, R463, R497): a power-on hour is over; the counter block keeps it with its Surge seconds. -/
def execHourCount (s : State) : Host.Outcome State Fault Refusal :=
  if s.dst = .d3 then .next s
  else .next ({ s with vault := { s.vault with hours := s.vault.hours + 1, surgeSecs := (s.surgeNow / 1000000000 :: s.vault.surgeSecs).take 720 }, surgeNow := s.surgeNow % 1000000000 }).wearCheck
/-- The guard band in 5 mV steps for a slowdown in 0.01 % (R464). -/
def guardOf (slow : Nat) : Nat := min 12 (slow / 50)
/-- The frequency table top in 25 MHz for a slowdown in 0.01 % (R464). -/
def ftopOf (slow : Nat) : Nat := max 48 (80 - (slow - 600) / 50)
/-- The wear budget for a rise in 0.01 % at a number of hours (R465). -/
def budgetOf (rise hours : Nat) : Nat :=
  let rExp : Rat := max (1 / 4) ((hours : Rat) / 20000)
  let f : Rat := max 0 (min 1 (2 - (rise : Rat) / 100 / rExp))
  60 * ((36000 * f / 60).floor.toNat)
/-- Re-plan a region's margins (R464, R466): a guard band never falls and a table top never rises; a change is recorded. -/
def State.planRegion (s : State) (r slow : Nat) : State :=
  let old := (s.boundValue 0x0F r).getD (80 * 256)
  let v := max (bits old 0 8) (guardOf slow) + 256 * min (bits old 8 8) (ftopOf slow)
  let s1 := s.modRegion r (fun x => { x with slow := slow, recalDue := true })
  if v = old then s1 else s1.amend 0x0F true r v
/-- The place of the greatest, or least, of a list. -/
def argBest (better : Nat → Nat → Bool) (l : List Nat) : Nat := (List.range l.length).foldl (fun b i => if better (l.getD i 0) (l.getD b 0) then i else b) 0
/-- The guard bands of the regions, in 5 mV. -/
def State.guards (s : State) : List Nat := (List.range 160).map (fun r => bits ((s.boundValue 0x0F r).getD (80 * 256)) 0 8)
/-- The frequency table tops of the regions, in 25 MHz. -/
def State.ftops (s : State) : List Nat := (List.range 160).map (fun r => bits ((s.boundValue 0x0F r).getD (80 * 256)) 8 8)
/-- The AGE registers of the monitors' figures, and the interrupts, after a re-plan (R470). -/
def State.noteAge (s : State) (m : AgeFigures) : State :=
  let gs := s.guards
  let fs := s.ftops
  let e := argBest (fun a b => decide (b < a)) m.rise
  let h := argBest (fun a b => decide (b < a)) (m.heater.map Int.natAbs)
  let a := fun o => regAddr .age 0 o
  let s1 := s.wr (a 0x050) (BitVec.ofNat 32 (min 65535 (m.slow.foldl max 0)))
  let s2 := (s1.wr (a 0x054) (BitVec.ofNat 32 (min 65535 (m.rise.getD e 0) + e * 2 ^ 16))).wr (a 0x058) (BitVec.ofNat 32 (tempBits (m.heater.getD h 0) + h * 2 ^ 16))
  let s3 := if gs.any (fun x => decide (12 ≤ x)) then s2.irq .age 0 1 else s2
  if fs.any (fun x => decide (x < 80)) then s3.irq .age 0 2 else s3
/-- AGEING_EPOCH (R462 to R466): in the idle interval after each 1,000 hours the margins are re-planned and every item is due for calibration. -/
def execAgeingEpoch (m : AgeFigures) (s : State) : Host.Outcome State Fault Refusal :=
  if !s.idleInterval ∨ s.vault.hours < 1000 * (s.epochs + 1) then .next s
  else
    let s1 : State := { s.eccMarks.coresAnew with epochs := s.vault.hours / 1000 }
    let s2 := (List.range 160).foldl (fun t r => t.planRegion r (m.slow.getD r 0)) s1
    let b := budgetOf (m.rise.foldl max 0) s.vault.hours
    let s3 := ((s2.amend 0x11 false 0 b).put (pwrReg 0x054) (s2.fld (pwrReg 0x054) 0 1 + 256 * b)).wearCheck
    let s4 := (List.range 59).foldl (fun t n => if m.heater.getD n 0 = 0 then t else t.amend 0x10 true n ((m.heater.getD n 0 % 2 ^ 64).toNat)) s3
    let s5 : State := { s4 with calPass := { s4.calPass with pending := true }
                                stks := smapv {} (fun (k : Stack) => { k with ceHist := [], busHist := [] }) s4.stks
                                chans := smapv {} (fun (c : Chan) => { c with ueUnits := [], retrainDue := (if c.mode = ChanMode.service then some (c.retrainDue.getD s.now) else c.retrainDue) }) s4.chans }
    let s6 := (s5.noteAge m).irq .age 0 0
    .next (if s6.wearLeft = 0 then s6.surgeEnd 2 else s6)

end Sys2Proof.Machine
end

