-- ==== Sys2Proof/Machine/Verify.lean ====
section
/-!
DEFINITION. Sys2Proof/Machine/Verify.lean: the checks of a signed object (R474 to R477): container, size, digest, signatures, scope, version and
rollback, with the codes of R476.
-/
namespace Sys2Proof.Machine

/-- The header of an object, its 128 bytes. -/
def objHeader (o : List Word) : List Byte := wordBytes (o.take 32)
/-- The bytes of sections that an object says it has. -/
def objLen (o : List Word) : Nat := objField o 12 4
/-- The words of a signature block: 64 bytes, 3,309 bytes and 3 zero bytes (R474). -/
def sigWords : Nat := 844
/-- The bytes of an object's signature block. -/
def objSig (o : List Word) : List Byte := wordBytes ((o.drop (32 + objLen o / 4)).take sigWords)
/-- Whether the kind data and the reserved bytes of a header are as R474 has them. -/
def kindDataOk (kind : Nat) (o : List Word) : Bool :=
  (match kind with
   | 1 => decide (objField o 24 1 ≤ 63) && decide (objField o 25 1 ≤ 1) && decide (objField o 26 6 = 0)
   | 3 => decide (objField o 26 6 = 0)
   | _ => decide (objField o 24 8 = 0)) && decide (objField o 96 32 = 0)
/-- FORMAT (R476): magic, format, kind, lengths, section order and padding. -/
def formatOk (kind : Nat) (o : List Word) : Bool :=
  decide (32 ≤ o.length) && decide (objField o 0 4 = 0x37574541) && decide (objField o 4 2 = 1) && decide (objField o 6 2 = kind) && kindDataOk kind o &&
  decide (objLen o % 8 = 0) && decide (o.length = 32 + objLen o / 4 + sigWords) && (objSections o).isSome && decide ((objSig o).drop 3373 = [0, 0, 0])
/-- The most section bytes of a kind (R475). -/
def sizeLimit : Nat → Nat
  | 1 => 12 * 2 ^ 20
  | 2 => 256 * 2 ^ 10
  | 3 => 8 * 2 ^ 20
  | _ => 4 * 2 ^ 10
/-- Whether the digest agrees (R474). -/
def digestOk (o : List Word) : Bool := decide (sha512 (wordBytes (objSectionWords o)) = slice (objHeader o) 32 64)
/-- Whether both signatures verify under a pair of keys, Ed25519 and ML-DSA-65 (R475). -/
def signedBy (o : List Word) (keys : List Byte × List Byte) : Bool :=
  Config.edVerify keys.1 (objHeader o) ((objSig o).take 64) && Config.mlVerify keys.2 (objHeader o) (slice (objSig o) 64 3309)
/-- A pair of public keys as they stand in a section: 32 bytes, then 1,952 bytes. -/
def keyPair (b : List Byte) : List Byte × List Byte := (b.take 32, slice b 32 1952)
/-- This device's serial number, that of its base (R474, R508). -/
def State.serial (s : State) : Nat := (s.die 0).serial.toNat
/-- Whether the signature of an object of a kind is good (R475, R492): an unenrolled device takes an enrolment with zero signatures. -/
def State.signatureOk (s : State) (kind : Nat) (o : List Word) : Bool :=
  match kind with
  | 1 => signedBy o (Config.imageKeys (objField o 25 1))
  | 3 =>
    let b := wordBytes (secBody s.vault.folio 0x09)
    let n := match objSection s.vault.folio 0x09 with | some x => x.len / 1984 | none => 0
    (List.range n).any (fun i => signedBy o (keyPair (slice b (1984 * i) 1984)))
  | 4 => if s.vault.enrolled.isEmpty then (objSig o).all (fun x => decide (x = 0)) else signedBy o (keyPair (wordBytes s.vault.enrolKeys))
  | _ => signedBy o (keyPair (wordBytes s.vault.enrolKeys))
/-- The high-water mark of a kind (R476, R495, R504). -/
def State.highWater (s : State) (kind : Nat) : Option Nat := if kind = 2 then some s.vault.folioHwm else if kind = 3 then some s.vault.manifestHwm else none
/-- The first check of an object that fails, by its code of R476; 0 where none does, the content of its sections aside. -/
def State.objFault (s : State) (kind : Nat) (o : List Word) : Nat :=
  let scope := objField o 16 8
  if !formatOk kind o then 1
  else if sizeLimit kind < objLen o then 6
  else if (kind = 2 ∨ kind = 3) ∧ s.vault.enrolled.isEmpty then 10
  else if !digestOk o then 3
  else if !s.signatureOk kind o then 2
  else if scope ≠ 0 ∧ (kind = 1 ∨ scope ≠ s.serial) then 5
  else if (match s.highWater kind with | some h => decide (objVersion o ≤ h) | none => false) then 4
  else if kind = 1 ∧ (objField o 24 1 < s.vault.fusedMin ∨ (s.vault.revoked0 ∧ objField o 25 1 = 0)) then 11
  else if kind = 4 ∧ 4 ≤ s.vault.enrolled.length then 12
  else 0
/-- Whether a ROM accepts an image (R477). -/
def State.imageOk (s : State) (o : List Word) : Bool := decide (s.objFault 1 o = 0)

end Sys2Proof.Machine
end

