-- ==== Sys2Proof/Machine/Keepers.lean ====
section
/-!
DEFINITION. Sys2Proof/Machine/Keepers.lean: Ovum, roles and Recovery (R471, R477, R478, R480, R481), the Tally and the Keepers (R483 to R491).
-/
namespace Sys2Proof.Machine

/-- A Keeper. -/
def State.keeper (s : State) (k : Nat) : Keeper := s.keepers.toList.getD k {}
/-- Update a Keeper. -/
def State.modKeeper (s : State) (k : Nat) (f : Keeper → Keeper) : State := { s with keepers := s.keepers.setIfInBounds k (f (s.keeper k)) }
/-- A KEEPER register. -/
def keeperReg (k off : Nat) : Nat := regAddr .keeper k off
/-- A TALLY register. -/
def tallyReg (off : Nat) : Nat := regAddr .tally 0 off
/-- A Keeper takes a role (R483, R510). -/
def State.setRole (s : State) (k : Nat) (r : Role) : State :=
  if (s.keeper k).role = r then s else (s.modKeeper k (fun x => { x with role := r })).irq .keeper k 0
/-- A Keeper fails (R483, R491): its domain is off, and an amendment records it. -/
def State.keeperFail (s : State) (k : Nat) : State := (s.setRole k .failed).amend 0x0C false k 0

/-! ## Ovum (R471, R477, R478) -/

/-- RESET_RELEASE (R423, R471 t0, R564 t3, R566): the Keeper ROMs start; in D3 the module powers up first. -/
def execResetRelease (s : State) : Host.Outcome State Fault Refusal :=
  if !s.rstLow then .next s
  else if s.dst = .d3 then .next { s with rstLow := false, power := { s.power with rising := true } }
  else .next s.ovumStart
/-- IMAGE_VERIFY (R477): a Keeper's ROM reads the image, verifies it and records its measurement. -/
def execImageVerify (k : Fin 3) (s : State) : Host.Outcome State Fault Refusal :=
  let x := s.keepers.get k
  if s.stage ≠ .ovum ∨ s.rstLow ∨ s.dst = .d3 ∨ x.role ≠ .starting ∨ x.verdict.isSome then .next s
  else
    let o := s.vault.image
    let ok := s.imageOk o
    let s1 := s.modKeeper k (fun y => { y with verdict := some ok, measured := beNat (sha512 (objHeader o)) })
    .next (if ok then { s1 with vault := { s1.vault with running := o } } else s1)
/-- The roles that verification results give (R478): the lowest Keeper that accepted the image is active, and the rest that did are standbys. -/
def State.assignRoles (s : State) (a : Fin 3) : State :=
  let s1 : State := { s with stage := .larva, bootWait := 0, tally := { active := some a, epoch := 1, window := s.now / 100000, round := s.now / 1000000 } }
  let s2 := (List.range 3).foldl (fun t k =>
    if (t.keeper k).verdict = some true then
      (t.setRole k (if k = a.val then .active else .standby)).modKeeper k (fun x => { x with inSync := true, healthy := true, lastHealth := t.now, since := t.now })
    else if (t.keeper k).role = .failed then t else t.keeperFail k) s1
  s2.vrefCheck.bootCheck
/-- Recovery begins (R478, R480, R512). -/
def State.enterRecovery (s : State) : State :=
  let s1 := { s with stage := .recovery, recov := {} }.irq .folio 0 6
  if s1.vault.folio.isEmpty then s1 else s1.netRegs
/-- ROLE_ASSIGN (R478): once every Keeper has a result, or after 2 s. -/
def execRoleAssign (s : State) : Host.Outcome State Fault Refusal :=
  let ready := (List.range 3).all (fun k => decide ((s.keeper k).role = .failed) || (s.keeper k).verdict.isSome || decide ((s.keeper k).since + 2000000000 ≤ s.now))
  if s.stage ≠ .ovum ∨ s.rstLow ∨ s.dst = .d3 ∨ !ready then .next s
  else
    match (List.finRange 3).find? (fun k => decide ((s.keepers.get k).verdict = some true)) with
    | some a => .next (s.assignRoles a)
    | none => .next s.enterRecovery

/-! ## Recovery (R480) and the image (R481) -/

/-- The first offset that a Recovery staging lacks. -/
def Recov.missing (r : Recov) : Nat := 1024 * ((List.range (r.chunks.length + 1)).find? (fun i => !shas r.chunks i)).getD 0
/-- Answer with an RSTAT (R480): no key, no tag. -/
def State.sendRstat (s : State) (to_ : Peer) : State :=
  let r := s.recov
  let b := beBytes 1 r.state ++ beBytes 1 r.code ++ [0, 0] ++ beBytes 4 r.missing ++ beBytes 4 r.written
  s.emit (.datagram to_ 7411 ((message [] 34 0 0 0 0 b).take (32 + b.length) ++ List.replicate 16 0))
/-- Whether a datagram is a Recovery message of a type (R361, R480). -/
def State.recovMsg (s : State) (f : Frame) (ty : Nat) (m : List Byte) : Bool :=
  let h := hdrOf m
  decide (s.stage = .recovery) && s.frameOk f && decide (m.length = 48 + h.body) && decide (h.body ≤ 1088) && decide (beNat (slice m 0 3) = 0xAE7701) &&
  decide (beNat (slice m 11 5) = 0) && decide (h.flags = 0) && decide (h.ty = ty) && decide (h.job = 0) && decide (h.key = 0)
/-- RCHUNK (R480): a chunk of the image is staged at its offset. -/
def execRchunk (f : Frame) (msg : List Byte) (s : State) : Host.Outcome State Fault Refusal :=
  let b := bodyOf msg
  let off := beNat (slice b 0 8)
  let d := b.drop 8
  if !s.recovMsg f 32 msg ∨ b.length < 9 ∨ 1024 < d.length ∨ off % 1024 ≠ 0 ∨ 16 * 2 ^ 20 ≤ off ∨ s.recov.state = 3 then .next s
  else .next { s with recov := { s.recov with chunks := sput s.recov.chunks (off / 1024) d, state := 1, code := 0 } }
/-- The image words of some bytes. -/
def wordsOf (b : List Byte) : List Word := (List.range (b.length / 4)).map (fun i => BitVec.ofNat 32 (leNat (slice b (4 * i) 4)))
/-- RCOMMIT (R480): the staged image is verified, and written where it passes. -/
def execRcommit (f : Frame) (msg : List Byte) (s : State) : Host.Outcome State Fault Refusal :=
  let b := bodyOf msg
  let n := beNat (slice b 0 4)
  if !s.recovMsg f 33 msg ∨ b.length ≠ 4 then .next s
  else if s.recov.state = 3 then .next (s.sendRstat f.peer)
  else
    let data := (s.recov.chunks.flatMap Prod.snd).take n
    if s.recov.missing < n - n % 1024 ∨ data.length ≠ n then .next (s.sendRstat f.peer)
    else
      let o := wordsOf data
      let code := if n % 4 ≠ 0 then 1 else s.objFault 1 o
      let s1 : State := if code = 0 then { s with recov := { s.recov with state := 3, code := 0, image := o } } else { s with recov := { s.recov with state := 4, code := code } }
      .next (s1.sendRstat f.peer)
/-- RSTAT (R480): a query is answered. -/
def execRstat (f : Frame) (msg : List Byte) (s : State) : Host.Outcome State Fault Refusal :=
  if s.recovMsg f 34 msg ∧ (bodyOf msg).isEmpty then .next (s.sendRstat f.peer) else .next s
/-- RECOVERY_WRITE_COMPLETE (R480): the image is in the flash, and the device starts from Ovum. -/
def execRecoveryWriteComplete (s : State) : Host.Outcome State Fault Refusal :=
  if s.stage ≠ .recovery ∨ s.recov.state ≠ 3 then .next s
  else .next { s with vault := { s.vault with image := s.recov.image, imageDue := [] } }.toOvum
/-- IMAGE_FLASH_WRITE (R481): a verified image is in the flash, to take effect at the next reset. -/
def execImageFlashWrite (s : State) : Host.Outcome State Fault Refusal :=
  if s.vault.imageDue.isEmpty ∨ s.dst = .d3 then .next s
  else .next { s with vault := { s.vault with image := s.vault.imageDue, imageDue := [] } }

/-! ## The Tally (R484 to R490) -/

/-- Whether the Tally runs (R419, R509): roles are assigned, and the device is in D0 or D1. -/
def State.tallyRuns (s : State) : Bool := s.tally.active.isSome && (decide (s.dst = .d0) || decide (s.dst = .d1))
/-- Whether a Keeper votes (R485): a standby or held one that is healthy and in sync. -/
def Keeper.votes (x : Keeper) : Bool := (decide (x.role = .standby) || decide (x.role = .held)) && x.healthy && x.inSync && !x.tripped
/-- HEARTBEAT (R484, R487 t1): of the active Keeper, with the epoch in force, or of a successor with the next one. -/
def execHeartbeat (k : Fin 3) (ep : Byte) (window : Word) (s : State) : Host.Outcome State Fault Refusal :=
  let t := s.tally
  if !s.tallyRuns ∨ window.toNat ≠ s.now / 100000 % 2 ^ 32 ∨ t.active ≠ some k then .next s
  else
    match t.demotion with
    | some d => if ep = nextEpoch t.epoch ∧ d.new = k then .next { s with tally := { t with beat := true, demotion := some { d with answered := true } } } else .next s
    | none => if ep = t.epoch then .next { s with tally := { t with beat := true } } else .next s
/-- HEARTBEAT_WINDOW_END (R484): a window without a heartbeat is missed. -/
def execHeartbeatWindowEnd (s : State) : Host.Outcome State Fault Refusal :=
  let t := s.tally
  if !s.tallyRuns ∨ s.now / 100000 ≤ t.window then .next s
  else
    let s1 : State := { s with tally := { t with window := s.now / 100000, beat := false, missed := (if t.beat then 0 else t.missed + 1) } }
    .next (if t.beat then s1 else s1.bump (tallyReg 0x058) 0 16 1)
/-- DIGEST (R485): within 500 µs of its round's end. -/
def execDigest (k : Fin 3) (round : Word) (d : Dword) (s : State) : Host.Outcome State Fault Refusal :=
  let r := s.now / 1000000
  if !s.tallyRuns ∨ r = 0 ∨ round.toNat ≠ (r - 1) % 2 ^ 32 ∨ 500000 < s.now % 1000000 ∨ r ≤ s.tally.round then .next s
  else .next (s.modKeeper k (fun x => { x with digest := some (r - 1, d) }))
/-- The digest that a Keeper submitted for a round. -/
def Keeper.digestOf (x : Keeper) (r : Nat) : Option Dword := match x.digest with | some (q, d) => if q = r then some d else none | none => none
/-- A standby that dissents (R485): the fourth time within 1 s it is unhealthy and restarts. -/
def State.dissent (s : State) (v : Nat) : State :=
  let x := s.keeper v
  let ds := x.dissents.filter (fun t => decide (s.now < t + 1000000000)) ++ [s.now]
  let s1 := ((s.modKeeper v (fun y => { y with dissents := ds })).bump (tallyReg 0x060) (8 * v) 8 1).irq .tally 0 3
  if 4 ≤ ds.length then ((s1.modKeeper v (fun y => { y with healthy := false, inSync := false, after := y.role, verdict := none, dissents := [] })).setRole v .starting).irq .keeper v 2 else s1
/-- DECISION_ROUND_COMPARE (R485): once the 500 µs after a round are over. -/
def execDecisionRoundCompare (s : State) : Host.Outcome State Fault Refusal :=
  let r := s.now / 1000000
  match s.tally.active with
  | none => .next s
  | some a =>
    if !s.tallyRuns ∨ r ≤ s.tally.round ∨ s.now % 1000000 < 500000 then .next s
    else
      let vs := (List.range 3).filter (fun v => decide (v ≠ a.val) && (s.keeper v).votes)
      let dg := fun v => (s.keeper v).digestOf (r - 1)
      let s1 := ({ s with tally := { s.tally with round := r }, keepers := s.keepers.map (fun (x : Keeper) => { x with digest := none }) }).bump (tallyReg 0x05C) 0 16 1
      match vs with
      | [v, w] =>
        if (dg v).isSome ∧ dg v = dg w ∧ dg a.val ≠ dg v then
          .next ((({ s1 with tally := { s1.tally with outRow := s1.tally.outRow + 1 } }).bump (tallyReg 0x05C) 16 16 1).irq .tally 0 1)
        else
          let s2 : State := { s1 with tally := { s1.tally with outRow := 0 } }
          let odd := fun x y => (dg x).isSome && (dg y).isSome && decide (dg y = dg a.val) && decide (dg x ≠ dg y)
          .next (if odd v w then s2.dissent v else if odd w v then s2.dissent w else s2)
      | _ => .next { s1 with tally := { s1.tally with outRow := 0 } }
/-- HEALTH (R486, R491): once per second. -/
def execHealth (k : Fin 3) (word : Dword) (s : State) : Host.Outcome State Fault Refusal :=
  let x := s.keepers.get k
  if !s.tallyRuns ∨ x.role = .failed ∨ x.role = .starting then .next s
  else .next (s.modKeeper k (fun y => { y with lastHealth := s.now, word := word, healthy := true }))
/-- HEALTH_TIMEOUT (R491): 3 s without HEALTH. -/
def execHealthTimeout (k : Fin 3) (s : State) : Host.Outcome State Fault Refusal :=
  let x := s.keepers.get k
  if !s.tallyRuns ∨ (x.role ≠ .standby ∧ x.role ≠ .held) ∨ !x.healthy ∨ s.now < x.lastHealth + 3000000000 then .next s
  else .next ((s.modKeeper k (fun y => { y with healthy := false })).irq .keeper k 2)

/-- Why the active Keeper is to be demoted (R487): 4 its trip, 1 missed windows, 2 out-votes, 3 a promotion that is due; 0 it is not. -/
def State.demoteCause (s : State) : Nat :=
  match s.tally.active with
  | none => 0
  | some a =>
    if (s.keepers.get a).tripped then 4
    else if 3 ≤ s.tally.missed then 1
    else if 2 ≤ s.tally.outRow then 2
    else if s.tally.promote.isSome ∧ (s.stage ≠ .imago ∨ s.jobPhase ≠ 3 ∨ s.serving.phase = 2) then 3
    else 0
/-- The successor (R489, R490): the Keeper promoted, or the voting standby of lowest index. -/
def State.successor (s : State) (cause : Nat) : Option (Fin 3) :=
  if cause = 3 then
    (match s.tally.promote with
     | some k => if (s.keepers.get k).role = .standby ∨ (s.keepers.get k).role = .held then some k else none
     | none => none)
  else (List.finRange 3).find? (fun k => decide ((s.keepers.get k).role = .standby) && (s.keepers.get k).votes)
/-- DEMOTION (R487 t0, R489, R509): ROLE to the successor and HOLD to the old active; with none eligible, a Tally reset. -/
def execDemotion (s : State) : Host.Outcome State Fault Refusal :=
  let c := s.demoteCause
  match s.tally.active with
  | none => .next s
  | some a =>
    if c = 0 ∨ !s.tallyRuns ∨ s.tally.demotion.isSome then .next s
    else
      match s.successor c with
      | none => if c = 3 then .next { s with tally := { s.tally with promote := none } } else .next (s.irq .tally 0 2).toOvum
      | some k =>
        let e := nextEpoch s.tally.epoch
        let s1 : State := { s with tally := { s.tally with active := some k, demotion := some { t0 := s.now, old := a, new := k, cause := c }, missed := 0, outRow := 0, beat := false, promote := none }, staging := {} }
        let s2 := ((s1.setRole k .active).setRole a .standby).modKeeper a (fun x => { x with inSync := false })
        let s3 := (((s2.wr (tallyReg 0x04C) (BitVec.ofNat 32 (a.val + k.val * 4 + c * 16 + e.toNat * 256 + 2 ^ 31))).wr64 (tallyReg 0x050) s.timebase).bump (tallyReg 0x058) 16 16 1).irq .tally 0 0
        .next ((s3.emit (.tally 4 k e 0 1)).emit (.tally 5 a e 0 0))
/-- The bump (R487 t2): the old epoch is refused from now on, and the old active restarts. -/
def State.epochBump (s : State) (d : Demotion) : State :=
  let s1 : State := { s with tally := { s.tally with epoch := nextEpoch s.tally.epoch, demotion := none, rewrite := some d.new } }
  ((s1.setRole d.old .starting).modKeeper d.old (fun x => { x with verdict := none, inSync := false, healthy := false, after := (if d.cause = 3 then .standby else .held) }))
/-- ROLE (R487 t1): the successor answers with a HEARTBEAT that carries the new epoch. -/
def execRole (k : Fin 3) (s : State) : Host.Outcome State Fault Refusal :=
  match s.tally.demotion with
  | none => .next s
  | some d =>
    if d.new ≠ k ∨ d.answered then .next s
    else .next ({ s with tally := { s.tally with demotion := some { d with answered := true }, beat := true } }.emit (.tally 1 k (nextEpoch s.tally.epoch) (s.now / 100000) 0))
/-- HOLD (R487 t2): the old active acknowledges it. -/
def execHold (k : Fin 3) (s : State) : Host.Outcome State Fault Refusal :=
  match s.tally.demotion with
  | none => .next s
  | some d => if d.old = k ∧ !(s.keepers.get k).tripped then .next (s.epochBump d) else .next s
/-- EPOCH_BUMP (R487 t2): at t0 + 20 µs without an acknowledgement. -/
def execEpochBump (s : State) : Host.Outcome State Fault Refusal :=
  match s.tally.demotion with
  | none => .next s
  | some d => if d.t0 + 20000 ≤ s.now then .next (s.epochBump d) else .next s
/-- SUCCESSOR_REWRITE (R388, R487 t3, R532): it goes on from the last copy; TOKENS of the last commit go out again under numbers 2^20 higher, and a restart in
progress runs again from t1 under its number. -/
def execSuccessorRewrite (s : State) : Host.Outcome State Fault Refusal :=
  if s.tally.rewrite.isNone then .next s
  else
    let c := s.serving.copy
    let s1 : State := { s with tally := { s.tally with rewrite := none } }
    if s.jobPhase = 0 then .next s1
    else
      let s2 : State := { s1 with serving := { s1.serving with reqs := c.reqs, queue := c.queue, tx := c.tx.map (fun e => (e.1, e.2 + 2 ^ 20)), sent := [] } }
      let s3 := c.sent.foldl (fun t m => t.sendTokens m.1.toNat m.2 false) s2
      .next (if s3.restart.busy then s3.restartRun else s3)
/-- PROMOTE as written (R490). -/
def State.setPromote (s : State) (v : Nat) : State :=
  let k := v % 4
  let r := (s.keeper k).role
  if h : k < 3 then
    if bits v 8 8 = 0xA5 ∧ (r = .standby ∨ r = .held) ∧ s.tally.demotion.isNone then { s with tally := { s.tally with promote := some ⟨k, h⟩ } } else s.errCount .tally 0 2
  else s.errCount .tally 0 2
/-- PROMOTE. -/
def execPromote (ini : Initiator) (ep : Byte) (v : Word) (s : State) : Host.Outcome State Fault Refusal :=
  .next (s.busDo ini ep .tally 0 0x048 (fun t => t.setPromote v.toNat))

/-! ## Standbys (R487, R491) -/

/-- KEEPER_SELF_TEST (R491): every 10 s; a failure restarts the Keeper, and the third in a row makes it failed. -/
def execKeeperSelfTest (k : Fin 3) (pass : Bool) (s : State) : Host.Outcome State Fault Refusal :=
  let x := s.keepers.get k
  if !s.tallyRuns ∨ (x.role ≠ .standby ∧ x.role ≠ .held) ∨ (x.lastTest ≠ 0 ∧ s.now < x.lastTest + 10000000000) then .next s
  else
    let s1 := ((s.bump (keeperReg k 0x054) 0 16 1).bump (keeperReg k 0x048) 16 16 1).modKeeper k (fun y => { y with passed := pass, lastTest := s.now, testFails := (if pass then 0 else y.testFails + 1) })
    if pass then .next s1
    else
      let s2 := ((s1.bump (keeperReg k 0x054) 16 16 1).irq .keeper k 1).irq .keeper k 2
      if 2 ≤ x.testFails then .next (s2.keeperFail k)
      else .next ((s2.modKeeper k (fun y => { y with healthy := false, inSync := false, after := x.role, verdict := none })).setRole k .starting)
/-- KEEPER_RESTART (R481, R487, R491): its ROM verifies the copy of the running image; with a job it takes its role after the next copy. -/
def execKeeperRestart (k : Fin 3) (good : Bool) (s : State) : Host.Outcome State Fault Refusal :=
  let x := s.keepers.get k
  if !s.tallyRuns ∨ x.role ≠ .starting ∨ x.tripped ∨ x.verdict = some true then .next s
  else if good ∧ s.imageOk s.vault.running then
    let s1 := s.modKeeper k (fun y => { y with verdict := some true, since := s.now, lastHealth := s.now, dissents := [] })
    if s.stage = .imago ∧ s.jobPhase = 3 then .next s1
    else .next ((s1.modKeeper k (fun y => { y with inSync := true, healthy := true })).setRole k x.after)
  else
    let s1 := s.modKeeper k (fun y => { y with restartFails := y.restartFails + 1 })
    .next (if 2 ≤ x.restartFails then s1.keeperFail k else s1)

end Sys2Proof.Machine
end

