-- ==== Sys2Proof/Machine/Readout.lean ====
section
/-!
DEFINITION. Sys2Proof/Machine/Readout.lean: what each register reads as (R78, R135, R164 to R166, R198, R199, R238, R239, R279, R325 to R327, R356, R357,
R393, R417, R418, R441, R468 to R470, R510 to R512, R535, R548). A view answers for the registers that show what a unit holds, and none for those
that are kept as they were written.
-/
namespace Sys2Proof.Machine

/-- The half of a 64-bit pair that an offset names (R13). -/
def halfAt (base off v : Nat) : Option Nat := if off = base then some (v % 2 ^ 32) else if off = base + 4 then some (v / 2 ^ 32 % 2 ^ 32) else none
/-- The first answer. -/
def orElse (a b : Option Nat) : Option Nat := match a with | some x => some x | none => b
/-- The index of an offset in an array of `n` registers `stride` bytes apart, and the offset within the entry. -/
def arrayAt (base stride n off : Nat) : Option (Nat × Nat) :=
  if base ≤ off ∧ off < base + stride * n then some ((off - base) / stride, (off - base) % stride) else none
/-- A count held to a field's width. -/
def capped (w n : Nat) : Nat := min (2 ^ w - 1) n

/-! ## Codes -/

/-- CTX_STAT (R78). -/
def ctxCode : CtxMode → Nat
  | .idle => 0
  | .run => 1
  | .drainAbort => 2
  | .drainPark => 2
  | .parked => 3
  | .halted => 4
/-- MCHAN.STATE (R165). -/
def chanCode : ChanMode → Nat
  | .off => 0
  | .training => 1
  | .service => 2
  | .selfRefresh => 3
  | .retrain => 4
  | .failed => 5
/-- LANE_STAT (R238). -/
def laneCode : LaneState → Nat
  | .dark => 0
  | .locking => 1
  | .training => 2
  | .standby => 3
  | .active => 4
  | .shadow => 5
  | .cal => 6
  | .failed => 7
/-- GSTAT (R238). -/
def groupCode : GroupState → Nat
  | .off => 0
  | .training => 1
  | .service => 2
  | .blocked => 3
  | .asleep => 4
  | .waking => 5
  | .faulted => 6
  | .retired => 7
/-- LSM STATE (R279). -/
def lsmCode : LsmMode → Nat
  | .absent => 0
  | .ident => 1
  | .probe => 2
  | .lit => 3
  | .shut => 4
  | .fault => 5
/-- LINE_STAT (R279). -/
def lineCode : LineMode → Nat
  | .normal => 0
  | .warning => 1
  | .standbyLit => 2
  | .swapping => 3
  | .noStandby => 4
  | .spent => 5
/-- The state of a port direction (R293). -/
def portCode : PortMode → Nat
  | .off => 0
  | .training => 1
  | .service => 2
  | .asleep => 3
  | .waking => 4
  | .retrain => 5
  | .paused => 6
  | .down => 7
  | .out => 8
/-- The device state (R422). -/
def dstCode : DevState → Nat
  | .d0 => 0
  | .d1 => 1
  | .d2 => 2
  | .d3 => 3
/-- The stage (R512). -/
def stageCode : Stage → Nat
  | .ovum => 0
  | .larva => 1
  | .pupa => 2
  | .imago => 3
  | .recovery => 4
/-- The role of a Keeper (R483). -/
def roleCode : Role → Nat
  | .standby => 0
  | .active => 1
  | .held => 2
  | .failed => 3
  | .starting => 4

/-! ## Counts that several views and reports share -/

/-- Active stacks (R421). -/
def State.activeCount (s : State) : Nat := ((List.range 40).filter s.stackActive).length
/-- Stacks in service (R128). -/
def State.stacksIn (s : State) : Nat := ((List.range 40).filter (fun n => !(s.stk n).retired)).length
/-- Cores in service (R33). -/
def State.coresIn (s : State) : Nat := ((List.range 40).map (fun n => if s.stackActive n then (s.enabledCores n).length else 0)).sum
/-- Stacks in half-row mode. -/
def State.halfStacks (s : State) : Nat := ((List.range 40).filter (fun n => (s.stk n).half)).length
/-- Groups in service. -/
def State.groupsIn (s : State) : Nat := ((List.range 1158).filter (fun g => (s.grp g).inService)).length
/-- Ports in service. -/
def State.portsIn (s : State) : Nat := ((List.range 6).filter s.portIn).length
/-- Keepers not failed. -/
def State.keepersIn (s : State) : Nat := ((List.range 3).filter (fun k => decide ((s.keeper k).role ≠ .failed))).length
/-- LSMs lit. -/
def State.lsmsLit (s : State) : Nat := ((List.range 7).filter (fun k => decide ((s.lsm k).mode = .lit))).length
/-- Lines of a fibre at or below −1.5 dB. -/
def State.fadedLines (s : State) (f : Nat) : Nat := ((List.range (fibreLines f)).filter (fun l => decide ((s.line f l).loss ≤ -150))).length
/-- The position code of the active Keeper. -/
def State.activeCode (s : State) : Nat := match s.tally.active with | some k => 1 + k.val | none => 0
/-- Dies whose diode is read (R442). -/
def State.readDies (s : State) : List Nat := dieCodes.filter (fun c => (s.diode c).valid)
/-- The margin of a die to its warn threshold. -/
def State.margin (s : State) (c : Nat) : Int := s.thresh c 0 - (s.diode c).use
/-- The die nearest its warn threshold. -/
def State.nearest (s : State) : Option Nat := (minBy (fun (e : Nat × Nat) => e.2) (s.readDies.map (fun c => (c, (s.margin c + 65536).toNat)))).map Prod.fst
/-- Dies for which something holds. -/
def State.countDies (s : State) (p : Diode → Bool) : Nat := (dieCodes.filter (fun c => p (s.diode c))).length

/-! ## The header (R535, R540) -/

/-- PAGE_STAT.powered (R535, R540). -/
def State.powered (s : State) (t : PageType) (i : Nat) : Bool := s.holderOn t i
/-- PAGE_IRQ_STAT AND PAGE_IRQ_EN (R538), zero where the holder is off (R540). -/
def State.irqValue (s : State) (t : PageType) (i : Nat) : Nat := if s.powered t i then s.rdn (hdr t i 0x010) &&& s.rdn (hdr t i 0x014) else 0
/-- PAGE_STAT.reset_busy (R537). -/
def State.resetBusy (s : State) (t : PageType) (i : Nat) : Bool :=
  decide (t = .core) && bitOf (s.rdn (hdr t i 0x00C)) 1 && !(decide ((s.ctx i .d).mode = .idle) && decide ((s.ctx i .p).mode = .idle))
/-- A header register. -/
def State.headerView (s : State) (t : PageType) (i off : Nat) : Nat :=
  let p := pageInfo t
  let c := s.rdn (hdr t i 0x008)
  if off = 0x000 then p.code * 2 ^ 16 + i % 256 * 256 + 1
  else if off = 0x004 then b2n p.resetAction * 2 + b2n p.hasRwl * 4 + p.irqBits * 8 + p.holder * 256 + p.top / 16 * 2 ^ 16
  else if off = 0x008 then 1 + bits c 2 2 * 4
  else if off = 0x00C then 1 + b2n (s.resetBusy t i) * 2 + bits c 2 1 * 4 + b2n (s.powered t i) * 8 + b2n (decide (s.irqValue t i ≠ 0)) * 16
  else if off = 0x010 ∨ off = 0x014 then (if s.powered t i then s.rdn (hdr t i off) else 0)
  else if off = 0x01C then s.rdn (hdr t i off)
  else if off = 0x020 then objVersion s.vault.folio
  else 0

/-! ## Compute dies -/

/-- EXC_D and EXC_P (R78). -/
def excWord (e : ExcRec) : Nat := e.code.toNat + e.pc.toNat * 2 ^ 8 + e.slot.toNat * 2 ^ 20 + b2n e.multiple * 2 ^ 23
/-- A CORE register (R78). -/
def State.coreView (s : State) (i off : Nat) : Option Nat :=
  let k := s.core i
  if off = 0x040 then some (i + (s.physCore i).getD 63 * 2 ^ 16 + i / 50 * 2 ^ 24)
  else if off = 0x04C then some (ctxCode k.d.mode + ctxCode k.p.mode * 16)
  else if off = 0x054 then some (k.d.pcShown + k.p.pcShown * 2 ^ 16)
  else if off = 0x058 then some (excWord k.d.exc)
  else if off = 0x05C then some (excWord k.p.exc)
  else
    let pick := fun (base n : Nat) (v : Nat → Nat) => match arrayAt base 8 n off with
      | some (j, o) => halfAt 0 o (v j)
      | none => none
    orElse (pick 0x100 32 (fun j => (k.d.ctr.toList.getD j 0).toNat)) (orElse (pick 0x200 32 (fun j => (k.p.ctr.toList.getD j 0).toNat))
      (orElse (pick 0x300 16 (fun j => (k.d.g.toList.getD j 0).toNat)) (pick 0x380 16 (fun j => (k.p.g.toList.getD j 0).toNat))))
/-- A CDIE register (R548). -/
def State.cdieView (s : State) (n off : Nat) : Option Nat :=
  let d := s.die (0x40 + n)
  let en := s.enabledCores n
  let live := s.stackOn n
  if off = 0x040 then some (n + (0x40 + n) * 2 ^ 8 + d.rev.toNat * 2 ^ 16 + en.length * 2 ^ 24)
  else if off = 0x044 ∨ off = 0x048 then halfAt 0x044 off d.serial.toNat
  else if off = 0x04C ∨ off = 0x050 then halfAt 0x04C off ((en.map (fun p => 2 ^ p)).sum)
  else if off = 0x054 then
    some (b2n live + b2n (s.stk n).retired * 2 + b2n (s.stackActive n) * 4 + b2n (decide (d.badDue ≠ 0)) * 8 +
      (if live ∧ s.dst = .d1 then en.length else 0) * 16 + (popCount d.good.toNat 52 - en.length) % 4 * 2 ^ 12)
  else
    match arrayAt 0x060 4 13 off with
    | some (j, _) => some (((List.range 4).map (fun b => en.getD (4 * j + b) 0xFF * 2 ^ (8 * b))).sum)
    | none => none
/-- The progress record of an ACTIVE place (R191, R198 PROG): the oldest descriptor that is not complete, and its lowest piece that is not. -/
def Xe.prog (e : Xe) (place o : Nat) : Nat :=
  match e.chains.find? (fun c => decide (c.place.map Fin.val = some place)) with
  | none => 0
  | some c =>
    let st := match c.state with | .faultWait => 2 | .suspending => 3 | _ => 1
    let d := c.descs.find? (fun d => !e.complete c.seq d)
    let low := match d with
      | some d => minBy (fun p : Nat × Nat => p.1 * 2 ^ 30 + p.2) ((d.rep, d.off) :: (e.pieces.filter (fun (p : Nat × Piece) => decide (p.2.seq = c.seq ∧ p.2.idx = d.idx))).map (fun (p : Nat × Piece) => (p.2.rep, p.2.off)))
      | none => none
    let rep := (low.map Prod.fst).getD c.rep
    let at_ := match d with | some d => d.jva.toNat | none => (c.fetch.getD 0).toNat
    let pos := (low.map Prod.snd).getD c.off
    match o with
    | 0x00 => st + c.core.val * 2 ^ 16 + (match c.ctx with | .d => 0 | .p => 1) * 2 ^ 22 + c.faultCode.toNat * 2 ^ 24
    | 0x04 => rep % 2 ^ 16
    | 0x08 => at_ % 2 ^ 32
    | 0x0C => at_ / 2 ^ 32 % 2 ^ 32
    | 0x10 => pos % 2 ^ 30
    | 0x18 => c.faultVa.toNat % 2 ^ 32
    | 0x1C => c.faultVa.toNat / 2 ^ 32
    | _ => 0
/-- An XE register (R198). -/
def State.xeView (s : State) (n off : Nat) : Option Nat :=
  let e := s.xe n
  let count := fun (p : ChainState → Bool) => (e.chains.filter (fun c => p c.state)).length
  if off = 0x040 then some (n + (0x40 + n) * 2 ^ 8)
  else if off = 0x050 then some (count (fun x => decide (x = .active)) + count (fun x => decide (x = .faultWait)) * 2 ^ 8 + capped 10 (count (fun x => decide (x = .suspended))) * 2 ^ 16)
  else if off = 0x054 then some (capped 10 e.chains.length + capped 10 (count (fun x => decide (x = .queued))) * 2 ^ 16)
  else if off = 0x058 then some ((e.pieces.filter (fun p => decide (p.1 < 256))).length + e.held * 2 ^ 16)
  else if off = 0x074 then some (b2n (decide (count (fun x => decide (x = .suspending)) = 0)) + capped 8 e.awaited * 2 ^ 8)
  else match arrayAt 0x100 32 16 off with
    | some (i, o) => some (e.prog i o)
    | none => none
/-- The faults queued at a Pager that do not wait on tickets (R176, R199): those received, and those sent to it that will not merge. -/
def Pager.queued (p : Pager) : Nat :=
  let new := (p.inbox.map (fun f => f.entryPa)).filter (fun e => !(p.faults.any (fun f => decide (f.entryPa = e) && !f.settled)))
  min 64 ((p.faults.filter (fun f => f.zero && !f.settled)).length + (new.foldl (fun l e => if l.contains e then l else e :: l) []).length)
/-- A PAGER register (R199). -/
def State.pagerView (s : State) (n off : Nat) : Option Nat :=
  let p := s.pager n
  if off = 0x040 then some (n + (0x40 + n) * 2 ^ 8)
  else if off = 0x04C then some (capped 7 p.queued + capped 8 (p.faults.filter (fun f => !f.zero && !f.settled)).length * 2 ^ 8)
  else if off = 0x050 then some (capped 7 p.pool64K.length + capped 7 p.pool2M.length * 2 ^ 8)
  else none
/-- A CLKREG register (R417), but for its figures that the model does not measure. -/
def State.clkregView (s : State) (r off : Nat) : Option Nat :=
  let x := s.region r
  if off = 0x040 then some (r % 4 + r / 4 * 2 ^ 8 + (0x40 + r / 4) * 2 ^ 16)
  else if off = 0x048 then some (x.fset + (s.stk (r / 4)).ceiling * 2 ^ 8 + s.thermCeiling r * 2 ^ 16 + x.droop * 2 ^ 24)
  else if off = 0x04C then some (b2n x.gen + b2n x.locked * 2 + b2n (!x.gen) * 4 + b2n (s.regionOn r) * 8 + capped 4 x.failed * 2 ^ 8)
  else none

/-! ## Row stores and main memory -/

/-- A ROWS register (R135). -/
def State.rowsView (s : State) (n off : Nat) : Option Nat :=
  let k := s.stk n
  if off = 0x040 then some (n + (0x80 + n) * 2 ^ 8 + (0x40 + n) * 2 ^ 16)
  else if off = 0x044 then some (b2n k.half + b2n k.retired * 2 + b2n (k.bondFailed.any (fun b => s.repairable n b) || k.halfDue) * 4 + b2n k.retireDue * 8)
  else if off = 0x048 then let data := fun (b : Bond) => decide (b.cls = .data)
    some (capped 12 ((s.repairs n).filter data).length + capped 12 k.exhausted.length * 2 ^ 12 + capped 8 ((s.repairs n).filter (fun b => !data b)).length * 2 ^ 24)
  else if off = 0x058 then
    let used := (List.range 32).map (fun b => s.sparesUsed n b)
    let b := argBest (fun x y => decide (y < x)) used
    some ((64 - used.getD b 0) + b * 2 ^ 8)
  else if off = 0x068 then
    some (capped 16 k.window + k.ceiling % 256 * 2 ^ 16 + k.duty % 8 * 2 ^ 24 + b2n k.floor * 2 ^ 29 + b2n k.brake * 2 ^ 30 + b2n k.limiting * 2 ^ 31)
  else none
/-- An MPORT register (R164). -/
def State.mportView (s : State) (m off : Nat) : Option Nat :=
  if off = 0x040 then some (m + (0x10 + m) * 2 ^ 8)
  else if off = 0x044 then some ((s.thirds.map (fun t => 2 ^ t)).sum + s.w * 2 ^ 4)
  else if off = 0x048 then some (capped 7 (((List.range 24).map (fun c => (s.chan (24 * m + c)).queue.length - 64)).sum))
  else none
/-- An MCHAN register (R165). -/
def State.mchanView (s : State) (c off : Nat) : Option Nat :=
  let x := s.chan c
  if off = 0x040 then some (c + c / 4 * 2 ^ 9 + c % 4 * 2 ^ 16 + chanDie c * 2 ^ 24)
  else if off = 0x044 then some ((if x.mode ≠ .failed ∧ !s.thirds.contains (c / 128) then 0 else chanCode x.mode) + capped 8 x.failedTrain * 2 ^ 8)
  else if off = 0x058 then some (x.scrubNext % 2 ^ 23 + x.passes.toNat * 2 ^ 24)
  else if off = 0x05C then some (x.rate.val + capped 8 (x.refresh.toList.foldl max 0) * 2 ^ 8)
  else if off = 0x068 then
    let q := x.queue.take 64
    some (q.length + (q.filter (fun r => r.op.isWrite || (match r.op with | .writeBack _ _ => true | _ => false))).length * 2 ^ 8)
  else none
/-- A SIEVE register (R166). -/
def State.sieveView (s : State) (u off : Nat) : Option Nat :=
  let q := sget [] s.sieves u
  if off = 0x040 then some (u + (0x10 + u / 4) * 2 ^ 8)
  else if off = 0x048 then some (capped 5 q.length + b2n (!q.isEmpty) * 2 ^ 8)
  else none

/-! ## The base and the light -/

/-- A PHO_HOME register (R238). -/
def State.phoHomeView (s : State) (h off : Nat) : Option Nat :=
  let gs := homeGroups h
  let cls := if h < 40 then 0 else if h < 56 then 1 else 2
  if off = 0x040 then some (h + cls * 2 ^ 6 + homeDie h * 2 ^ 8 + sitePos h * 2 ^ 16 + gs.length * 2 ^ 24)
  else if off = 0x044 then some ((gs.map (fun g => if (s.grp g).inService then 2 ^ grpNo g else 0)).sum)
  else
    match arrayAt 0x100 8 24 off with
    | some (j, o) =>
      (match gs[j]? with
       | none => some 0
       | some g =>
         let x := s.grp g
         if o = 0 then
           let holder := match x.token with | .held site => sitePos site * 2 ^ 8 + 2 ^ 14 | _ => 0
           some (groupCode x.state + (x.lanes.toList.filter (fun l => decide (l.state = .standby))).length * 2 ^ 4 + holder)
         else some (((List.range 8).map (fun l => (x.map.toList.getD l 0).val * 2 ^ (4 * l))).sum))
    | none =>
      match arrayAt 0x200 4 240 off with
      | some (j, _) =>
        (match gs[j / 10]? with
         | none => some 0
         | some g => let l := (s.grp g).lane (j % 10); some (laneCode l.state + capped 16 l.viol * 2 ^ 16))
      | none => none
/-- A PHO_SITE register (R239). -/
def State.phoSiteView (s : State) (n off : Nat) : Option Nat :=
  if off = 0x040 then some (n + sitePos n * 2 ^ 8 + homeDie n * 2 ^ 16 + txFitted n * 2 ^ 24)
  else if off = 0x044 then some (s.txCount n + (s.holds n).length * 2 ^ 8 + s.fld (siteReg n 0x044) 16 7 * 2 ^ 16)
  else none
/-- An LSM register (R279). -/
def State.lsmView (s : State) (k off : Nat) : Option Nat :=
  let x := s.lsm k
  let outs := if k = 6 then 2 else 4
  if off = 0x040 then some (k + outs * 2 ^ 4 + (if k = 6 then 10 else 41) * 2 ^ 8 + b2n x.approved * 2 ^ 16)
  else if off = 0x044 then some (lsmCode x.mode + x.enabled.toNat * 2 ^ 8 + x.shut.toNat * 2 ^ 12 + b2n x.enHigh * 2 ^ 16)
  else if off = 0x064 then
    let sel := s.rdn (lsmReg k 0x060)
    let y := s.line (4 * k + bits sel 0 2) (bits sel 0 6)
    if bitOf sel 8 then some ((if y.spent then 5 else lineCode y.mode) * 2 ^ 28)
    else some (tempBits y.loss + (y.offset % 4096).toNat * 2 ^ 16 + lineCode y.mode * 2 ^ 28 + b2n y.lit * 2 ^ 31)
  else if off = 0x078 then
    let held := match s.refLight.holdover with | some t => capped 16 ((s.now - t) / 1000000000) | none => 0
    some (b2n s.refLight.valid + b2n s.refLight.holdover.isSome * 2 + b2n s.refLight.expired * 4 + held * 2 ^ 16)
  else
    match arrayAt 0x050 4 4 off with
    | some (j, _) =>
      if outs ≤ j then some 0
      else
        let f := 4 * k + j
        some (tempBits (s.input f).tap + b2n (s.input f).mated * 2 ^ 16 + b2n (x.shut.getLsbD j) * 2 ^ 17 + capped 8 (s.fadedLines f) * 2 ^ 24)
    | none => none

/-! ## Links and hall memory -/

/-- An XPORT register (R326). -/
def State.xportView (s : State) (p off : Nat) : Option Nat :=
  let x := s.port p
  let maps := fun (m : Vector (Fin 10) 8) => ((List.range 8).map (fun l => (m.toList.getD l 0).val * 2 ^ (4 * l))).sum
  if off = 0x040 then some (p + niDie (some p) * 2 ^ 8 + portFibre p * 2 ^ 16)
  else if off = 0x044 then some (portCode x.tx + portCode x.rx * 2 ^ 4 + b2n (s.portIn p) * 2 ^ 8 + x.cause % 16 * 2 ^ 12)
  else if off = 0x054 then some (maps x.txMap)
  else if off = 0x058 then some (maps x.rxMap)
  else if off = 0x070 then some (capped 9 x.replay.length + x.txNext % 4096 * 2 ^ 12)
  else if off = 0x074 then some (((List.range 5).map (fun v => capped (if v = 4 then 5 else 6) (x.credits.toList.getD v 0) * 2 ^ (6 * v))).sum)
  else
    match arrayAt 0x100 4 10 off with
    | some (o, _) => some (laneCode (x.rxLane o).state + laneCode (x.txLane o) * 2 ^ 4 + capped 16 (x.rxLane o).viol * 2 ^ 16)
    | none => none
/-- A FAB register (R325). -/
def State.fabView (s : State) (off : Nat) : Option Nat :=
  if off = 0x044 then some (s.rdn (fabReg 0x044) % 2 ^ 17 + b2n s.originLow * 2 ^ 17 + s.fld (fabReg 0x044) 18 2 * 2 ^ 18)
  else if off = 0x04C then
    some (((List.range 6).map (fun p =>
      let x := s.port p
      b2n (s.portIn p) * 2 ^ p + b2n (decide (x.tx = .out)) * 2 ^ (8 + p) + b2n (decide (x.tx = .down) || decide (x.rx = .down)) * 2 ^ (16 + p))).sum)
  else none
/-- A RANKMAP register (R327). -/
def State.rankmapView (s : State) (i off : Nat) : Option Nat :=
  if off = 0x040 then some (i + s.fld (regAddr .rankmap i 0x040) 8 1 * 2 ^ 8 + b2n (decide (s.jobPhase ≠ 0)) * 2 ^ 9) else none
/-- A REGION register (R356). -/
def State.regionView (s : State) (i off : Nat) : Option Nat :=
  if off = 0x040 then
    some (i + ((List.range 128).filter (fun j => bitOf (s.rdn (entryReg (128 * i + j) 0)) 0)).length % 256 * 2 ^ 8 + b2n (decide (s.jobPhase ≠ 0)) * 2 ^ 16)
  else none
/-- An FDOOR register (R393). -/
def State.fdoorView (s : State) (i off : Nat) : Option Nat :=
  if off = 0x040 then some (i + s.activeCode * 2 ^ 8)
  else if off = 0x088 ∨ off = 0x08C then halfAt 0x088 off s.beatNow
  else if off = 0x090 ∨ off = 0x094 then halfAt 0x090 off s.nextBoundary
  else if off = 0x098 then some (capped 9 (s.reqsIn inSlot).length + capped 13 s.serving.queue.length * 2 ^ 12)
  else if off = 0x09C then some (capped 7 (s.reqsIn (fun x => decide (x = .assembling))).length)
  else none

/-! ## The always-on pages -/

/-- Sources out of lock (R418 PLL_SUM): the base PLL, row-store PLLs, and generators of powered regions. -/
def State.unlocked (s : State) : Nat :=
  b2n (!s.clock.locked) + (s.clock.rowPll.map Prod.snd).sum + ((List.range 160).filter (fun r => s.regionOn r && !(s.region r).locked)).length
/-- A TIMEBASE register (R418). -/
def State.timebaseView (s : State) (off : Nat) : Option Nat :=
  let c := s.clock
  if off = 0x040 ∨ off = 0x044 then halfAt 0x040 off s.now
  else if off = 0x04C then
    some (b2n (c.valid.get 0) + b2n (c.valid.get 1) * 2 + c.inUse.val * 4 + b2n c.holdover.isSome * 8 + s.fld (tbReg 0x04C) 16 16 * 2 ^ 16)
  else if off = 0x05C then
    some (b2n c.aligned + b2n c.syncLost * 2 + b2n c.locked * 4 + b2n c.armed.isSome * 8 + capped 16 (s.sinceEdge / 1000000000) * 2 ^ 16)
  else if off = 0x064 then some ((c.rate % 2 ^ 32).toNat)
  else if off = 0x06C then some (capped 11 s.unlocked)
  else none
/-- How many domains of a class are on, and fitted (R419, R441 DOM_CLASS). -/
def State.domClass (s : State) (i : Nat) : Nat × Nat :=
  let on := s.spineUp && (decide (s.dst = .d0) || decide (s.dst = .d1))
  let stk0 := ((List.range 40).filter s.stackOn).length
  let phy := fun (half : Nat) => ((List.range 16).filter (fun m => on && (List.range 12).any (fun c => s.thirds.contains ((24 * m + 12 * half + c) / 128)))).length
  match i with
  | 0 => (if s.dst = .d0 then ((List.range 40).map (fun n => if s.stackOn n then (s.enabledCores n).length else 0)).sum else 0, 2080)
  | 1 => (stk0, 40)
  | 2 => (4 * stk0, 160)
  | 3 => (phy 0, 16)
  | 4 => (phy 1, 16)
  | 5 => (if on then 16 else 0, 16)
  | 6 => (if on then 59 else 0, 59)
  | 7 =>
    let up := fun (m : PortMode) => b2n (!([PortMode.off, .asleep, .out].contains m))
    (((List.range 6).map (fun p => up (s.port p).tx + up (s.port p).rx)).sum, 12)
  | 8 => (if s.dst = .d2 then 1 else s.keepersIn, 3)
  | _ => (1, 1)
/-- A PWR register (R441). -/
def State.pwrView (s : State) (off : Nat) : Option Nat :=
  if off = 0x040 then
    some (dstCode s.dst + b2n s.power.surge * 2 ^ 4 + b2n s.power.trimOn * 2 ^ 5 + s.activeCount * 2 ^ 8 + b2n s.fullProfile * 2 ^ 16 + s.fld (pwrReg 0x040) 17 3 * 2 ^ 17)
  else if off = 0x05C then
    let len := if s.power.surge then min 4095 ((s.now - s.power.surgeAt) / 100000000) else s.fld (pwrReg 0x05C) 16 12
    some (capped 12 (s.allowance / 10000000) + s.fld (pwrReg 0x05C) 12 3 * 2 ^ 12 + len * 2 ^ 16)
  else if off = 0x060 then some (capped 24 s.wearLeft)
  else
    match arrayAt 0x100 4 10 off with
    | some (i, _) => some ((s.domClass i).1 + (s.domClass i).2 * 2 ^ 16)
    | none => none
/-- A THERM register (R468). -/
def State.thermView (s : State) (off : Nat) : Option Nat :=
  if off = 0x040 then
    some (s.nearest.getD 0 + capped 8 (s.countDies (fun d => d.warn)) * 2 ^ 8 + capped 8 (s.countDies (fun d => d.throttle)) * 2 ^ 16 + b2n s.stopping * 2 ^ 24 +
      b2n s.stop.stopped * 2 ^ 25 + b2n s.fullProfile * 2 ^ 26 + capped 5 (s.countDies (fun d => d.broken)) * 2 ^ 27)
  else if off = 0x044 then some (match s.nearest with | some c => tempBits (s.margin c) | none => 0)
  else if off = 0x04C then some (match s.trip with | some t => t.die.toNat + b2n t.predicted * 2 ^ 8 + 2 ^ 31 | none => 0)
  else if off = 0x050 then
    let slopes := s.readDies.map (fun c => (1000 * (fitLine (s.diode c).hist).1).floor)
    some (tempBits (slopes.foldl (fun a b => if a.natAbs < b.natAbs then b else a) 0))
  else
    match arrayAt 0x100 4 40 off with
    | some (n, _) =>
      let d := s.diode (0x80 + n)
      some (tempBits (modelTenths d.model d.use) + b2n d.suspect * 2 ^ 16)
    | none =>
      match arrayAt 0x400 4 0xA8 off with
      | some (c, _) =>
        let d := s.diode c
        if !dieCodes.contains c then some 0
        else some (tempBits d.use + b2n d.warn * 2 ^ 16 + b2n d.throttle * 2 ^ 17 + b2n d.stop * 2 ^ 18 + b2n d.broken * 2 ^ 19 + b2n d.suspect * 2 ^ 20 + b2n d.subst * 2 ^ 21)
      | none =>
        match arrayAt 0x800 4 0xA8 off with
        | some (c, _) => let d := s.diode c; some (if dieCodes.contains c then tempBits d.raw + b2n d.valid * 2 ^ 16 else 0)
        | none => none

/-! ## The Keepers' pages -/

/-- A CAL register (R469). -/
def State.calView (s : State) (off : Nat) : Option Nat :=
  if off = 0x044 then some (b2n s.calPass.running + b2n s.calPass.pending * 2 + s.fld (regAddr .cal 0 0x044) 2 1 * 4 + s.fld (regAddr .cal 0 0x044) 16 16 * 2 ^ 16) else none
/-- An AGE register (R470). -/
def State.ageView (s : State) (off : Nat) : Option Nat :=
  if off = 0x040 then some (s.vault.hours % 2 ^ 32)
  else if off = 0x044 then some (capped 16 s.epochs + capped 10 (1000 * (s.epochs + 1) - s.vault.hours) * 2 ^ 16)
  else if off = 0x048 then
    let g := argBest (fun a b => decide (b < a)) s.guards
    some (5 * s.guards.getD g 0 % 64 + g * 256)
  else if off = 0x04C then
    let f := argBest (fun a b => decide (a < b)) s.ftops
    some (s.ftops.getD f 80 + f * 256)
  else none
/-- A KEEPER register (R510). -/
def State.keeperView (s : State) (k off : Nat) : Option Nat :=
  let x := s.keeper k
  if off = 0x040 then some (k + (1 + k) * 2 ^ 8)
  else if off = 0x044 then some (roleCode x.role + s.tally.epoch.toNat * 2 ^ 8)
  else if off = 0x048 then
    some (b2n x.passed + b2n x.inSync * 2 + b2n (decide (x.role = .held)) * 4 + capped 8 (x.dissents.filter (fun t => decide (s.now < t + 1000000000))).length * 2 ^ 8 +
      s.fld (keeperReg k 0x048) 16 16 * 2 ^ 16)
  else if off = 0x04C then some (objVersion s.vault.running)
  else if off = 0x050 then some (objField s.vault.running 24 1 + s.vault.fusedMin * 2 ^ 8)
  else if off = 0x05C then some (capped 32 ((s.now - x.since) / 1000000000))
  else none
/-- A TALLY register (R511). -/
def State.tallyView (s : State) (off : Nat) : Option Nat :=
  if off = 0x040 then
    some ((match s.tally.active with | some k => k.val | none => 0) + s.tally.epoch.toNat * 2 ^ 8 + b2n s.tally.demotion.isSome * 2 ^ 16 + b2n (decide (s.dst = .d2)) * 2 ^ 17 +
      ((List.range 3).map (fun k => b2n (s.keeper k).votes * 2 ^ (20 + k))).sum)
  else if off = 0x044 then some (((List.range 3).map (fun k => roleCode (s.keeper k).role * 2 ^ (4 * k))).sum)
  else none
/-- The wait that BOOT_STAT names (R471, R512). -/
def State.waitCode (s : State) : Nat :=
  match s.stage with
  | .larva =>
    if s.bootWait = 2 then (if s.refLight.valid then (if s.fld (fabReg 0x044) 18 2 = 0 then 4 else 0) else 2)
    else if s.bootWait ≠ 0 then s.bootWait
    else if s.spineUp ∧ s.fld (fabReg 0x044) 18 2 = 0 then 4
    else 0
  | .pupa => if s.jobPhase = 0 then 5 else if s.jobPhase = 2 then 6 else 0
  | _ => 0
/-- The job's state (R512 JOB_STAT). -/
def State.jobState (s : State) : Nat := if s.stop.cause = 6 then 4 else s.jobPhase
/-- The bytes that OBJ_LEN shows (R512). -/
def State.objBytes (s : State) : Nat := 4 * s.staging.words.length
/-- A FOLIO register (R512). -/
def State.folioView (s : State) (off : Nat) : Option Nat :=
  let v := s.vault
  if off = 0x040 then some (objVersion v.folio)
  else if off = 0x044 then some (objVersion v.prior)
  else if off = 0x048 then some v.folioHwm
  else if off = 0x04C then some (objVersion v.pendingFolio)
  else if off = 0x050 then
    some (b2n (decide (v.pendingFolio ≠ [])) + b2n v.priorRejected * 2 + b2n v.foldBackAsked * 4 + b2n (!v.enrolled.isEmpty) * 8 + v.enrolled.length % 8 * 2 ^ 4 + capped 8 v.failedStep * 2 ^ 8)
  else if off = 0x060 then some (capped 24 s.objBytes)
  else if off = 0x064 then
    some (s.staging.state + s.staging.ini * 2 ^ 4 + s.staging.code * 2 ^ 8 + s.staging.secType * 2 ^ 16 + s.staging.reason * 2 ^ 24)
  else if off = 0x068 then some (s.jobTag + s.jobRank % 4096 * 2 ^ 16 + s.jobState * 2 ^ 28)
  else if off = 0x06C then some v.manifestHwm
  else if off = 0x070 then some (stageCode s.stage + s.waitCode * 2 ^ 8 + s.fld bootReg 16 16 * 2 ^ 16)
  else none

/-! ## Every page -/

/-- The view of a block register. -/
def State.blockView (s : State) (t : PageType) (i off : Nat) : Option Nat :=
  match t with
  | .core => s.coreView i off
  | .cdie => s.cdieView i off
  | .xe => s.xeView i off
  | .pager => s.pagerView i off
  | .rows => s.rowsView i off
  | .clkreg => s.clkregView i off
  | .mport => s.mportView i off
  | .mchan => s.mchanView i off
  | .sieve => s.sieveView i off
  | .phoHome => s.phoHomeView i off
  | .phoSite => s.phoSiteView i off
  | .xport => s.xportView i off
  | .fab => s.fabView off
  | .rankmap => s.rankmapView i off
  | .region => s.regionView i off
  | .kettle => none
  | .fdoor => s.fdoorView i off
  | .lsm => s.lsmView i off
  | .pwr => s.pwrView off
  | .therm => s.thermView off
  | .cal => s.calView off
  | .age => s.ageView off
  | .timebase => s.timebaseView off
  | .keeper => s.keeperView i off
  | .tally => s.tallyView off
  | .folio => s.folioView off
/-- Whether a register shows a figure that the model does not measure (R417): the ring oscillator's frequency and a region's cycles. -/
def unmeasured (t : PageType) (off : Nat) : Bool := decide (t = .clkreg) && (decide (off = 0x050) || decide (off = 0x054) || decide (off = 0x058))
/-- What a register reads as (R14, R535, R540): a page whose holder is off shows its header, and zeros. -/
def State.look (s : State) (t : PageType) (i off : Nat) : Nat :=
  if off < 0x040 then s.headerView t i off
  else if !s.holderOn t i then 0
  else (s.blockView t i off).getD (s.rdn (keptAddr t i off))

end Sys2Proof.Machine
end

