-- ==== Sys2Proof/Machine/RegRead.lean ====
section
/-!
DEFINITION. Sys2Proof/Machine/RegRead.lean: what a read does beside answering (R13, R15, R17, R527, R537, R542, R544): the latch of a pair, counters that
clear, logs that re-arm, reads that wait for a soft reset.
-/
namespace Sys2Proof.Machine

/-- A number for each initiator, by which latches and held halves are kept (R544). -/
def iniIndex : Initiator → Nat
  | .keeper k _ => k.val
  | .fabM7 => 3
  | .fabM15 => 4
  | .i3c => 5
  | .tally => 7
  | .site n => 8 + n.val
/-- The key of an initiator's latch for the pair at an address. -/
def latchKey (ini : Initiator) (a : Nat) : Nat := iniIndex ini * 2 ^ 28 + a
/-- Drop the entries of an initiator in a page (R544): each keeps one latch, and one half, for a page. -/
def dropPage (ini : Initiator) (a : Nat) (m : Sparse Word) : Sparse Word := m.filter (fun e => decide (e.1 / 4096 ≠ latchKey ini a / 4096))

/-- The logs that a read of an RC counter re-arms (R17, R527): their registers in the page. -/
def pairedLogs (t : PageType) (off : Nat) : List Nat :=
  match t, off with
  | .rows, 0x050 => [0x04C, 0x054]
  | .mchan, 0x048 => [0x04C, 0x050]
  | .xe, 0x070 => [0x064, 0x068, 0x06C]
  | .phoHome, 0x058 => [0x068]
  | .phoSite, 0x058 => [0x068]
  | .region, 0x054 => [0x048, 0x04C, 0x050]
  | .xport, 0x064 => [0x080]
  | .fab, 0x054 => [0x05C]
  | .timebase, 0x074 => [0x070]
  | _, _ => []
/-- The RC bits of a register, PAGE_ERR_CNT's among them (R15, R535). -/
def rcBits (t : PageType) (off : Nat) : Nat := if off = 0x01C then 0xFF00FFFF else (regRow t off).rc
/-- Clear a register's RC bits, and re-arm its logs. -/
def State.rcClear (s : State) (t : PageType) (i off : Nat) : State :=
  let m := rcBits t off
  if m = 0 then s
  else
    let a := keptAddr t i off
    let s1 := if s.rdn a &&& m = 0 then s else s.wr a (BitVec.ofNat 32 (s.rdn a &&& (all32 ^^^ m)))
    (pairedLogs t off).foldl (fun u l => if u.rdn (keptAddr t i l) = 0 then u else u.wr (keptAddr t i l) 0) s1

/-- Whether a register is the low half of a pair of 64 bits (R13). -/
def lowHalf (t : PageType) (off : Nat) : Bool := let r := regRow t off; r.pair && !r.isHigh off
/-- Whether it is the high half. -/
def highHalf (t : PageType) (off : Nat) : Bool := (regRow t off).isHigh off
/-- The next word of a report that is ready (R476, R512 OBJ_DATA); zero where there is none. -/
def State.objNext (s : State) : Nat × State :=
  if s.staging.state ≠ 5 then (0, s)
  else
    match s.staging.words with
    | [] => (0, s)
    | w :: t => (w.toNat, { s with staging := { s.staging with words := t } })

/-- The words that a register and the one after it show at a read; of a figure that the model does not measure they are the halves of one free value. -/
def State.lookPair (s : State) (t : PageType) (i off : Nat) : (Nat × Nat) × State :=
  if unmeasured t off then
    let x := s.fresh
    let w := (Config.freeWord x.1).toNat
    ((w % 2 ^ 32, w / 2 ^ 32), x.2)
  else ((s.look t i off, s.look t i (off + 4)), s)
/-- Read a register for an initiator: the word, and what the read leaves. -/
def State.readReg (s : State) (ini : Initiator) (t : PageType) (i off : Nat) : Nat × State :=
  let a := regAddr t i off
  if 0x040 ≤ off ∧ !s.holderOn t i then (0, s)
  else if t = .folio ∧ off = 0x05C then s.objNext
  else if lowHalf t off then
    let x := s.lookPair t i off
    (x.1.1, { x.2 with latched := sput (dropPage ini a x.2.latched) (latchKey ini a) (BitVec.ofNat 32 x.1.2) })
  else if highHalf t off then
    match sfind s.latched (latchKey ini (a - 4)) with
    | some w => (w.toNat, { s with latched := serase s.latched (latchKey ini (a - 4)) })
    | none =>
      let x := s.lookPair t i off
      (x.1.1, x.2)
  else if unmeasured t off then
    let x := s.lookPair t i off
    (x.1.1 % 2 ^ 12, x.2)
  else (s.look t i off, s.rcClear t i off)

/-- The ERROR code of a read, 0 where it is answered (R533, R541): reads are open to every initiator (R494). -/
def State.readError (s : State) (a : Nat) : Nat :=
  if 2 ^ 28 ≤ a ∨ a % 4 ≠ 0 then 1
  else match decodeAddr a with
    | none => 1
    | some (t, i, _) => if s.pageAnswers t i then 0 else 5
/-- Whether a read waits for the end of a soft reset (R537). -/
def State.readWaits (s : State) (a : Nat) : Bool :=
  match decodeAddr a with
  | none => false
  | some (t, i, off) => decide (0x040 ≤ off) && s.resetBusy t i
/-- A read of the register space: its error code, the word and the state it leaves. -/
def State.busRead (s : State) (ini : Initiator) (a : Nat) : Nat × Nat × State :=
  let e := s.readError a
  if e ≠ 0 then (e, 0, s)
  else
    match decodeAddr a with
    | none => (1, 0, s)
    | some (t, i, off) => (0, s.readReg ini t i off)
/-- Return the result of an FMGMT request on MGMT (R305): op 3 with the data, or op 4 with the code. -/
def State.fmgmtAnswer (s : State) (src tag a code data : Nat) : State :=
  s.sendCell (extCell 0x14 src s.coord 0 4 0 tag (payload [(0, 1, if code = 0 then 3 else 4), (4, 4, a), (8, 4, data), (12, 1, code)]))
/-- A read over the spine: answered with its word, or with an ERROR, to its initiator or, for an FMGMT request, to the device and under the tag that `via`
names; it waits while the page is under a soft reset. -/
def State.spineRead (s : State) (ini : Initiator) (a : Nat) (via : Option (Nat × Nat)) : State :=
  if s.readError a = 0 ∧ s.readWaits a then { s with lateReads := s.lateReads ++ [(ini, a, via)] }
  else
    let x := s.busRead ini a
    match via with
    | some (src, tag) => x.2.2.fmgmtAnswer src tag a x.1 x.2.1
    | none => if x.1 = 0 then x.2.2.emit (.reply ini (some (BitVec.ofNat 32 x.2.1))) else x.2.2.emit (.error ini x.1)
/-- Answer the reads of a page whose soft reset is over (R537). -/
def State.answerLate (s : State) : State :=
  s.lateReads.foldl (fun (t : State) (e : Initiator × Nat × Option (Nat × Nat)) => t.spineRead e.1 e.2.1 e.2.2) { s with lateReads := [] }
/-- ABORT_DRAIN_COMPLETE (R75, R537). -/
def execAbortDrainComplete (core : Fin 2000) (s : State) : Host.Outcome State Fault Refusal :=
  .next (((((s.drained core .d).drained core .p).resetOver core)).answerLate)

/-- RC_READ (R15, R17). -/
def execRcRead (ini : Initiator) (addr : Word) (s : State) : Host.Outcome State Fault Refusal := .next (s.spineRead ini addr.toNat none)
/-- LOW_HALF_READ (R13, R544). -/
def execLowHalfRead (ini : Initiator) (addr : Word) (s : State) : Host.Outcome State Fault Refusal := .next (s.spineRead ini addr.toNat none)
/-- HIGH_HALF_READ (R13, R544). -/
def execHighHalfRead (ini : Initiator) (addr : Word) (s : State) : Host.Outcome State Fault Refusal := .next (s.spineRead ini addr.toNat none)
/-- OBJ_DATA_READ (R476, R512). -/
def execObjDataRead (ini : Initiator) (s : State) : Host.Outcome State Fault Refusal := .next (s.spineRead ini (regAddr .folio 0 0x05C) none)

/-! ## Interrupt messages (R538, R547) -/

/-- The page number of a page (R533). -/
def pageNo (t : PageType) (i : Nat) : Nat := regAddr t i 0 / 4096
/-- The page that a page number names. -/
def pageOf (p : Nat) : Option (PageType × Nat) := (decodeAddr (p * 4096)).map (fun x => (x.1, x.2.1))
/-- The data word of R538: the value, and the assertion. -/
def State.irqWord (s : State) (t : PageType) (i : Nat) : Nat := let v := s.irqValue t i; v + b2n (decide (v ≠ 0)) * 2 ^ 32
/-- Queue an in-band interrupt (R547): a page's queued entry takes the newer value; with 32 entries queued, an overflow entry counts what is lost. -/
def State.queueIbi (s : State) (p : Nat) (w : Word) : State :=
  let q := s.mgmt.ibi
  let set := fun (l : List (Nat × Word)) => { s with mgmt := { s.mgmt with ibi := l } }
  if q.any (fun e => decide (e.1 = p)) then set (q.map (fun e => if e.1 = p then (p, w) else e))
  else if (q.filter (fun e => decide (e.1 ≠ 65536))).length < 32 then set (q ++ [(p, w)])
  else if q.any (fun e => decide (e.1 = 65536)) then set (q.map (fun e => if e.1 = 65536 then (65536, BitVec.ofNat 32 (min 65535 (e.2.toNat + 1))) else e))
  else set (q ++ [(65536, 1)])
/-- Send a page's interrupt message to the active Keeper, and queue an IBI for an assertion where the page asks for it. -/
def State.sendIrq (s : State) (t : PageType) (i : Nat) : State :=
  let p := pageNo t i
  let w := s.irqWord t i
  let s1 := { s with irqSent := sset (0, 0) s.irqSent p (if w = 0 then (0, 0) else (w, s.now)) }.emit (.telemetry p (BitVec.ofNat 64 w))
  if 2 ^ 32 ≤ w ∧ bitOf (s.rdn (hdr t i 0x008)) 3 then s1.queueIbi p (BitVec.ofNat 32 w) else s1
/-- Whether a page's leaf runs (R538, R540). -/
def State.leafRuns (s : State) (t : PageType) (i : Nat) : Bool := s.pageAnswers t i && (decide (s.dst = .d0) || decide (s.dst = .d1))
/-- IRQ_TELEMETRY (R538): on each change of the value, and once at its end. -/
def execIrqTelemetry (page : BitVec 16) (s : State) : Host.Outcome State Fault Refusal :=
  match pageOf page.toNat with
  | none => .next s
  | some (t, i) =>
    if !s.leafRuns t i ∨ (sget (0, 0) s.irqSent page.toNat).1 = s.irqWord t i then .next s else .next (s.sendIrq t i)
/-- IRQ_PERIODIC_MESSAGE (R538): every 1 ms while the interrupt stays asserted. -/
def execIrqPeriodicMessage (page : BitVec 16) (s : State) : Host.Outcome State Fault Refusal :=
  match pageOf page.toNat with
  | none => .next s
  | some (t, i) =>
    let last := sget (0, 0) s.irqSent page.toNat
    if !s.leafRuns t i ∨ last.1 < 2 ^ 32 ∨ s.irqWord t i < 2 ^ 32 ∨ s.now < last.2 + 1000000 then .next s else .next (s.sendIrq t i)

end Sys2Proof.Machine
end

