-- ==== Sys2Proof/Machine/Report.lean ====
section
/-!
DEFINITION. Sys2Proof/Machine/Report.lean: the health report (R527 to R531) and the attestation report (R507, R508).
-/
namespace Sys2Proof.Machine

/-! ## Containers of reports (R474) -/

/-- Bytes cut, or padded with zeros, to a length. -/
def fitBytes (n : Nat) (l : List Byte) : List Byte := l.take n ++ List.replicate (n - l.length) 0
/-- A report as an object: a header of R474 over a body, the body, and the signatures made with the attestation keys (R507). -/
def State.reportOf (s : State) (kind version : Nat) (body : List Byte) : List Word :=
  let h := leBytes 4 0x37574541 ++ leBytes 2 1 ++ leBytes 2 kind ++ leBytes 4 version ++ leBytes 4 body.length ++ leBytes 8 s.serial ++ leBytes 8 0 ++ sha512 body ++ leBytes 32 0
  wordsOf (h ++ body ++ fitBytes 64 (Config.attestEd h) ++ fitBytes 3309 (Config.attestMl h) ++ [0, 0, 0])
/-- A body laid out as fields at byte offsets, each with its width in bytes, in a number of bytes. -/
def bodyBytes (n : Nat) (fs : List (Nat × Nat × Nat)) : List Byte :=
  leBytes n ((fs.map (fun f => f.2.2 % 2 ^ (8 * f.2.1) * 2 ^ (8 * f.1))).sum)

/-! ## Counter totals (R527, R530) -/

/-- The sources of the counter totals: total, page type, register, and the field. -/
def totalSources : List (Nat × PageType × Nat × Nat × Nat) :=
  [(0, .mchan, 0x048, 0, 16), (1, .mchan, 0x048, 16, 16), (2, .rows, 0x050, 0, 16), (3, .rows, 0x050, 16, 16), (4, .core, 0x074, 0, 16), (5, .core, 0x074, 16, 16),
   (6, .phoHome, 0x058, 0, 16), (7, .phoHome, 0x058, 16, 16), (8, .phoHome, 0x060, 0, 16), (9, .phoHome, 0x064, 16, 16), (10, .phoSite, 0x058, 0, 16),
   (10, .phoSite, 0x058, 16, 16), (11, .xport, 0x064, 0, 16), (12, .xport, 0x064, 16, 16), (13, .xport, 0x06C, 0, 16), (14, .xport, 0x07C, 0, 16),
   (15, .fab, 0x054, 0, 16), (16, .fab, 0x054, 16, 16), (17, .region, 0x054, 0, 16), (18, .region, 0x054, 16, 16), (19, .region, 0x058, 0, 16),
   (20, .xe, 0x070, 16, 16), (21, .xe, 0x070, 0, 16), (22, .pager, 0x058, 0, 16), (23, .lsm, 0x068, 0, 16), (24, .lsm, 0x068, 16, 16),
   (25, .clkreg, 0x05C, 16, 16), (26, .clkreg, 0x064, 0, 16), (27, .therm, 0x054, 8, 8), (28, .pwr, 0x080, 0, 16), (29, .fdoor, 0x074, 0, 16),
   (29, .fdoor, 0x074, 16, 16), (30, .fdoor, 0x0A0, 16, 16), (31, .timebase, 0x074, 16, 16)]
/-- The registers among them. -/
def totalRegs : List (PageType × Nat) := (totalSources.map (fun x => (x.2.1, x.2.2.1))).dedup
/-- Read one register of every instance of its page: the words, and what the reads leave. -/
def State.readAll (s : State) (t : PageType) (off : Nat) : List Nat × State :=
  (List.range (pageInfo t).insts).foldl (fun (x : List Nat × State) i =>
    let y := x.2.readReg (.keeper (s.tally.active.getD 0)) t i off
    (x.1 ++ [y.1], y.2)) ([], s)
/-- Firmware's reading of the second (R527): what each register showed, and the state it leaves. -/
def State.readTotals (s : State) : List ((PageType × Nat) × List Nat) × State :=
  totalRegs.foldl (fun (x : List ((PageType × Nat) × List Nat) × State) r =>
    let y := x.2.readAll r.1 r.2
    (x.1 ++ [(r, y.1)], y.2)) ([], s)
/-- What a reading adds to a total. -/
def addTotal (rs : List ((PageType × Nat) × List Nat)) (i : Nat) : Nat :=
  ((totalSources.filter (fun x => decide (x.1 = i))).map (fun x =>
    ((rs.filter (fun r => decide (r.1 = (x.2.1, x.2.2.1)))).map (fun r => (r.2.map (fun v => bits v x.2.2.2.1 x.2.2.2.2)).sum)).sum)).sum

/-! ## The health report (R528 to R531) -/

/-- A fault record as its 16 bytes (R531). -/
def FaultRec.bytes (r : FaultRec) : List Byte :=
  bodyBytes 16 [(0, 1, r.cls), (1, 1, r.code), (2, 1, r.die.toNat), (3, 1, r.flags.toNat), (4, 2, r.inst), (6, 2, r.rank), (8, 8, r.t0)]
/-- Resources with a retirement pending (R529): stacks that retire at the restart or Larva, and channels that leave service. -/
def State.pendingRetirements (s : State) : Nat := ((List.range 40).filter (fun n => (s.stk n).retireDue)).length + ((List.range 384).filter (fun c => (s.chan c).outDue)).length
/-- The fields of the body but for totals and records (R529); `commits` and `drops` are those of the period. -/
def State.healthFields (s : State) (commits drops : Nat) : List (Nat × Nat × Nat) :=
  let v := s.reportOut
  let fibres := List.range 26
  let near := s.nearest.getD 0
  let on := fun (p : LaserLine → Bool) => (fibres.map (fun f => ((List.range (fibreLines f)).filter (fun l => p (s.line f l))).length)).sum
  let avg := v.figs.getD 0 0 / max 1 (v.figs.getD 1 0)
  let held := match s.refLight.holdover with | some t => capped 16 ((s.now - t) / 1000000000) | none => 0
  [(0, 8, s.serial), (8, 8, s.now), (16, 4, v.num), (20, 1, stageCode s.stage), (21, 1, dstCode s.dst), (22, 1, (s.tally.active.map Fin.val).getD 0), (23, 1, s.tally.epoch.toNat),
   (24, 2, s.jobTag), (26, 2, s.jobRank), (28, 2, s.restart.num), (30, 1, b2n s.restart.busy + b2n s.restart.abandoned * 2), (32, 2, s.coresIn), (34, 1, s.stacksIn),
   (35, 1, s.activeCount), (36, 1, s.halfStacks), (37, 1, s.w), (38, 2, s.groupsIn), (40, 1, s.portsIn), (41, 1, s.keepersIn), (42, 1, s.lsmsLit),
   (43, 1, capped 8 ((List.range 59).map (fun n => (s.site n).gone.length)).sum), (44, 1, ((List.range 64).filter (fun u => decide (s.fld (sieveReg u 0x044) 0 1 = 1))).length),
   (45, 1, capped 8 s.pendingRetirements), (64, 2, avg), (66, 2, v.inputPeak), (68, 2, s.allowance / 100000000), (70, 4, s.wearLeft),
   (74, 1, b2n s.power.surge + b2n s.power.trimOn * 2 + b2n (decide (s.fld (regAddr .cal 0 0x044) 2 1 = 0)) * 4), (80, 1, near),
   (82, 2, match s.nearest with | some c => tempBits (s.margin c) | none => 0), (84, 1, s.countDies (fun d => d.warn)), (85, 1, s.countDies (fun d => d.throttle)),
   (86, 1, s.countDies (fun d => d.broken)), (87, 1, s.countDies (fun d => d.suspect)), (96, 1, capped 8 ((fibres.map s.fadedLines).sum)),
   (97, 1, capped 8 (on (fun y => y.standbyLit))), (98, 1, capped 8 (on (fun y => y.spent))), (99, 1, b2n s.refLight.valid + b2n s.refLight.holdover.isSome * 2),
   (100, 2, held), (112, 2, (s.reqsIn inSlot).length), (114, 2, s.serving.queue.length), (116, 4, commits), (120, 4, drops), (124, 4, v.busy),
   (384, 4, (s.keeperView 0 0x048).getD 0), (388, 4, (s.keeperView 1 0x048).getD 0), (392, 4, (s.keeperView 2 0x048).getD 0)]
/-- The 512 bytes of the body. -/
def State.healthBody (s : State) (commits drops : Nat) : List Byte :=
  let a := bodyBytes 512 (s.healthFields commits drops)
  let totals := (List.range 32).flatMap (fun i => leBytes 4 (s.reportOut.totals.getD i 0))
  let recs := fitBytes 128 ((s.reportOut.records.take 8).flatMap FaultRec.bytes)
  a.take 128 ++ totals ++ recs ++ a.drop 384
/-- Form a report (R527 to R530). -/
def State.formHealth (s : State) : State :=
  let x := s.eccMarks.readTotals
  let commitReg := (((x.1.find? (fun r => decide (r.1 = (PageType.fdoor, 0x0A0)))).map Prod.snd).getD []).sum
  let old := x.2.reportOut
  let s1 : State := { x.2 with reportOut := { old with num := old.num + 1, totals := (List.range 32).map (fun i => min all32 (old.totals.getD i 0 + addTotal x.1 i)) } }
  let words := s1.reportOf 6 s1.reportOut.num (s1.healthBody (bits commitReg 0 16) (bits commitReg 16 16))
  { s1 with reportOut := { s1.reportOut with report := words, inputPeak := 0, figs := [], busy := 0 } }
/-- HEALTH_REPORT_FORM (R528): once per second, by the active Keeper. -/
def execHealthReportForm (s : State) : Host.Outcome State Fault Refusal :=
  if s.tally.active.isNone ∨ s.stage = .ovum ∨ s.stage = .recovery ∨ s.dst = .d3 then .next s else .next s.formHealth

/-! ## Attestation (R507, R508) -/

/-- The SHA-512 of an object's header, or zeros where there is none. -/
def headerDigest (o : List Word) : List Byte := if o.isEmpty then leBytes 64 0 else sha512 (objHeader o)
/-- The model measurement (R508): over the segment digests in order. -/
def modelMeasure (o : List Word) : List Byte := (List.range (secCount o 0x28 192)).foldl (fun m i => sha512 (m ++ (segRec o i).digest)) (leBytes 64 0)
/-- The 544 bytes of an attestation body (R508). -/
def State.attestBody (s : State) (nonce : List Byte) : List Byte :=
  let o := s.job.manifest
  let v := s.vault
  let serials := dieCodes.flatMap (fun c => leBytes 8 (s.die c).serial.toNat)
  leBytes 8 s.serial ++ fitBytes 32 nonce ++ leBytes 8 s.now ++
    leBytes 4 (s.tally.epoch.toNat + ((s.tally.active.map Fin.val).getD 0) * 2 ^ 8 + stageCode s.stage * 2 ^ 16) ++ leBytes 4 (objVersion v.running) ++
    leBytes 4 (objField v.running 24 1 + v.fusedMin * 2 ^ 8) ++ leBytes 4 (objVersion v.folio) ++ leBytes 4 (objVersion o) ++ leBytes 2 s.jobTag ++ leBytes 2 s.jobRank ++
    fitBytes 64 Config.romDigest ++ headerDigest v.running ++ headerDigest v.folio ++ headerDigest o ++ modelMeasure o ++ fitBytes 64 (Config.areaDigest v.area.second (v.area.recs.flatMap (fun x => x.amend.bytes ++ leBytes 8 x.tag))) ++
    sha512 serials ++ leBytes 2 s.coresIn ++ leBytes 1 s.stacksIn ++ leBytes 1 s.halfStacks ++ leBytes 2 s.groupsIn ++ leBytes 1 s.w ++ leBytes 1 s.portsIn ++
    leBytes 1 s.keepersIn ++ leBytes 1 s.activeCount ++ leBytes 1 s.lsmsLit ++ leBytes 13 0
/-- The attestation report with the endorsement record (R507, R508). -/
def State.attest (s : State) (nonce : List Byte) : List Word :=
  let e := Config.endorsement
  s.reportOf 5 0 (s.attestBody nonce) ++ wordsOf (fitBytes ((e.length + 3) / 4 * 4) e)

end Sys2Proof.Machine
end

