-- ==== Sys2Proof/Machine/Content.lean ====
section
/-!
DEFINITION. Sys2Proof/Machine/Content.lean: which sections an object must and may hold (R492, R493, R501), and the checks of their contents (R306, R336, R347,
R374, R375, R414, R492, R495, R502 to R504). A check answers the section type and the reason of R476.
-/
namespace Sys2Proof.Machine

/-- The first of some checks that fails: section type and reason. -/
def firstBad : List (Bool × Nat × Nat) → Option (Nat × Nat)
  | [] => none
  | (b, ty, r) :: t => if b then some (ty, r) else firstBad t
/-- Whether a list holds something twice. -/
def repeats : List Nat → Bool
  | [] => false
  | x :: t => t.contains x || repeats t
/-- Whether two of some ranges, each a start and a length, overlap. -/
def overlap : List (Nat × Nat) → Bool
  | [] => false
  | (a, n) :: t => t.any (fun x => decide (a < x.1 + x.2) && decide (x.1 < a + n)) || overlap t
/-- The length of a section's body, none where it is absent. -/
def secLen (o : List Word) (ty : Nat) : Option Nat := (objSection o ty).map (fun x => x.len)
/-- Whether a section is there and its length is not a whole number of records. -/
def ragged (o : List Word) (ty size : Nat) : Bool := match secLen o ty with | some n => decide (n % size ≠ 0) | none => false

/-- The sections that a kind must hold, and those it may (R492, R493, R501). -/
def sectionSets : Nat → List Nat × List Nat
  | 2 => ([0x01, 0x06], (List.range 10).map (· + 1))
  | 3 => ([0x20, 0x21, 0x22, 0x25, 0x27, 0x29, 0x2A], (List.range 13).map (· + 0x20))
  | _ => ([0x60, 0x61], [0x60, 0x61])
/-- Whether an object holds what its kind must, and nothing that it may not; an image's sections are Aethund's own (R477). -/
def sectionsOk (kind : Nat) (o : List Word) : Bool :=
  let ts := ((objSections o).getD []).map (fun x => x.ty)
  decide (kind = 1) || ((sectionSets kind).1.all ts.contains && ts.all (sectionSets kind).2.contains)

/-! ## Enrolments and folios (R492, R493, R495) -/

/-- The checks of an enrolment. -/
def enrolContent (o : List Word) : Option (Nat × Nat) :=
  firstBad [(decide (secLen o 0x60 ≠ some 1984), 0x60, 2), (decide (secLen o 0x61 ≠ some 32), 0x61, 2)]
/-- Whether a register may stand in DEFAULTS (R493): RW or RWL, and not on a page that firmware or a job writes. -/
def defaultOk (a : Nat) : Bool :=
  match decodeAddr a with
  | none => false
  | some (t, _, off) => decide (0x040 ≤ off) && decide ((regRow t off).half off ((regRow t off).rw ||| (regRow t off).rwl) ≠ 0) &&
      !([PageType.core, .xe, .pager, .kettle, .rankmap, .region, .folio, .tally, .keeper].contains t)
/-- The kinds of sticky amendments (R498). -/
def stickyKind (k : Nat) : Bool := (decide (1 ≤ k) && decide (k ≤ 0x0D)) || decide (0x11 ≤ k ∧ k ≤ 0x13)
/-- Whether a section whose layout the spec does not give holds a value out of its range (R495). -/
def opaqueBad (o : List Word) (ty : Nat) : Bool := match objSection o ty with | some x => Config.sectionBad ty x.body | none => false
/-- The checks of a folio. -/
def folioContent (o : List Word) : Option (Nat × Nat) :=
  let ds := pairRecs o 0x03
  let ws := (List.range (secCount o 0x08 12)).map (fun i => (secField o 0x08 (12 * i) 4, secField o 0x08 (12 * i + 4) 4))
  firstBad
    [(opaqueBad o 0x01, 0x01, 2), ((match secLen o 0x02 with | some n => decide (n ≠ 16) | none => false), 0x02, 2),
     (ragged o 0x03 8, 0x03, 2), (decide (256 < ds.length), 0x03, 1), (ds.any (fun d => !defaultOk d.1), 0x03, 2),
     (ragged o 0x04 68, 0x04, 2), (decide (16 < secCount o 0x04 68), 0x04, 1), (ragged o 0x05 8, 0x05, 2), (opaqueBad o 0x05, 0x05, 2),
     (opaqueBad o 0x06, 0x06, 2), (opaqueBad o 0x07, 0x07, 2), (ragged o 0x08 12, 0x08, 2), (decide (64 < ws.length), 0x08, 1),
     (ws.any (fun w => decide (2 ^ 28 ≤ w.1) || decide (2 ^ 28 ≤ w.2)), 0x08, 2), (ragged o 0x09 1984, 0x09, 2), (decide (2 < secCount o 0x09 1984), 0x09, 1),
     (decide (secLen o 0x09 = some 0), 0x09, 2), (ragged o 0x0A 8, 0x0A, 2), ((pairRecs o 0x0A).any (fun e => !stickyKind e.1), 0x0A, 2)]

/-! ## Manifests (R501 to R504) -/

/-- A rank map entry that is valid (R306). -/
def rankValid (o : List Word) (r : Nat) : Bool := bitOf (manRank o r) 15
/-- JOB. -/
def State.badJob (s : State) (o : List Word) : List (Bool × Nat × Nat) :=
  let f := fun b n => secField o 0x20 b n
  [(decide (secLen o 0x20 ≠ some 48), 0x20, 2), (decide (f 0 2 = 0) || decide (f 0 2 ≠ objField o 24 2), 0x20, 2), (decide (4096 < f 4 2), 0x20, 1),
   (decide (f 4 2 = 0) || decide (f 4 2 ≤ f 2 2), 0x20, 2), (decide (f 6 2 = 0) || decide (256 < f 6 2), 0x20, 2), (decide (f 8 4 < 2) || decide (262145 < f 8 4), 0x20, 2),
   (decide (f 12 2 = 0) || decide (64 < f 12 2), 0x20, 2), (decide (s.now + 60000000000 < f 16 8), 0x20, 2), (decide (1000 * f 24 4 ≠ s.wing), 0x20, 5),
   (decide (1 < f 4 2) && !s.clock.aligned, 0x20, 6)]
/-- KEYS (R503). -/
def State.badKeys (s : State) (o : List Word) : List (Bool × Nat × Nat) :=
  let n := secField o 0x21 16 1
  let slot := secField o 0x21 17 1
  [(decide (n = 0) || decide (16 < n), 0x21, 2), (decide (secLen o 0x21 ≠ some (56 + 32 * n)), 0x21, 2), (decide (slot + 1 ≠ s.vault.enrolled.length), 0x21, 2)]
/-- RANKS (R248, R306, R504): with LSM 6 not lit, a job of several devices is refused as a resource not in service (reason 4 DEDUCED, log entry 113). -/
def State.badRanks (s : State) (o : List Word) : List (Bool × Nat × Nat) :=
  let n := secField o 0x20 4 2
  let me := secField o 0x20 2 2
  let vs := (List.range n).filter (rankValid o)
  [(decide (1 < n) && decide ((s.lsm 6).mode ≠ .lit), 0x22, 4), ((match secLen o 0x22 with | some k => decide (k < 2 * n) || decide (alignUp (2 * n) 8 < k) | none => true), 0x22, 2),
   (vs.any (fun r => decide (bits (manRank o r) 12 3 = 0)), 0x22, 2), (vs.any (fun r => !s.inDims (bits (manRank o r) 0 12)), 0x22, 2),
   (repeats (vs.map (fun r => bits (manRank o r) 0 12)), 0x22, 3),
   (!s.coordValid || !rankValid o me || decide (bits (manRank o me) 0 12 ≠ s.coord), 0x22, 7)]
/-- REGIONS (R336). -/
def badRegions (o : List Word) : List (Bool × Nat × Nat) :=
  let n := secCount o 0x23 16
  let f := fun i b w => secField o 0x23 (16 * i + b) w
  let rs := List.range n
  [(ragged o 0x23 16, 0x23, 2), (decide (1024 < n), 0x23, 1),
   (rs.any (fun i => decide (f i 8 1 < 21) || decide (47 < f i 8 1) || decide (f i 0 8 % 2 ^ f i 8 1 ≠ 0) || decide (2 ^ 48 ≤ f i 0 8) || decide (1 < f i 9 1)), 0x23, 2),
   (rs.any (fun i => !rankValid o (f i 10 2)), 0x23, 2), (overlap (rs.map (fun i => (f i 0 8, 2 ^ f i 8 1))), 0x23, 3)]
/-- KETTLES (R347). -/
def State.badKettles (s : State) (o : List Word) : List (Bool × Nat × Nat) :=
  let n := secCount o 0x24 296
  let f := fun i b w => secField o 0x24 (296 * i + b) w
  let rs := List.range n
  let parts := fun (i : Nat) => (List.range 2000).filter (fun c => bitOf (f i (40 + c / 8) 1) (c % 8))
  [(ragged o 0x24 296, 0x24, 2), (decide (256 < n), 0x24, 1), (repeats (rs.map (fun i => f i 0 1)), 0x24, 3),
   (rs.any (fun i => decide (2 < f i 1 1) || decide (f i 4 4 = 0) || decide (bits (f i 2 1) 5 2 ≠ 0)), 0x24, 2), (rs.any (fun i => !(parts i).all s.coreServes), 0x24, 4),
   (rs.any (fun i => (List.range 8).any (fun e => bitOf (f i (8 + 4 * e) 4) 31 && !rankValid o (bits (f i (8 + 4 * e) 4) 0 12))), 0x24, 2)]
/-- MAP and POOL, against the capacity in service (R140, R170, R171, R178). -/
def State.badMap (s : State) (o : List Word) : List (Bool × Nat × Nat) :=
  let ms := mapRecs o
  let cap := s.w * 2 ^ 40
  let ends := alignUp (alignUp (mapsEnd (2 ^ 30) ms) (2 ^ 16) + secField o 0x26 0 4 * 2 ^ 16) (2 ^ 21) + secField o 0x26 4 4 * 2 ^ 21
  [(ragged o 0x25 32, 0x25, 2),
   (ms.any (fun m => decide (2 < m.page) || decide (2 < m.defer) || decide (m.jva % pageSize m.page ≠ 0) || decide (m.len % pageSize m.page ≠ 0) || decide (m.len = 0) ||
     decide (2 ^ 48 < m.jva + m.len) || (decide (m.page = 2) && decide (m.defer = 1))), 0x25, 2),
   (overlap (ms.map (fun m => (m.jva, m.len))), 0x25, 3), (decide (cap < mapsEnd (2 ^ 30) ms) || decide (2 ^ 30 < (tablesOf (jobPages o)).end_), 0x25, 4),
   ((match secLen o 0x26 with | some n => decide (n ≠ 8) | none => false), 0x26, 2), (decide (cap < ends), 0x26, 4)]
/-- SERVING and SEGMENTS (R379, R390). -/
def badSegments (o : List Word) : List (Bool × Nat × Nat) :=
  let n := secCount o 0x28 192
  let rs := List.range n
  let src := fun i => (List.range 4).map (segSource o i)
  let tickets := ((mapRecs o).filter (fun m => decide (m.defer = 2))).map (fun m => m.ticket)
  [(decide (secLen o 0x27 ≠ some 32), 0x27, 2), (ragged o 0x28 192, 0x28, 2), (repeats (rs.map (fun i => (segRec o i).id)), 0x28, 3),
   (rs.any (fun i => decide ((segRec o i).len = 0) || (src i).any (fun x => decide (3 < x.1)) || (src i).all (fun x => decide (x.1 = 0)) ||
     (src i).any (fun x => decide (x.1 = 1) && !rankValid o x.2.1)), 0x28, 2),
   (rs.any (fun i => !tickets.contains (segRec o i).ticket), 0x28, 3)]
/-- PROGRAMS and CORES (R504). -/
def State.badCores (s : State) (o : List Word) : List (Bool × Nat × Nat) :=
  let ps := programs o 0 9
  let cs := coreRecs o
  let fin := match ps.getLast? with | some p => p.2.2 + 32 * p.2.1 | none => 0
  [(decide (8 < ps.length), 0x29, 1), (ps.any (fun p => decide (7 < p.1) || decide (p.2.1 = 0) || decide (4096 < p.2.1)) || decide (secLen o 0x29 ≠ some fin), 0x29, 2),
   (repeats (ps.map Prod.fst), 0x29, 3), (ragged o 0x2A 24, 0x2A, 2),
   (cs.any (fun r => decide (r.last < r.first) || decide (2000 ≤ r.last) || !ps.any (fun p => decide (p.1 = r.prog)) || decide (bits r.banks 0 8 &&& bits r.banks 8 8 ≠ 0) ||
     decide (r.start &&& 0x0FFF0FFF ≠ r.start) || decide (2 ^ 14 ≤ r.save)), 0x2A, 2),
   (cs.any (fun r => r.cores.any (fun c => !s.coreServes c)), 0x2A, 4), (overlap (cs.map (fun r => (r.first, r.last + 1 - r.first))), 0x2A, 3)]
/-- PRELOAD and SETTINGS (R429, R501). -/
def State.badLists (s : State) (o : List Word) : List (Bool × Nat × Nat) :=
  let ps := preRecs o
  let ss := pairRecs o 0x2C
  let settingOk := fun (a : Nat) => match decodeAddr a with
    | some (t, _, off) => [PageType.xe, .pager, .sieve, .region].contains t && decide ((regRow t off).half off ((regRow t off).rw ||| (regRow t off).rwl) ≠ 0)
    | none => false
  [(ragged o 0x2B 24, 0x2B, 2), (ps.any (fun p => decide (p.len % 512 ≠ 0) || decide (40 ≤ p.stack) || decide (2 ^ 21 < p.row + p.len / 512)), 0x2B, 2),
   (ps.any (fun p => !s.stackActive p.stack), 0x2B, 4), (ragged o 0x2C 8, 0x2C, 2), (decide (64 < ss.length), 0x2C, 1), (ss.any (fun e => !settingOk e.1), 0x2C, 2)]
/-- The checks of a manifest, in the order of the section types. -/
def State.manifestContent (s : State) (o : List Word) : Option (Nat × Nat) :=
  firstBad (s.badJob o ++ s.badKeys o ++ s.badRanks o ++ badRegions o ++ s.badKettles o ++ s.badMap o ++ badSegments o ++ s.badCores o ++ s.badLists o)

/-- The check of contents of a kind. -/
def State.contentFault (s : State) (kind : Nat) (o : List Word) : Option (Nat × Nat) :=
  match kind with
  | 2 => folioContent o
  | 3 => s.manifestContent o
  | 4 => enrolContent o
  | _ => none

end Sys2Proof.Machine
end

