-- ==== Sys2Proof/Machine/Folio.lean ====
section
/-!
DEFINITION. Sys2Proof/Machine/Folio.lean: the object window (R472, R473, R476, R480, R481, R492, R495, R501, R503, R512), and how folios and jobs end or begin on
command (R495, R496, R506).
-/
namespace Sys2Proof.Machine

/-! ## The object window (R476) -/

/-- Show a refusal (R476, R512): the staged object is discarded. -/
def State.objRefuse (s : State) (code sec reason : Nat) : State :=
  { s with staging := { s.staging with state := 4, code := code, secType := sec, reason := reason, words := [] } }.irq .folio 0 1
/-- Show an acceptance. -/
def State.objAccept (s : State) : State := { s with staging := { s.staging with state := 3, code := 0, secType := 0, reason := 0, words := [] } }.irq .folio 0 0
/-- Whether an initiator may go on with the staging in progress. -/
def State.stagedBy (s : State) (ini : Initiator) : Bool := decide (s.staging.state = 1) && decide (s.staging.ini = iniCode ini)
/-- OBJ_CMD begin (R476): it discards what the same initiator staged; another's staging is kept, and the begin refused with BUSY. -/
def State.objBegin (s : State) (ini : Initiator) (kind : Nat) : State :=
  if s.stage = .ovum ∨ kind = 0 ∨ kind = 7 then s.errCount .folio 0 2
  else if s.staging.state = 1 ∧ s.staging.ini ≠ iniCode ini then { s with staging := { s.staging with code := 7 } }.irq .folio 0 1
  else { s with staging := { state := 1, ini := iniCode ini, kind := kind } }
/-- A word for OBJ_DATA. -/
def State.objData (s : State) (ini : Initiator) (v : Word) : State :=
  if s.stagedBy ini then { s with staging := { s.staging with words := s.staging.words ++ [v] } } else s.errCount .folio 0 2
/-- OBJ_CMD abort: the staged object, or a report, is discarded. -/
def State.objAbort (s : State) (ini : Initiator) : State := if s.staging.state = 1 ∧ !s.stagedBy ini then s.errCount .folio 0 2 else { s with staging := {} }

/-- Whether a kind is accepted in the present stage and job state (R472, R473, R480, R481, R492, R495, R501, R528). -/
def State.kindAccepted (s : State) (ini : Initiator) (kind : Nat) : Bool :=
  let port := decide (ini = .i3c)
  let waits := decide (s.stage = .larva) && decide (s.bootWait = 3) && port
  let stopped := decide (s.stage = .larva) && decide (s.bootWait = 7) && port
  let up := decide (s.stage = .pupa) || decide (s.stage = .imago)
  match kind with
  | 1 => port && (up || stopped || (decide (s.stage = .recovery) && decide (s.recov.state ≠ 3))) || (decide (s.stage = .recovery) && decide (s.recov.state ≠ 3))
  | 2 => up || waits || stopped
  | 3 => decide (s.stage = .pupa) && decide (s.jobPhase = 0) && decide (s.stop.cause = 0) && decide (s.dst = .d0) && decide (s.fld (fabReg 0x044) 18 2 ≠ 0)
  | 4 => port && (waits || (decide (s.stage = .pupa) && decide (s.jobPhase = 0)))
  | _ => decide (s.stage ≠ .ovum) && decide (s.stage ≠ .recovery)
/-- The code of the first check that a staged object fails, its contents aside; 0 where none does. -/
def State.stagedFault (s : State) (ini : Initiator) (kind : Nat) (o : List Word) : Nat :=
  if !s.kindAccepted ini kind then 8
  else if formatOk kind o ∧ !sectionsOk kind o then 1
  else s.objFault kind o

/-- A wrapped key (R503). -/
def unwrapKey (secret : List Byte) (o : List Word) (tag i off : Nat) : List Byte :=
  let nonce := leBytes 16 (secField o 0x21 0 16)
  let mask := hmac256 secret ([0x57, 0x37, 0x4B, 0x57] ++ nonce ++ leBytes 2 tag ++ leBytes 4 i)
  List.zipWith (· ^^^ ·) (leBytes 32 (secField o 0x21 off 32)) mask
/-- The session keys and the fetch key of a manifest. -/
def State.unwrap (s : State) (o : List Word) : List (List Byte) × List Byte :=
  let secret := leBytes 32 ((s.vault.enrolled.getLast?.map Prod.fst).getD 0)
  let tag := secField o 0x20 0 2
  let n := secField o 0x21 16 1
  ((List.range n).map (fun i => unwrapKey secret o tag i (24 + 32 * i)), unwrapKey secret o tag 16 (24 + 32 * n))
/-- An accepted image (R480, R481): its write to the flash begins. -/
def State.takeImage (s : State) (o : List Word) : State :=
  if s.stage = .recovery then { s with recov := { s.recov with state := 3, code := 0, image := o } } else { s with vault := { s.vault with imageDue := o } }
/-- An accepted folio (R473, R495): the new high-water mark; the first of all continues Larva. -/
def State.takeFolio (s : State) (o : List Word) : State :=
  let s1 := { s with vault := { s.vault with folioHwm := objVersion o, pendingFolio := o } }.amend 0x12 false 0 (objVersion o)
  if s.stage = .larva ∧ s.bootWait = 3 then (s1.takePending.folioUp).bootCheck else s1
/-- An accepted manifest (R503 to R505): the new high-water mark, its keys, and the load. -/
def State.takeManifest (s : State) (o : List Word) : State :=
  let s1 := { s with vault := { s.vault with manifestHwm := objVersion o } }.amend 0x13 false 0 (objVersion o)
  let k := s1.unwrap o
  s1.loadJob o k.1 k.2
/-- An accepted enrolment (R492): wrap secret and key digest are fused into the next slot, and the public keys are in force. -/
def State.takeEnrolment (s : State) (o : List Word) : State :=
  let keys := secBody o 0x60
  { s with vault := { s.vault with enrolled := s.vault.enrolled ++ [(secField o 0x61 0 32, beNat (sha512 (wordBytes keys)))], enrolKeys := keys } }
/-- Take an object that passed. -/
def State.takeObject (s : State) (kind : Nat) (o : List Word) : State :=
  match kind with
  | 1 => s.takeImage o
  | 2 => s.takeFolio o
  | 3 => s.takeManifest o
  | _ => s.takeEnrolment o
/-- Prepare a report (R476, R508, R528): kind 5 carries a nonce of 32 bytes, kind 6 nothing. -/
def State.prepare (s : State) (ini : Initiator) (kind : Nat) (o : List Word) : State :=
  if !s.kindAccepted ini kind then s.objRefuse 8 0 0
  else if o.length ≠ (if kind = 5 then 8 else 0) then s.objRefuse 1 0 0
  else
    let ws := if kind = 5 then s.attest (wordBytes o) else s.reportOut.report
    { s with staging := { s.staging with state := 5, code := 0, words := ws } }.irq .folio 0 0
/-- OBJ_CMD commit (R476). -/
def State.objCommit (s : State) (ini : Initiator) : State :=
  if !s.stagedBy ini then s.errCount .folio 0 2
  else
    let kind := s.staging.kind
    let o := s.staging.words
    if 5 ≤ kind then s.prepare ini kind o
    else
      let code := s.stagedFault ini kind o
      if code ≠ 0 then s.objRefuse code 0 0
      else
        match s.contentFault kind o with
        | some (sec, reason) => s.objRefuse 9 sec reason
        | none => (s.objAccept).takeObject kind o

/-- OBJ_CMD as written (R512). -/
def State.objCmd (s : State) (ini : Initiator) (v : Nat) : State :=
  match bits v 0 2 with
  | 1 => s.objBegin ini (bits v 4 3)
  | 2 => s.objCommit ini
  | 3 => s.objAbort ini
  | _ => s.errCount .folio 0 2
/-- OBJ_BEGIN. -/
def execObjBegin (ini : Initiator) (ep : Byte) (kind : BitVec 3) (s : State) : Host.Outcome State Fault Refusal :=
  .next (s.busDo ini ep .folio 0 0x058 (fun t => t.objBegin ini kind.toNat))
/-- OBJ_DATA_WRITE. -/
def execObjDataWrite (ini : Initiator) (ep : Byte) (v : Word) (s : State) : Host.Outcome State Fault Refusal := .next (s.busDo ini ep .folio 0 0x05C (fun t => t.objData ini v))
/-- OBJ_COMMIT. -/
def execObjCommit (ini : Initiator) (ep : Byte) (s : State) : Host.Outcome State Fault Refusal := .next (s.busDo ini ep .folio 0 0x058 (fun t => t.objCommit ini))
/-- OBJ_ABORT. -/
def execObjAbort (ini : Initiator) (ep : Byte) (s : State) : Host.Outcome State Fault Refusal := .next (s.busDo ini ep .folio 0 0x058 (fun t => t.objAbort ini))

/-! ## Folios and jobs on command (R495, R496, R506, R512) -/

/-- FOLIO_APPLY (R495): a pending folio is applied once no job is loaded, by a warm Larva and Pupa. -/
def execFolioApply (s : State) : Host.Outcome State Fault Refusal :=
  if s.vault.pendingFolio.isEmpty ∨ s.jobPhase ≠ 0 ∨ s.stage ≠ .pupa ∨ s.stop.cause ≠ 0 ∨ s.dst ≠ .d0 then .next s
  else .next ((s.takePending.warmLarva).irq .folio 0 2)
/-- What calls for an automatic fold back under a new folio (R496): a step of the warm Larva has failed, or 60 s after the manifest's acceptance there is no
eclosion. -/
def State.foldDue (s : State) : Bool :=
  s.vault.newFolio && ((decide (s.stage = .larva) && s.warm && decide (s.bootWait = 7)) || (decide (s.jobPhase = 2) && decide (s.job.accepted + 60000000000 ≤ s.now)))
/-- FOLD_BACK (R496): automatic; FOLIO_STAT names the failed step by a number that the spec does not give. -/
def execFoldBack (s : State) : Host.Outcome State Fault Refusal :=
  if !s.foldDue ∨ s.vault.prior.isEmpty ∨ s.vault.priorRejected then .next s
  else
    let s1 := if s.jobPhase = 0 then s else s.jobEnd
    let x := s1.fresh
    .next ({ x.2 with vault := { x.2.vault with failedStep := Config.freeNat x.1 % 256 } }.foldBack)
/-- The fold_back command (R496): refused where there is no prior folio, or a rejected one; carried out at the next job unload. -/
def State.askFoldBack (s : State) : State :=
  if s.vault.prior.isEmpty ∨ s.vault.priorRejected then s.errCount .folio 0 2 else { s with vault := { s.vault with foldBackAsked := true } }
/-- FOLD_BACK_CMD. -/
def execFoldBackCmd (ini : Initiator) (ep : Byte) (s : State) : Host.Outcome State Fault Refusal := .next (s.busDo ini ep .folio 0 0x054 (fun t => t.askFoldBack))
/-- The unload command (R506): an orderly stop whose end is that of the job. -/
def State.askUnload (s : State) : State :=
  if s.jobPhase = 0 then s.errCount .folio 0 2
  else if s.stop.stopped then { s.finishUnload with stop := s.stop }
  else if s.stop.cause = 6 then s
  else if s.stop.cause ≠ 0 then { s with stop := { s.stop with abandon := true } }
  else s.stopBegin 6 0
/-- UNLOAD. -/
def execUnload (ini : Initiator) (ep : Byte) (s : State) : Host.Outcome State Fault Refusal := .next (s.busDo ini ep .folio 0 0x054 (fun t => t.askUnload))
/-- The reset command (R512): only where no job is loaded. -/
def State.askReset (s : State) : State := if s.jobPhase = 0 then s.toOvum else s.errCount .folio 0 2
/-- RESET_TO_OVUM. -/
def execResetToOvum (ini : Initiator) (ep : Byte) (s : State) : Host.Outcome State Fault Refusal := .next (s.busDo ini ep .folio 0 0x054 (fun t => t.askReset))
/-- FOLIO.CMD as written. -/
def State.folioCmd (s : State) (v : Nat) : State :=
  let s1 := if bitOf v 0 then s.askFoldBack else s
  let s2 := if bitOf v 1 then s1.askUnload else s1
  if bitOf v 2 then s2.askReset else s2

end Sys2Proof.Machine
end

