-- ==== Sys2Proof/Machine/Matrix.lean ====
section
/-!
DEFINITION. Sys2Proof/Machine/Matrix.lean: the Matrix Engine (R56 to R62, R88 to R92, R97). A command does its work when it starts;
ENGINE_COMMAND_COMPLETE ends it.
-/
namespace Sys2Proof.Machine

/-- Element `i` of accumulator `a` (R62): row-major, 64 columns. -/
def Context.accGet (k : Context) (a i : Nat) : Word := sget 0 k.acc (2048 * a + i)
/-- Replace accumulator `a` by the elements listed, ascending; an unlisted element is zero. -/
def Context.accSet (k : Context) (a : Nat) (vs : List (Nat × Word)) : Context :=
  let new := (vs.filter (fun v => decide (v.2 ≠ 0))).map (fun v => (2048 * a + v.1, v.2))
  { k with acc := k.acc.filter (fun e => decide (e.1 < 2048 * a)) ++ new ++ k.acc.filter (fun e => decide (2048 * (a + 1) ≤ e.1)) }
/-- Set the tag of accumulator `a`. -/
def Context.tagSet (k : Context) (a : Nat) (t : AccTag) : Context := { k with tag := k.tag.setIfInBounds a t }

/-- The tag a configuration gives (R56). -/
def MeCfg.tag (c : MeCfg) : AccTag := if c.aFmt = 6 then .int32 else .fp32
/-- A configuration as the format pair of R56 permits it. -/
def MeCfg.legal (c : MeCfg) : Bool := (pairCycles c.aFmt.toNat c.bFmt.toNat).isSome

/-- Bits per element of A or B data (R60, R61): CB4 and CB3 are nibbles. -/
def elemBits (fmt : Nat) : Nat := if fmt = 7 then 16 else if fmt = 0 ∨ fmt = 1 ∨ fmt = 8 ∨ fmt = 9 then 4 else 8
/-- Whether a block of the format is followed by a scale line (R60, R61). -/
def hasScale (fmt : Nat) : Bool := isMx fmt || decide (fmt = 8) || decide (fmt = 9)
/-- Lines of data in one block of `cols` rows or columns (R60, R61). -/
def dataLines (fmt cols : Nat) : Nat := elemBits fmt * cols * 32 / 512
/-- Lines of one block with its scale line. -/
def blockLines (fmt cols : Nat) : Nat := dataLines fmt cols + b2n (hasScale fmt)

/-- The raw element of k step `j`, row or column `i`, of block `b` in operand data `v` (R60, R61). -/
def operandElem (fmt cols v b j i : Nat) : Nat :=
  bits v (512 * blockLines fmt cols * b + elemBits fmt * (cols * j + i)) (elemBits fmt)
/-- The scale of row or column `i` of block `b`, 127 where the format has none (R88). -/
def operandScale (fmt cols v b i : Nat) : Nat :=
  if hasScale fmt then bits v (512 * (blockLines fmt cols * b + dataLines fmt cols) + 8 * i) 8 else 127

/-- A list of block numbers is taken as an order of `n` blocks when it is a permutation of them (R89), else ascending order. -/
def blockOrderOf (l : List Nat) (n : Nat) : List Nat :=
  if l.length = n ∧ (List.range n).all (fun i => l.contains i) then l else List.range n

/-- The 32 exact products of one block for one element (R88). -/
def blockProducts (c : MeCfg) (cb : Nat → BitVec 16) (va vb b i col : Nat) : List (Num × Flags) :=
  (List.range 32).map (fun j =>
    mulNum (elemNum c.aFmt.toNat cb (operandElem c.aFmt.toNat 32 va b j i)) (elemNum c.bFmt.toNat cb (operandElem c.bFmt.toNat 64 vb b j col)))

/-- One FP32 accumulator element after an MMA (R89). -/
def mmaFloat (c : MeCfg) (cb : Nat → BitVec 16) (va vb i col : Nat) (acc : Word) (order : List Nat) : Word × Flags :=
  order.foldl (fun a b =>
    let sb := blockSum (blockProducts c cb va vb b i col) (operandScale c.aFmt.toNat 32 va b i) (operandScale c.bFmt.toNat 64 vb b col)
    let r := addF32 a.1 sb.1
    (r.1, a.2 ||| sb.2 ||| r.2)) (acc, 0)

/-- One INT32 accumulator element after an MMA (R92): ascending blocks. -/
def mmaInt (va vb i col : Nat) (acc : Word) (nb : Nat) : Word × Flags :=
  (List.range nb).foldl (fun a b =>
    let s := (List.range 32).foldl (fun t j => t + int8Val (operandElem 6 32 va b j i) * int8Val (operandElem 6 64 vb b j col)) (0 : Int)
    let r := satInt32 a.1 s
    (r.1, a.2 ||| r.2)) (acc, 0)

/-- The codebook entry of an index in the codebook a configuration selects (R84). -/
def Context.codebook (k : Context) (cb : BitVec 2) (x : Nat) : BitVec 16 := k.cbk.toList.getD (16 * cb.toNat + x) 0

/-- MCFG (R56): a legal pair becomes the configuration; any other raises FORMAT and changes none. -/
def mcfgBody (core : Nat) (x : Ctx) (s : State) (q : QEntry) : Option Nat × State :=
  let v := q.cmd.toNat
  let c : MeCfg := ⟨BitVec.ofNat 4 (v / 2 ^ 36), BitVec.ofNat 4 (v / 2 ^ 32), BitVec.ofNat 2 (v / 2 ^ 30)⟩
  if c.legal then (none, s.modCtx core x (fun k => { k with cfg := some c })) else (some 0x07, s)

/-- MLCB (R58): 16 BF16 entries from bytes 0 to 31 of a line. -/
def mlcbBody (core : Nat) (x : Ctx) (s : State) (q : QEntry) : Option Nat × State :=
  let v := q.cmd.toNat
  let line := bits v 26 14
  match s.lineCheck core x false [(line, 1)] [] with
  | some c => (some c, s)
  | none =>
    let r := s.bufRead core (64 * line) 8
    match r.1.bad with
    | some _ => (some 0x10, r.2)
    | none =>
      let cb := bits v 24 2
      (none, r.2.modCtx core x (fun k =>
        { k with cbk := Vector.ofFn (fun i : Fin 64 =>
            if i.val / 16 = cb then BitVec.ofNat 16 (bits r.1.val (16 * (i.val % 16)) 16) else k.cbk.get i) }))

/-- The tag rule of MMA (R59): FORMAT where the accumulator is not cleared and its tag differs from the configuration. -/
def mmaFormat (k : Context) (c : MeCfg) (acc : Nat) (zero : Bool) : List Nat :=
  if zero ∨ k.tag.toList.getD acc .invalid = c.tag then [] else [0x07]

/-- MMA (R58, R88 to R92). One that meets CB_UE leaves its accumulator and tag as they were, with zero = 1 too (R73; DESIGN CHOICE, log entry 94). -/
def mmaBody (core : Nat) (x : Ctx) (s : State) (q : QEntry) : Option Nat × State :=
  let v := q.cmd.toNat
  let k := s.ctx core x
  let a := bits v 2 2
  let zero := bitOf v 1
  let nb := bits v 4 8 + 1
  let la := bits v 26 14
  let lb := bits v 12 14
  match k.cfg with
  | none => (some 0x07, s)
  | some c =>
    let na := nb * blockLines c.aFmt.toNat 32
    let nbl := nb * blockLines c.bFmt.toNat 64
    match s.lineCheck core x false [(la, na), (lb, nbl)] (mmaFormat k c a zero) with
    | some e => (some e, s)
    | none =>
      let ra := s.bufRead core (64 * la) (8 * na)
      let rb := ra.2.bufRead core (64 * lb) (8 * nbl)
      match ra.1.bad, rb.1.bad with
      | none, none =>
        let order := blockOrderOf (Config.blockOrder (s.die (0x40 + core / 50)).rev.toNat q.cmd) nb
        let res := (List.range 2048).map (fun i =>
          let old := if zero then 0 else k.accGet a i
          let r := if c.tag = .int32 then mmaInt ra.1.val rb.1.val (i / 64) (i % 64) old nb
            else mmaFloat c (k.codebook c.cb) ra.1.val rb.1.val (i / 64) (i % 64) old order
          (i, r))
        let fl := res.foldl (fun f r => f ||| r.2.2) 0
        let s1 := rb.2.modCtx core x (fun k => (k.accSet a (res.map (fun r => (r.1, r.2.1)))).tagSet a c.tag)
        (none, s1.numFlags core x fl)
      | _, _ => (some 0x10, rb.2)

/-- The lines that MST and MLD move for an element size in bytes (R62). -/
def accLines (size : Nat) : Nat := 32 * size
/-- The element size of an MST out_fmt (R62); an out_fmt of no size, which raises FORMAT, is checked as the least (DESIGN CHOICE, log entry 10). -/
def outSize (fmt : Nat) : Nat := if fmt = 15 then 4 else if fmt = 7 then 2 else 1

/-- MST (R58, R59, R97). -/
def mstBody (core : Nat) (x : Ctx) (s : State) (q : QEntry) : Option Nat × State :=
  let v := q.cmd.toNat
  let k := s.ctx core x
  let line := bits v 26 14
  let a := bits v 24 2
  let fmt := bits v 20 4
  let tag := k.tag.toList.getD a .invalid
  let ok := match tag with
    | .invalid => false
    | .int32 => decide (fmt = 15)
    | .fp32 => decide (fmt = 15 ∨ fmt = 7 ∨ fmt = 2 ∨ fmt = 3)
  let size := outSize fmt
  match s.lineCheck core x false [(line, accLines size)] (if ok then [] else [0x07]) with
  | some e => (some e, s)
  | none =>
    let res := (List.range 2048).map (fun i =>
      let w := k.accGet a i
      if fmt = 15 then (w.toNat, if tag = .fp32 ∧ isNanF32 w then Flag.nanOut else 0) else convertElem fmt w)
    let fl := res.foldl (fun f r => f ||| r.2) 0
    let s1 := s.bufWrite core (64 * line) (packNat (8 * size) (res.map Prod.fst)) (2048 * size)
    let s2 := if bitOf v 19 then s1.modCtx core x (fun k => k.accSet a []) else s1
    (none, s2.numFlags core x fl)

/-- MLD (R58, R59). -/
def mldBody (core : Nat) (x : Ctx) (s : State) (q : QEntry) : Option Nat × State :=
  let v := q.cmd.toNat
  let line := bits v 26 14
  let a := bits v 24 2
  match s.lineCheck core x false [(line, 128)] (if (s.ctx core x).cfg = none then [0x07] else []), (s.ctx core x).cfg with
  | some e, _ => (some e, s)
  | none, none => (some 0x07, s)
  | none, some c =>
      let r := s.bufRead core (64 * line) 1024
      match r.1.bad with
      | some _ => (some 0x10, r.2)
      | none =>
        let vs := (List.range 2048).map (fun i => (i, BitVec.ofNat 32 (bits r.1.val (32 * i) 32)))
        let nan := decide (c.tag = .fp32) && vs.any (fun w => isNanF32 w.2)
        let s1 := r.2.modCtx core x (fun k => (k.accSet a vs).tagSet a c.tag)
        (none, s1.numFlags core x (if nan then Flag.nanOut else 0))

/-- MCFG. -/
def execMcfg (core : Fin 2000) (x : Ctx) (s : State) : Host.Outcome State Fault Refusal :=
  .next (s.startEngine core x .me 0xC0 (mcfgBody core x))
/-- MLCB. -/
def execMlcb (core : Fin 2000) (x : Ctx) (s : State) : Host.Outcome State Fault Refusal :=
  .next (s.startEngine core x .me 0xC1 (mlcbBody core x))
/-- MMA. -/
def execMma (core : Fin 2000) (x : Ctx) (s : State) : Host.Outcome State Fault Refusal :=
  .next (s.startEngine core x .me 0xC2 (mmaBody core x))
/-- MST. -/
def execMst (core : Fin 2000) (x : Ctx) (s : State) : Host.Outcome State Fault Refusal :=
  .next (s.startEngine core x .me 0xC3 (mstBody core x))
/-- MLD. -/
def execMld (core : Fin 2000) (x : Ctx) (s : State) : Host.Outcome State Fault Refusal :=
  .next (s.startEngine core x .me 0xC4 (mldBody core x))

end Sys2Proof.Machine
end

