-- ==== Sys2Proof/Machine/Registers.lean ====
section
/-!
DEFINITION. Sys2Proof/Machine/Registers.lean: what a write to any register does (R13 to R19, R535 to R537, R543, R544), fabric management (R305) and the
management port (R545 to R547).
-/
namespace Sys2Proof.Machine

/-! ## Action registers, by their bits -/

/-- CTX_CMD (R78): its actions in the order of their bits. -/
def State.ctxCmd (s : State) (core v : Nat) : State :=
  let go := fun (b : Nat) (f : State → State) (t : State) => if bitOf v b then f t else t
  go 5 (fun t => t.clearCtrs core) (go 4 (fun t => t.resumeP core) (go 3 (fun t => t.preemptP core) (go 2 (fun t => t.abortD core)
    (go 1 (fun t => t.startCtx core .p) (go 0 (fun t => t.startCtx core .d) s)))))
/-- GROUP_CMD (R238): a group that the home channel does not have, or no action of the list, is ignored and counted. -/
def State.groupCmd (s : State) (home v : Nat) : State :=
  match (homeGroups home)[bits v 0 5]? with
  | none => (s.errCount .phoHome home 2).wr (regAddr .phoHome home 0x04C) (BitVec.ofNat 32 16)
  | some g =>
    match bits v 8 3 with
    | 1 => s.askBlock g 1
    | 2 => s.unblock g
    | 3 => s.askBlock g 2
    | 4 => s.groupWakeCmd g
    | 5 => s.groupSpareCmd g (Fin.ofNat 8 (bits v 12 3)) (bits v 16 4)
    | _ => s.cmdIgnored g
/-- XPORT.CMD (R326). -/
def State.portCmd (s : State) (p v : Nat) : State :=
  match bits v 0 3 with
  | 1 => s.portRetrainDo p
  | 2 => s.portSpareDo p (Fin.ofNat 8 (bits v 4 3)) (bits v 8 4)
  | 3 => s.portDisableDo p
  | 4 => s.portEnableDo p
  | _ => s.xportIgnored p
/-- PWR.STATE_CMD (R441). -/
def State.stateCmdWord (s : State) (ini : Initiator) (v : Nat) : State :=
  match bits v 0 2 with
  | 0 => s.cmdD0 ini
  | 1 => s.cmdD1 ini
  | 2 => s.cmdD2
  | _ => s.cmdD3

/-! ## Soft reset (R537) -/

/-- The latched logs of a page type. -/
def pageLogs : PageType → List Nat
  | .rows => [0x04C, 0x054]
  | .mchan => [0x04C, 0x050]
  | .xe => [0x064, 0x068, 0x06C]
  | .phoHome => [0x068]
  | .phoSite => [0x068]
  | .region => [0x048, 0x04C, 0x050]
  | .xport => [0x080]
  | .fab => [0x05C]
  | .timebase => [0x070]
  | .therm => [0x048]
  | _ => []
/-- The general effect: RC fields, interrupt bits, the error count, latched logs and pending halves. -/
def State.softClear (s : State) (t : PageType) (i : Nat) : State :=
  let s1 := (regRows t).foldl (fun (u : State) r => if r.rc = 0 then u else (List.range r.count).foldl (fun w k => w.rcClear t i (r.off + k * r.stride)) u) s
  let s2 := (pageLogs t).foldl (fun (u : State) l => u.wr (keptAddr t i l) 0) s1
  let s3 := (s2.wr (hdr t i 0x010) 0).wr (hdr t i 0x01C) 0
  { s3 with highHeld := s3.highHeld.filter (fun e => decide (e.1 % 2 ^ 28 / 4096 ≠ pageNo t i)) }
/-- A context under a soft reset: nothing queued is left, and it is IDLE once its running commands are done. -/
def State.stopCtx (s : State) (core : Nat) (x : Ctx) : State :=
  let k := s.ctx core x
  (s.setCtx core x { k with mode := (if s.engineBusy core x then .drainAbort else .idle), qMe := [], qVe := [], qRm := [], pend := 0 }).dropHall core x
/-- The action of a page type. -/
def State.resetAction (s : State) (t : PageType) (i : Nat) : State :=
  match t with
  | .core => (((s.stopCtx i .d).stopCtx i .p).setFld (hdr .core i 0x00C) 1 1 1).resetOver i
  | .xe =>
    let e := s.xe i
    let s1 := s.setXe i { e with chains := [], tlb := [], walkWait := e.walkWait.filter (fun w => match w.1 with | .hall _ => true | .target _ => true | _ => false) }
    if e.chains.isEmpty then s1 else s1.irq .xe i 3
  | .pager =>
    let p := s.pager i
    let held := p.faults.filterMap (fun f => f.page.map (fun a => (f.level, a)))
    let s1 := s.setPager i {}
    { s1 with jobPool64 := s1.jobPool64 ++ p.pool64K ++ (held.filter (fun x => decide (x.1 = 3))).map Prod.snd
              jobPool2M := s1.jobPool2M ++ p.pool2M ++ (held.filter (fun x => decide (x.1 = 2))).map Prod.snd }
  | .kettle => s.kettleClear i
  | _ => s
/-- The die that a job fault of a page's soft reset names. -/
def resetDie (t : PageType) (i : Nat) : Nat := match t with | .core => 0x40 + i / 50 | .kettle => 0 | _ => 0x40 + i
/-- A soft reset of a page; the action of the four types during a job is a job fault, outside a job restart. -/
def State.softResetPage (s : State) (t : PageType) (i : Nat) : State :=
  let s1 := (s.softClear t i).resetAction t i
  if (pageInfo t).resetAction ∧ 2 ≤ s.jobPhase ∧ !s.restart.busy then s1.jobFault 1 0 (resetDie t i) i else s1

/-! ## The header (R535, R536) -/

/-- The interrupt bits that a page has (R535, R356): those of REGION are instance 0's. -/
def irqMask (t : PageType) (i : Nat) : Nat := if t = .region ∧ i ≠ 0 then 0 else 2 ^ (pageInfo t).irqBits - 1
/-- PAGE_IRQ_FORCE (R535). -/
def State.forceIrq (s : State) (t : PageType) (i v : Nat) : State :=
  if s.powered t i then s.wr (hdr t i 0x010) (BitVec.ofNat 32 (s.rdn (hdr t i 0x010) ||| (v &&& irqMask t i))) else s
/-- PAGE_CTL.unlock (R18, R536). -/
def State.unlockBy (s : State) (ini : Initiator) (t : PageType) (i : Nat) : State :=
  let active : Bool := match ini with | .keeper k _ => decide (s.tally.active = some k) | _ => false
  if active ∧ (s.jobState = 0 ∨ s.jobState = 1 ∨ s.jobState = 4) then s.unlockPage t i else s.errCount t i 2
/-- PAGE_CTL as written. A write with both lock and unlock set locks first and then unlocks, so that the lock ends 0 (R18; DESIGN CHOICE, log entry 91). -/
def State.pageCtl (s : State) (ini : Initiator) (t : PageType) (i v : Nat) : State :=
  let s1 := s.setFld (hdr t i 0x008) 3 1 (bits v 3 1)
  let s2 := if bitOf v 1 then s1.softResetPage t i else s1
  let s3 := if bitOf v 2 then s2.lockPage t i else s2
  if bitOf v 4 then s3.unlockBy ini t i else s3
/-- A header register as written. -/
def State.writeHeader (s : State) (ini : Initiator) (t : PageType) (i off v : Nat) : State :=
  match off with
  | 0x008 => s.pageCtl ini t i v
  | 0x010 => if s.powered t i then s.wr (hdr t i 0x010) (BitVec.ofNat 32 (s.rdn (hdr t i 0x010) &&& (all32 ^^^ (v &&& all32)))) else s
  | 0x014 => if s.powered t i then s.wr (hdr t i 0x014) (BitVec.ofNat 32 (v &&& irqMask t i)) else s
  | 0x018 => s.forceIrq t i v
  | _ => s

/-! ## Block registers -/

/-- A 64-bit register as written in one step (R13). -/
def State.write64 (s : State) (t : PageType) (i off v : Nat) : State :=
  match t, off with
  | .xe, 0x044 => s.setTableBase i (BitVec.ofNat 64 v)
  | .pager, 0x060 => s.poolPush i v
  | .timebase, 0x054 => s.armSec (BitVec.ofNat 64 v)
  | _, _ =>
    if t = .core ∧ 0x300 ≤ off ∧ off < 0x400 then s.writeG i (if off < 0x380 then .d else .p) (Fin.ofNat 16 ((off - 0x300) / 8)) (BitVec.ofNat 64 v)
    else (s.regStore t i (off + 4) (v / 2 ^ 32)).regStore t i off (v % 2 ^ 32)
/-- An initiator's place in spine arbitration order among register accesses (R235): the active Keeper, the standby Keepers in ascending index, fabric
management at M7 and at M15, I3C. -/
def State.spineRank (s : State) : Initiator → Nat
  | .keeper k _ => if s.tally.active = some k then 0 else 1 + k.val
  | .fabM7 => 4
  | .fabM15 => 5
  | .i3c => 6
  | _ => 7
/-- The writes of this cycle to a register that come after an initiator's in arbitration order, first to last. -/
def State.laterWrites (s : State) (ini : Initiator) (a : Nat) : List SpineWrite :=
  s.clock.wrote.filter (fun w => decide (w.at_ = s.now) && decide (w.addr = a) && decide (s.spineRank ini < w.rank))
/-- Keep a write among those of its cycle, in arbitration order. -/
def State.noteWrite (s : State) (ini : Initiator) (a v : Nat) : State :=
  let ws := s.clock.wrote.filter (fun w => decide (w.at_ = s.now))
  let n := s.spineRank ini
  { s with clock := { s.clock with wrote := ws.filter (fun w => decide (w.rank ≤ n)) ++ [⟨s.now, n, a, v⟩] ++ ws.filter (fun w => decide (n < w.rank)) } }
/-- A register written by an initiator: writes of one cycle are applied in arbitration order, so the value that stands is the lowest-ranked initiator's (R19, R235). -/
def State.storeRanked (s : State) (ini : Initiator) (t : PageType) (i off v : Nat) : State :=
  let a := keptAddr t i off
  ((s.laterWrites ini a).foldl (fun (u : State) w => u.regStore t i off w.data) (s.regStore t i off v)).noteWrite ini a v
/-- A 32-bit register as written. -/
def State.write32 (s : State) (ini : Initiator) (t : PageType) (i off v : Nat) : State :=
  match t, off with
  | .core, 0x044 => s.setBanks i (bits v 0 8) (bits v 8 8)
  | .core, 0x048 => s.ctxCmd i v
  | .xe, 0x04C => s.setTagLimit i (v % 4096)
  | .rows, 0x060 => s.setCaps i (bits v 0 8) (bits v 8 8)
  | .phoHome, 0x048 => s.groupCmd i v
  | .clkreg, 0x044 => s.setClkSrc i v
  | .xport, 0x05C => s.portCmd i v
  | .lsm, 0x060 => s.setLineSel i v
  | .lsm, 0x070 => s.restoreOuts i (BitVec.ofNat 4 v)
  | .pwr, 0x044 => s.stateCmdWord ini v
  | .pwr, 0x058 => s.setInhibit v
  | .cal, 0x048 => s.calCmd v
  | .timebase, 0x048 => s.setRefCtl v
  | .tally, 0x048 => s.setPromote v
  | .folio, 0x054 => s.folioCmd v
  | .folio, 0x058 => s.objCmd ini v
  | .folio, 0x05C => s.objData ini (BitVec.ofNat 32 v)
  | _, _ => s.storeRanked ini t i off v
/-- A register as written: a high half waits for its low half (R13, R544); with none waiting, the low half leaves the high half as it stands. -/
def State.writeReg (s : State) (ini : Initiator) (t : PageType) (i off v : Nat) : State :=
  let a := regAddr t i off
  if off < 0x040 then s.writeHeader ini t i off v
  else if highHalf t off then { s with highHeld := sput (dropPage ini a s.highHeld) (latchKey ini (a - 4)) (BitVec.ofNat 32 v) }
  else if lowHalf t off then
    let hi := match sfind s.highHeld (latchKey ini a) with | some w => w.toNat | none => s.look t i (off + 4)
    ({ s with highHeld := serase s.highHeld (latchKey ini a) }).write64 t i off (v + hi * 2 ^ 32)
  else s.write32 ini t i off v

/-- Whether a write to PAGE_CTL names a field that only a Keeper may write (R536). -/
def keeperField (off v : Nat) : Bool := decide (off = 0x008) && (bitOf v 1 || bitOf v 2 || bitOf v 4)
/-- Whether R536 decides who may write, and not the window: the Keepers' fields, and PAGE_CTL.ibi from I3C. -/
def ownRule (ini : Initiator) (off v : Nat) : Bool := decide (off = 0x008) && (decide (ini = .i3c) || keeperField off v)
/-- A write of a word to an address: its ERROR code, 0 where it is taken, and the state. -/
def State.writeAt (s : State) (ini : Initiator) (ep : Byte) (a v : Nat) : Nat × State :=
  let off := a % 4096
  if s.writeError ini ep a (ownRule ini off v) = 0 ∧ keeperField off v ∧ !isKeeper ini then (3, s.answer ini 3)
  else s.busWrite ini ep a (ownRule ini off v) (fun t i u => u.writeReg ini t i off v)

/-- The command that a register transaction of the spine spells (R234): its header word, and the data of a write. -/
def spineCommand (w : Dword) (data : Word) : Option Instr :=
  let h := spineHeader w
  match h.initiator, decodeAddr h.addr with
  | some ini, some (t, _, off) =>
    match h.kind with
    | 0 => some (if lowHalf t off then .lowHalfRead ini (BitVec.ofNat 32 h.addr) else if highHalf t off then .highHalfRead ini (BitVec.ofNat 32 h.addr) else .rcRead ini (BitVec.ofNat 32 h.addr))
    | 1 => some (if lowHalf t off then .lowHalfWrite ini (BitVec.ofNat 8 h.epoch) (BitVec.ofNat 32 h.addr) data
                 else if highHalf t off then .highHalfWrite ini (BitVec.ofNat 8 h.epoch) (BitVec.ofNat 32 h.addr) data
                 else .registerWrite ini (BitVec.ofNat 8 h.epoch) (BitVec.ofNat 32 h.addr) data)
    | 2 => some (.bcastWrite ini (BitVec.ofNat 8 h.epoch) (BitVec.ofNat 32 h.addr) data)
    | _ => none
  | _, _ => none
/-- REGISTER_WRITE (R15). -/
def execRegisterWrite (ini : Initiator) (ep : BitVec 8) (addr data : Word) (s : State) : Host.Outcome State Fault Refusal :=
  .next (s.writeAt ini ep addr.toNat data.toNat).2
/-- HIGH_HALF_WRITE (R13, R544). -/
def execHighHalfWrite (ini : Initiator) (ep : BitVec 8) (addr data : Word) (s : State) : Host.Outcome State Fault Refusal :=
  .next (s.writeAt ini ep addr.toNat data.toNat).2
/-- LOW_HALF_WRITE (R13, R544). -/
def execLowHalfWrite (ini : Initiator) (ep : BitVec 8) (addr data : Word) (s : State) : Host.Outcome State Fault Refusal :=
  .next (s.writeAt ini ep addr.toNat data.toNat).2
/-- A header write to the page with a page number. -/
def State.pageWrite (s : State) (ini : Initiator) (ep : Byte) (page : BitVec 16) (off v : Nat) : State := (s.writeAt ini ep (page.toNat * 4096 + off) v).2
/-- The ibi bit of a page, which a write of another field of PAGE_CTL leaves as it is. -/
def State.ibiOf (s : State) (page : BitVec 16) : Nat := match pageOf page.toNat with | some (t, i) => s.fld (hdr t i 0x008) 3 1 * 8 | none => 0
/-- SOFT_RESET (R537). -/
def execSoftReset (ini : Initiator) (ep : BitVec 8) (page : BitVec 16) (s : State) : Host.Outcome State Fault Refusal := .next (s.pageWrite ini ep page 0x008 (2 + s.ibiOf page))
/-- PAGE_LOCK (R18, R536). -/
def execPageLock (ini : Initiator) (ep : BitVec 8) (page : BitVec 16) (s : State) : Host.Outcome State Fault Refusal := .next (s.pageWrite ini ep page 0x008 (4 + s.ibiOf page))
/-- PAGE_UNLOCK (R18, R536). -/
def execPageUnlock (ini : Initiator) (ep : BitVec 8) (page : BitVec 16) (s : State) : Host.Outcome State Fault Refusal := .next (s.pageWrite ini ep page 0x008 (16 + s.ibiOf page))
/-- PAGE_IRQ_FORCE (R535). -/
def execPageIrqForce (ini : Initiator) (ep : BitVec 8) (page : BitVec 16) (bits : Word) (s : State) : Host.Outcome State Fault Refusal :=
  .next (s.pageWrite ini ep page 0x018 bits.toNat)

/-- The instances of a page type that a broadcast write applies to (R543): those whose holder is on. -/
def State.bcastInsts (s : State) (t : PageType) : List Nat := (List.range (pageInfo t).insts).filter (fun i => s.holderOn t i)
/-- BCAST_WRITE (R543): every instance that is not locked applies it; one answer, ERROR code 4 where any refused. -/
def execBcastWrite (ini : Initiator) (ep : BitVec 8) (addr data : Word) (s : State) : Host.Outcome State Fault Refusal :=
  let a := addr.toNat
  let v := data.toNat
  let off := a % 4096
  let code := s.writeError ini ep a (ownRule ini off v)
  match decodeAddr a with
  | none => .next (s.answer ini 1)
  | some (t, _, _) =>
    if code ≠ 0 ∧ code ≠ 4 then .next ((s.countRefused a code).answer ini code)
    else if keeperField off v ∧ !isKeeper ini then .next (s.answer ini 3)
    else
      let is := s.bcastInsts t
      let shut := fun i => s.locked t i && touchesRwl t off
      let s1 := is.foldl (fun (u : State) i => if shut i then u.errCount t i 1 else u.writeReg ini t i off v) s
      .next (s1.answer ini (if is.any shut then 4 else 0))

/-! ## Fabric management (R305) -/

/-- The fabric-management initiator of a network interface. -/
def fabIni (m15 : Bool) : Initiator := if m15 then .fabM15 else .fabM7
/-- FMGMT_READ (R305): the answer returns on MGMT. -/
def execFmgmtRead (m15 : Bool) (src : BitVec 12) (tag : BitVec 17) (addr : BitVec 28) (s : State) : Host.Outcome State Fault Refusal :=
  .next (s.spineRead (fabIni m15) addr.toNat (some (src.toNat, tag.toNat)))
/-- FMGMT_WRITE (R305): within the windows of the folio. -/
def execFmgmtWrite (m15 : Bool) (src : BitVec 12) (tag : BitVec 17) (addr : BitVec 28) (data : Word) (s : State) : Host.Outcome State Fault Refusal :=
  let x := s.writeAt (fabIni m15) 0 addr.toNat data.toNat
  .next (x.2.fmgmtAnswer src.toNat tag.toNat addr.toNat x.1 0)
/-- FMGMT_REPLY (R305): the result of a remote access. -/
def execFmgmtReply (tag : BitVec 17) (addr : BitVec 28) (data : Word) (s : State) : Host.Outcome State Fault Refusal :=
  .next (s.emit (.fmgmt tag 3 addr.toNat data.toNat 0))
/-- FMGMT_ERROR (R305): its refusal. -/
def execFmgmtError (tag : BitVec 17) (addr : BitVec 28) (code : Byte) (s : State) : Host.Outcome State Fault Refusal :=
  .next (s.emit (.fmgmt tag 4 addr.toNat 0 code.toNat))

/-! ## The management port (R545 to R547) -/

/-- Whether the management target answers (R541): not in D3, nor while the always-on domain is in reset. -/
def State.mgmtUp (s : State) : Bool := decide (s.dst ≠ .d3) && !s.rstLow
/-- Whether an address is malformed (R546). -/
def malformedAddr (a : Nat) : Bool := decide (a % 4 ≠ 0) || decide (2 ^ 28 ≤ a)
/-- I3C_POINTER_WRITE (R546): a private write of 4 bytes. -/
def execI3cPointerWrite (addr : Word) (s : State) : Host.Outcome State Fault Refusal :=
  if s.mgmtUp then .next { s with mgmt := { s.mgmt with ptr := addr.toNat, wrStatus := 0 } } else .next (s.emit .i3cNack)
/-- Write words at consecutive addresses: the status of the first that failed. -/
def State.i3cWords (s : State) (a : Nat) : List Word → Nat × State
  | [] => (0, s)
  | w :: t =>
    let x := if malformedAddr a then (6, s) else s.writeAt .i3c 0 a w.toNat
    let y := x.2.i3cWords ((a + 4) % 2 ^ 32) t
    (if x.1 ≠ 0 then x.1 else y.1, y.2)
/-- I3C_WORD_WRITE (R546): 1 to 16 words; a private write of another length is none that the port takes. -/
def execI3cWordWrite (addr : Word) (words : List Word) (s : State) : Host.Outcome State Fault Refusal :=
  if !s.mgmtUp then .next (s.emit .i3cNack)
  else if words = [] ∨ 16 < words.length then .next s
  else
    let x := s.i3cWords addr.toNat words
    .next { x.2 with mgmt := { x.2.mgmt with ptr := (addr.toNat + 4 * words.length) % 2 ^ 32, wrStatus := x.1 } }
/-- Read `n` words from the pointer on, each with its status byte; a word that is not ready ends the transfer. -/
def State.i3cRead (s : State) (ws : Nat) : Nat → List Byte × State
  | 0 => ([], s)
  | n + 1 =>
    let a := s.mgmt.ptr
    if !malformedAddr a ∧ s.readError a = 0 ∧ s.readWaits a then ([], s)
    else
      let x := if malformedAddr a then (6, 0, s) else s.busRead .i3c a
      let y := ({ x.2.2 with mgmt := { x.2.2.mgmt with ptr := (a + 4) % 2 ^ 32 } }).i3cRead ws n
      (leBytes 4 x.2.1 ++ [BitVec.ofNat 8 (x.1 + 16 * ws)] ++ y.1, y.2)
/-- I3C_PRIVATE_READ (R546): 5n bytes; where the first word is not ready, the target NACKs its address. -/
def execI3cPrivateRead (n : Nat) (s : State) : Host.Outcome State Fault Refusal :=
  if !s.mgmtUp then .next (s.emit .i3cNack)
  else if n = 0 then .next s
  else
    let x := s.i3cRead s.mgmt.wrStatus n
    if x.1 = [] then .next (s.emit .i3cNack) else .next ({ x.2 with mgmt := { x.2.mgmt with wrStatus := 0 } }.emit (.i3cRead x.1))
/-- The provisional ID and BCR of the management target (R545): IBI with a payload of at most 7 bytes. -/
def State.i3cIdent (s : State) : Msg := .i3cIdent Config.i3cMaker (BitVec.ofNat 16 s.serial) true true 7
/-- ENTDAA (R545): the target sends its provisional ID and BCR, and takes the address. -/
def execEntdaa (dyn : BitVec 7) (s : State) : Host.Outcome State Fault Refusal :=
  if s.mgmtUp then .next ({ s with mgmt := { s.mgmt with dyn := some dyn } }.emit s.i3cIdent) else .next (s.emit .i3cNack)
/-- SETDASA (R545). -/
def execSetdasa (dyn : BitVec 7) (s : State) : Host.Outcome State Fault Refusal :=
  if s.mgmtUp then .next { s with mgmt := { s.mgmt with dyn := some dyn } } else .next (s.emit .i3cNack)
/-- The bytes of an in-band interrupt (R547). -/
def ibiBytes (e : Nat × Word) : List Byte := if e.1 = 65536 then 0x02 :: leBytes 2 e.2.toNat else 0x01 :: leBytes 2 e.1 ++ leBytes 4 e.2.toNat
/-- IBI_DELIVERY (R547): the entry at the front leaves the queue. -/
def execIbiDelivery (s : State) : Host.Outcome State Fault Refusal :=
  match s.mgmt.ibi with
  | [] => .next s
  | e :: t => if s.mgmtUp then .next ({ s with mgmt := { s.mgmt with ibi := t } }.emit (.ibi (ibiBytes e))) else .next s
/-- MGMT_ALERT_N (R555): low while the IBI queue holds an entry. -/
def State.alertLow (s : State) : Bool := !s.mgmt.ibi.isEmpty

end Sys2Proof.Machine
end

