-- ==== Sys2Proof/Machine/Pins.lean ====
section
/-!
DEFINITION. Sys2Proof/Machine/Pins.lean: power-up and reset (R423, R564, R566), the TAP (R557), and a standby laser that is ready (R271).
-/
namespace Sys2Proof.Machine

/-- INPUT_RISE (R423, R564 t0): the input reaches 40 V. The trip record ends with the input power (R452). -/
def execInputRise (s : State) : Host.Outcome State Fault Refusal :=
  if s.dst = .d3 then .next { s with trip := none, power := { s.power with rising := true } } else .next s
/-- ALWAYS_ON_START (R407, R452, R531, R564 t1 to t3): the always-on domain starts and the timebase with it; the device starts once RESET_N is high. -/
def execAlwaysOnStart (s : State) : Host.Outcome State Fault Refusal :=
  if s.dst ≠ .d3 ∨ !s.power.rising then .next s
  else
    let s1 : State := { s with dst := .d0, timebase := 0, reportOut := {}, power := { s.power with rising := false, spans := [] } }
    let s2 := if s1.trip.isSome then s1.irq .therm 0 6 else s1
    .next (if s2.rstLow then s2 else s2.ovumStart)
/-- RESET_ASSERT (R566): every domain is off but the always-on domain, which is reset; the timebase and the trip record stay. -/
def execResetAssert (s : State) : Host.Outcome State Fault Refusal :=
  if s.dst = .d3 then .next { s with rstLow := true }
  else
    let boots := s.fld bootReg 16 16
    .next { ((s.surgeEnd 7).bare.setFld bootReg 16 16 boots) with rstLow := true }

/-! ## The TAP (R557) -/

/-- TAP_BYPASS. -/
def execTapBypass (s : State) : Host.Outcome State Fault Refusal := .next { s with tap := { s.tap with ir := .bypass } }
/-- TAP_IDCODE. -/
def execTapIdcode (s : State) : Host.Outcome State Fault Refusal := .next { s with tap := { s.tap with ir := .idcode } }
/-- TAP_SAMPLE_PRELOAD: the pins are captured, and what is shifted in is loaded. -/
def execTapSamplePreload (pins load : BitVec 80) (s : State) : Host.Outcome State Fault Refusal :=
  .next { s with tap := { ir := .sample, captured := pins, loaded := load } }
/-- TAP_EXTEST: it drives the pins, while RESET_N is low; otherwise it acts as BYPASS. -/
def execTapExtest (s : State) : Host.Outcome State Fault Refusal :=
  if s.rstLow then .next ({ s with tap := { s.tap with ir := .extest } }.emit (.bpins s.tap.loaded)) else .next { s with tap := { s.tap with ir := .bypass } }
/-- TEST_LOGIC_RESET: as IEEE 1149.1 has it, the identification register is selected, and no test drives the pins. -/
def execTestLogicReset (s : State) : Host.Outcome State Fault Refusal := .next { s with tap := { s.tap with ir := .idcode } }

/-- LSM_STANDBY_READY (R271): a standby lit, gated closed and at its setpoint; a swap that waits for it is decided now. -/
def execLsmStandbyReady (lsm : Fin 7) (outs : BitVec 4) (line : Fin 41) (s : State) : Host.Outcome State Fault Refusal :=
  .next ((lsmFibres lsm outs).foldl (fun t f =>
    if fibreLines f ≤ line.val ∨ !(t.line f line).standbyLit ∨ (t.line f line).ready then t
    else t.modLine f line (fun y => { y with ready := true, swap := y.swap.map (fun w => if w.trigger.isNone then { w with decided := t.now } else w) })) s)

end Sys2Proof.Machine
end

