-- ==== Sys2Proof/Machine/Vector.lean ====
section
/-!
DEFINITION. Sys2Proof/Machine/Vector.lean: the Vector Engine (R67 to R70, R93 to R106). A command does its work when it starts;
ENGINE_COMMAND_COMPLETE ends it.
-/
namespace Sys2Proof.Machine

/-- The fields of a VE command with its captured registers (R67). -/
structure VeCmd where
  op : Nat
  n : Nat
  fmt : Nat
  aux : Nat
  d : Nat
  a : Nat
  b : Nat
  raw1 : Dword
  raw2 : Dword
deriving DecidableEq, Repr

/-- Read the fields of a queued VE command: beats, format, and line numbers in bits [13:0] of the registers (R67). -/
def veCmd (q : QEntry) : VeCmd :=
  let v := q.cmd.toNat
  { op := opOf v, n := bits v 16 12 + 1, fmt := bits v 12 4, aux := bits v 0 12, d := q.a.toNat % 2 ^ 14, a := q.b.toNat % 2 ^ 14,
    b := q.c.toNat % 2 ^ 14, raw1 := q.b, raw2 := q.c }

/-- Elements in a beat (R67). -/
def beatElems (fmt : Nat) : Nat := if fmt = 7 then 128 else 64
/-- Bits of a VE element. -/
def veBits (fmt : Nat) : Nat := if fmt = 7 then 16 else 32
/-- Element `i` of beat data as an FP32 word: BF16 is widened (R100). -/
def veElem (fmt v i : Nat) : Word :=
  if fmt = 7 then widen (BitVec.ofNat 16 (bits v (16 * i) 16)) else BitVec.ofNat 32 (bits v (32 * i) 32)
/-- A result in the element format: BF16 is rounded (R100). -/
def veStore (fmt : Nat) (r : Word × Flags) : Nat × Flags :=
  if fmt = 7 then
    let n := narrow r.1
    (n.1.toNat, r.2 ||| n.2)
  else (r.1.toNat, r.2)

/-- Set nan_out where the written word is a NaN (R87). -/
def markNan (w : Word) : Word × Flags := (w, if isNanF32 w then Flag.nanOut else 0)

/-- The element-wise operations (R67): `a`, `b` and `d` are the operands as FP32 words, `sc` the scalar. -/
def veElementOp (rev op : Nat) (sc a b d : Word) : Word × Flags :=
  match op with
  | 0x80 => addF32 a b
  | 0x81 => subF32 a b
  | 0x82 => mulF32 a b
  | 0x83 => maxF32 a b
  | 0x84 => minF32 a b
  | 0x85 => fmaF32 a b d
  | 0x86 => mulF32 a sc
  | 0x87 => addF32 a sc
  | 0x8C => markNan (a &&& 0x7FFFFFFF#32)
  | 0x8D => markNan (a ^^^ 0x80000000#32)
  | 0x8E => markNan a
  | _ => specialF32 rev (BitVec.ofNat 8 op) a

/-- Whether an operation copies bits (R85): a BF16 result is then the high half of the word. -/
def veCopies (op : Nat) : Bool := decide (op = 0x8C) || decide (op = 0x8D) || decide (op = 0x8E)
/-- Whether an element-wise operation reads a second vector. -/
def veBinary (op : Nat) : Bool := decide (0x80 ≤ op) && decide (op ≤ 0x85)

/-- The beats of source data before the first uncorrectable word. -/
def goodBeats (n : Nat) (bad : Option Nat) : Nat := match bad with | none => n | some w => min n (w / 32)

/-- Element-wise commands: the beats before an uncorrectable source word are written (R66, R73), and the rest are not. -/
def elementBody (core : Nat) (x : Ctx) (s : State) (q : QEntry) : Option Nat × State :=
  let c := veCmd q
  let len := 4 * c.n
  let srcs := [(c.a, len)] ++ (if veBinary c.op then [(c.b, len)] else [])
  let bad := if c.fmt = 15 ∨ c.fmt = 7 then [] else [0x07]
  match s.lineCheck core x true (srcs ++ [(c.d, len)]) bad with
  | some e => (some e, s)
  | none =>
    let ra := s.bufRead core (64 * c.a) (32 * c.n)
    let rb := if veBinary c.op then ra.2.bufRead core (64 * c.b) (32 * c.n) else (⟨0, [], none⟩, ra.2)
    let rd := if c.op = 0x85 then rb.2.bufRead core (64 * c.d) (32 * c.n) else (⟨0, [], none⟩, rb.2)
    let ok := min (goodBeats c.n ra.1.bad) (min (goodBeats c.n rb.1.bad) (goodBeats c.n rd.1.bad))
    let rev := (s.die (0x40 + core / 50)).rev.toNat
    let sc := BitVec.ofNat 32 c.raw2.toNat
    let res := (List.range (ok * beatElems c.fmt)).map (fun i =>
      let r := veElementOp rev c.op sc (veElem c.fmt ra.1.val i) (veElem c.fmt rb.1.val i) (veElem c.fmt rd.1.val i)
      if veCopies c.op ∧ c.fmt = 7 then (r.1.toNat / 65536, r.2) else veStore c.fmt r)
    let fl := res.foldl (fun f r => f ||| r.2) 0
    let s1 := (rd.2.bufWrite core (64 * c.d) (packNat (veBits c.fmt) (res.map Prod.fst)) (256 * ok)).numFlags core x fl
    (if ok = c.n then none else some 0x10, s1)

/-- Bytes that `n` elements of a VCVT target take, MX scales apart (R67, R98). -/
def targetBytes (t n : Nat) : Nat := (if t = 15 then 32 else if t = 7 then 16 else if t = 0 ∨ t = 1 then 4 else 8) * n / 8

/-- The number of 64-byte lines that hold `n` bytes. -/
def linesFor (n : Nat) : Nat := (n + 63) / 64

/-- Split a list into runs of `k`, with `fuel` runs at most. -/
def chunksOf {α : Type} (k : Nat) : Nat → List α → List (List α)
  | 0, _ => []
  | _, [] => []
  | fuel + 1, l => l.take k :: chunksOf k fuel (l.drop k)

/-- VCVT (R67, R93 to R98). -/
def vcvtBody (core : Nat) (x : Ctx) (s : State) (q : QEntry) : Option Nat × State :=
  let c := veCmd q
  let t := c.aux % 16
  let ne := c.n * beatElems c.fmt
  let outs := [(c.d, linesFor (targetBytes t ne))] ++ (if isMx t then [(c.b, linesFor (ne / 32))] else [])
  let bad := if (c.fmt = 15 ∨ c.fmt = 7) ∧ t ≠ 8 ∧ t ≠ 9 then [] else [0x07]
  match s.lineCheck core x true ([(c.a, 4 * c.n)] ++ outs) bad with
  | some e => (some e, s)
  | none =>
    let ra := s.bufRead core (64 * c.a) (32 * c.n)
    let ok := goodBeats c.n ra.1.bad
    let n := ok * beatElems c.fmt
    let ws := (List.range n).map (fun i => veElem c.fmt ra.1.val i)
    let stop := if ok = c.n then none else some 0x10
    if isMx t then
      let bs := (chunksOf 32 n ws).map (convertMx t)
      let fl := bs.foldl (fun f b => f ||| b.2.2) 0
      let w := if t = 1 then 4 else 8
      let s1 := ra.2.bufWrite core (64 * c.d) (packNat w (bs.flatMap (fun b => b.2.1))) (targetBytes t n)
      let s2 := s1.bufWrite core (64 * c.b) (packNat 8 (bs.map Prod.fst)) (n / 32)
      (stop, s2.numFlags core x fl)
    else
      let res := ws.map (convertElem t)
      let fl := res.foldl (fun f r => f ||| r.2) 0
      let w := if t = 15 then 32 else if t = 7 then 16 else if t = 0 then 4 else 8
      let s1 := ra.2.bufWrite core (64 * c.d) (packNat w (res.map Prod.fst)) (targetBytes t n)
      (stop, s1.numFlags core x fl)

/-- Sum a list left to right with FP32 rounding at each step, from its first element (R104). -/
def sumF32 : List Word → Word × Flags
  | [] => (0, 0)
  | a :: t => t.foldl (fun acc w =>
      let r := addF32 acc.1 w
      (r.1, acc.2 ||| r.2)) (a, 0)

/-- One level of the balanced pairwise tree (R104). -/
def pairSums : List (Word × Flags) → List (Word × Flags)
  | a :: b :: t =>
    let r := addF32 a.1 b.1
    (r.1, a.2 ||| b.2 ||| r.2) :: pairSums t
  | l => l

/-- The levels of the tree: 6 in FP32, 7 in BF16 (R104). -/
def treeSum (l : List (Word × Flags)) : Nat → Word × Flags
  | 0 => l.headD (0, 0)
  | d + 1 => treeSum (pairSums l) d

/-- The sum of one segment of `b` beats that begins at beat `t` (R104). -/
def segmentSum (fmt v t b : Nat) : Word × Flags :=
  let lanes := beatElems fmt
  treeSum ((List.range lanes).map (fun l => sumF32 ((List.range b).map (fun j => veElem fmt v (lanes * (t + j) + l)))))
    (if fmt = 7 then 7 else 6)

/-- The largest element of a segment (R105). -/
def segmentMax (fmt v t b : Nat) : Word × Flags :=
  let lanes := beatElems fmt
  match (List.range (b * lanes)).map (fun i => veElem fmt v (lanes * t + i)) with
  | [] => (0, 0)
  | a :: r => if (a :: r).any isNanF32 then (nanF32, Flag.nanOut)
    else (r.foldl (fun m w => if orderKey m < orderKey w then w else m) a, 0)

/-- VRSUM and VRMAX (R67, R104, R105): one FP32 per segment. -/
def reduceBody (core : Nat) (x : Ctx) (sum : Bool) (s : State) (q : QEntry) : Option Nat × State :=
  let c := veCmd q
  let b := c.aux + 1
  let segs := c.n / b
  let bad := if c.fmt = 15 ∨ c.fmt = 7 then [] else [0x07]
  match s.lineCheck core x true [(c.a, 4 * c.n), (c.d, linesFor (4 * segs))] bad with
  | some e => (some e, s)
  | none =>
    let ra := s.bufRead core (64 * c.a) (32 * c.n)
    let ok := goodBeats c.n ra.1.bad / b
    let res := (List.range ok).map (fun g =>
      if sum then
        let r := segmentSum c.fmt ra.1.val (g * b) b
        if isNanF32 r.1 then (nanF32, r.2 ||| Flag.nanOut) else r
      else segmentMax c.fmt ra.1.val (g * b) b)
    let fl := res.foldl (fun f r => f ||| r.2) 0
    let s1 := (ra.2.bufWrite core (64 * c.d) (packNat 32 (res.map (fun r => r.1.toNat))) (4 * ok)).numFlags core x fl
    (if ra.1.bad = none then none else some 0x10, s1)

/-- Whether record `a` comes before record `b` in VTOPK's order (R68, R106): larger value first, NaN last, then index. -/
def topkBefore (a b : Word × Nat) : Bool :=
  if isNanF32 a.1 then isNanF32 b.1 && decide (a.2 ≤ b.2)
  else if isNanF32 b.1 then true
  else decide (valueKey b.1 < valueKey a.1) || (decide (valueKey a.1 = valueKey b.1) && decide (a.2 ≤ b.2))

/-- Insert a record in VTOPK's order. -/
def topkInsert (r : Word × Nat) : List (Word × Nat) → List (Word × Nat)
  | [] => [r]
  | h :: t => if topkBefore r h then r :: h :: t else h :: topkInsert r t

/-- The `k` first records of a vector in VTOPK's order: at most `k` are kept at any time. -/
def topk (k : Nat) (ws : List (Word × Nat)) : List (Word × Nat) :=
  ws.foldl (fun acc r => (topkInsert r acc).take k) []

/-- VTOPK (R67, R68). -/
def vtopkBody (core : Nat) (x : Ctx) (s : State) (q : QEntry) : Option Nat × State :=
  let c := veCmd q
  let k := c.aux % 256 + 1
  match s.lineCheck core x true [(c.a, 4 * c.n), (c.d, linesFor (8 * k))] (if c.fmt = 15 then [] else [0x07]) with
  | some e => (some e, s)
  | none =>
    let ra := s.bufRead core (64 * c.a) (32 * c.n)
    match ra.1.bad with
    | some _ => (some 0x10, ra.2)
    | none =>
      let rs := topk k ((List.range (64 * c.n)).map (fun i => (veElem 15 ra.1.val i, i)))
      let recs := (List.range k).map (fun i =>
        match rs[i]? with
        | some r => if isNanF32 r.1 then (nanF32.toNat + 2 ^ 32 * r.2, Flag.nanOut) else (r.1.toNat + 2 ^ 32 * r.2, (0 : Flags))
        | none => (nanF32.toNat + 2 ^ 32 * 0xFFFFFFFF, Flag.nanOut))
      let fl := recs.foldl (fun f r => f ||| r.2) 0
      (none, (ra.2.bufWrite core (64 * c.d) (packNat 64 (recs.map Prod.fst)) (8 * k)).numFlags core x fl)

/-- A running sum of VSAMP, with the flags of its additions; nan_out is left to the record that is written. -/
def accum (a : Word × Flags) (w : Word) : Word × Flags :=
  let r := addF32 a.1 w
  (r.1, a.2 ||| (r.2 &&& ~~~Flag.nanOut))

/-- The number of records that the nucleus rule of R69 keeps: from `acc`, record `i` on. -/
def nucleus (limit acc : Word) (i k : Nat) : List Word → Nat
  | [] => k
  | w :: t =>
    let a := (addF32 acc w).1
    if geF32 a limit then i + 1 else nucleus limit a (i + 1) k t

/-- The record that VSAMP picks (R69): the first whose running sum passes the target, else the last. -/
def pick (target acc : Word) (i : Nat) : List Word → Nat
  | [] => i - 1
  | w :: t =>
    let a := (addF32 acc w).1
    if gtF32 a target then i else pick target a (i + 1) t

/-- VSAMP's result from its records and parameters (R69, R106): index, probability and flags. -/
def vsamp (rev : Nat) (recs : List (Word × Nat)) (t p u0 : Word) : Nat × Word × Flags :=
  let u := if gtF32 0 u0 then 0 else u0
  let clean := fun f : Flags => f &&& ~~~Flag.nanOut
  let m := mulF32 ((recs.headD (0, 0)).1) t
  let ws := recs.map (fun r =>
    let y := mulF32 r.1 t
    let z := subF32 y.1 m.1
    let e := mulF32 z.1 0x3FB8AA3B#32
    let w := specialF32 rev 0x88 e.1
    (w.1, clean (y.2 ||| z.2 ||| e.2 ||| w.2)))
  let vals := ws.map Prod.fst
  let total := vals.foldl accum (0, 0)
  let limit := mulF32 p total.1
  let n := nucleus limit.1 0 0 recs.length vals
  let kept := vals.take n
  let mass := kept.foldl accum (0, 0)
  let target := mulF32 u mass.1
  let i := pick target.1 0 0 kept
  let pr := divF32 (kept.getD i 0) mass.1
  let fl := ws.foldl (fun f w => f ||| w.2) (clean (m.2 ||| total.2 ||| limit.2 ||| mass.2 ||| target.2))
  let par := if isNanF32 t ∨ isNanF32 p ∨ isNanF32 u0 then Flag.invalid else 0
  ((recs.getD i (0, 0)).2, pr.1, fl ||| par ||| pr.2)

/-- VSAMP (R67, R69): its source and result are records, its parameters a line. -/
def vsampBody (core : Nat) (x : Ctx) (s : State) (q : QEntry) : Option Nat × State :=
  let c := veCmd q
  let k := c.aux % 256 + 1
  let bad := if c.fmt = 15 ∨ c.fmt = 7 then [] else [0x07]
  match s.lineCheck core x true [(c.a, linesFor (8 * k)), (c.b, 1), (c.d, 1)] bad with
  | some e => (some e, s)
  | none =>
    let ra := s.bufRead core (64 * c.a) k
    let rb := ra.2.bufRead core (64 * c.b) 2
    match ra.1.bad, rb.1.bad with
    | none, none =>
      let recs := (List.range k).map (fun i => (BitVec.ofNat 32 (bits ra.1.val (64 * i) 32), bits ra.1.val (64 * i + 32) 32))
      let r := vsamp (s.die (0x40 + core / 50)).rev.toNat recs (BitVec.ofNat 32 rb.1.val) (BitVec.ofNat 32 (rb.1.val / 2 ^ 32))
        (BitVec.ofNat 32 (rb.1.val / 2 ^ 64))
      (none, (rb.2.bufWrite core (64 * c.d) (r.1 + 2 ^ 32 * r.2.1.toNat) 8).numFlags core x r.2.2)
    | _, _ => (some 0x10, rb.2)

/-- One value of VRNG (R70). -/
def vrng (seed : Dword) (slot ctr : Dword) (e : Nat) : Word :=
  let key := seed ^^^ (slot * 0x9E3779B97F4A7C15#64)
  let x0 := key + ((ctr <<< 18) + BitVec.ofNat 64 (e + 1)) * 0x9E3779B97F4A7C15#64
  let x1 := (x0 ^^^ (x0 >>> 30)) * 0xBF58476D1CE4E5B9#64
  let x2 := (x1 ^^^ (x1 >>> 27)) * 0x94D049BB133111EB#64
  let x3 := x2 ^^^ (x2 >>> 31)
  BitVec.ofNat 32 (encodeInf fmtF32 (.fin false (x3.toNat / 2 ^ 40) (-24))).1

/-- VRNG (R67, R70). -/
def vrngBody (core : Nat) (x : Ctx) (s : State) (q : QEntry) : Option Nat × State :=
  let c := veCmd q
  match s.lineCheck core x true [(c.d, 4 * c.n)] (if c.fmt = 15 then [] else [0x07]) with
  | some e => (some e, s)
  | none =>
    let seed := s.rd64 (coreReg core 0x068)
    let vs := (List.range (64 * c.n)).map (fun e => (vrng seed (c.raw1 &&& 0xFF) c.raw2 e).toNat)
    (none, s.bufWrite core (64 * c.d) (packNat 32 vs) (256 * c.n))

/-- VADD. -/
def execVadd (core : Fin 2000) (x : Ctx) (s : State) : Host.Outcome State Fault Refusal :=
  .next (s.startEngine core x .ve 0x80 (elementBody core x))
/-- VSUB. -/
def execVsub (core : Fin 2000) (x : Ctx) (s : State) : Host.Outcome State Fault Refusal :=
  .next (s.startEngine core x .ve 0x81 (elementBody core x))
/-- VMUL. -/
def execVmul (core : Fin 2000) (x : Ctx) (s : State) : Host.Outcome State Fault Refusal :=
  .next (s.startEngine core x .ve 0x82 (elementBody core x))
/-- VMAX (R101). -/
def execVmax (core : Fin 2000) (x : Ctx) (s : State) : Host.Outcome State Fault Refusal :=
  .next (s.startEngine core x .ve 0x83 (elementBody core x))
/-- VMIN (R101). -/
def execVmin (core : Fin 2000) (x : Ctx) (s : State) : Host.Outcome State Fault Refusal :=
  .next (s.startEngine core x .ve 0x84 (elementBody core x))
/-- VFMA. -/
def execVfma (core : Fin 2000) (x : Ctx) (s : State) : Host.Outcome State Fault Refusal :=
  .next (s.startEngine core x .ve 0x85 (elementBody core x))
/-- VSMUL. -/
def execVsmul (core : Fin 2000) (x : Ctx) (s : State) : Host.Outcome State Fault Refusal :=
  .next (s.startEngine core x .ve 0x86 (elementBody core x))
/-- VSADD. -/
def execVsadd (core : Fin 2000) (x : Ctx) (s : State) : Host.Outcome State Fault Refusal :=
  .next (s.startEngine core x .ve 0x87 (elementBody core x))
/-- VEXP2 (R102, R103). -/
def execVexp2 (core : Fin 2000) (x : Ctx) (s : State) : Host.Outcome State Fault Refusal :=
  .next (s.startEngine core x .ve 0x88 (elementBody core x))
/-- VLOG2 (R102, R103). -/
def execVlog2 (core : Fin 2000) (x : Ctx) (s : State) : Host.Outcome State Fault Refusal :=
  .next (s.startEngine core x .ve 0x89 (elementBody core x))
/-- VRCP (R102, R103). -/
def execVrcp (core : Fin 2000) (x : Ctx) (s : State) : Host.Outcome State Fault Refusal :=
  .next (s.startEngine core x .ve 0x8A (elementBody core x))
/-- VRSQRT (R102, R103). -/
def execVrsqrt (core : Fin 2000) (x : Ctx) (s : State) : Host.Outcome State Fault Refusal :=
  .next (s.startEngine core x .ve 0x8B (elementBody core x))
/-- VABS (R85). -/
def execVabs (core : Fin 2000) (x : Ctx) (s : State) : Host.Outcome State Fault Refusal :=
  .next (s.startEngine core x .ve 0x8C (elementBody core x))
/-- VNEG (R85). -/
def execVneg (core : Fin 2000) (x : Ctx) (s : State) : Host.Outcome State Fault Refusal :=
  .next (s.startEngine core x .ve 0x8D (elementBody core x))
/-- VMOV (R85). -/
def execVmov (core : Fin 2000) (x : Ctx) (s : State) : Host.Outcome State Fault Refusal :=
  .next (s.startEngine core x .ve 0x8E (elementBody core x))
/-- VCVT. -/
def execVcvt (core : Fin 2000) (x : Ctx) (s : State) : Host.Outcome State Fault Refusal :=
  .next (s.startEngine core x .ve 0x90 (vcvtBody core x))
/-- VRSUM. -/
def execVrsum (core : Fin 2000) (x : Ctx) (s : State) : Host.Outcome State Fault Refusal :=
  .next (s.startEngine core x .ve 0x98 (reduceBody core x true))
/-- VRMAX. -/
def execVrmax (core : Fin 2000) (x : Ctx) (s : State) : Host.Outcome State Fault Refusal :=
  .next (s.startEngine core x .ve 0x99 (reduceBody core x false))
/-- VTOPK. -/
def execVtopk (core : Fin 2000) (x : Ctx) (s : State) : Host.Outcome State Fault Refusal :=
  .next (s.startEngine core x .ve 0xA0 (vtopkBody core x))
/-- VSAMP. -/
def execVsamp (core : Fin 2000) (x : Ctx) (s : State) : Host.Outcome State Fault Refusal :=
  .next (s.startEngine core x .ve 0xA1 (vsampBody core x))
/-- VRNG. -/
def execVrng (core : Fin 2000) (x : Ctx) (s : State) : Host.Outcome State Fault Refusal :=
  .next (s.startEngine core x .ve 0xA2 (vrngBody core x))

end Sys2Proof.Machine
end

