-- ==== Sys2Proof/Machine/Dispatch.lean ====
section
/-!
DEFINITION. Sys2Proof/Machine/Dispatch.lean: the meaning of each command, one arm per constructor of Instr.
-/
namespace Sys2Proof.Machine

def exec (i : Instr) (s : State) : Host.Outcome State Fault Refusal :=
  match i with
  | .registerWrite ini ep addr data => Sys2Proof.Machine.execRegisterWrite ini ep addr data s
  | .rcRead ini addr => Sys2Proof.Machine.execRcRead ini addr s
  | .lowHalfRead ini addr => Sys2Proof.Machine.execLowHalfRead ini addr s
  | .highHalfRead ini addr => Sys2Proof.Machine.execHighHalfRead ini addr s
  | .highHalfWrite ini ep addr data => Sys2Proof.Machine.execHighHalfWrite ini ep addr data s
  | .lowHalfWrite ini ep addr data => Sys2Proof.Machine.execLowHalfWrite ini ep addr data s
  | .softReset ini ep page => Sys2Proof.Machine.execSoftReset ini ep page s
  | .pageLock ini ep page => Sys2Proof.Machine.execPageLock ini ep page s
  | .pageUnlock ini ep page => Sys2Proof.Machine.execPageUnlock ini ep page s
  | .pageIrqForce ini ep page bits => Sys2Proof.Machine.execPageIrqForce ini ep page bits s
  | .bcastWrite ini ep addr data => Sys2Proof.Machine.execBcastWrite ini ep addr data s
  | .irqTelemetry page => Sys2Proof.Machine.execIrqTelemetry page s
  | .irqPeriodicMessage page => Sys2Proof.Machine.execIrqPeriodicMessage page s
  | .i3cPointerWrite addr => Sys2Proof.Machine.execI3cPointerWrite addr s
  | .i3cWordWrite addr words => Sys2Proof.Machine.execI3cWordWrite addr words s
  | .i3cPrivateRead n => Sys2Proof.Machine.execI3cPrivateRead n s
  | .entdaa dyn => Sys2Proof.Machine.execEntdaa dyn s
  | .setdasa dyn => Sys2Proof.Machine.execSetdasa dyn s
  | .bundleIssue core ctx => Sys2Proof.Machine.execBundleIssue core ctx s
  | .nop core ctx slot low => Sys2Proof.Machine.execNop core ctx slot low s
  | .endCmd core ctx => Sys2Proof.Machine.execEndCmd core ctx s
  | .fence core ctx => Sys2Proof.Machine.execFence core ctx s
  | .wait core ctx ra ctr => Sys2Proof.Machine.execWait core ctx ra ctr s
  | .sig core ctx ctr => Sys2Proof.Machine.execSig core ctx ctr s
  | .rdctr core ctx rd ctr => Sys2Proof.Machine.execRdctr core ctx rd ctr s
  | .cwait core ctx n => Sys2Proof.Machine.execCwait core ctx n s
  | .twait core ctx ra => Sys2Proof.Machine.execTwait core ctx ra s
  | .rdtb core ctx rd => Sys2Proof.Machine.execRdtb core ctx rd s
  | .ldi core ctx rd imm => Sys2Proof.Machine.execLdi core ctx rd imm s
  | .addi core ctx rd ra imm => Sys2Proof.Machine.execAddi core ctx rd ra imm s
  | .add core ctx rd ra rb => Sys2Proof.Machine.execAdd core ctx rd ra rb s
  | .sub core ctx rd ra rb => Sys2Proof.Machine.execSub core ctx rd ra rb s
  | .and core ctx rd ra rb => Sys2Proof.Machine.execAnd core ctx rd ra rb s
  | .or core ctx rd ra rb => Sys2Proof.Machine.execOr core ctx rd ra rb s
  | .xor core ctx rd ra rb => Sys2Proof.Machine.execXor core ctx rd ra rb s
  | .shl core ctx rd ra rb => Sys2Proof.Machine.execShl core ctx rd ra rb s
  | .shr core ctx rd ra rb => Sys2Proof.Machine.execShr core ctx rd ra rb s
  | .mul core ctx rd ra rb => Sys2Proof.Machine.execMul core ctx rd ra rb s
  | .jmp core ctx target => Sys2Proof.Machine.execJmp core ctx target s
  | .br core ctx ra rb cond target => Sys2Proof.Machine.execBr core ctx ra rb cond target s
  | .dbnz core ctx ra target => Sys2Proof.Machine.execDbnz core ctx ra target s
  | .hld core ctx rd ra size => Sys2Proof.Machine.execHld core ctx rd ra size s
  | .hst core ctx rs ra size => Sys2Proof.Machine.execHst core ctx rs ra size s
  | .hatAdd core ctx rd ra rb size => Sys2Proof.Machine.execHatAdd core ctx rd ra rb size s
  | .hatMin core ctx rd ra rb size => Sys2Proof.Machine.execHatMin core ctx rd ra rb size s
  | .hatMax core ctx rd ra rb size => Sys2Proof.Machine.execHatMax core ctx rd ra rb size s
  | .hatSwap core ctx rd ra rb size => Sys2Proof.Machine.execHatSwap core ctx rd ra rb size s
  | .hatCas core ctx rd ra rb size => Sys2Proof.Machine.execHatCas core ctx rd ra rb size s
  | .hatFadd core ctx rd ra rb size => Sys2Proof.Machine.execHatFadd core ctx rd ra rb size s
  | .xpost core ctx ra => Sys2Proof.Machine.execXpost core ctx ra s
  | .kinc core ctx kettle => Sys2Proof.Machine.execKinc core ctx kettle s
  | .mcfg core ctx => Sys2Proof.Machine.execMcfg core ctx s
  | .mlcb core ctx => Sys2Proof.Machine.execMlcb core ctx s
  | .mma core ctx => Sys2Proof.Machine.execMma core ctx s
  | .mst core ctx => Sys2Proof.Machine.execMst core ctx s
  | .mld core ctx => Sys2Proof.Machine.execMld core ctx s
  | .rmld core ctx => Sys2Proof.Machine.execRmld core ctx s
  | .rmst core ctx => Sys2Proof.Machine.execRmst core ctx s
  | .rmx core ctx => Sys2Proof.Machine.execRmx core ctx s
  | .vadd core ctx => Sys2Proof.Machine.execVadd core ctx s
  | .vsub core ctx => Sys2Proof.Machine.execVsub core ctx s
  | .vmul core ctx => Sys2Proof.Machine.execVmul core ctx s
  | .vmax core ctx => Sys2Proof.Machine.execVmax core ctx s
  | .vmin core ctx => Sys2Proof.Machine.execVmin core ctx s
  | .vfma core ctx => Sys2Proof.Machine.execVfma core ctx s
  | .vsmul core ctx => Sys2Proof.Machine.execVsmul core ctx s
  | .vsadd core ctx => Sys2Proof.Machine.execVsadd core ctx s
  | .vexp2 core ctx => Sys2Proof.Machine.execVexp2 core ctx s
  | .vlog2 core ctx => Sys2Proof.Machine.execVlog2 core ctx s
  | .vrcp core ctx => Sys2Proof.Machine.execVrcp core ctx s
  | .vrsqrt core ctx => Sys2Proof.Machine.execVrsqrt core ctx s
  | .vabs core ctx => Sys2Proof.Machine.execVabs core ctx s
  | .vneg core ctx => Sys2Proof.Machine.execVneg core ctx s
  | .vmov core ctx => Sys2Proof.Machine.execVmov core ctx s
  | .vcvt core ctx => Sys2Proof.Machine.execVcvt core ctx s
  | .vrsum core ctx => Sys2Proof.Machine.execVrsum core ctx s
  | .vrmax core ctx => Sys2Proof.Machine.execVrmax core ctx s
  | .vtopk core ctx => Sys2Proof.Machine.execVtopk core ctx s
  | .vsamp core ctx => Sys2Proof.Machine.execVsamp core ctx s
  | .vrng core ctx => Sys2Proof.Machine.execVrng core ctx s
  | .engineCommandComplete core eng => Sys2Proof.Machine.execEngineCommandComplete core eng s
  | .waitTmo core ctx slot => Sys2Proof.Machine.execWaitTmo core ctx slot s
  | .dStart ini ep core => Sys2Proof.Machine.execDStart ini ep core s
  | .pStart ini ep core => Sys2Proof.Machine.execPStart ini ep core s
  | .dAbort ini ep core => Sys2Proof.Machine.execDAbort ini ep core s
  | .pPreempt ini ep core => Sys2Proof.Machine.execPPreempt ini ep core s
  | .pResume ini ep core => Sys2Proof.Machine.execPResume ini ep core s
  | .clearCtr ini ep core => Sys2Proof.Machine.execClearCtr ini ep core s
  | .abortDrainComplete core => Sys2Proof.Machine.execAbortDrainComplete core s
  | .parkComplete core => Sys2Proof.Machine.execParkComplete core s
  | .ctxBanksWrite ini ep core dBanks pBanks => Sys2Proof.Machine.execCtxBanksWrite ini ep core dBanks pBanks s
  | .gRegisterWrite ini ep core ctx reg v => Sys2Proof.Machine.execGRegisterWrite ini ep core ctx reg v s
  | .rowGrant stack bank => Sys2Proof.Machine.execRowGrant stack bank s
  | .rowScrub stack => Sys2Proof.Machine.execRowScrub stack s
  | .spareRowRemap stack bank row => Sys2Proof.Machine.execSpareRowRemap stack bank row s
  | .bondFailDeclare stack kind grp pos => Sys2Proof.Machine.execBondFailDeclare stack kind grp pos s
  | .bondRepair stack kind place => Sys2Proof.Machine.execBondRepair stack kind place s
  | .halfRowEntry stack => Sys2Proof.Machine.execHalfRowEntry stack s
  | .governorTick stack => Sys2Proof.Machine.execGovernorTick stack s
  | .powerSample stack compute rowStore base => Sys2Proof.Machine.execPowerSample stack compute rowStore base s
  | .capLimitWrite ini ep stack sustained surge => Sys2Proof.Machine.execCapLimitWrite ini ep stack sustained surge s
  | .surgeGrantWrite ini ep stack grant => Sys2Proof.Machine.execSurgeGrantWrite ini ep stack grant s
  | .mrd src tag grp blk first count => Sys2Proof.Machine.execMrd src tag grp blk first count s
  | .mwr src tag grp blk chunk data => Sys2Proof.Machine.execMwr src tag grp blk chunk data s
  | .mwrp src tag grp addr len data => Sys2Proof.Machine.execMwrp src tag grp addr len data s
  | .mcas src tag addr expected new => Sys2Proof.Machine.execMcas src tag addr expected new s
  | .memCommandIssue chan => Sys2Proof.Machine.execMemCommandIssue chan s
  | .mrsp dst tag chunk data => Sys2Proof.Machine.execMrsp dst tag chunk data s
  | .mwack dst tag chunk => Sys2Proof.Machine.execMwack dst tag chunk s
  | .mpoison dst tag chunk => Sys2Proof.Machine.execMpoison dst tag chunk s
  | .mcasr dst tag found success => Sys2Proof.Machine.execMcasr dst tag found success s
  | .memScrub chan => Sys2Proof.Machine.execMemScrub chan s
  | .refreshDue chan bank => Sys2Proof.Machine.execRefreshDue chan bank s
  | .refreshRateChange chan rate => Sys2Proof.Machine.execRefreshRateChange chan rate s
  | .channelRetrain chan good => Sys2Proof.Machine.execChannelRetrain chan good s
  | .retrainDeadline chan good => Sys2Proof.Machine.execRetrainDeadline chan good s
  | .memoryTraining tries => Sys2Proof.Machine.execMemoryTraining tries s
  | .phyPllAlarm phy persists => Sys2Proof.Machine.execPhyPllAlarm phy persists s
  | .sieveSeal unit => Sys2Proof.Machine.execSieveSeal unit s
  | .sieveQuery unit => Sys2Proof.Machine.execSieveQuery unit s
  | .svop unit src tag blk chunk data => Sys2Proof.Machine.execSvop unit src tag blk chunk data s
  | .svdone stack tag status => Sys2Proof.Machine.execSvdone stack tag status s
  | .chainActivate stack => Sys2Proof.Machine.execChainActivate stack s
  | .descriptorFetched stack place => Sys2Proof.Machine.execDescriptorFetched stack place s
  | .pieceIssue stack => Sys2Proof.Machine.execPieceIssue stack s
  | .walkStep unit walk => Sys2Proof.Machine.execWalkStep unit walk s
  | .pagerFaultReceive stack => Sys2Proof.Machine.execPagerFaultReceive stack s
  | .zeroFill stack => Sys2Proof.Machine.execZeroFill stack s
  | .ticketDone ticket data => Sys2Proof.Machine.execTicketDone ticket data s
  | .resume stack entry => Sys2Proof.Machine.execResume stack entry s
  | .loadTmo stack => Sys2Proof.Machine.execLoadTmo stack s
  | .poolPush ini ep stack page => Sys2Proof.Machine.execPoolPush ini ep stack page s
  | .pieceComplete stack tag => Sys2Proof.Machine.execPieceComplete stack tag s
  | .recordWriteComplete stack seq => Sys2Proof.Machine.execRecordWriteComplete stack seq s
  | .tableBaseWrite ini ep stack v => Sys2Proof.Machine.execTableBaseWrite ini ep stack v s
  | .tagLimitWrite ini ep stack v => Sys2Proof.Machine.execTagLimitWrite ini ep stack v s
  | .tokenCapture site grp seen cells => Sys2Proof.Machine.execTokenCapture site grp seen cells s
  | .tokenRelease site ended => Sys2Proof.Machine.execTokenRelease site ended s
  | .burstReceive grp site lower upper => Sys2Proof.Machine.execBurstReceive grp site lower upper s
  | .burstAck site grp id => Sys2Proof.Machine.execBurstAck site grp id s
  | .burstNak site grp id idx => Sys2Proof.Machine.execBurstNak site grp id idx s
  | .statusTimeout site grp => Sys2Proof.Machine.execStatusTimeout site grp s
  | .retryLimitExpiry site grp => Sys2Proof.Machine.execRetryLimitExpiry site grp s
  | .groupBlock ini ep grp => Sys2Proof.Machine.execGroupBlock ini ep grp s
  | .groupBlocked grp => Sys2Proof.Machine.execGroupBlocked grp s
  | .groupUnblock ini ep grp => Sys2Proof.Machine.execGroupUnblock ini ep grp s
  | .groupSleep ini ep grp => Sys2Proof.Machine.execGroupSleep ini ep grp s
  | .groupWake ini ep grp => Sys2Proof.Machine.execGroupWake ini ep grp s
  | .groupSpare ini ep grp lane off => Sys2Proof.Machine.execGroupSpare ini ep grp lane off s
  | .tokenRegenerate grp => Sys2Proof.Machine.execTokenRegenerate grp s
  | .groupSleepEntry grp => Sys2Proof.Machine.execGroupSleepEntry grp s
  | .wake grp => Sys2Proof.Machine.execWake grp s
  | .ready grp => Sys2Proof.Machine.execReady grp s
  | .wakeFailure grp => Sys2Proof.Machine.execWakeFailure grp s
  | .laneLockAchieved grp off => Sys2Proof.Machine.execLaneLockAchieved grp off s
  | .tsMatch grp seen => Sys2Proof.Machine.execTsMatch grp seen s
  | .tsWrongSlot grp seen => Sys2Proof.Machine.execTsWrongSlot grp seen s
  | .trainingTimeout grp off => Sys2Proof.Machine.execTrainingTimeout grp off s
  | .laneHardFail ring loss => Sys2Proof.Machine.execLaneHardFail ring loss s
  | .groupStart grp => Sys2Proof.Machine.execGroupStart grp s
  | .sparingSwitch grp => Sys2Proof.Machine.execSparingSwitch grp s
  | .sparingEnd grp => Sys2Proof.Machine.execSparingEnd grp s
  | .transmitterWithdraw site tx cause => Sys2Proof.Machine.execTransmitterWithdraw site tx cause s
  | .spineHopRetry ini site word got => Sys2Proof.Machine.execSpineHopRetry ini site word got s
  | .ident ask => Sys2Proof.Machine.execIdent ask s
  | .identTimeout die => Sys2Proof.Machine.execIdentTimeout die s
  | .kettleIncrement kettle => Sys2Proof.Machine.execKettleIncrement kettle s
  | .kettleRelease kettle => Sys2Proof.Machine.execKettleRelease kettle s
  | .krel kettle => Sys2Proof.Machine.execKrel kettle s
  | .lsmIdentify lsm present names read probes => Sys2Proof.Machine.execLsmIdentify lsm present names read probes s
  | .cmisFail lsm retries good => Sys2Proof.Machine.execCmisFail lsm retries good s
  | .lineMonitorVisit fibre line power offset => Sys2Proof.Machine.execLineMonitorVisit fibre line power offset s
  | .refLightLoss => Sys2Proof.Machine.execRefLightLoss s
  | .refLightRestored => Sys2Proof.Machine.execRefLightRestored s
  | .holdoverExpiry => Sys2Proof.Machine.execHoldoverExpiry s
  | .lockLoopUpdate ring err => Sys2Proof.Machine.execLockLoopUpdate ring err s
  | .calPassStart => Sys2Proof.Machine.execCalPassStart s
  | .laneCal grp => Sys2Proof.Machine.execLaneCal grp s
  | .calTimeout ring => Sys2Proof.Machine.execCalTimeout ring s
  | .blockingCal grp good => Sys2Proof.Machine.execBlockingCal grp good s
  | .markSweep grp off heard => Sys2Proof.Machine.execMarkSweep grp off heard s
  | .sweepOutcome grp off => Sys2Proof.Machine.execSweepOutcome grp off s
  | .commissioning fibre line power => Sys2Proof.Machine.execCommissioning fibre line power s
  | .fadeCrossing fibre line => Sys2Proof.Machine.execFadeCrossing fibre line s
  | .fadeRecovery fibre line => Sys2Proof.Machine.execFadeRecovery fibre line s
  | .rapidFade lsm out line => Sys2Proof.Machine.execRapidFade lsm out line s
  | .swapTrigger lsm outs line => Sys2Proof.Machine.execSwapTrigger lsm outs line s
  | .swapPauseStart lsm outs line => Sys2Proof.Machine.execSwapPauseStart lsm outs line s
  | .swapPauseEnd lsm outs line => Sys2Proof.Machine.execSwapPauseEnd lsm outs line s
  | .swapCheck lsm outs line power offset => Sys2Proof.Machine.execSwapCheck lsm outs line power offset s
  | .interlockUnmated fibre tap disabled => Sys2Proof.Machine.execInterlockUnmated fibre tap disabled s
  | .interlockEnableDrop fibre => Sys2Proof.Machine.execInterlockEnableDrop fibre s
  | .probe fibre tap => Sys2Proof.Machine.execProbe fibre tap s
  | .safetyRestore ini ep lsm outs => Sys2Proof.Machine.execSafetyRestore ini ep lsm outs s
  | .lsmRemoval lsm => Sys2Proof.Machine.execLsmRemoval lsm s
  | .lineSelWrite ini ep lsm v => Sys2Proof.Machine.execLineSelWrite ini ep lsm v s
  | .codewordDecode port off chars bad disp => Sys2Proof.Machine.execCodewordDecode port off chars bad disp s
  | .alignmentLoss port off => Sys2Proof.Machine.execAlignmentLoss port off s
  | .portTrainStart port => Sys2Proof.Machine.execPortTrainStart port s
  | .xtsReceive port lane slot role sender flags coord dims serial expect => Sys2Proof.Machine.execXtsReceive port lane slot role sender flags coord dims serial expect s
  | .xstart port => Sys2Proof.Machine.execXstart port s
  | .trainAttemptTimeout port => Sys2Proof.Machine.execTrainAttemptTimeout port s
  | .xtsAtBoundary port lanes => Sys2Proof.Machine.execXtsAtBoundary port lanes s
  | .discoveryTimeout => Sys2Proof.Machine.execDiscoveryTimeout s
  | .portSleep port => Sys2Proof.Machine.execPortSleep port s
  | .sleep port => Sys2Proof.Machine.execSleep port s
  | .portWake port => Sys2Proof.Machine.execPortWake port s
  | .portRetrain port => Sys2Proof.Machine.execPortRetrain port s
  | .retrainTimeout port => Sys2Proof.Machine.execRetrainTimeout port s
  | .pausedEntry port => Sys2Proof.Machine.execPausedEntry port s
  | .pausedEnd port => Sys2Proof.Machine.execPausedEnd port s
  | .spareReq port lane => Sys2Proof.Machine.execSpareReq port lane s
  | .spareBegin port lane off => Sys2Proof.Machine.execSpareBegin port lane off s
  | .spareSwitch port same => Sys2Proof.Machine.execSpareSwitch port same s
  | .spareDone port lane => Sys2Proof.Machine.execSpareDone port lane s
  | .spareShadowTimeout port => Sys2Proof.Machine.execSpareShadowTimeout port s
  | .calReq port => Sys2Proof.Machine.execCalReq port s
  | .pauseReq port => Sys2Proof.Machine.execPauseReq port s
  | .retrainReq port => Sys2Proof.Machine.execRetrainReq port s
  | .linkCellReceive port cell whole => Sys2Proof.Machine.execLinkCellReceive port cell whole s
  | .xtrh out vc data => Sys2Proof.Machine.execXtrh out vc data s
  | .xtrt out vc data => Sys2Proof.Machine.execXtrt out vc data s
  | .cellSend port => Sys2Proof.Machine.execCellSend port s
  | .lack port seq => Sys2Proof.Machine.execLack port seq s
  | .lnak port seq => Sys2Proof.Machine.execLnak port seq s
  | .lcredit port counts => Sys2Proof.Machine.execLcredit port counts s
  | .lackDue port => Sys2Proof.Machine.execLackDue port s
  | .lcreditDue port => Sys2Proof.Machine.execLcreditDue port s
  | .lnakRepeat port => Sys2Proof.Machine.execLnakRepeat port s
  | .replayTimeout port => Sys2Proof.Machine.execReplayTimeout port s
  | .fmgmtRead m15 src tag addr => Sys2Proof.Machine.execFmgmtRead m15 src tag addr s
  | .fmgmtWrite m15 src tag addr data => Sys2Proof.Machine.execFmgmtWrite m15 src tag addr data s
  | .fmgmtReply tag addr data => Sys2Proof.Machine.execFmgmtReply tag addr data s
  | .fmgmtError tag addr code => Sys2Proof.Machine.execFmgmtError tag addr code s
  | .portRetrainCmd ini ep port => Sys2Proof.Machine.execPortRetrainCmd ini ep port s
  | .portSpareCmd ini ep port lane off => Sys2Proof.Machine.execPortSpareCmd ini ep port lane off s
  | .portDisable ini ep port => Sys2Proof.Machine.execPortDisable ini ep port s
  | .portEnable ini ep port => Sys2Proof.Machine.execPortEnable ini ep port s
  | .rankmapWrite ini ep page reg v => Sys2Proof.Machine.execRankmapWrite ini ep page reg v s
  | .rankmapMismatch page => Sys2Proof.Machine.execRankmapMismatch page s
  | .hrd m15 job src cls tag addr size => Sys2Proof.Machine.execHrd m15 job src cls tag addr size s
  | .hwr m15 job src cls tag addr size lo hi => Sys2Proof.Machine.execHwr m15 job src cls tag addr size lo hi s
  | .hatm m15 job src cls tag addr size op lo hi => Sys2Proof.Machine.execHatm m15 job src cls tag addr size op lo hi s
  | .hatx m15 job src tag lo hi => Sys2Proof.Machine.execHatx m15 job src tag lo hi s
  | .hbrd m15 job src cls tag addr units => Sys2Proof.Machine.execHbrd m15 job src cls tag addr units s
  | .hbwr m15 job src cls tag addr units => Sys2Proof.Machine.execHbwr m15 job src cls tag addr units s
  | .hbdat die job src tag data => Sys2Proof.Machine.execHbdat die job src tag data s
  | .hrsp stack tag status flags lo hi => Sys2Proof.Machine.execHrsp stack tag status flags lo hi s
  | .hwack stack tag status => Sys2Proof.Machine.execHwack stack tag status s
  | .hbrsp stack tag status units => Sys2Proof.Machine.execHbrsp stack tag status units s
  | .hangWatchdogExpiry stack tag => Sys2Proof.Machine.execHangWatchdogExpiry stack tag s
  | .krelay job kettle gen => Sys2Proof.Machine.execKrelay job kettle gen s
  | .quarantineRelease stack tag => Sys2Proof.Machine.execQuarantineRelease stack tag s
  | .arpRequest f target mac => Sys2Proof.Machine.execArpRequest f target mac s
  | .neighbourSolicitation f target mac => Sys2Proof.Machine.execNeighbourSolicitation f target mac s
  | .echoRequest f dst data => Sys2Proof.Machine.execEchoRequest f dst data s
  | .submit f msg => Sys2Proof.Machine.execSubmit f msg s
  | .cancel f msg => Sys2Proof.Machine.execCancel f msg s
  | .status f msg => Sys2Proof.Machine.execStatus f msg s
  | .ack f msg => Sys2Proof.Machine.execAck f msg s
  | .assemblyTimeout id => Sys2Proof.Machine.execAssemblyTimeout id s
  | .tokensResend id => Sys2Proof.Machine.execTokensResend id s
  | .lingerExpiry id => Sys2Proof.Machine.execLingerExpiry id s
  | .wingbeatBoundary => Sys2Proof.Machine.execWingbeatBoundary s
  | .boundaryCommit => Sys2Proof.Machine.execBoundaryCommit s
  | .idleIntervalEnd => Sys2Proof.Machine.execIdleIntervalEnd s
  | .fdata f msg => Sys2Proof.Machine.execFdata f msg s
  | .fetchChunkTimeout seg chunk => Sys2Proof.Machine.execFetchChunkTimeout seg chunk s
  | .refclkInvalid inp => Sys2Proof.Machine.execRefclkInvalid inp s
  | .refclkValid inp => Sys2Proof.Machine.execRefclkValid inp s
  | .refHoldoverStop => Sys2Proof.Machine.execRefHoldoverStop s
  | .refCtlWrite ini ep v => Sys2Proof.Machine.execRefCtlWrite ini ep v s
  | .basePllUnlock => Sys2Proof.Machine.execBasePllUnlock s
  | .serialiserAlarm site tx cause => Sys2Proof.Machine.execSerialiserAlarm site tx cause s
  | .rowstorePllFailover stack => Sys2Proof.Machine.execRowstorePllFailover stack s
  | .regionGenFail region ref => Sys2Proof.Machine.execRegionGenFail region ref s
  | .fSetChange region => Sys2Proof.Machine.execFSetChange region s
  | .droopLimitLower region => Sys2Proof.Machine.execDroopLimitLower region s
  | .droopLimitRaise region => Sys2Proof.Machine.execDroopLimitRaise region s
  | .crossingError region => Sys2Proof.Machine.execCrossingError region s
  | .syncEdge => Sys2Proof.Machine.execSyncEdge s
  | .secSet ini ep n => Sys2Proof.Machine.execSecSet ini ep n s
  | .syncHoldover => Sys2Proof.Machine.execSyncHoldover s
  | .syncHoldoverExpiry => Sys2Proof.Machine.execSyncHoldoverExpiry s
  | .clkSrcWrite ini ep region v => Sys2Proof.Machine.execClkSrcWrite ini ep region v s
  | .stateCmdD0 ini ep => Sys2Proof.Machine.execStateCmdD0 ini ep s
  | .stateCmdD1 ini ep => Sys2Proof.Machine.execStateCmdD1 ini ep s
  | .stateCmdD2 ini ep => Sys2Proof.Machine.execStateCmdD2 ini ep s
  | .stateCmdD3 ini ep => Sys2Proof.Machine.execStateCmdD3 ini ep s
  | .d1Wake => Sys2Proof.Machine.execD1Wake s
  | .d2IdleExpiry => Sys2Proof.Machine.execD2IdleExpiry s
  | .portLightWake port => Sys2Proof.Machine.execPortLightWake port s
  | .wakeAtReached => Sys2Proof.Machine.execWakeAtReached s
  | .d2Wake => Sys2Proof.Machine.execD2Wake s
  | .inputUndervolt mv => Sys2Proof.Machine.execInputUndervolt mv s
  | .inputFault mv => Sys2Proof.Machine.execInputFault mv s
  | .inputTrim window => Sys2Proof.Machine.execInputTrim window s
  | .surgeEntry mv => Sys2Proof.Machine.execSurgeEntry mv s
  | .surgeEnd => Sys2Proof.Machine.execSurgeEnd s
  | .surgeAllowanceExpiry => Sys2Proof.Machine.execSurgeAllowanceExpiry s
  | .wearBudgetExhaust => Sys2Proof.Machine.execWearBudgetExhaust s
  | .surgeInhibitWrite ini ep v => Sys2Proof.Machine.execSurgeInhibitWrite ini ep v s
  | .grantWithdraw stack => Sys2Proof.Machine.execGrantWithdraw stack s
  | .capFloorFault stack => Sys2Proof.Machine.execCapFloorFault stack s
  | .powerTelemetry p => Sys2Proof.Machine.execPowerTelemetry p s
  | .diodeSample die raw check => Sys2Proof.Machine.execDiodeSample die raw check s
  | .throttleStep => Sys2Proof.Machine.execThrottleStep s
  | .orderlyStop => Sys2Proof.Machine.execOrderlyStop s
  | .parkDeadline => Sys2Proof.Machine.execParkDeadline s
  | .orderlyStopReturn => Sys2Proof.Machine.execOrderlyStopReturn s
  | .predictedTrip die => Sys2Proof.Machine.execPredictedTrip die s
  | .thermalTrip die => Sys2Proof.Machine.execThermalTrip die s
  | .middleModelUpdate stack => Sys2Proof.Machine.execMiddleModelUpdate stack s
  | .diodeBroken die => Sys2Proof.Machine.execDiodeBroken die s
  | .regionRecal die => Sys2Proof.Machine.execRegionRecal die s
  | .calStart ini ep v => Sys2Proof.Machine.execCalStart ini ep v s
  | .hourCount => Sys2Proof.Machine.execHourCount s
  | .ageingEpoch m => Sys2Proof.Machine.execAgeingEpoch m s
  | .resetRelease => Sys2Proof.Machine.execResetRelease s
  | .imageVerify k => Sys2Proof.Machine.execImageVerify k s
  | .roleAssign => Sys2Proof.Machine.execRoleAssign s
  | .eclosion => Sys2Proof.Machine.execEclosion s
  | .goWaitTimeout => Sys2Proof.Machine.execGoWaitTimeout s
  | .rchunk f msg => Sys2Proof.Machine.execRchunk f msg s
  | .rcommit f msg => Sys2Proof.Machine.execRcommit f msg s
  | .rstat f msg => Sys2Proof.Machine.execRstat f msg s
  | .recoveryWriteComplete => Sys2Proof.Machine.execRecoveryWriteComplete s
  | .imageFlashWrite => Sys2Proof.Machine.execImageFlashWrite s
  | .heartbeat k ep window => Sys2Proof.Machine.execHeartbeat k ep window s
  | .heartbeatWindowEnd => Sys2Proof.Machine.execHeartbeatWindowEnd s
  | .digest k round d => Sys2Proof.Machine.execDigest k round d s
  | .decisionRoundCompare => Sys2Proof.Machine.execDecisionRoundCompare s
  | .health k word => Sys2Proof.Machine.execHealth k word s
  | .healthTimeout k => Sys2Proof.Machine.execHealthTimeout k s
  | .demotion => Sys2Proof.Machine.execDemotion s
  | .role k => Sys2Proof.Machine.execRole k s
  | .hold k => Sys2Proof.Machine.execHold k s
  | .epochBump => Sys2Proof.Machine.execEpochBump s
  | .successorRewrite => Sys2Proof.Machine.execSuccessorRewrite s
  | .promote ini ep v => Sys2Proof.Machine.execPromote ini ep v s
  | .keeperSelfTest k pass => Sys2Proof.Machine.execKeeperSelfTest k pass s
  | .keeperRestart k good => Sys2Proof.Machine.execKeeperRestart k good s
  | .objBegin ini ep kind => Sys2Proof.Machine.execObjBegin ini ep kind s
  | .objDataWrite ini ep v => Sys2Proof.Machine.execObjDataWrite ini ep v s
  | .objDataRead ini => Sys2Proof.Machine.execObjDataRead ini s
  | .objCommit ini ep => Sys2Proof.Machine.execObjCommit ini ep s
  | .objAbort ini ep => Sys2Proof.Machine.execObjAbort ini ep s
  | .folioApply => Sys2Proof.Machine.execFolioApply s
  | .foldBack => Sys2Proof.Machine.execFoldBack s
  | .foldBackCmd ini ep => Sys2Proof.Machine.execFoldBackCmd ini ep s
  | .unload ini ep => Sys2Proof.Machine.execUnload ini ep s
  | .resetToOvum ini ep => Sys2Proof.Machine.execResetToOvum ini ep s
  | .jobRestart => Sys2Proof.Machine.execJobRestart s
  | .restartNotice job rank num cls code => Sys2Proof.Machine.execRestartNotice job rank num cls code s
  | .readyNotice job rank num => Sys2Proof.Machine.execReadyNotice job rank num s
  | .goNotice job rank num k => Sys2Proof.Machine.execGoNotice job rank num k s
  | .abandonNotice job rank num => Sys2Proof.Machine.execAbandonNotice job rank num s
  | .readyRepeat => Sys2Proof.Machine.execReadyRepeat s
  | .rejoinTimeout => Sys2Proof.Machine.execRejoinTimeout s
  | .healthReportForm => Sys2Proof.Machine.execHealthReportForm s
  | .inputRise => Sys2Proof.Machine.execInputRise s
  | .alwaysOnStart => Sys2Proof.Machine.execAlwaysOnStart s
  | .resetAssert => Sys2Proof.Machine.execResetAssert s
  | .tapBypass => Sys2Proof.Machine.execTapBypass s
  | .tapIdcode => Sys2Proof.Machine.execTapIdcode s
  | .tapSamplePreload pins load => Sys2Proof.Machine.execTapSamplePreload pins load s
  | .tapExtest => Sys2Proof.Machine.execTapExtest s
  | .frontDoorLinkDown port pll => Sys2Proof.Machine.execFrontDoorLinkDown port pll s
  | .frontDoorLinkUp port => Sys2Proof.Machine.execFrontDoorLinkUp port s
  | .ibiDelivery => Sys2Proof.Machine.execIbiDelivery s
  | .lsmStandbyReady lsm outs line => Sys2Proof.Machine.execLsmStandbyReady lsm outs line s
  | .stretch region noticed added => Sys2Proof.Machine.execStretch region noticed added s
  | .orderlyStopDeadline => Sys2Proof.Machine.execOrderlyStopDeadline s
  | .testLogicReset => Sys2Proof.Machine.execTestLogicReset s

end Sys2Proof.Machine
end

