-- ==== Sys2Proof/Machine/Tick.lean ====
section
/-!
DEFINITION. Sys2Proof/Machine/Tick.lean: what happens as time passes while no command waits: the always-on timebase advances (R407,
R411), the seconds of a Surge add up (R436), and a Larva whose conditions have come about goes on (R517).
-/
namespace Sys2Proof.Machine

/-- The part of the phase error slewed out in one nanosecond, in 0.001 ppm: at most 100 µs/s (R411). -/
def slewPart (slew : Int) : Int := max (-100000) (min 100000 slew)
/-- The correction in force: the rate, and the slew with it, held to 200 ppm (R411). -/
def ratePart (rate slew : Int) : Int := max (-200000) (min 200000 (rate + slewPart slew))
/-- One base cycle of the timebase (R407, R411): the count advances by 1, or by 2 or 0 on the cycle where the correction has gathered a
whole nanosecond. -/
def Clock.cycle (c : Clock) : Nat × Clock :=
  let acc := c.acc + ratePart c.rate c.slew
  let c1 : Clock := { c with slew := c.slew - slewPart c.slew }
  if 1000000000 ≤ acc then (2, { c1 with acc := acc - 1000000000 })
  else if acc ≤ -1000000000 then (0, { c1 with acc := acc + 1000000000 })
  else (1, { c1 with acc := acc })
/-- How far the count advances at a tick, and the clock after it: a base cycle in ns mode, a microsecond in µs mode, nothing in D3 (R407). -/
def State.advance (s : State) : Nat × Clock :=
  if s.dst = .d3 then (0, s.clock) else if s.clock.locked then s.clock.cycle else (1000, s.clock)
/-- One tick: DESIGN CHOICE, safe (log entry 1): what a step does on an empty queue. -/
def State.tick (s : State) : State :=
  let d := s.advance
  ({ s with timebase := s.timebase + BitVec.ofNat 64 d.1, clock := d.2, surgeNow := if s.power.surge then s.surgeNow + d.1 else s.surgeNow }).bootCheck

end Sys2Proof.Machine
end

