-- ==== Sys2Proof/Safety.lean ====
section
/-!
DEFINITION. Sys2Proof/Safety.lean: the terms that the statements use: the canonical form of the memories, when a bundle issues, and what part
of the state a command leaves as it was.
-/
namespace Sys2Proof.Machine

/-- The canonical form of the four protected memories (R35, R38, R107, R136): addresses rising, no listed zero. -/
def State.memsWf (s : State) : Bool := s.mainMem.wf && s.rowStore.wf && s.coreBuf.wf && s.instStore.wf

/-! ## The sequencer -/

/-- A bundle of context `x` that carries one SQ command naming the registers `rs`, and no engine command, can issue in this cycle but for the
command's own condition (R44 to R46, R54, R55). -/
def State.issues (s : State) (core : Nat) (x : Ctx) (rs : List (Fin 16)) : Prop :=
  s.coreOn core = true ∧ (s.ctx core x).mode = .run ∧ (s.ctx core x).pc.toNat < 4096 ∧ (x = .p → s.dCanIssue core = false) ∧
  (s.ctx core x).notBefore ≤ (s.core core).cycles ∧ ∀ r ∈ rs, (s.ctx core x).pend.getLsbD r.val = false

/-- Nothing but core `core` differs between two states. -/
def State.sameButCore (s t : State) (core : Nat) : Prop :=
  t = { s with cores := t.cores } ∧ ∀ n, n ≠ core → t.core n = s.core n

/-- Core `core` has counted a cycle of its sequencer and its context `x` has become `k`; its engines and its other context are as they were. -/
def State.ctxBecomes (s t : State) (core : Nat) (x : Ctx) (k : Context) : Prop :=
  t.core core = ({ s.core core with cycles := (s.core core).cycles + 1 }).setCtx x k

/-! ## Engines and register writes -/

/-- Engine `eng` of core `core` has just taken command `q` from the queue of context `x` (R47). -/
def State.takenUp (s : State) (core : Nat) (x : Ctx) (eng : Engine) (q : QEntry) : State :=
  (s.modCtx core x (fun k => popQueue s.timebase k eng)).setRun core eng (some { ctx := x, entry := q })

/-- A write by `ini` under role epoch `ep` to register `off` of page `i` of type `t` takes effect: no rule refuses it (R18, R234, R236, R494, R533,
R541), and for a block register the page's holder is on (R540). -/
def State.takes (s : State) (ini : Initiator) (ep : Byte) (t : PageType) (i off : Nat) : Prop :=
  s.writeError ini ep (regAddr t i off) false = 0 ∧ (off < 0x040 ∨ s.holderOn t i = true)

/-- The write that a register's own command makes: its initiator, role epoch, page type, instance and register (R78, R238, R326, R441, R512 and the like). -/
def ownWrite : Instr → Option (Initiator × Byte × PageType × Nat × Nat)
  | .dStart ini ep core | .pStart ini ep core | .dAbort ini ep core | .pPreempt ini ep core | .pResume ini ep core | .clearCtr ini ep core => some (ini, ep, .core, core, 0x048)
  | .ctxBanksWrite ini ep core _ _ => some (ini, ep, .core, core, 0x044)
  | .gRegisterWrite ini ep core x r _ => some (ini, ep, .core, core, (match x with | .d => 0x300 | .p => 0x380) + 8 * r.val)
  | .capLimitWrite ini ep stack _ _ => some (ini, ep, .rows, stack, 0x060)
  | .surgeGrantWrite ini ep stack _ => some (ini, ep, .rows, stack, 0x064)
  | .poolPush ini ep stack _ => some (ini, ep, .pager, stack, 0x060)
  | .tableBaseWrite ini ep stack _ => some (ini, ep, .xe, stack, 0x044)
  | .tagLimitWrite ini ep stack _ => some (ini, ep, .xe, stack, 0x04C)
  | .groupBlock ini ep g | .groupUnblock ini ep g | .groupSleep ini ep g | .groupWake ini ep g | .groupSpare ini ep g _ _ => some (ini, ep, .phoHome, grpHome g, 0x048)
  | .safetyRestore ini ep lsm _ => some (ini, ep, .lsm, lsm, 0x070)
  | .lineSelWrite ini ep lsm _ => some (ini, ep, .lsm, lsm, 0x060)
  | .portRetrainCmd ini ep p | .portSpareCmd ini ep p _ _ | .portDisable ini ep p | .portEnable ini ep p => some (ini, ep, .xport, p, 0x05C)
  | .rankmapWrite ini ep page reg _ => some (ini, ep, .rankmap, page, 0x800 + 4 * reg.val)
  | .refCtlWrite ini ep _ => some (ini, ep, .timebase, 0, 0x048)
  | .secSet ini ep _ => some (ini, ep, .timebase, 0, 0x054)
  | .clkSrcWrite ini ep region _ => some (ini, ep, .clkreg, region, 0x044)
  | .stateCmdD0 ini ep | .stateCmdD1 ini ep | .stateCmdD2 ini ep | .stateCmdD3 ini ep => some (ini, ep, .pwr, 0, 0x044)
  | .surgeInhibitWrite ini ep _ => some (ini, ep, .pwr, 0, 0x058)
  | .calStart ini ep _ => some (ini, ep, .cal, 0, 0x048)
  | .promote ini ep _ => some (ini, ep, .tally, 0, 0x048)
  | .objBegin ini ep _ | .objCommit ini ep | .objAbort ini ep => some (ini, ep, .folio, 0, 0x058)
  | .objDataWrite ini ep _ => some (ini, ep, .folio, 0, 0x05C)
  | .foldBackCmd ini ep | .unload ini ep | .resetToOvum ini ep => some (ini, ep, .folio, 0, 0x054)
  | _ => none
/-- The registers whose write acts: each has a meaning of its own in place of a store (R15). -/
def actionRegs : List (PageType × Nat) :=
  [(.core, 0x044), (.core, 0x048), (.xe, 0x04C), (.rows, 0x060), (.phoHome, 0x048), (.clkreg, 0x044), (.xport, 0x05C), (.lsm, 0x060), (.lsm, 0x070), (.pwr, 0x044), (.pwr, 0x058),
   (.cal, 0x048), (.timebase, 0x048), (.tally, 0x048), (.folio, 0x054), (.folio, 0x058), (.folio, 0x05C)]

end Sys2Proof.Machine
end

