-- ==== Sys2Proof/Certificates/Slice0/Obligations.lean ====
section
/-!
DEFINITION. Sys2Proof/Certificates/Slice0/Obligations.lean: what the provers are to prove of the model, family by family. Each statement says of its
commands what state they leave, from hypotheses on the state and the operands alone; a state given as `{ s with … }` leaves every other field as it was.
-/
open Sys2Proof Sys2Proof.Machine


/-! ## The whole device -/

/-- A step with a command at the front of the queue is that command's effect on the state with the queue's rest (the queue is the block model's interface, log
entry 4). -/
def Obligations.StepRunsFront : Prop :=
  ∀ (s : State) (c : Instr) (rest : List Instr), s.pending = c :: rest → step s = exec c { s with pending := rest }

/-- R407, R411, R443, R534: the state after reset holds no command, memories in canonical form and every register at its reset value, the factory thresholds
among them; with no command waiting a step lets time pass: the timebase advances by a microsecond on the µs clock and by 0, 1 or 2 ns on the base clock,
and stands in D3 (that a step on an empty queue is one tick is the model's choice of log entry 1). -/
def Obligations.ResetAndIdle : Prop :=
  (State.reset.pending = [] ∧ State.reset.memsWf = true ∧ (∀ a, State.reset.rd a = regReset a) ∧
    (∀ n, n < 40 → State.reset.thresh (0x40 + n) 0 = 920 ∧ State.reset.thresh (0x40 + n) 1 = 970 ∧ State.reset.thresh (0x40 + n) 2 = 1030 ∧ State.reset.thresh (0x40 + n) 3 = 1100 ∧
      State.reset.thresh (0x80 + n) 0 = 850 ∧ State.reset.thresh (0x80 + n) 1 = 900 ∧ State.reset.thresh (0x80 + n) 2 = 950 ∧ State.reset.thresh (0x80 + n) 3 = 1000) ∧
    State.reset.thresh 0 0 = 800 ∧ State.reset.thresh 0 1 = 850 ∧ State.reset.thresh 0 2 = 900 ∧ State.reset.thresh 0 3 = 950 ∧
    (∀ k, 1 ≤ k → k ≤ 3 → State.reset.thresh k 0 = 950 ∧ State.reset.thresh k 3 = 1150)) ∧
  ∀ s : State, s.pending = [] → s.stage ≠ .larva → ∃ u : State, step s = .next u ∧ u = { s with timebase := u.timebase, clock := u.clock, surgeNow := u.surgeNow } ∧
    (s.dst = .d3 → u.timebase = s.timebase) ∧ (s.dst ≠ .d3 → s.clock.locked = false → u.timebase = s.timebase + 1000) ∧
    (s.dst ≠ .d3 → s.clock.locked = true → u.timebase = s.timebase ∨ u.timebase = s.timebase + 1 ∨ u.timebase = s.timebase + 2)

/-- The four protected memories stay in their canonical form, addresses rising and no listed zero, under every command and every tick, from any state. -/
def Obligations.MemoriesKeepForm : Prop :=
  ∀ (s t : State), s.memsWf = true → step s = .next t → t.memsWf = true

/-- R143: the columns are the 8-bit values with three bits set in ascending order, and the first eight with five; the check byte of a word is the XOR of the
columns of its set bits; a syndrome of zero is no error, of one bit a check bit in error, a column the data bit to invert, and any other is uncorrectable.
So every single error is corrected and every double error is found. -/
def Obligations.SecdedCode : Prop :=
  let column := fun (i : Nat) => eccColumns.getD i 0
  eccColumns = (List.range 256).filter (fun c => popCount c 8 = 3) ++ ((List.range 256).filter (fun c => popCount c 8 = 5)).take 8 ∧
  (∀ d, d < 2 ^ 64 → eccEncode d = ((List.range 64).filter (fun i => d.testBit i)).foldl (fun c i => c ^^^ column i) 0) ∧
  (∀ d c, d < 2 ^ 64 → c < 256 →
    let syn := c ^^^ eccEncode d
    (syn = 0 → eccDecode d c = .clean) ∧ (popCount syn 8 = 1 → eccDecode d c = .corrected d) ∧
    (∀ i, i < 64 → syn = column i → eccDecode d c = .corrected (d ^^^ 2 ^ i)) ∧
    (syn ≠ 0 → popCount syn 8 ≠ 1 → (∀ i, i < 64 → syn ≠ column i) → eccDecode d c = .bad)) ∧
  (∀ d, d < 2 ^ 64 →
    eccDecode d (eccEncode d) = .clean ∧
    (∀ i, i < 64 → eccDecode (d ^^^ 2 ^ i) (eccEncode d) = .corrected d) ∧ (∀ i, i < 8 → eccDecode d (eccEncode d ^^^ 2 ^ i) = .corrected d) ∧
    (∀ i j, i < 64 → j < 64 → i ≠ j → eccDecode (d ^^^ 2 ^ i ^^^ 2 ^ j) (eccEncode d) = .bad) ∧
    (∀ i j, i < 64 → j < 8 → eccDecode (d ^^^ 2 ^ i) (eccEncode d ^^^ 2 ^ j) = .bad) ∧
    (∀ i j, i < 8 → j < 8 → i ≠ j → eccDecode d (eccEncode d ^^^ 2 ^ i ^^^ 2 ^ j) = .bad))

/-- R41, R108, R143, R146: words written to a protected memory read back through the code as they were written, with nothing corrected; every byte outside them
is as it was; and a write of bytes inside a word that had no error leaves a word without an error. -/
def Obligations.ProtectedMemory : Prop :=
  ∀ (m : Mem) (w v n b a k : Nat), m.wf = true →
    (m.putWords w v n).get w n = ⟨v % 2 ^ (64 * n), [], none⟩ ∧
    (b < 8 * w ∨ 8 * (w + n) ≤ b → (m.putWords w v n).byte b = m.byte b) ∧
    (b < a ∨ a + k ≤ b → (m.put a v k).byte b = m.byte b) ∧
    (a / 8 = w → a % 8 + k ≤ 8 → eccDecode (m.raw (8 * w) 8) (m.chk w) = .clean → eccDecode ((m.put a v k).raw (8 * w) 8) ((m.put a v k).chk w) = .clean)


/-! ## The register space -/

/-- R533: the page of type T and instance i lies at T's base + i × 0x1000, its registers at the 12-bit offsets; an access to any other address is answered with
ERROR code 1. -/
def Obligations.AddressMap : Prop :=
  (∀ (t : PageType) (i off : Nat), i < (pageInfo t).insts → off < 4096 →
    regAddr t i off = (pageInfo t).base + i * 0x1000 + off ∧ regAddr t i off < 2 ^ 28 ∧ regAddr t i off % 4096 = off ∧ regAddr t i off / 4096 = (pageInfo t).base / 4096 + i ∧
    decodeAddr (regAddr t i off) = some (t, i, off)) ∧
  (∀ (s : State) (ini : Initiator) (ep : BitVec 8) (addr data : Word), (∀ t i off, i < (pageInfo t).insts → off < 4096 → addr.toNat ≠ regAddr t i off) →
    exec (.rcRead ini addr) s = .next (s.emit (.error ini 1)) ∧ exec (.registerWrite ini ep addr data) s = .next (s.answer ini 1))

/-- R13 to R16, R235, R535, R544: a write that is taken: a plain register stores it by its access codes, and of two writes of one cycle that of the later
initiator in R235's order stands (what a cycle's writes are is the model's reading, log entry 114); PAGE_IRQ_STAT clears the bits written as ones, PAGE_IRQ_EN
takes the bits that the page has, PAGE_IRQ_FORCE sets them; a high half is held for its initiator, and the low half then writes all 64 bits in one step. -/
def Obligations.RegisterWrites : Prop :=
  ∀ (s : State) (ini : Initiator) (ep : BitVec 8) (t : PageType) (i off : Nat) (addr data hi : Word) (page : BitVec 16) (w : SpineWrite),
    let a := regAddr t i off
    let kept := keptAddr t i off
    let stored := s.regStore t i off data.toNat
    let held := ({ s with highHeld := serase s.highHeld (latchKey ini a) } : State)
    let stat := s.rdn (hdr t i 0x010)
    let does := fun (c : Instr) (u : State) => exec c s = .next (u.answer ini 0)
    i < (pageInfo t).insts → off < 4096 → addr.toNat = a → s.takes ini ep t i off →
    (0x040 ≤ off → lowHalf t off = false → highHalf t off = false → (t, off) ∉ actionRegs →
      (s.laterWrites ini kept = [] → does (.registerWrite ini ep addr data) (stored.noteWrite ini kept data.toNat)) ∧
      (s.laterWrites ini kept = [w] → does (.registerWrite ini ep addr data) ((stored.regStore t i off w.data).noteWrite ini kept data.toNat))) ∧
    (off = 0x010 → s.powered t i = true → does (.registerWrite ini ep addr data) (s.wr (hdr t i 0x010) (BitVec.ofNat 32 stat &&& ~~~data))) ∧
    (off = 0x014 → s.powered t i = true → does (.registerWrite ini ep addr data) (s.wr (hdr t i 0x014) (BitVec.ofNat 32 (data.toNat &&& irqMask t i)))) ∧
    (off = 0x018 → s.powered t i = true → page.toNat * 4096 = regAddr t i 0 →
      does (.pageIrqForce ini ep page data) (s.wr (hdr t i 0x010) (BitVec.ofNat 32 (stat ||| (data.toNat &&& irqMask t i))))) ∧
    (0x040 ≤ off → highHalf t off = true → does (.highHalfWrite ini ep addr data) { s with highHeld := sput (dropPage ini a s.highHeld) (latchKey ini (a - 4)) data }) ∧
    (0x040 ≤ off → lowHalf t off = true → highHalf t off = false → sfind s.highHeld (latchKey ini a) = some hi →
      does (.lowHalfWrite ini ep addr data) (held.write64 t i off (data.toNat + hi.toNat * 2 ^ 32)))

/-- R18, R536, R537, R543: PAGE_CTL is a Keeper's: lock and soft_reset, and unlock by the active Keeper while no job is served; any other initiator is refused;
a broadcast write reaches every instance whose holder is on, and is refused where a locked one holds the field. -/
def Obligations.PageControl : Prop :=
  ∀ (s : State) (k : Fin 3) (ini : Initiator) (ep : BitVec 8) (t : PageType) (i off : Nat) (page : BitVec 16) (addr data : Word),
    let kp := Initiator.keeper k
    let ctl := s.setFld (hdr t i 0x008) 3 1 (s.fld (hdr t i 0x008) 3 1)
    let taken := fun (ini : Initiator) => s.writeError ini ep (regAddr t i 0x008) true = 0
    let serving := ¬(s.jobState = 0 ∨ s.jobState = 1 ∨ s.jobState = 4)
    let opens := fun (j : Nat) => s.locked t j = false ∨ touchesRwl t off = false
    i < (pageInfo t).insts → page.toNat * 4096 = regAddr t i 0 → swf regReset s.regs = true →
    (taken kp →
      exec (.pageLock kp ep page) s = .next ((ctl.lockPage t i).answer kp 0) ∧
      (ctl.lockPage t i).locked t i = true ∧
      (s.tally.active = some k → ¬serving → exec (.pageUnlock kp ep page) s = .next ((ctl.unlockPage t i).answer kp 0) ∧ (ctl.unlockPage t i).locked t i = false) ∧
      (s.tally.active ≠ some k ∨ serving → exec (.pageUnlock kp ep page) s = .next ((ctl.errCount t i 2).answer kp 0)) ∧
      (∃ u : State, exec (.softReset kp ep page) s = .next (u.answer kp 0) ∧ u.rdn (hdr t i 0x01C) = 0 ∧ ((pageInfo t).resetAction = false → u.rdn (hdr t i 0x010) = 0) ∧
        u.mainMem = s.mainMem ∧ u.rowStore = s.rowStore ∧ u.coreBuf = s.coreBuf ∧ u.instStore = s.instStore)) ∧
    (isKeeper ini = false → taken ini → exec (.pageLock ini ep page) s = .next (s.answer ini 3) ∧ exec (.pageUnlock ini ep page) s = .next (s.answer ini 3) ∧
      exec (.softReset ini ep page) s = .next (s.answer ini 3)) ∧
    (off < 4096 → off ≠ 0x008 → addr.toNat = regAddr t i off → s.writeError ini ep (regAddr t i off) false = 0 →
      (∀ j, opens j) → exec (.bcastWrite ini ep addr data) s = .next (((s.bcastInsts t).foldl (fun (u : State) j => u.writeReg ini t j off data.toNat) s).answer ini 0)) ∧
    (off < 4096 → off ≠ 0x008 → addr.toNat = regAddr t i off → s.writeError ini ep (regAddr t i off) false = 0 → (∃ j ∈ s.bcastInsts t, ¬opens j) →
      ∃ u : State, exec (.bcastWrite ini ep addr data) s = .next (u.answer ini 4))

/-- R13, R15, R17, R533, R537, R541, R542, R544: a read answers what the register shows; an RC read clears its counter, a low half latches the high half for
its initiator, and the high half then returns the latch and consumes it; a read of no register is refused, and one of a page under a soft reset waits. A measured
count of CLKREG (R417) is a free value of the model, of which the latched pair is one draw (log entry 77). -/
def Obligations.RegisterReads : Prop :=
  ∀ (s : State) (ini : Initiator) (t : PageType) (i off : Nat) (addr w : Word),
    let a := regAddr t i off
    let shows := Msg.reply ini (some (BitVec.ofNat 32 (s.look t i off)))
    let ready := s.pageAnswers t i = true ∧ (off < 0x040 ∨ (s.holderOn t i = true ∧ s.resetBusy t i = false))
    let rc := s.rcClear t i off
    let count := (Config.freeWord s.free).toNat
    let drawn : State := { s with free := s.free + 1 }
    (i < (pageInfo t).insts → addr.toNat = a → s.pageAnswers t i = true → s.holderOn t i = true → t = .clkreg →
      (off = 0x050 → exec (.rcRead ini addr) s = .next (drawn.emit (.reply ini (some (BitVec.ofNat 32 (count % 2 ^ 32 % 2 ^ 12)))))) ∧
      (off = 0x054 → exec (.lowHalfRead ini addr) s =
        .next (({ drawn with latched := sput (dropPage ini a s.latched) (latchKey ini a) (BitVec.ofNat 32 (count / 2 ^ 32)) } : State).emit (.reply ini (some (BitVec.ofNat 32 (count % 2 ^ 32)))))) ∧
      (off = 0x058 → sfind s.latched (latchKey ini (a - 4)) = some w →
        exec (.highHalfRead ini addr) s = .next (({ s with latched := serase s.latched (latchKey ini (a - 4)) } : State).emit (.reply ini (some w))))) ∧
    (i < (pageInfo t).insts → off < 4096 → off % 4 = 0 → addr.toNat = a → swf regReset s.regs = true → (t = .folio → off ≠ 0x05C) → unmeasured t off = false →
      (ready → lowHalf t off = false → highHalf t off = false → exec (.rcRead ini addr) s = .next (rc.emit shows) ∧ rc.rdn (keptAddr t i off) &&& rcBits t off = 0) ∧
      (ready → lowHalf t off = true → highHalf t off = false → exec (.lowHalfRead ini addr) s =
        .next (({ s with latched := sput (dropPage ini a s.latched) (latchKey ini a) (BitVec.ofNat 32 (s.look t i (off + 4))) } : State).emit shows)) ∧
      (ready → highHalf t off = true → lowHalf t off = false →
        (sfind s.latched (latchKey ini (a - 4)) = some w → exec (.highHalfRead ini addr) s =
          .next (({ s with latched := serase s.latched (latchKey ini (a - 4)) } : State).emit (.reply ini (some w)))) ∧
        (sfind s.latched (latchKey ini (a - 4)) = none → exec (.highHalfRead ini addr) s = .next (s.emit shows))) ∧
      (s.pageAnswers t i = true → 0x040 ≤ off → s.resetBusy t i = true → exec (.rcRead ini addr) s = .next { s with lateReads := s.lateReads ++ [(ini, a, none)] }) ∧
      (s.pageAnswers t i = false → exec (.rcRead ini addr) s = .next (s.emit (.error ini 5)))) ∧
    (2 ^ 28 ≤ addr.toNat ∨ addr.toNat % 4 ≠ 0 ∨ decodeAddr addr.toNat = none → exec (.rcRead ini addr) s = .next (s.emit (.error ini 1)))

/-- R18, R234, R236, R494, R533, R541: a write that a rule refuses, by any command that writes a register of its own, leaves all but the counts of refusals as
it was, and is answered with its ERROR code. -/
def Obligations.RefusedWrites : Prop :=
  ∀ (s : State) (c : Instr) (ini : Initiator) (ep : Byte) (t : PageType) (i off : Nat),
    ownWrite c = some (ini, ep, t, i, off) →
    let code := s.writeError ini ep (regAddr t i off) false
    code ≠ 0 → ∃ u : State, exec c s = .next (u.answer ini code) ∧ u = { s with regs := u.regs }

/-- R305, R538, R542, R545 to R547: fabric management; interrupt messages to the active Keeper; the management port's pointer, words, addresses and in-band
interrupts, and the identity that ENTDAA answers with. -/
def Obligations.ManagementPorts : Prop :=
  ∀ (s : State) (m15 : Bool) (src : BitVec 12) (tag : BitVec 17) (addr28 : BitVec 28) (addr data w : Word) (code : Byte) (dyn : BitVec 7) (page : BitVec 16) (t : PageType) (i : Nat)
    (p : Nat) (rest : List (Nat × Word)) (words : List Word),
    let rd := s.busRead (fabIni m15) addr28.toNat
    let wrt := s.writeAt (fabIni m15) 0 addr28.toNat data.toNat
    let ptr := s.mgmt.ptr
    let one := s.writeAt .i3c 0 addr.toNat w.toNat
    let got := s.busRead .i3c ptr
    let status := 16 * s.mgmt.wrStatus
    let last := sget (0, 0) s.irqSent page.toNat
    (s.readError addr28.toNat ≠ 0 ∨ s.readWaits addr28.toNat = false →
      exec (.fmgmtRead m15 src tag addr28) s = .next (rd.2.2.fmgmtAnswer src.toNat tag.toNat addr28.toNat rd.1 rd.2.1)) ∧
    exec (.fmgmtWrite m15 src tag addr28 data) s = .next (wrt.2.fmgmtAnswer src.toNat tag.toNat addr28.toNat wrt.1 0) ∧
    exec (.fmgmtReply tag addr28 data) s = .next (s.emit (.fmgmt tag 3 addr28.toNat data.toNat 0)) ∧
    exec (.fmgmtError tag addr28 code) s = .next (s.emit (.fmgmt tag 4 addr28.toNat 0 code.toNat)) ∧
    (pageOf page.toNat = some (t, i) → s.leafRuns t i = true →
      (last.1 ≠ s.irqWord t i → ∃ u : State, exec (.irqTelemetry page) s = .next u ∧ u.out = s.out ++ [.telemetry (pageNo t i) (BitVec.ofNat 64 (s.irqWord t i))] ∧
        u = { s with out := u.out, irqSent := u.irqSent, mgmt := u.mgmt }) ∧
      (last.1 = s.irqWord t i → exec (.irqTelemetry page) s = .next s) ∧
      (2 ^ 32 ≤ last.1 → 2 ^ 32 ≤ s.irqWord t i → last.2 + 1000000 ≤ s.now → ∃ u : State, exec (.irqPeriodicMessage page) s = .next u ∧
        u.out = s.out ++ [.telemetry (pageNo t i) (BitVec.ofNat 64 (s.irqWord t i))] ∧ u = { s with out := u.out, irqSent := u.irqSent, mgmt := u.mgmt })) ∧
    (s.mgmtUp = true →
      exec (.i3cPointerWrite addr) s = .next { s with mgmt := { s.mgmt with ptr := addr.toNat, wrStatus := 0 } } ∧
      (malformedAddr addr.toNat = false → exec (.i3cWordWrite addr [w]) s = .next { one.2 with mgmt := { one.2.mgmt with ptr := (addr.toNat + 4) % 2 ^ 32, wrStatus := one.1 } }) ∧
      (malformedAddr addr.toNat = true → exec (.i3cWordWrite addr [w]) s = .next { s with mgmt := { s.mgmt with ptr := (addr.toNat + 4) % 2 ^ 32, wrStatus := 6 } }) ∧
      (1 ≤ words.length → words.length ≤ 16 → ∃ u : State, exec (.i3cWordWrite addr words) s = .next u ∧ u.mgmt.ptr = (addr.toNat + 4 * words.length) % 2 ^ 32) ∧
      (malformedAddr ptr = false → s.readError ptr ≠ 0 ∨ s.readWaits ptr = false → ∃ u : State, exec (.i3cPrivateRead 1) s = .next u ∧
        u.out = got.2.2.out ++ [.i3cRead (leBytes 4 got.2.1 ++ [BitVec.ofNat 8 (got.1 + status)])] ∧ u.mgmt.ptr = (ptr + 4) % 2 ^ 32 ∧ u.mgmt.wrStatus = 0) ∧
      (malformedAddr ptr = true → exec (.i3cPrivateRead 1) s =
        .next (({ s with mgmt := { s.mgmt with ptr := (ptr + 4) % 2 ^ 32, wrStatus := 0 } } : State).emit (.i3cRead (leBytes 4 0 ++ [BitVec.ofNat 8 (6 + status)])))) ∧
      (malformedAddr ptr = false → s.readError ptr = 0 → s.readWaits ptr = true → exec (.i3cPrivateRead 1) s = .next (s.emit .i3cNack)) ∧
      exec (.entdaa dyn) s = .next (({ s with mgmt := { s.mgmt with dyn := some dyn } } : State).emit s.i3cIdent) ∧ exec (.setdasa dyn) s = .next { s with mgmt := { s.mgmt with dyn := some dyn } } ∧
      (s.mgmt.ibi = (p, w) :: rest → exec .ibiDelivery s = .next (({ s with mgmt := { s.mgmt with ibi := rest } } : State).emit (.ibi (ibiBytes (p, w)))))) ∧
    (s.mgmtUp = false → exec (.i3cPointerWrite addr) s = .next (s.emit .i3cNack) ∧ exec (.i3cWordWrite addr words) s = .next (s.emit .i3cNack) ∧
      exec (.i3cPrivateRead 1) s = .next (s.emit .i3cNack) ∧ exec (.entdaa dyn) s = .next (s.emit .i3cNack) ∧ exec (.setdasa dyn) s = .next (s.emit .i3cNack))


/-! ## The cores -/

/-- R54: the register commands write their result to `rd` at issue; the rest of the context, of the core and of the machine stays, but for the step of the PC
and the count of the core's cycles. R42, R45, R54: NOP changes nothing but the PC; JMP, a BR that holds and a DBNZ to a non-zero value go on at the target,
and the context issues nothing in the next two cycles; CWAIT holds the next bundle back by `n` cycles. -/
def Obligations.SequencerResults : Prop :=
  (
    ∀ (s : State) (core : Fin 2000) (x : Ctx) (rd ra rb : Fin 16) (ctr : Fin 32) (imm : BitVec 48), s.issues core x [ra, rb, rd] →
      let k := s.ctx core x
      let writes := fun (c : Instr) (v : Dword) => ∃ t, exec c s = .next t ∧ s.sameButCore t core ∧
        s.ctxBecomes t core x { k with pc := k.pc + 1, sqSince := s.timebase, g := k.g.set rd v }
      writes (.add core x rd ra rb) (k.g.get ra + k.g.get rb) ∧
      writes (.sub core x rd ra rb) (k.g.get ra - k.g.get rb) ∧
      writes (.and core x rd ra rb) (k.g.get ra &&& k.g.get rb) ∧
      writes (.or core x rd ra rb) (k.g.get ra ||| k.g.get rb) ∧
      writes (.xor core x rd ra rb) (k.g.get ra ^^^ k.g.get rb) ∧
      writes (.shl core x rd ra rb) (k.g.get ra <<< ((k.g.get rb).toNat % 64)) ∧
      writes (.shr core x rd ra rb) (k.g.get ra >>> ((k.g.get rb).toNat % 64)) ∧
      writes (.mul core x rd ra rb) (k.g.get ra * k.g.get rb) ∧
      writes (.ldi core x rd imm) (imm.setWidth 64) ∧
      writes (.addi core x rd ra imm) (k.g.get ra + imm.signExtend 64) ∧
      writes (.rdctr core x rd ctr) (k.ctr.get ctr)) ∧
  (
    ∀ (s : State) (core : Fin 2000) (x : Ctx) (ra rb : Fin 16) (cond : BitVec 4) (target : BitVec 12) (n : Word) (slot : BundleSlot),
      s.issues core x [ra, rb] →
      let k := s.ctx core x
      let now := (s.core core).cycles
      let k1 := { k with pc := k.pc + 1, sqSince := s.timebase }
      let goes := fun (c : Instr) (l : Context) => ∃ t, exec c s = .next t ∧ s.sameButCore t core ∧ s.ctxBecomes t core x l
      let jump := fun (l : Context) => { l with pc := target.setWidth 13, notBefore := now + 3 }
      let a := k.g.get ra
      let b := k.g.get rb
      let less := { k1 with g := k.g.set ra (a - 1) }
      goes (.nop core x slot 0) k1 ∧
      goes (.jmp core x target) (jump k1) ∧
      (cond = 0 → goes (.br core x ra rb cond target) (if a = b then jump k1 else k1)) ∧
      (cond = 1 → goes (.br core x ra rb cond target) (if a = b then k1 else jump k1)) ∧
      (cond = 2 → goes (.br core x ra rb cond target) (if a.toNat < b.toNat then jump k1 else k1)) ∧
      (cond = 3 → goes (.br core x ra rb cond target) (if a.toNat < b.toNat then k1 else jump k1)) ∧
      (cond = 4 → goes (.br core x ra rb cond target) (if a.toInt < b.toInt then jump k1 else k1)) ∧
      (cond = 5 → goes (.br core x ra rb cond target) (if a.toInt < b.toInt then k1 else jump k1)) ∧
      goes (.dbnz core x ra target) (if a - 1 = 0 then less else jump less) ∧
      goes (.cwait core x n) { k1 with notBefore := now + n.toNat })

/-- R49, R54, R408: FENCE and END issue once no command of the context is queued, running or outstanding, WAIT once its counter has reached its target, TWAIT
once the timebase has; SIG adds 1 to a counter below its limit; RDTB reads the replica, which is a free value of the model within the 4 ns of R408 (log
entry 18). R44, R54: a WAIT whose counter has not reached its target, a TWAIT before its time, and a FENCE or END of a context with work in hand do not
issue: the cycle passes and the context stays as it was. -/
def Obligations.SequencerWaits : Prop :=
  (
    ∀ (s : State) (core : Fin 2000) (x : Ctx) (ra rd : Fin 16) (ctr : Fin 32), s.issues core x [ra, rd] →
      let k := s.ctx core x
      let k1 := { k with pc := k.pc + 1, sqSince := s.timebase }
      let goes := fun (c : Instr) (l : Context) => ∃ t, exec c s = .next t ∧ s.sameButCore t core ∧ s.ctxBecomes t core x l
      (s.ctxBusy core x = false → goes (.fence core x) k1) ∧
      ((k.g.get ra).toNat ≤ (k.ctr.get ctr).toNat → goes (.wait core x ra ctr) k1) ∧
      ((k.g.get ra).toNat ≤ s.timebase.toNat → goes (.twait core x ra) k1) ∧
      ((k.ctr.get ctr).toNat < 2 ^ 64 - 1 → goes (.sig core x ctr) { k1 with ctr := k.ctr.set ctr (k.ctr.get ctr + 1) }) ∧
      (s.ctxBusy core x = false → ∃ t, exec (.endCmd core x) s = .next t ∧ t = { s with cores := t.cores, regs := t.regs } ∧
        (∀ n, n ≠ core.val → t.core n = s.core n) ∧ s.ctxBecomes t core x { k1 with mode := .idle } ∧
        t.regs = (s.irq .core core (match x with | .d => 0 | .p => 1)).regs) ∧
      ∃ t v, exec (.rdtb core x rd) s = .next t ∧ t = { s with cores := t.cores, free := s.free + 1 } ∧
        (∀ n, n ≠ core.val → t.core n = s.core n) ∧ s.ctxBecomes t core x { k1 with g := k.g.set rd v, lastTb := v } ∧
        k.lastTb.toNat ≤ v.toNat ∧ (k.lastTb.toNat ≤ s.timebase.toNat → v.toNat ≤ s.timebase.toNat ∧ s.timebase.toNat ≤ v.toNat + 4)) ∧
  (
    ∀ (s : State) (core : Fin 2000) (x : Ctx) (ra : Fin 16) (ctr : Fin 32), s.issues core x [ra] →
      let k := s.ctx core x
      let stays := fun (c : Instr) => ∃ t, exec c s = .next t ∧ s.sameButCore t core ∧ s.ctxBecomes t core x k
      ((k.ctr.get ctr).toNat < (k.g.get ra).toNat → stays (.wait core x ra ctr)) ∧
      (s.timebase.toNat < (k.g.get ra).toNat → stays (.twait core x ra)) ∧
      (s.ctxBusy core x = true → stays (.fence core x) ∧ stays (.endCmd core x)))

/-- R45, R55, R330, R331: a hall operation that its issuer accepts (R329) and that no translation fault refuses at once takes the least free remote tag of its
stack with its operands as R331 pairs them, and a load or an atomic marks its destination pending. R179, R54, R348: XPOST enters a chain at the end of its
context's queue while the context holds fewer than eight; KINC sends one increment of its kettle. -/
def Obligations.HallAndPostCommands : Prop :=
  (
    ∀ (s : State) (core : Fin 2000) (x : Ctx) (rd ra rb : Fin 16) (size : Bool) (tag : Nat), s.issues core x (List.finRange 16) →
      sfree (s.xe (core / 50)).tags 2048 = some tag →
      let k := s.ctx core x
      let k1 := { k with pc := k.pc + 1, sqSince := s.timebase }
      let a := k.g.get ra
      let base : TagUse := { xe := false, core := Fin.ofNat 50 core, ctx := x, size := size, addr := a, pc := BitVec.ofNat 12 k.pc.toNat, born := s.now }
      let marked := fun (r : Fin 16) => { k1 with pend := k.pend ||| BitVec.twoPow 16 r.val ||| (if size then BitVec.twoPow 16 (r.val + 1) else 0) }
      let takes := fun (c : Instr) (l : Context) (u : TagUse) =>
        s.issueStatus a.toNat u.kind u.op size = 0 →
        (haGlobal a.toNat = false → ∀ code, (s.translate (core / 50) (bits a.toNat 0 48) (decide (u.kind ≠ 0))).1 ≠ .fault code) →
        ∃ t, exec c s = .next t ∧ s.ctxBecomes t core x l ∧ sfind (t.xe (core / 50)).tags tag = some u
      let high := fun (r : Fin 16) => if size then k.g.get (r + 1) else 0
      let atomic := fun (op : Nat) => { base with kind := 2, op := op, rd := rd, lo := k.g.get rb, hi := high rb }
      (size = true → rd.val % 2 = 0) →
      takes (.hld core x rd ra size) (marked rd) { base with rd := rd } ∧
      takes (.hst core x rd ra size) k1 { base with kind := 1, lo := k.g.get rd, hi := high rd } ∧
      ((size = true → rb.val % 2 = 0) →
        takes (.hatAdd core x rd ra rb size) (marked rd) (atomic 0) ∧
        takes (.hatMin core x rd ra rb size) (marked rd) (atomic 1) ∧
        takes (.hatMax core x rd ra rb size) (marked rd) (atomic 2) ∧
        takes (.hatSwap core x rd ra rb size) (marked rd) (atomic 3) ∧
        takes (.hatFadd core x rd ra rb size) (marked rd) (atomic 5)) ∧
      (rb.val % (if size then 4 else 2) = 0 →
        takes (.hatCas core x rd ra rb size) (marked rd)
          { base with kind := 2, op := 4, rd := rd, lo := k.g.get rb, hi := (if size then k.g.get (rb + 2) else 0), cmpLo := k.g.get (rb + 1),
                      cmpHi := (if size then k.g.get (rb + 3) else 0) })) ∧
  (
    ∀ (s : State) (core : Fin 2000) (x : Ctx) (ra : Fin 16) (kettle : BitVec 8), s.issues core x [ra] →
      let k := s.ctx core x
      let k1 := { k with pc := k.pc + 1, sqSince := s.timebase }
      let e := s.xe (core / 50)
      let posted := { e with chains := e.chains ++ [{ core := Fin.ofNat 50 core, ctx := x, seq := e.nextSeq, fetch := some (k.g.get ra) }]
                             nextSeq := e.nextSeq + 1 }
      ((e.chains.filter (fun c => decide (c.core = Fin.ofNat 50 core) && decide (c.ctx = x))).length < 8 →
        ∃ t, exec (.xpost core x ra) s = .next t ∧ s.ctxBecomes t core x k1 ∧
          t = { s with cores := t.cores, xes := sset {} s.xes (core / 50) posted }) ∧
      ∃ t, exec (.kinc core x kettle) s = .next t ∧ s.ctxBecomes t core x k1 ∧
        t = { s with cores := t.cores, kettleIn := sset [] s.kettleIn kettle.toNat (sget [] s.kettleIn kettle.toNat ++ [1]) })

/-- R42, R44, R45: a bundle whose words are good, whose encoding raises nothing and which can issue, issues whole: each engine command other than a NOP enters
its queue with what it captures, and the PC moves on. R42, R72, R73, R331: an odd pair register under size 1, or a branch condition above 5, raises
RESERVED at issue: the context is HALTED with the exception recorded for the SQ bundle slot, its queued commands discarded, and the job fault of R513
reported. -/
def Obligations.BundlesIssueWhole : Prop :=
  (
    ∀ (s : State) (core : Fin 2000) (x : Ctx) (b : Nat), s.issues core x [] →
      let k := s.ctx core x
      let es := bundleEngines b
      let new := fun (e : Engine) (cmd : Nat) => if opOf cmd = 0 then [] else [capture k e cmd]
      s.instStore.get (instKey core (32 * k.pc.toNat) / 8) 4 = ⟨b, [], none⟩ → bits b 0 64 = 0 → bundleFaults x k.issueCfg (.ok .nop) es = [] →
      s.canIssue core x .nop es = true →
      ∃ t l, exec (.bundleIssue core x) s = .next t ∧ s.sameButCore t core ∧ s.ctxBecomes t core x l ∧ l.pc = k.pc + 1 ∧ l.g = k.g ∧ l.ctr = k.ctr ∧
        l.mode = .run ∧ l.qRm = k.qRm ++ new .rm (bits b 64 64) ∧ l.qVe = k.qVe ++ new .ve (bits b 128 64) ∧ l.qMe = k.qMe ++ new .me (bits b 192 64)) ∧
  (
    ∀ (s : State) (core : Fin 2000) (x : Ctx) (rd ra : Fin 16) (cond : BitVec 4) (target : BitVec 12), s.issues core x [] →
      (s.xe (core / 50)).chains = [] →
      let k := s.ctx core x
      let halts := fun (c : Instr) => ∃ t, exec c s = .next t ∧
        s.ctxBecomes t core x { k with mode := .halted, exc := ⟨2, BitVec.ofNat 12 k.pc.toNat, 0, false⟩, qMe := [], qVe := [], qRm := [] } ∧
        t = { s with cores := t.cores, regs := (s.irq .core core (match x with | .d => 2 | .p => 3)).regs, faultsDue := t.faultsDue } ∧
        t.faultsDue = s.faultsDue ++ [{ cls := 1, code := 2, die := BitVec.ofNat 8 (0x40 + core / 50), inst := core, t0 := s.now }]
      (rd.val % 2 = 1 → halts (.hld core x rd ra true) ∧ halts (.hst core x rd ra true)) ∧
      (5 < cond.toNat → halts (.br core x rd ra cond target)))

/-- R56, R58, R60: MCFG takes a legal pair; MLCB loads the codebook it names from 16 BF16 values of a line. R58, R59, R62, R97: MLD loads an accumulator, 32
rows of 64 words, and gives it the tag of the configuration; MST writes its elements in the output format, in rounding of R97 below FP32, and empties the
accumulator where the command says so. -/
def Obligations.MatrixStorage : Prop :=
  (
    ∀ (s : State) (core : Fin 2000) (x : Ctx) (q : QEntry) (d : Nat),
      let v := q.cmd.toNat
      let u := s.takenUp core x .me q
      let c : MeCfg := ⟨BitVec.ofNat 4 (v / 2 ^ 36), BitVec.ofNat 4 (v / 2 ^ 32), BitVec.ofNat 2 (v / 2 ^ 30)⟩
      let line := bits v 26 14
      let book := bits v 24 2
      let loaded := fun (k : Context) => Vector.ofFn (fun i : Fin 64 =>
        if i.val / 16 = book then BitVec.ofNat 16 (bits d (16 * (i.val % 16)) 16) else k.cbk.get i)
      (s.engineHead core x .me 0xC0 = some q → (pairCycles c.aFmt.toNat c.bFmt.toNat).isSome = true →
        exec (.mcfg core x) s = .next (u.modCtx core x (fun k => { k with cfg := some c }))) ∧
      (s.engineHead core x .me 0xC1 = some q → s.lineCheck core x false [(line, 1)] [] = none →
        s.coreBuf.get (bufKey core (64 * line) / 8) 8 = ⟨d, [], none⟩ →
        exec (.mlcb core x) s = .next (u.modCtx core x (fun k => { k with cbk := loaded k })))) ∧
  (
    ∀ (s : State) (core : Fin 2000) (x : Ctx) (q : QEntry) (c : MeCfg) (d : Nat),
      let v := q.cmd.toNat
      let u := s.takenUp core x .me q
      let k := u.ctx core x
      let line := bits v 26 14
      let a := bits v 24 2
      let fmt := bits v 20 4
      let words := (List.range 2048).map (fun i => (i, BitVec.ofNat 32 (bits d (32 * i) 32)))
      let float := k.tag.toList.getD a .invalid = .fp32
      let outs := (List.range 2048).map (fun i =>
        if fmt = 15 then ((k.accGet a i).toNat, if float ∧ isNanF32 (k.accGet a i) then Flag.nanOut else 0) else convertElem fmt (k.accGet a i))
      let size := if fmt = 15 then 4 else if fmt = 7 then 2 else 1
      let stored := u.bufWrite core (64 * line) (packNat (8 * size) (outs.map Prod.fst)) (2048 * size)
      (s.engineHead core x .me 0xC4 = some q → k.cfg = some c → s.lineCheck core x false [(line, 128)] [] = none →
        s.coreBuf.get (bufKey core (64 * line) / 8) 1024 = ⟨d, [], none⟩ →
        exec (.mld core x) s = .next ((u.modCtx core x (fun k => (k.accSet a words).tagSet a c.tag)).numFlags core x
          (if c.tag = .fp32 ∧ ∃ w ∈ words, isNanF32 w.2 = true then Flag.nanOut else 0))) ∧
      (s.engineHead core x .me 0xC3 = some q → s.lineCheck core x false [(line, 32 * size)] [] = none →
        (float ∧ fmt ∈ [15, 7, 2, 3] ∨ k.tag.toList.getD a .invalid = .int32 ∧ fmt = 15) →
        exec (.mst core x) s = .next ((if bitOf v 19 then stored.modCtx core x (fun k => k.accSet a []) else stored).numFlags core x
          (outs.foldl (fun f r => f ||| r.2) 0))))

/-- R58, R88 to R92: MMA adds, for each of the 32 × 64 elements, the sum over the blocks of the products of a row of A and a column of B: exact integer sums
with saturation in INT8, and in the float formats one rounded block sum after another, in an order of the blocks that is a free value of the model (R89,
log entry 12). -/
def Obligations.MatrixMultiply : Prop :=
  ∀ (s : State) (core : Fin 2000) (x : Ctx) (q : QEntry) (c : MeCfg) (da db : Nat),
    let v := q.cmd.toNat
    let u := s.takenUp core x .me q
    let k := u.ctx core x
    let nb := bits v 4 8 + 1
    let a := bits v 2 2
    let na := nb * blockLines c.aFmt.toNat 32
    let nbl := nb * blockLines c.bFmt.toNat 64
    let old := fun (i : Nat) => if bitOf v 1 then 0 else k.accGet a i
    s.engineHead core x .me 0xC2 = some q → k.cfg = some c → (bitOf v 1 = true ∨ k.tag.toList.getD a .invalid = c.tag) →
    s.lineCheck core x false [(bits v 26 14, na), (bits v 12 14, nbl)] [] = none →
    s.coreBuf.get (bufKey core (64 * bits v 26 14) / 8) (8 * na) = ⟨da, [], none⟩ →
    s.coreBuf.get (bufKey core (64 * bits v 12 14) / 8) (8 * nbl) = ⟨db, [], none⟩ →
    ∃ (order : List Nat) (res : List (Nat × Word × Flags)),
      order.Perm (List.range nb) ∧
      res = (List.range 2048).map (fun i => (i, if c.tag = .int32 then mmaInt da db (i / 64) (i % 64) (old i) nb
        else mmaFloat c (k.codebook c.cb) da db (i / 64) (i % 64) (old i) order)) ∧
      exec (.mma core x) s = .next ((u.modCtx core x (fun k => (k.accSet a (res.map (fun r => (r.1, r.2.1)))).tagSet a c.tag)).numFlags core x
        (res.foldl (fun f r => f ||| r.2.2) 0))

/-- R67, R85, R99 to R103: an element-wise command writes, for each element of its beats, the result of its operation; a BF16 source is widened, a BF16 result
rounded, and VABS, VNEG and VMOV keep the bits they copy. The special functions' results are free values of the model within R102 (log entry 13). -/
def Obligations.VectorElementwise : Prop :=
  ∀ (s : State) (core : Fin 2000) (x : Ctx) (q : QEntry) (da db dd : Nat),
    let c := veCmd q
    let len := 4 * c.n
    let u := s.takenUp core x .ve q
    let rev := (s.die (0x40 + core / 50)).rev.toNat
    let sc := BitVec.ofNat 32 c.raw2.toNat
    let writes := fun (rs : List (Nat × Flags)) =>
      (u.bufWrite core (64 * c.d) (packNat (veBits c.fmt) (rs.map Prod.fst)) (256 * c.n)).numFlags core x (rs.foldl (fun f r => f ||| r.2) 0)
    let each := fun (f : Nat → Nat × Flags) => (List.range (c.n * beatElems c.fmt)).map f
    let elem := fun (d i : Nat) => veElem c.fmt d i
    let copied := fun (r : Word × Flags) => if c.fmt = 7 then (r.1.toNat / 65536, r.2) else (r.1.toNat, r.2)
    let good := fun (line d : Nat) => s.coreBuf.get (bufKey core (64 * line) / 8) (32 * c.n) = ⟨d, [], none⟩
    let one := fun (op : Nat) (cmd : Instr) (f : Word → Word × Flags) => s.engineHead core x .ve op = some q → (c.fmt = 15 ∨ c.fmt = 7) →
      s.lineCheck core x true [(c.a, len), (c.d, len)] [] = none → good c.a da →
      exec cmd s = .next (writes (each (fun i => veStore c.fmt (f (elem da i)))))
    let copy := fun (op : Nat) (cmd : Instr) (f : Word → Word) => s.engineHead core x .ve op = some q → (c.fmt = 15 ∨ c.fmt = 7) →
      s.lineCheck core x true [(c.a, len), (c.d, len)] [] = none → good c.a da →
      exec cmd s = .next (writes (each (fun i => copied (f (elem da i), if isNanF32 (f (elem da i)) then Flag.nanOut else 0))))
    let two := fun (op : Nat) (cmd : Instr) (f : Word → Word → Word × Flags) => s.engineHead core x .ve op = some q → (c.fmt = 15 ∨ c.fmt = 7) →
      s.lineCheck core x true [(c.a, len), (c.b, len), (c.d, len)] [] = none → good c.a da → good c.b db →
      exec cmd s = .next (writes (each (fun i => veStore c.fmt (f (elem da i) (elem db i)))))
    two 0x80 (.vadd core x) addF32 ∧ two 0x81 (.vsub core x) subF32 ∧ two 0x82 (.vmul core x) mulF32 ∧
    two 0x83 (.vmax core x) maxF32 ∧ two 0x84 (.vmin core x) minF32 ∧
    (s.engineHead core x .ve 0x85 = some q → (c.fmt = 15 ∨ c.fmt = 7) →
      s.lineCheck core x true [(c.a, len), (c.b, len), (c.d, len)] [] = none → good c.a da → good c.b db → good c.d dd →
      exec (.vfma core x) s = .next (writes (each (fun i => veStore c.fmt (fmaF32 (elem da i) (elem db i) (elem dd i)))))) ∧
    one 0x86 (.vsmul core x) (fun a => mulF32 a sc) ∧ one 0x87 (.vsadd core x) (fun a => addF32 a sc) ∧
    one 0x88 (.vexp2 core x) (specialF32 rev 0x88) ∧ one 0x89 (.vlog2 core x) (specialF32 rev 0x89) ∧
    one 0x8A (.vrcp core x) (specialF32 rev 0x8A) ∧ one 0x8B (.vrsqrt core x) (specialF32 rev 0x8B) ∧
    copy 0x8C (.vabs core x) (fun a => a &&& 0x7FFFFFFF#32) ∧ copy 0x8D (.vneg core x) (fun a => a ^^^ 0x80000000#32) ∧
    copy 0x8E (.vmov core x) (fun a => a)

/-- R93 to R98: VCVT converts each element to its target format; to an MX format it converts runs of 32 elements, and writes their scales at the line of `rs2`.
R67, R104, R105: VRSUM writes the sum of each segment of `aux` + 1 beats, lane by lane and then by a balanced tree; VRMAX writes the largest element of
each, or a NaN where the segment holds one. -/
def Obligations.VectorConvertReduce : Prop :=
  (
    ∀ (s : State) (core : Fin 2000) (x : Ctx) (q : QEntry) (da : Nat),
      let c := veCmd q
      let u := s.takenUp core x .ve q
      let t := c.aux % 16
      let n := c.n * beatElems c.fmt
      let ws := (List.range n).map (fun i => veElem c.fmt da i)
      let plain := ws.map (convertElem t)
      let blocks := (chunksOf 32 n ws).map (convertMx t)
      let width := if t = 15 then 32 else if t = 7 then 16 else if t = 0 then 4 else 8
      s.engineHead core x .ve 0x90 = some q → (c.fmt = 15 ∨ c.fmt = 7) → t ≠ 8 → t ≠ 9 →
      s.coreBuf.get (bufKey core (64 * c.a) / 8) (32 * c.n) = ⟨da, [], none⟩ →
      (isMx t = false → s.lineCheck core x true [(c.a, 4 * c.n), (c.d, linesFor (targetBytes t n))] [] = none →
        exec (.vcvt core x) s = .next ((u.bufWrite core (64 * c.d) (packNat width (plain.map Prod.fst)) (targetBytes t n)).numFlags core x
          (plain.foldl (fun f r => f ||| r.2) 0))) ∧
      (isMx t = true → s.lineCheck core x true [(c.a, 4 * c.n), (c.d, linesFor (targetBytes t n)), (c.b, linesFor (n / 32))] [] = none →
        exec (.vcvt core x) s = .next (((u.bufWrite core (64 * c.d) (packNat (if t = 1 then 4 else 8) (blocks.flatMap (fun b => b.2.1)))
          (targetBytes t n)).bufWrite core (64 * c.b) (packNat 8 (blocks.map Prod.fst)) (n / 32)).numFlags core x
          (blocks.foldl (fun f b => f ||| b.2.2) 0)))) ∧
  (
    ∀ (s : State) (core : Fin 2000) (x : Ctx) (q : QEntry) (da : Nat),
      let c := veCmd q
      let u := s.takenUp core x .ve q
      let b := c.aux + 1
      let segs := c.n / b
      let writes := fun (rs : List (Word × Flags)) =>
        (u.bufWrite core (64 * c.d) (packNat 32 (rs.map (fun r => r.1.toNat))) (4 * segs)).numFlags core x (rs.foldl (fun f r => f ||| r.2) 0)
      (c.fmt = 15 ∨ c.fmt = 7) → s.lineCheck core x true [(c.a, 4 * c.n), (c.d, linesFor (4 * segs))] [] = none →
      s.coreBuf.get (bufKey core (64 * c.a) / 8) (32 * c.n) = ⟨da, [], none⟩ →
      (s.engineHead core x .ve 0x98 = some q → exec (.vrsum core x) s = .next (writes ((List.range segs).map (fun g =>
        let r := segmentSum c.fmt da (g * b) b
        if isNanF32 r.1 then (nanF32, r.2 ||| Flag.nanOut) else r)))) ∧
      (s.engineHead core x .ve 0x99 = some q → exec (.vrmax core x) s = .next (writes ((List.range segs).map (fun g => segmentMax c.fmt da (g * b) b)))))

/-- R68 to R70, R106: VTOPK writes its k largest values with their indices; VSAMP writes the index and the probability that its records and parameters give;
VRNG writes one value for each element from the core's seed, the slot and the counter. -/
def Obligations.VectorSelect : Prop :=
  ∀ (s : State) (core : Fin 2000) (x : Ctx) (q : QEntry) (da dp : Nat),
    let c := veCmd q
    let u := s.takenUp core x .ve q
    let k := c.aux % 256 + 1
    let best := topk k ((List.range (64 * c.n)).map (fun i => (veElem 15 da i, i)))
    let record := fun (i : Nat) => match best[i]? with
      | some r => if isNanF32 r.1 then (nanF32.toNat + 2 ^ 32 * r.2, Flag.nanOut) else (r.1.toNat + 2 ^ 32 * r.2, (0 : Flags))
      | none => (nanF32.toNat + 2 ^ 32 * 0xFFFFFFFF, Flag.nanOut)
    let recs := (List.range k).map record
    let given := (List.range k).map (fun i => (BitVec.ofNat 32 (bits da (64 * i) 32), bits da (64 * i + 32) 32))
    let pick := vsamp (s.die (0x40 + core / 50)).rev.toNat given (BitVec.ofNat 32 dp) (BitVec.ofNat 32 (dp / 2 ^ 32)) (BitVec.ofNat 32 (dp / 2 ^ 64))
    (s.engineHead core x .ve 0xA0 = some q → c.fmt = 15 → s.lineCheck core x true [(c.a, 4 * c.n), (c.d, linesFor (8 * k))] [] = none →
      s.coreBuf.get (bufKey core (64 * c.a) / 8) (32 * c.n) = ⟨da, [], none⟩ →
      exec (.vtopk core x) s = .next ((u.bufWrite core (64 * c.d) (packNat 64 (recs.map Prod.fst)) (8 * k)).numFlags core x
        (recs.foldl (fun f r => f ||| r.2) 0))) ∧
    (s.engineHead core x .ve 0xA1 = some q → (c.fmt = 15 ∨ c.fmt = 7) →
      s.lineCheck core x true [(c.a, linesFor (8 * k)), (c.b, 1), (c.d, 1)] [] = none →
      s.coreBuf.get (bufKey core (64 * c.a) / 8) k = ⟨da, [], none⟩ → s.coreBuf.get (bufKey core (64 * c.b) / 8) 2 = ⟨dp, [], none⟩ →
      exec (.vsamp core x) s = .next ((u.bufWrite core (64 * c.d) (pick.1 + 2 ^ 32 * pick.2.1.toNat) 8).numFlags core x pick.2.2)) ∧
    (s.engineHead core x .ve 0xA2 = some q → c.fmt = 15 → s.lineCheck core x true [(c.d, 4 * c.n)] [] = none →
      exec (.vrng core x) s = .next (u.bufWrite core (64 * c.d)
        (packNat 32 ((List.range (64 * c.n)).map (fun e => (vrng (s.rd64 (coreReg core 0x068)) (c.raw1 &&& 0xFF) c.raw2 e).toNat))) (256 * c.n)))

/-- R63 to R66, R72, R116: an RM command that passes its checks presents its first rows, at most 16, to the row port in ascending order, reads for RMLD and RMX
and writes for RMST, whose rows are read from the core buffer first. R47, R49, R51, R195: a command that has done its work frees its engine, in the DRAIN of a
pre-emption saves the accumulator it used, and adds 1 to the counter it names where it signals. -/
def Obligations.RowMoverAndEngines : Prop :=
  (
    ∀ (s : State) (core : Fin 2000) (x : Ctx) (q : QEntry) (op : Nat),
      let n := core.val / 50
      let total := rmCount q
      let first := min 16 total
      let reqs := fun (w : Bool) => (List.range first).map (fun i => ({ use := .rm (Fin.ofNat 50 core) x i, row := rmRow q + i, write := w
                                                                        born := (s.stk n).bankCycle.toList.getD ((rmRow q + i) % 32) 0 } : RowReq))
      let presents := fun (c : Instr) (w : Bool) => ∃ t r, exec c s = .next t ∧ (t.core core).rm = some r ∧ r.ctx = x ∧ r.entry = q ∧
        r.total = total ∧ r.next = first ∧ r.out = first ∧ r.moved = 0 ∧ (t.stk n).reqs = (s.stk n).reqs ++ reqs w
      s.engineHead core x .rm op = some q → s.lineCheck core x true [(rmLine q, rmLines q)] [] = none → rmRow q + total ≤ 2097152 →
      (op = 0x40 → presents (.rmld core x) false) ∧
      (op = 0x42 → presents (.rmx core x) false) ∧
      (op = 0x41 → (∀ i, i < first → ∃ v, s.coreBuf.get (bufKey core (64 * rmLine q + 512 * i) / 8) 64 = ⟨v, [], none⟩) → presents (.rmst core x) true)) ∧
  (
    ∀ (s : State) (core : Fin 2000) (eng : Engine) (r : Running),
      (s.core core).running eng = some r → (eng = .rm → r.moved = r.total) →
      let left := s.setRun core eng none
      let freed := if r.ctx = .p ∧ (s.ctx core .p).mode = .drainPark then (match meAcc r.entry with | some a => left.writeAcc core a | none => left) else left
      (sigEn r.entry.cmd.toNat = false → exec (.engineCommandComplete core eng) s = .next freed) ∧
      (sigEn r.entry.cmd.toNat = true → (freed.ctx core r.ctx).ctr.get (sigCtr r.entry.cmd.toNat) ≠ BitVec.allOnes 64 →
        exec (.engineCommandComplete core eng) s = .next (freed.modCtx core r.ctx (fun k =>
          { k with ctr := k.ctr.set (sigCtr r.entry.cmd.toNat) (k.ctr.get (sigCtr r.entry.cmd.toNat) + 1) }))))

/-- R49, R75, R78: the actions of CTX_CMD from the states in which the table of R75 lists them, and the writes of CTX_BANKS and of a general register. R75,
R192, R194, R195: a running P context that is pre-empted stops, its chains are suspended and its save area is written; a PARKED one that is resumed comes
back as its save area holds it, with its chains. R53, R73, R75, R195: an engine wait that has stood unsatisfied for CORE.WAIT_TMO raises WAIT_TMO for its
bundle slot; an aborted context whose commands are done becomes IDLE with its interrupt; a pre-empted one with nothing left to do becomes PARKED. -/
def Obligations.ContextActions : Prop :=
  (
    ∀ (s : State) (ini : Initiator) (ep : BitVec 8) (core : Fin 2000) (x : Ctx) (reg : Fin 16) (v : Dword) (dBanks pBanks : Byte),
      let does := fun (c : Instr) (t : State) => exec c s = .next (t.answer ini 0)
      let started := fun (y : Ctx) (pc : Nat) => (s.resetOver core).setCtx core y
        { s.ctx core y with mode := .run, pc := BitVec.ofNat 13 pc, qMe := [], qVe := [], qRm := [], cfg := none, issueCfg := none, tag := Vector.replicate 4 .invalid, exc := {}, notBefore := 0, sqSince := s.timebase }
      let aborted := s.setCtx core .d { s.ctx core .d with mode := .drainAbort, qMe := [], qVe := [], qRm := [], pend := 0 }
      let zero : Vector Dword 32 := Vector.replicate 32 0
      (s.takes ini ep .core core 0x048 →
        ((s.ctx core .d).mode = .idle → s.coreOn core = true → does (.dStart ini ep core) (started .d (s.fld (coreReg core 0x050) 0 12))) ∧
        ((s.ctx core .p).mode = .idle → s.coreOn core = true → does (.pStart ini ep core) (started .p (s.fld (coreReg core 0x050) 16 12))) ∧
        ((s.ctx core .d).mode = .run → does (.dAbort ini ep core) ((aborted.dropHall core .d).cancelChains core .d)) ∧
        ((s.ctx core .d).mode = .idle → (s.ctx core .p).mode = .idle → does (.clearCtr ini ep core)
          (s.setCore core { s.core core with d := { s.ctx core .d with ctr := zero }, p := { s.ctx core .p with ctr := zero } }))) ∧
      (s.takes ini ep .core core 0x044 → dBanks &&& pBanks = 0 →
        does (.ctxBanksWrite ini ep core dBanks pBanks) (s.wr (coreReg core 0x044) (BitVec.ofNat 32 (dBanks.toNat + 256 * pBanks.toNat)))) ∧
      (s.takes ini ep .core core ((match x with | .d => 0x300 | .p => 0x380) + 8 * reg.val) → (s.ctx core x).mode = .idle →
        does (.gRegisterWrite ini ep core x reg v) (s.setCtx core x { s.ctx core x with g := (s.ctx core x).g.set reg v }))) ∧
  (
    ∀ (s : State) (ini : Initiator) (ep : BitVec 8) (core : Fin 2000) (lo hi : Nat), s.takes ini ep .core core 0x048 → s.saveFault core = none →
      let stopped := (s.setCtx core .p { s.ctx core .p with mode := .drainPark, saveAt := s.saveBase core }).suspendChains core
      let base := 64 * s.saveBase core
      ((s.ctx core .p).mode = .run → stopped.saveFault core = none → exec (.pPreempt ini ep core) s = .next ((stopped.writeSave core).answer ini 0)) ∧
      ((s.ctx core .p).mode = .parked → s.coreOn core = true → s.coreBuf.get (bufKey core base / 8) 128 = ⟨lo, [], none⟩ →
        s.coreBuf.get (bufKey core (base + 1024) / 8) 4096 = ⟨hi, [], none⟩ → badHeader lo = false →
        exec (.pResume ini ep core) s = .next (((s.setCtx core .p (restore (s.ctx core .p) lo hi s.timebase)).resumeChains core).answer ini 0))) ∧
  (
    ∀ (s : State) (core : Fin 2000) (x : Ctx) (slot : BundleSlot) (since pc : Nat),
      let tmo := (s.rd64 (coreReg core 0x060)).toNat
      ((s.ctx core x).mode = .run ∨ ((s.ctx core x).mode = .drainPark ∧ slot ≠ .sq) → tmo ≠ 0 → s.openWait core x slot = some (since, pc) → since + tmo ≤ s.now →
        exec (.waitTmo core x slot) s = .next (s.exception core x 0x0B pc (slotNo slot) false 0)) ∧
      ((s.ctx core .d).mode = .drainAbort → s.engineBusy core .d = false → (s.ctx core .p).mode = .run → s.lateReads = [] →
        ∃ t, exec (.abortDrainComplete core) s = .next t ∧ t = { s with cores := t.cores, regs := (s.irq .core core 5).regs } ∧
          t.cores = (s.setCtx core .d { s.ctx core .d with mode := .idle }).cores) ∧
      ((s.ctx core .p).mode = .drainPark → s.engineBusy core .p = false → s.hallOps core .p = [] →
        let saved := s.bufWrite core (64 * (s.ctx core .p).saveAt + 64) (packNat 64 ((s.ctx core .p).g.toList.map BitVec.toNat)) 128
        exec (.parkComplete core) s = .next (((saved.setCtx core .p { s.ctx core .p with mode := .parked }).irq .core core 4).afterCommit)))


/-! ## The stacks -/

/-- R113, R116 to R118, R125: a granted request leaves its queue, its bank has passed one row cycle, two in half-row mode, and its access is performed; with
nothing queued at the bank, or with reads alone and its landing buffer full, only the cycle passes. A read is granted only with an entry of that buffer free. R116, R117: on a cycle that is no multiple of 4, while no request of the scrub class has waited 4,096 cycles, a
bank with a request of class D grants one of class D; on a multiple of 4 one with a request of the XE grants the XE's. -/
def Obligations.RowPortGrants : Prop :=
  (
    ∀ (s : State) (stack : Fin 40) (bank : Fin 32) (r : RowReq), s.stackOn stack = true →
      let k := s.stk stack
      let cls := s.rowClass stack r
      let served := { k with bankCycle := k.bankCycle.set bank (k.bankCycle.get bank + (if k.half then 2 else 1))
                             reqs := dropFirst (fun q => decide (q = r)) k.reqs
                             lastD := (if cls = .d then k.lastD.set bank (Fin.ofNat 50 (reqCore r).1) else k.lastD)
                             lastP := (if cls = .p then k.lastP.set bank (Fin.ofNat 50 (reqCore r).1) else k.lastP) }
      (s.rowPick stack bank = some r → exec (.rowGrant stack bank) s = .next ((s.setStk stack served).rowAccess stack r)) ∧
      ((∀ q ∈ k.reqs, q.row % 32 ≠ bank.val) ∨ (2 ≤ s.landed stack bank ∧ ∀ q ∈ k.reqs, q.row % 32 = bank.val → q.write = false) →
        exec (.rowGrant stack bank) s = .next (s.setStk stack { k with bankCycle := k.bankCycle.set bank (k.bankCycle.get bank + 1) }))) ∧
  (
    ∀ (s : State) (stack : Fin 40) (bank : Fin 32) (r : RowReq),
      let k := s.stk stack
      let cyc := k.bankCycle.get bank
      r ∈ k.reqs → r.row % 32 = bank.val → (r.write = true ∨ s.landed stack bank < 2) → (∀ q ∈ k.reqs, s.rowClass stack q = .s → cyc < q.born + 4096) →
      (cyc % 4 ≠ 0 → s.rowClass stack r = .d → ∃ g, s.rowPick stack bank = some g ∧ g ∈ k.reqs ∧ g.row % 32 = bank.val ∧ s.rowClass stack g = .d) ∧
      (cyc % 4 = 0 → s.rowClass stack r = .xe → ∃ g, s.rowPick stack bank = some g ∧ g ∈ k.reqs ∧ g.row % 32 = bank.val ∧ s.rowClass stack g = .xe))

/-- R110, R111, R119 to R129: the scrub presents its next row; at a job boundary a row with recurring errors goes to a spare row, and a 65th of a bank retires
the stack; a bond is declared failed after 16 corrected words of its position within 1 ms, or by the bond test or the monitors of its class, and exhausts its
group where the spare is taken: a data group then asks for half-row mode, and a group of another class for the retirement of the stack, or of the photonic
direction that it serves, with a job fault. In the idle interval, or in Larva, a failed bond is repaired and an exhausted stack enters half-row mode; both
are recorded. -/
def Obligations.RowMaintenance : Prop :=
  ∀ (s : State) (stack : Fin 40) (bank : Fin 32) (row : BitVec 16) (bond : Bond),
    let n := stack.val
    let k := s.stk n
    let a := bank.val + 32 * row.toNat
    let h := sget [] k.busHist (bond.grp * 64 + bond.pos)
    let left := { k with remapDue := k.remapDue.filter (fun r => decide (r ≠ a)) }
    let copied : State := { s.setStk n left with rowStore := s.rowStore.fix (s.rowStore.get (rowWord n a) 64).fixed }
    let k2 := copied.stk n
    let declared := { k with busHist := serase k.busHist (bond.grp * 64 + bond.pos), bondFailed := k.bondFailed ++ [bond] }
    let logged := ((s.latchLog (rowsReg n 0x04C) (bondLog bond)).irq .rows n 0).setStk n declared
    let dataOut := { declared with exhausted := (if k.exhausted.contains bond.grp then k.exhausted else k.exhausted ++ [bond.grp]), halfDue := k.halfDue || !k.half }
    let cellOut := { declared with cellDue := if k.cellDue.contains (bond.grp / 4) then k.cellDue else k.cellDue ++ [bond.grp / 4] }
    let idle := s.idleInterval = true ∨ s.stage = .larva
    (s.stackOn n = true → s.fld (rowsReg n 0x05C) 0 1 = 1 → exec (.rowScrub stack) s = .next (s.setStk n
      { k with scrubNext := (k.scrubNext + 1) % 2097152,
               reqs := k.reqs ++ [{ use := .scrub, row := k.scrubNext, write := false, born := k.bankCycle.toList.getD (k.scrubNext % 32) 0 }] })) ∧
    (s.jobPhase = 0 → a ∈ k.remapDue → s.sparesUsed n bank < 64 → exec (.spareRowRemap stack bank row) s = .next ((copied.setStk n
      { k2 with spareRows := smod 0 k2.spareRows bank (· + 1), ceHist := k2.ceHist.filter (fun e => decide (e.1 / 4608 ≠ a)) }).amend
        0x04 false (n * 2 ^ 21 + a) (s.sparesUsed n bank))) ∧
    (s.jobPhase = 0 → a ∈ k.remapDue → 64 ≤ s.sparesUsed n bank → exec (.spareRowRemap stack bank row) s = .next ((s.setStk n left).retireNow n)) ∧
    (bond.fitted = true → bond ∉ k.bondFailed → (s.stage = .larva ∨ bond.cls ≠ .data ∨ (16 ≤ h.length ∧ h.getLast?.getD 0 ≤ h.headD 0 + 1000000)) →
      (s.spareTaken n bond = false → exec (.bondFailDeclare stack (bond.cls, bond.base) bond.grp bond.pos) s = .next logged) ∧
      (s.spareTaken n bond = true → swf (fun _ => ({} : Stack)) s.stks = true →
        (bond.cls = .data → dataOut.lostGroups (bond.grp / 72) ≤ 36 → exec (.bondFailDeclare stack (bond.cls, bond.base) bond.grp bond.pos) s = .next (logged.setStk n dataOut)) ∧
        (bond.cls = .data → 36 < dataOut.lostGroups (bond.grp / 72) → exec (.bondFailDeclare stack (bond.cls, bond.base) bond.grp bond.pos) s = .next ((logged.setStk n dataOut).retireStack n)) ∧
        (bond.cls = .cell → exec (.bondFailDeclare stack (bond.cls, bond.base) bond.grp bond.pos) s = .next ((logged.setStk n cellOut).verticalFault n)) ∧
        (bond.cls ≠ .data → bond.cls ≠ .cell → exec (.bondFailDeclare stack (bond.cls, bond.base) bond.grp bond.pos) s = .next ((logged.retireStack n).verticalFault n)))) ∧
    (idle → bond ∈ k.bondFailed → (∀ r ∈ (s.die (0x80 + n)).fusedBonds ++ k.repaired, bondMate bond r = false) →
      exec (.bondRepair stack (bond.cls, bond.base) (bond.grp, bond.pos)) s = .next ((s.setStk n
        { k with bondFailed := k.bondFailed.filter (fun x => decide (x ≠ bond)), repaired := k.repaired ++ [bond] }).amend 0x03 false (bondResource n bond) bond.pos)) ∧
    (idle → k.halfDue = true → k.half = false →
      exec (.halfRowEntry stack) s = .next (((s.setStk n { k with half := true, halfDue := false }).irq .rows n 1).amend 0x02 false n 0))

/-- R130 to R134: the governor lowers the ceiling while the window is above the cap, then raises the ME idle duty, and undoes one step when the window is more
than 2 W below it; a power sample above 72 W applies the brake, and one at or below it releases it; the caps are stored clamped. -/
def Obligations.StackGovernor : Prop :=
  ∀ (s : State) (stack : Fin 40) (c r b : BitVec 10) (ini : Initiator) (ep : BitVec 8) (sus surge : Byte) (grant : Bool),
    let n := stack.val
    let k := s.stk stack
    let p := c.toNat + r.toNat + b.toNat
    let fresh := decide (720 < p) && !k.brake
    (s.stackOn n = true → 32 ≤ k.ceiling → k.ceiling ≤ 80 → k.duty ≤ 4 → ∃ t, exec (.governorTick stack) s = .next t ∧ t.mainMem = s.mainMem ∧
      t.cores = s.cores ∧ (∀ m, m ≠ n → t.stk m = s.stk m) ∧
      (s.cap n < k.window → 32 < k.ceiling → (t.stk n).ceiling = k.ceiling - 1 ∧ (t.stk n).duty = k.duty ∧ (t.stk n).limiting = true) ∧
      (s.cap n < k.window → k.ceiling = 32 → (t.stk n).ceiling = 32 ∧ (t.stk n).duty = min 4 (k.duty + 1) ∧ (t.stk n).limiting = true) ∧
      (swf (fun _ => ({} : Stack)) s.stks = true → k.window + 200 < s.cap n → (t.stk n).limiting = false ∧ (t.stk n).duty = k.duty - 1 ∧
        (t.stk n).ceiling = (if k.duty = 0 then min 80 (k.ceiling + 1) else k.ceiling))) ∧
    (s.stackOn n = true → ∃ t, exec (.powerSample stack c r b) s = .next t ∧ t.stks = sset {} s.stks n
      { k with samples := k.samples.drop (k.samples.length - 99) ++ [p], brake := decide (720 < p)
               brakes := (if fresh then k.brakes.filter (fun t => decide (s.now < t + 1000000000)) ++ [s.now] else k.brakes) } ∧
      t = { s with stks := t.stks, regs := t.regs } ∧ (fresh = false →
        t.regs = (s.wr (rowsReg n 0x06C) (BitVec.ofNat 32 (c.toNat + r.toNat * 2 ^ 10 + b.toNat * 2 ^ 20))).regs)) ∧
    (s.takes ini ep .rows n 0x060 → exec (.capLimitWrite ini ep stack sus surge) s =
      .next ((s.wr (rowsReg n 0x060) (BitVec.ofNat 32 (min sus.toNat 55 + 256 * min surge.toNat 68))).answer ini 0)) ∧
    (s.takes ini ep .rows n 0x064 → exec (.surgeGrantWrite ini ep stack grant) s =
      .next ((s.setFld (rowsReg n 0x064) 0 1 (if grant then 1 else 0)).answer ini 0))


/-! ## Main memory and the Sieve -/

/-- R146, R148, R149, R178, R574: a request for a block in service joins its channel's queue, a write is acknowledged at once, and a table entry is compared
and swapped in one step. R145, R148: a channel in service with no refresh postponed performs the request that its rules choose: a read answers unit by unit, a
write stores its cells and nothing else in main memory, and drops the write-backs of their units; and a bank with the most refreshes that its package lets
postpone is refreshed before any request. -/
def Obligations.ChannelRequests : Prop :=
  (
    ∀ (s : State) (src : Byte) (tag : BitVec 16) (grp : BitVec 5) (blk : BitVec 32) (first count : BitVec 4) (chunk : BitVec 5) (data : Payload)
      (addr expected new found : Dword) (len : BitVec 8) (part : BitVec 128) (u : State), s.memOn = true →
      let pa := blk.toNat * 1024
      let c := s.chanOf pa
      let req := fun (op : MemOp) => ({ op := op, src := src, tag := tag, blk := s.blkOf pa, pa := pa, born := s.now, grp := grp.toNat } : MemReq)
      let a := addr.toNat
      (s.inCapacity pa = true → first.toNat + count.toNat ≤ 15 → exec (.mrd src tag grp blk first count) s =
        .next (s.setChan c { s.chan c with queue := queueReq (req (.read first.toNat (count.toNat + 1))) (s.chan c).queue })) ∧
      (s.inCapacity pa = true → exec (.mwr src tag grp blk chunk data) s = .next ((s.acceptReq c (req (.write chunk.toNat [data]))).emit
        (.cell 0x05 src (BitVec.ofNat 8 (0x10 + c / 24)) (BitVec.ofNat 8 (pa / 1024)) (BitVec.ofNat 8 chunk.toNat) tag (BitVec.ofNat 32 (pa / 1024)) 0))) ∧
      (s.inCapacity a = true → 1 ≤ len.toNat → len.toNat ≤ 16 → a % 64 + len.toNat ≤ 64 → exec (.mwrp src tag grp addr len part) s =
        .next (s.acceptReq (s.chanOf a) { op := .part (a % 1024) len.toNat part, src := src, tag := tag, blk := s.blkOf a, pa := a / 1024 * 1024, born := s.now, grp := grp.toNat })) ∧
      (s.memServes = true → s.inCapacity a = true → a % 8 = 0 → s.readEntry a = (some found, u) →
        let swapped : State := if found = expected then u.storeAt (s.chanOf a) (s.blkOf a) (a % 1024) new.toNat 8 else u
        exec (.mcas src tag addr expected new) s = .next (swapped.emit (.cell 0x08 src (BitVec.ofNat 8 (0x10 + s.chanOf a / 24)) (BitVec.ofNat 8 (a / 1024)) 0 tag
          (BitVec.ofNat 32 (a / 1024)) (payload [(0, 8, found.toNat), (8, 1, if found = expected then 1 else 0)]))))) ∧
  (
    ∀ (s : State) (chan : Fin 384) (r : MemReq) (chunk first count : Nat) (cells : List Payload) (b : Fin 16),
      let ch := s.chan chan
      let bank := bankOf r.blk
      let left := { ch with queue := dropFirst (fun x => decide (x = r)) ch.queue, openRow := ch.openRow.setIfInBounds bank (some (rowOf r.blk)) }
      let a0 := memKey chan r.blk (32 * chunk)
      let stale := fun (x : MemReq) => match x.op with
        | .writeBack u _ => decide (x.blk = r.blk) && decide (32 * chunk / 64 ≤ u ∧ u ≤ (32 * chunk + 32 * cells.length - 1) / 64)
        | _ => false
      s.memOn = true → ch.mode = .service →
      ((∀ k : Fin 16, ch.refresh.get k = 0) → ch.pick s.now false = some r →
        (r.op = .write chunk cells → ∃ t, exec (.memCommandIssue chan) s = .next t ∧ t = { s with chans := t.chans, mainMem := t.mainMem } ∧
          t.mainMem = s.mainMem.put a0 (cells.foldr (fun p acc => p.toNat + 2 ^ 256 * acc) 0) (32 * cells.length) ∧
          (∀ a, a < a0 ∨ a0 + 32 * cells.length ≤ a → t.mainMem.byte a = s.mainMem.byte a) ∧
          (swf (fun _ => ({} : Chan)) s.chans = true → t.chan chan = { left with queue := left.queue.filter (fun x => !stale x) } ∧
            ∀ k, k ≠ chan.val → t.chan k = s.chan k)) ∧
        (r.op = .read first count → exec (.memCommandIssue chan) s =
          .next (((s.setChan chan left).raiseTo (chanReg chan 0x064) 0 16 (s.now - r.born)).readUnits chan r ((List.range count).map (· + first))))) ∧
      (max 1 Config.refreshLimit ≤ ch.refresh.get b → (∀ k : Fin 16, k < b → ch.refresh.get k < max 1 Config.refreshLimit) →
        exec (.memCommandIssue chan) s =
          .next (s.setChan chan { ch with refresh := ch.refresh.set b (ch.refresh.get b - 1), openRow := ch.openRow.set b none })))

/-- R147, R150, R152: the scrub queues its next block, a refresh falls due, and a new refresh rate or a failed retraining leaves a retraining pending; a good
one, in the idle interval or after 10 s without one, clears it. R141, R142, R151, R398: training brings the channels of the thirds in service to SERVICE and
zero-fills memory; a channel that fails three attempts takes its third out of service, and the device stops in Larva without a third; an alarm of a PHY
leaves a retraining pending on each of its 12 channels that serve. -/
def Obligations.ChannelUpkeep : Prop :=
  (
    ∀ (s : State) (chan : Fin 384) (bank : Fin 16) (rate : Fin 3) (t : Nat),
      let c := chan.val
      let ch := s.chan c
      let next := { ch with scrubNext := (ch.scrubNext + 1) % 2 ^ 23, passes := (if ch.scrubNext + 1 = 2 ^ 23 then ch.passes + 1 else ch.passes) }
      let done := (s.setChan c { ch with retrainDue := none, retrainFails := 0, lastRetrain := s.now }).userChanged [0x20000 + c]
      (s.memOn = true → ch.mode = .service → s.fld (chanReg c 0x054) 0 1 = 1 → exec (.memScrub chan) s = .next ((s.setChan c next).acceptReq c
        { op := .scrub, src := 0, tag := 0, blk := ch.scrubNext, pa := s.blockAddr c ch.scrubNext, born := s.now, grp := 0 })) ∧
      (ch.mode = .service → ∃ u, exec (.refreshDue chan bank) s = .next u ∧
        u.chans = sset {} s.chans c { ch with refresh := ch.refresh.set bank (ch.refresh.get bank + 1) } ∧ u = { s with chans := u.chans, regs := u.regs }) ∧
      (ch.rate ≠ rate → exec (.refreshRateChange chan rate) s =
        .next (s.setChan c { ch with rate := rate, retrainDue := some (ch.retrainDue.getD s.now) })) ∧
      (ch.mode = .service → s.idleInterval = true → ch.retrainDue = some t → exec (.channelRetrain chan true) s = .next done) ∧
      (ch.mode = .service → ch.retrainDue = some t → t + 10000000000 ≤ s.now → exec (.retrainDeadline chan true) s = .next done) ∧
      (ch.mode = .service → s.idleInterval = true → ch.retrainDue = some t → ch.retrainFails = 0 → exec (.channelRetrain chan false) s =
        .next ((s.setChan c { ch with retrainFails := 1, retrainDue := some t }).irq .mchan c 3))) ∧
  (
    ∀ (s : State) (tries : List (Fin 384 × Fin 4)) (phy : Fin 32),
      let most := fun (c : Nat) => ((tries.filter (fun e => decide (e.1.val = c))).map (fun e => e.2.val)).foldl max 0
      (s.stage = .larva → s.spineUp = true → s.bootWait ≠ 7 → ∃ t, exec (.memoryTraining tries) s = .next t ∧
        t.thirds = s.thirds.filter (fun x => !tries.any (fun e => decide (e.1.val / 128 = x) && decide (e.2.val = 3))) ∧
        t.mainMem = {} ∧ t.job.w = 0 ∧ t.bootWait = (if t.thirds = [] then 7 else s.bootWait) ∧
        ∀ c : Fin 384, c.val / 128 ∈ t.thirds → (t.chan c).mode = .service ∧ (t.chan c).failedTrain = (s.chan c).failedTrain + most c ∧ (t.chan c).queue = (s.chan c).queue) ∧
      ∃ t, exec (.phyPllAlarm phy false) s = .next t ∧ t.mainMem = s.mainMem ∧ t.free = s.free + 1 ∧
        ∀ c : Fin 384, t.chan c = if c.val / 12 = phy.val ∧ (s.chan c).mode = .service then
          { s.chan c with retrainDue := some ((s.chan c).retrainDue.getD s.now) } else s.chan c)

/-- R154 to R161, R166, R185: the second cell of a record completes it in its unit's queue, which holds 16 operations; a good SEAL writes the sketch of the
tokens of its page, a good query the list of the pages it selects, and either ends with status 4 where it meets an uncorrectable word, with status 3 where
its record is marked out of range; and the status that comes back finishes the piece. R145, R178, R185, R574: a data cell joins its piece, an acknowledgement marks
its chunk and the last one finishes the piece, a poison mark fails the piece's chain with POISON, and a swap that succeeded settles the Pager's fault, or
leaves it noted while the Pager is disabled (R199). -/
def Obligations.SieveAndAnswers : Prop :=
  (
    ∀ (s : State) (unit : Fin 64) (src : Byte) (tag : BitVec 16) (blk : BitVec 32) (chunk : BitVec 5) (data : Payload) (stack : Fin 40) (status : Byte)
      (o : SieveOp) (r v w : Nat) (u u' : State) (l : List (Nat × Word)) (p : Piece),
      let scored := u'.bump (sieveReg unit 0x050) 0 32 l.length
      let u0 := unit.val
      let mine := fun o : SieveOp => decide (o.src = src) && decide (o.tag = tag) && !o.full
      let q := sget [] s.sieves u0
      let dh := bits r 16 16
      let fmt := bits r 8 8
      let sel := selectPages (bits r 128 32) (bits r 32 16) ((List.range (bits r 48 8)).map (fun i => bits r (256 + 16 * i) 16)) l
      (s.memOn = true → q.any mine = false → q.length < 16 → exec (.svop unit src tag blk chunk data) s =
        .next { s with sieves := sset [] s.sieves u0 (q ++ [{ src := src, tag := tag, pa := blk.toNat * 1024 + 32 * chunk.toNat, chunk0 := data }]) }) ∧
      (s.memOn = true → q.any mine = true → exec (.svop unit src tag blk chunk data) s =
        .next { s with sieves := sset [] s.sieves u0 (modFirst mine (fun o => { o with chunk1 := data, full := true }) q) }) ∧
      (s.memServes = true → s.sieveHead u0 = some (o, r) → bits r 0 8 = 1 → s.fld (sieveReg u0 0x044) 0 1 = 1 → sieveStatus r = 0 →
        (rangeMarked r = true → exec (.sieveSeal unit) s = .next (s.sieveDone u0 o 3)) ∧
        (rangeMarked r = false → s.readSpan (bits r 64 64) (bits r 32 16 * dh * (keySize fmt).getD 1) = (some v, u) →
          let wrote := u.writeSpan (bits r 128 64) (sketchOf fmt dh (bits r 32 16) v) (4 * dh)
          exec (.sieveSeal unit) s = .next (wrote.2.sieveDone u0 o (if wrote.1 then 0 else 4))) ∧
        (rangeMarked r = false → s.readSpan (bits r 64 64) (bits r 32 16 * dh * (keySize fmt).getD 1) = (none, u) →
          exec (.sieveSeal unit) s = .next (u.sieveDone u0 o 4))) ∧
      (s.memServes = true → s.sieveHead u0 = some (o, r) → bits r 0 8 = 2 → s.fld (sieveReg u0 0x044) 0 1 = 1 → sieveStatus r = 0 → rangeMarked r = false →
        s.readSpan (o.pa + 64) (2 * dh * fmt) = (some w, u) → u.scoreAll (bits r 64 64) dh fmt w (bits r 128 32) = (l, u') →
        (l.length = bits r 128 32 →
          let wrote := scored.writeSpan (bits r 192 64) (2 ^ 16 * sel.length + 2 ^ 128 * packNat 32 sel) ((16 + 4 * sel.length + 63) / 64 * 64)
          exec (.sieveQuery unit) s = .next (wrote.2.sieveDone u0 o (if wrote.1 then 0 else 4))) ∧
        (l.length < bits r 128 32 → exec (.sieveQuery unit) s = .next (scored.sieveDone u0 o 4))) ∧
      (sfind (s.xe stack).pieces tag.toNat = some p → p.sieve = true → exec (.svdone stack tag status) s =
        .next ((s.modPiece stack tag.toNat (fun q => { q with finished := true })).modChain stack p.seq (fun k =>
          { k with descs := modFirst (fun d => decide (d.idx = p.idx)) (fun d => { d with status := status }) k.descs })))) ∧
  (
    ∀ (s : State) (dst : Byte) (tag : BitVec 16) (chunk : BitVec 5) (data : Payload) (found : Dword) (n : Fin 40) (p : Piece) (f : PFault),
      dst.toNat = 0x40 + n.val →
      (sfind (s.xe n).pieces tag.toNat = some p → p.sieve = false → p.finished = false → p.srcSpace = 0 → p.full = false →
        p.src % 1024 / 32 ≤ chunk.toNat → chunk.toNat < p.src % 1024 / 32 + p.len / 32 →
        let q := p.fill (32 * (chunk.toNat - p.src % 1024 / 32)) data.toNat 1
        (q.full = false → exec (.mrsp dst tag chunk data) s = .next (s.modPiece n tag.toNat (fun _ => q))) ∧
        (q.full = true → exec (.mrsp dst tag chunk data) s = .next ((s.modPiece n tag.toNat (fun _ => q)).pieceLand n tag.toNat))) ∧
      (sfind (s.xe n).pieces tag.toNat = some p → p.dstSpace = 0 → p.sieve = false → tag.toNat < 0x8000 → p.dst % 1024 / 32 ≤ chunk.toNat →
        chunk.toNat < p.dst % 1024 / 32 + p.len / 32 →
        let acked := p.acked ||| BitVec.twoPow 32 (chunk.toNat - p.dst % 1024 / 32)
        exec (.mwack dst tag chunk) s = .next (s.modPiece n tag.toNat (fun q =>
          { q with acked := acked, finished := q.finished || decide (popCount acked.toNat 32 = p.len / 32) }))) ∧
      (sfind (s.xe n).pieces tag.toNat = some p → tag.toNat < 0x4000 → exec (.mpoison dst tag chunk) s =
        .next ((s.modPiece n tag.toNat (fun q => { q with poison := true, finished := true })).failPiece n p 0x07 p.src 4)) ∧
      ((s.pager n).faults.find? (fun q => decide (swapTag q.tag = tag.toNat) && q.page.isSome && !q.settled && !q.noted) = some f →
        (s.fld (pagerReg n 0x044) 0 1 = 1 → exec (.mcasr dst tag found true) s = .next (s.settleFault n f)) ∧
        (s.fld (pagerReg n 0x044) 0 1 = 0 → exec (.mcasr dst tag found true) s = .next (s.modFault n f.tag (fun q => { q with noted := true })))))


/-! ## Translation and transfer -/

/-- R181, R190: the oldest waiting chain of a D context, or where none waits of a P context, becomes ACTIVE in the lowest free place; a context that is parking
or parked offers none. R183, R184, R190: an ACTIVE chain whose descriptors have all issued fetches the next one; a legal one joins the chain, and a breach
fails the chain with its code. R184: what a descriptor may not be, by its fields: an op above SIEVE, a reserved flag bit, the wrong context, a length that
is no multiple of its pair's and a pair the table does not hold break DESC; a row beyond the row store breaks RANGE; a NOP with clean fields is legal. -/
def Obligations.DescriptorChains : Prop :=
  (
    ∀ (s : State) (stack : Fin 40) (x : Ctx) (c : Chain) (i : Fin 16),
      let n := stack.val
      let chains := (s.xe n).chains
      let waits := fun (y : Ctx) (k : Chain) => k.state = .queued ∧ k.ctx = y ∧ (s.ctx (50 * n + k.core.val) y).mode ≠ .drainPark ∧
        (s.ctx (50 * n + k.core.val) y).mode ≠ .parked
      c ∈ chains → waits x c → (∀ k ∈ chains, waits x k → c.seq ≤ k.seq) → (x = .p → ∀ k ∈ chains, ¬ waits .d k) →
      (∀ k ∈ chains, k.place ≠ some i) → (∀ j : Fin 16, j < i → ∃ k ∈ chains, k.place = some j) →
      exec (.chainActivate stack) s = .next (s.modChain n c.seq (fun k => { k with state := .active, place := some i }))) ∧
  (
    ∀ (s : State) (stack : Fin 40) (place : Fin 16) (c : Chain) (jva : Dword) (pa raw : Nat) (u v : State),
      let n := stack.val
      let fault := descFault (s.enabledCores n).length c.ctx raw
      let d : DescState := { idx := c.fetchIdx, jva := jva, raw := BitVec.ofNat 512 raw, rep := c.rep, off := c.off, issued := decide (bits raw 0 8 = 0) && !dFence raw }
      (s.xe n).chains.find? (fun k => decide (k.place = some place)) = some c → c.fetch = some jva → c.state = .active → c.walking = false →
      (∀ d ∈ c.descs, d.issued = true) → jva.toNat % 64 = 0 → s.translate n jva.toNat false = (.hit pa, u) → u.readBulk pa 1 = (some raw, v) →
      (fault = none → exec (.descriptorFetched stack place) s = .next ((v.modChain n c.seq (fun k =>
        { k with descs := k.descs ++ [{ d with idx := k.fetchIdx, rep := k.rep, off := k.off }], rep := 0, off := 0, fetchIdx := k.fetchIdx + 1,
                 fetch := (if bitOf raw 8 then none else some (BitVec.ofNat 64 (bits raw 384 64))) })).notifyDue n c.seq)) ∧
      (fault = some 0x09 → exec (.descriptorFetched stack place) s = .next (v.failChain n c.seq 0x09 jva.toNat 4))) ∧
  (
    ∀ (cores d : Nat) (x : Ctx),
      let ctx := match x with | .d => 0 | .p => 1
      let clean := bits d 12 4 = 0 ∧ bits d 56 8 = 0 ∧ bits d 32 8 = ctx ∧ (bitOf d 11 = true → bits d 448 64 % 16 = 0)
      let copy := clean ∧ bits d 0 8 = 1 ∧ bits d 112 16 = 0
      (2 < bits d 0 8 ∨ bits d 12 4 ≠ 0 ∨ bits d 32 8 ≠ ctx ∨ (bitOf d 11 = true ∧ bits d 448 64 % 16 ≠ 0) → descFault cores x d = some 0x09) ∧
      (clean → bits d 0 8 = 0 → descFault cores x d = none) ∧
      (copy → bits d 16 8 = 2 → bits d 24 8 ≠ 1 → descFault cores x d = some 0x09) ∧
      (copy → bits d 24 8 = 3 → 4 ≤ bits d 16 8 → descFault cores x d = some 0x09) ∧
      (copy → bits d 16 8 = 0 → bits d 24 8 = 0 → (bits d 64 32 < 64 ∨ 2 ^ 30 < bits d 64 32 ∨ bits d 64 32 % 64 ≠ 0 ∨ bits d 128 64 % 64 ≠ 0) →
        descFault cores x d = some 0x09) ∧
      (copy → bits d 16 8 = 0 → bits d 24 8 = 1 → 512 ≤ bits d 64 32 → bits d 64 32 ≤ 2 ^ 30 → bits d 64 32 % 512 = 0 → bits d 128 64 % 512 = 0 →
        bits d 192 64 % 512 = 0 → bits d 256 64 % 512 = 0 → bits d 320 64 % 512 = 0 →
        descFault cores x d = if 2 ^ 30 ≤ bits d 192 64 then some 0x06 else none))

/-- R181, R182, R185 to R188: the XE issues the next piece of the chain whose turn it is; a piece whose last byte has landed frees its tag and the chain's
notifications follow; a record that is written lets the kettle of its descriptor follow, and the last one ends the chain. -/
def Obligations.PieceCommands : Prop :=
  ∀ (s : State) (stack : Fin 40) (tag : BitVec 16) (key seq src dst : Nat) (c : Chain) (d : DescState) (ds : List DescState) (p : Piece) (u v : State),
    let n := stack.val
    let e := s.xe n
    let raw := d.raw.toNat
    let a := pieceAt d
    let sent := s.setXe n (match c.ctx with | .d => { e with lastD := c.place.getD 0 } | .p => { e with lastP := c.place.getD 0 })
    let new : Piece := { seq := c.seq, idx := d.idx, rep := d.rep, off := d.off, src := src, dst := dst, srcSpace := Fin.ofNat 4 (dSrcSpace raw), dstSpace := Fin.ofNat 4 (dDstSpace raw), len := a.2.2, core := c.core, ctx := c.ctx }
    let freed := s.setXe n { e with pieces := serase e.pieces tag.toNat, tags := (if 256 ≤ tag.toNat then serase e.tags (tag.toNat - 256) else e.tags) }
    let recorded := s.modChain n seq (fun k => { k with descs := { d with recDone := true } :: ds })
    (s.stackOn n = true → s.nextIssuer n = some c → e.nextDesc c = some d → s.pieceTag n raw = some key → dOp raw = 1 → isRemote raw = false →
      sent.operandAt n c.ctx (spaceOf (dSrcSpace raw)) a.1 a.2.2 false = (.hit src, u) →
      u.operandAt n c.ctx (spaceOf (dDstSpace raw)) a.2.1 a.2.2 true = (.hit dst, v) →
      exec (.pieceIssue stack) s = .next ((v.holdPiece n key c new).pieceFetch n key new)) ∧
    (sfind e.pieces tag.toNat = some p → p.finished = true → exec (.pieceComplete stack tag) s =
      .next (((freed.bump (xeReg n 0x078) 0 32 1).notifyDue n p.seq).settleChain n p.seq)) ∧
    (s.chain n seq = some c → c.descs = d :: ds → d.recSent = true → dRecordFlag raw = true → dKettleFlag raw = true → dLast raw = true → e.complete seq d = true →
      exec (.recordWriteComplete stack seq) s = .next ((recorded.kettleSend (dKettle raw) 1).dropChain n seq))

/-- R169 to R176: a walk that is alone on its entry goes on as the entry says: to the next level, where its clients need the same entry with that walk in its
place, into the TLB, to the Pager, or to the fault of every client that waits on it. R170, R172: what an entry of a level is: a reserved bit or defer value 3 is MALFORMED, one that is neither present nor deferred is
UNMAPPED, and a 64 KiB leaf that is present and aligned maps its page where the page lies within the capacity in service. -/
def Obligations.TableWalks : Prop :=
  (
    ∀ (s : State) (unit : Fin 42) (walk : Fin 8) (w : Walk) (v : Dword) (u : State),
      let n := unit.val
      let kind := entryKind (s.w * 2 ^ 40) w.level v.toNat
      let next := fun (jva : Nat) => entryAddr v.toNat + 8 * tableIndex (w.level + 1) jva
      let ended := u.endWalk n walk.val w
      let goes := fun (t : State) => exec (.walkStep unit walk) s = .next (t.afterWalk n)
      let fails := fun (code : Nat) => goes (ended.eachClient (fun t c a => t.clientFail n c code a) w.clients)
      let defers := fun (code : Nat) => goes ((ended.eachClient (fun t c a => t.clientDefer n c code a) w.clients).sendDefer n w.entry w.jva w.level v w.clients)
      s.memOn = true → sfind (s.xe n).walks walk.val = some w → s.inCapacity w.entry = true → s.readEntry w.entry = (some v, u) → u.w = s.w →
      (s.xe n).walks.filter (fun k => decide (k.2.entry = w.entry)) = [(walk.val, w)] →
      (kind = .pointer → goes (u.walkOn n walk w v) ∧ ∀ (c : Client × Nat) (cs : List (Client × Nat)),
        w.clients = c :: cs → (∀ k ∈ cs, next k.2 = next c.2) → (∀ k ∈ (u.xe n).walks, ¬(k.1 ≠ walk.val ∧ k.2.level = w.level + 1 ∧ k.2.entry = next c.2)) →
        (u.xe n).walkWait = [] → swf (fun _ => ({} : Xe)) u.xes = true →
        sfind ((u.walkOn n walk w v).xe n).walks walk.val = some { w with level := w.level + 1, entry := next c.2, jva := c.2 }) ∧
      (kind = .leaf → goes ((ended.tlbInsert n { vpn := w.jva / 2 ^ pageBits w.level, level := w.level, entry := v }).eachClient
        (fun t c _ => t.clientGo n c) w.clients)) ∧
      (kind = .deferZero → defers 0x04) ∧ (kind = .deferLoad → defers 0x05) ∧
      (kind = .unmapped → fails 0x01) ∧ (kind = .malformed → fails 0x03) ∧ (kind = .range → fails 0x06)) ∧
  (
    ∀ (cap level e : Nat),
      (bits e 6 2 ≠ 0 ∨ bits e 42 6 ≠ 0 ∨ bits e 4 2 = 3 ∨ (bitOf e 0 = true ∧ bits e 4 2 ≠ 0) → entryKind cap level e = .malformed) ∧
      (bits e 6 2 = 0 → bits e 42 6 = 0 → bits e 4 2 = 0 → bitOf e 0 = false → entryKind cap level e = .unmapped) ∧
      (bits e 6 2 = 0 → bits e 42 6 = 0 → bits e 4 2 = 0 → bitOf e 0 = true → bitOf e 1 = true → bits e 8 34 % 256 = 0 →
        entryKind cap 3 e = if cap ≤ bits e 8 34 * 256 then .range else .leaf) ∧
      (bits e 6 2 = 0 → bits e 42 6 = 0 → bitOf e 0 = false → bitOf e 1 = true → bits e 8 34 % 256 = 0 →
        (bits e 4 2 = 1 → entryKind cap 3 e = .deferZero) ∧ (bits e 4 2 = 2 → entryKind cap 3 e = .deferLoad)))

/-- R176 to R178: the Pager takes the oldest fault it was sent: it joins the one on its entry, or takes a tag that no fault of the queue has. R177, R178, R199:
an enabled Pager's zero fill takes a page of its pool, writes it with zeros and sends the swap; a settled fault's clients go on, and so do those of one whose
settling was noted while the Pager was disabled; a load past PAGER.LOAD_TMO fails with LOAD_TMO; once a ticket's pages are present every Pager settles the faults that wait on it; and a page joins its pool. R169, R198: XE.TABLE_BASE and
XE.TAG_LIMIT take a value only while no chain of the stack is ACTIVE, TAG_LIMIT at most 2,048; a write while one is ACTIVE leaves the register and counts
an error. -/
def Obligations.PagerFaults : Prop :=
  (
    ∀ (s : State) (stack : Fin 40) (f q : PFault) (t : List PFault),
      let n := stack.val
      let p := s.pager n
      let same := fun (q : PFault) => decide (q.entryPa = f.entryPa) && !q.settled
      p.inbox = f :: t → s.fld (pagerReg n 0x044) 0 1 ≠ 0 →
      (p.faults.find? same = some q → exec (.pagerFaultReceive stack) s = .next ((s.setPager n { p with inbox := t }).modFault n q.tag
        (fun k => { k with clients := k.clients ++ f.clients.filter (fun c => !k.clients.any (fun d => decide (d.1 = c.1))) }))) ∧
      (p.faults.find? same = none → p.faults.length < 64 → f.zero = true → ∃ tag, tag ≤ 64 ∧ (∀ g ∈ p.faults, g.tag ≠ tag) ∧
        exec (.pagerFaultReceive stack) s = .next (s.setPager n { p with inbox := t, faults := p.faults ++ [{ f with tag := tag }] }))) ∧
  (
    ∀ (s : State) (ini : Initiator) (ep : BitVec 8) (stack : Fin 40) (entry : BitVec 42) (page : Nat) (t : List Nat) (f : PFault) (ticket : BitVec 16) (data : List Byte)
      (v : Dword),
      let n := stack.val
      let p := s.pager n
      let taken : State := if f.level = 2 then s.setPager n { p with pool2M := t } else s.setPager n { p with pool64K := t }
      let low := if t.length < 16 then taken.irq .pager n 0 else taken
      let settled := if f.settled then s else s.settleFault n f
      let resumed := (settled.dropFault n f.tag).eachClient (fun u c _ => u.clientGo n c) f.clients
      let noted := resumed.notifyAll n (resumed.chainSeqs n)
      let a := bits v.toNat 16 26 * 65536
      let mine := s.job.segs.filter (fun x => decide ((segRec s.job.manifest x.idx).ticket = ticket.toNat))
      let enabled := s.fld (pagerReg n 0x044) 0 1 = 1
      (s.memOn = true → enabled → p.faults.find? (fun q => q.zero && q.page.isNone && !q.settled) = some f →
        (p.faults.filter (fun q => q.page.isSome && !q.settled)).length < 4 → (if f.level = 2 then p.pool2M else p.pool64K) = page :: t →
        exec (.zeroFill stack) s = .next (((low.writeBulk page 0 (if f.level = 2 then 32768 else 1024)).modFault n f.tag
          (fun q => { q with page := some page })).emit (memCell 0x07 n (chanDie (s.chanOf f.entryPa)) f.entryPa 0 (swapTag f.tag)
            (payload [(0, 8, f.entryPa), (8, 8, f.entry.toNat), (16, 8, filledEntry f.entry.toNat page)])))) ∧
      (enabled → p.faults.find? (fun q => (q.settled || q.noted) && decide (q.entryPa = entry.toNat)) = some f →
        exec (.resume stack entry) s = .next (noted.hallPump (2 * noted.hallWait.length + 1))) ∧
      (enabled → p.faults.find? (fun q => !q.zero && !q.settled && !q.noted && decide (q.born + 1000000 * s.fld (pagerReg n 0x048) 0 16 < s.now)) = some f →
        exec (.loadTmo stack) s = .next ((s.failFault n f 0x0C).irq .pager n 2)) ∧
      (mine ≠ [] → (∀ x ∈ mine, x.delivered = true) → s.jobPhase ≠ 0 →
        exec (.ticketDone ticket data) s = .next ((s.emit (.ticketDone ticket.toNat)).ticketBroadcast ticket.toNat)) ∧
      (s.takes ini ep .pager n 0x060 →
        (bitOf v.toNat 0 = false → p.pool64K.length < 64 → exec (.poolPush ini ep stack v) s = .next
          (({ s with jobPool64 := s.jobPool64.filter (fun x => decide (x ≠ a)) }.setPager n { p with pool64K := p.pool64K ++ [a] }).answer ini 0)) ∧
        (bitOf v.toNat 0 = true → p.pool2M.length < 64 → a % 2 ^ 21 = 0 → exec (.poolPush ini ep stack v) s = .next
          (({ s with jobPool2M := s.jobPool2M.filter (fun x => decide (x ≠ a)) }.setPager n { p with pool2M := p.pool2M ++ [a] }).answer ini 0)) ∧
        (bitOf v.toNat 0 = true → a % 2 ^ 21 ≠ 0 → exec (.poolPush ini ep stack v) s = .next ((s.errCount .pager n 2).answer ini 0)))) ∧
  (
    ∀ (s : State) (ini : Initiator) (ep : BitVec 8) (stack : Fin 40) (v : Dword) (limit : BitVec 12),
      let n := stack.val
      let does := fun (c : Instr) (t : State) => exec c s = .next (t.answer ini 0)
      (s.takes ini ep .xe n 0x044 → (∀ c ∈ (s.xe n).chains, c.state ≠ .active) →
        does (.tableBaseWrite ini ep stack v) (s.wr64 (xeReg n 0x044) (v &&& 0x3FFFFE00001))) ∧
      (s.takes ini ep .xe n 0x044 → (∃ c ∈ (s.xe n).chains, c.state = .active) → does (.tableBaseWrite ini ep stack v) (s.errCount .xe n 2)) ∧
      (s.takes ini ep .xe n 0x04C → (∀ c ∈ (s.xe n).chains, c.state ≠ .active) →
        does (.tagLimitWrite ini ep stack limit) (s.wr (xeReg n 0x04C) (BitVec.ofNat 32 (min 2048 limit.toNat)))) ∧
      (s.takes ini ep .xe n 0x04C → (∃ c ∈ (s.xe n).chains, c.state = .active) → does (.tagLimitWrite ini ep stack limit) (s.errCount .xe n 2)))


/-! ## The photonic base and its light -/

/-- R202 to R204, R212 to R214, R217, R219, R222: a writer that may take a FREE token holds it and sends its new burst of 1 to 16 cells, stamped with the
next burst id, or lets it pass when pass-once forbids it; of a SLEEP token it keeps the burst and sends WAKE; a holder releases the token, lets it pass once,
and a transmitter that ran on raises tx_withdrawn. R211: any other character leaves the group without a token, and is counted. R206 to R209: what a reader
reads from the eight lanes of a burst is the burst's cells, whatever disparities the lanes began with. R220, R222, R223: a new burst of good cells with
indices 0, 1, … and no code violation is accepted whole: each cell goes to the reading die once and in order, and the burst is answered with ACK; cells before
the first bad one are accepted and NAK names its place; and a burst that cannot be read has no status. R221: an ACK frees the cells of the burst; a NAK or no
status within STATUS_TMO makes the burst due again, on the fourth attempt with retry_limit; and a limit that is not repaired within 1 ms is a job fault. -/
def Obligations.BurstProtocol : Prop :=
  (
    ∀ (s : State) (site : Fin 59) (grp : Fin 1158) (asked tx : Nat) (cells : List CellBits) (char : Byte),
      let g := grp.val
      let x := s.grp g
      let y := s.site site
      let d := upstream (grpHome g) site
      let left := x.stillPass (grpHome g) d
      let released := s.setGrp g { x with token := .free, tokenAt := d, tokenSeen := s.now, passOnce := (if x.passOnce.contains site.val then x.passOnce else site.val :: x.passOnce) }
      let id := sget 0 y.nextId g
      let stamped := (List.range cells.length).map (fun i => stampCell (cells.getD i 0) id i)
      let held := (s.setGrp g { x with token := .held site, passOnce := left.filter (fun k => decide (k ≠ site.val)), tokenSeen := s.now, wakeAt := s.now }).raiseTo (siteReg site 0x05C) 0 16 (s.now - asked)
      let reaches := (site.val :: passed (grpHome g) x.tokenAt d).any (fun n => s.relayDark n (grpWave g)) = false
      (s.mayCapture site g = true → s.freeTx site = some tx → (∀ b ∈ y.bursts, b.grp ≠ g) → 1 ≤ cells.length → cells.length ≤ 16 →
        s.orderKept site g cells = true → asked < s.now → reaches → s.masterHolds site g = false →
        (x.state = .service → x.token = .free → site.val ∉ left →
          exec (.tokenCapture site grp ⟨some 0x5A, asked⟩ cells) s = .next (held.launch site { grp := g, id := id, cells := stamped, tx := tx })) ∧
        (x.state = .service → x.token = .free → site.val ∈ left → exec (.tokenCapture site grp ⟨some 0x5A, asked⟩ cells) s =
          .next (s.setGrp g { x with passOnce := left.filter (fun k => decide (k ≠ site.val)), tokenAt := d })) ∧
        (x.state = .asleep → x.token = .sleep → exec (.tokenCapture site grp ⟨some 0xA5, asked⟩ cells) s =
          .next ((held.setSite site ((held.site site).keep { grp := g, id := id, cells := stamped, tx := tx, due := 4 })).emit (.lineSet site g setWake)))) ∧
      (s.bypassed site = false → reaches → char ≠ 0x5A → char ≠ 0xA5 → char ≠ 0 →
        exec (.tokenCapture site grp ⟨some char, asked⟩ cells) s = .next (s.tokenError site g) ∧
        exec (.tokenCapture site grp ⟨none, asked⟩ cells) s = .next (s.tokenError site g)) ∧
      (x.state = .service → x.token = .held site → exec (.tokenRelease site ⟨grp, false⟩) s = .next released ∧
        exec (.tokenRelease site ⟨grp, true⟩) s = .next (released.irq .phoSite site 0))) ∧
  (
    ∀ (rd : BitVec 8) (cells : List CellBits), 1 ≤ cells.length → cells.length ≤ 16 →
      readBurst (burstLanes rd cells).1 = some (cells.map (fun c => (c, 0))) ∧ laneViols (burstLanes rd cells).1 = List.replicate 8 0) ∧
  (
    ∀ (s : State) (grp : Fin 1158) (site : Fin 59) (lower upper : List (List (BitVec 10))) (cells : List CellBits) (bad : CellBits × BitVec 8)
      (rest : List (CellBits × BitVec 8)) (id : Nat),
      let g := grp.val
      let h := grpHome g
      let read := cells.map (fun c => (c, (0 : BitVec 8)))
      let lanes := lower ++ upper
      let answered := fun (nak : Option Nat) => ∃ t, exec (.burstReceive grp site lower upper) s = .next t ∧
        t.out = s.out ++ cells.map (fun c => Msg.accepted h c) ∧
        t.statusQ = s.statusQ ++ [⟨grpWave g, g, site, id, nak⟩] ∧ t.statusHeld = s.statusHeld ∧
        sfind (t.grp g).seen site.val = some (id, cells.length) ∧ t.mainMem = s.mainMem ∧ t.rowStore = s.rowStore ∧ t.sites = s.sites
      (s.grp g).state = .service →
      (cells ≠ [] → (∀ k, sfind (s.grp g).seen site.val ≠ some (id, k)) →
        (∀ i, i < cells.length → bits (cells.getD i 0).toNat 24 4 = id ∧ bits (cells.getD i 0).toNat 28 4 = i) →
        (∀ c ∈ cells, cellGood c = true ∧ typeReserved (bits c.toNat 0 8) = false) → s.backlog (grpWave g) < 31 →
        (readBurst lanes = some read → answered none) ∧
        (readBurst lanes = some (read ++ bad :: rest) → bad.2 ≠ 0 ∨ cellGood bad.1 = false → answered (some cells.length))) ∧
      (readBurst lanes = none →
        exec (.burstReceive grp site lower upper) s = .next (s.setGrp g { (s.grp g).countViol (laneViols lanes) with lastBurst := s.now }))) ∧
  (
    ∀ (s : State) (site : Fin 59) (grp : Fin 1158) (id idx : BitVec 4) (b : Burst) (t : Nat),
      let x := s.site site
      let sent := s.statusSent grp site id.toNat
      (x.awaiting grp id.toNat = some b →
        exec (.burstAck site grp id) s = .next ((s.setSite site { x with bursts := dropFirst (fun k => decide (k = b)) x.bursts }).statusSent grp site id.toNat) ∧
        (idx.toNat < b.cells.length → b.tries < 4 → exec (.burstNak site grp id idx) s = .next (sent.setSite site ((sent.site site).keep { b with due := 1, start := idx.toNat }))) ∧
        (idx.toNat < b.cells.length → 4 ≤ b.tries → b.limitAt = none → ∃ u : State, exec (.burstNak site grp id idx) s = .next (u.irq .phoSite site 1) ∧
          u = { sent with sites := u.sites } ∧ ∀ n, n ≠ site.val → u.site n = sent.site n)) ∧
      (x.bursts.find? (fun k => decide (k.grp = grp.val) && decide (k.due = 0)) = some b → b.sentAt + s.fld (siteReg site 0x050) 0 16 ≤ s.now → b.tries < 4 →
        exec (.statusTimeout site grp) s = .next ((s.irq .phoSite site 3).setSite site (x.keep { b with due := 2 }))) ∧
      (x.bursts.find? (fun k => decide (k.grp = grp.val)) = some b → b.limitAt = some t → b.expired = false → t + 1000000 ≤ s.now →
        exec (.retryLimitExpiry site grp) s = .next ((s.setSite site (x.keep { b with expired := true })).jobFault 5 2 (homeDie site) grp)))

/-- R216 to R218, R228: block, sleep, wake and the token of a group, from the group states in which the rules let them happen. -/
def Obligations.GroupStates : Prop :=
  ∀ (s : State) (ini : Initiator) (ep : BitVec 8) (grp : Fin 1158) (w : Fin 59) (b : Burst),
    let g := grp.val
    let x := s.grp g
    let free := { x with state := .service, token := .free, tokenAt := 58, tokenSeen := s.now }
    let does := fun (c : Instr) (t : State) => exec c s = .next (t.answer ini 0)
    let woken := (s.bump (homeReg g 0x064) 0 16 1).setGrp g { x with state := .service, token := .free, tokenAt := upstream (grpHome g) w, tokenSeen := s.now, wakeFails := 0, passOnce := (if x.passOnce.contains w.val then x.passOnce else w.val :: x.passOnce) }
    let failed := (s.bump (homeReg g 0x064) 16 16 1).irq .phoHome (grpHome g) 5
    (s.takes ini ep .phoHome (grpHome g) 0x048 →
      (x.state = .service → does (.groupBlock ini ep grp) ((s.setGrp g { x with blockFor := 1 }).cmdTaken g true)) ∧
      (x.state = .service → does (.groupSleep ini ep grp) ((s.setGrp g { x with blockFor := 2 }).cmdTaken g true)) ∧
      (x.state = .blocked → does (.groupUnblock ini ep grp) ((s.setGrp g free).cmdTaken g false)) ∧
      (x.state = .asleep → x.token = .sleep → does (.groupWake ini ep grp) ((s.setGrp g { x with state := .waking, token := .kept, wakeAt := s.now }).cmdTaken g true)) ∧
      (x.state ≠ .service → does (.groupBlock ini ep grp) (s.cmdIgnored g))) ∧
    (x.state = .service → x.token = .free → x.blockFor = 1 → exec (.groupBlocked grp) s =
      .next ((s.setGrp g { x with state := .blocked, token := .kept, blockFor := 0, tokenAt := 58, tokenSeen := s.now, passOnce := x.stillPass (grpHome g) 58 }).cmdTaken g false)) ∧
    (x.state = .service → x.token = .free → s.dst = .d0 → s.fld (homeReg g 0x050) 0 32 ≠ 0 → x.lastBurst + s.fld (homeReg g 0x050) 0 32 ≤ s.now →
      exec (.groupSleepEntry grp) s = .next ((s.setGrp g { x with state := .asleep, token := .sleep, blockFor := 0, tokenAt := 58, tokenSeen := s.now, passOnce := x.stillPass (grpHome g) 58 }).cmdTaken g false)) ∧
    (x.state = .asleep → x.token = .held w → exec (.wake grp) s = .next (s.setGrp g { x with state := .waking })) ∧
    (x.state = .waking → x.token = .held w → (s.site w).bursts.find? (fun b => decide (b.grp = g) && decide (b.due ≠ 0)) = some b →
      exec (.ready grp) s = .next (woken.launch w b)) ∧
    (x.state = .waking → x.token = .kept → exec (.ready grp) s =
      .next (((s.bump (homeReg g 0x064) 0 16 1).setGrp g { free with wakeFails := 0 }).cmdTaken g false)) ∧
    (x.state = .waking → x.token ≠ .kept → x.wakeAt + 2000 ≤ s.now → x.wakeFails < 2 → exec (.wakeFailure grp) s =
      .next (failed.setGrp g { x with state := .asleep, token := .sleep, tokenSeen := s.now, wakeFails := x.wakeFails + 1 })) ∧
    (x.state = .waking → x.token = .kept → x.wakeAt + 2000 ≤ s.now → x.wakeFails < 2 → exec (.wakeFailure grp) s =
      .next ((failed.cmdTimedOut g).setGrp g { x with state := .asleep, token := .sleep, tokenSeen := s.now, wakeFails := x.wakeFails + 1 })) ∧
    (x.state = .waking → x.token ≠ .kept → x.wakeAt + 2000 ≤ s.now → 2 ≤ x.wakeFails → exec (.wakeFailure grp) s = .next (failed.faultGroup g)) ∧
    (x.state = .service → x.token = .held w → x.paused = false → x.tokenSeen + s.fld (homeReg g 0x054) 0 16 ≤ s.now → x.lastBurst + 200 ≤ s.now →
      exec (.tokenRegenerate grp) s = .next (((s.setGrp g free).bump (homeReg g 0x060) 0 16 1).irq .phoHome (grpHome g) 4))

/-- R226 to R230: the states of a lane, and what its failure does to its group: a STANDBY slot is brought in, or the group is FAULTED. R201, R228: a group with
8 lanes or more in STANDBY enters SERVICE with the 8 lowest of them ACTIVE, in order as its lane map, and a FREE token; no other group changes. -/
def Obligations.LanesAndStart : Prop :=
  (
    ∀ (s : State) (ini : Initiator) (ep : BitVec 8) (grp : Fin 1158) (off spare : Fin 10) (lane : Fin 8) (dark bad held : Nat) (slot level : Byte) (p : Sparing),
      let g := grp.val
      let x := s.grp g
      let l := x.lane off
      let becomes := fun (k : Lane) => s.setGrp g (x.setLane off k)
      let set := setTs slot.toNat (grpHome g) (grpNo g) level.toNat
      let hard := l.state = .active ∧ (10000 ≤ dark ∨ 8 ≤ onesIn l.hist.toNat 32)
      let lost := ((s.laneTo g off .failed).laneLog g off (if 10000 ≤ dark then 1 else 2)).irq .phoHome (grpHome g) 0
      let switched := (x.setLane p.new { x.lane p.new with state := .active, viol := 0, since := s.now }).setLane p.old
        (if (x.lane p.old).state = .active then { state := (if s.lineFaded g p.old then .failed else .cal), since := s.now } else x.lane p.old)
      (l.state = .locking → l.confirmed = true → l.check = [] → exec (.laneLockAchieved grp off) s = .next (becomes { l with state := .training, since := s.now, tries := 0 })) ∧
      (l.state = .training → l.confirmed = true → (s.trainer g).isSome = true → slot.toNat = grpSlot g off → 1000 ≤ held → l.since + held ≤ s.now → exec (.tsMatch grp ⟨off, set, held⟩) s = .next (becomes { l with state := .standby, since := s.now, tries := 0, locks := 0 })) ∧
      (l.state = .training → slot.toNat ≠ grpSlot g off → exec (.tsWrongSlot grp ⟨off, set, held⟩) s = .next (((becomes { l with state := .locking, since := s.now, confirmed := false, locks := l.locks + 1, sweeps := 0, sweepAt := none }).laneLog g off 3).irq .phoHome (grpHome g) 3)) ∧
      (l.state = .training → l.since + 10000 ≤ s.now → l.tries < 2 → exec (.trainingTimeout grp off) s = .next (becomes { l with tries := l.tries + 1, since := s.now })) ∧
      (l.state = .training → l.since + 10000 ≤ s.now → 2 ≤ l.tries → exec (.trainingTimeout grp off) s =
        .next ((becomes { l with state := .failed, since := s.now }).laneLog g off 4)) ∧
      (hard → (lost.grp g).laneOf off = some lane → (lost.grp g).sparing = none → (lost.grp g).spare = some spare →
        exec (.laneHardFail (.receive grp off) ⟨dark, bad⟩) s = .next (lost.startSparing g lane spare)) ∧
      (hard → (lost.grp g).laneOf off = some lane → (lost.grp g).sparing = none → (lost.grp g).spare = none → (lost.grp g).state = .service →
        exec (.laneHardFail (.receive grp off) ⟨dark, bad⟩) s = .next (lost.faultGroup g)) ∧
      (s.takes ini ep .phoHome (grpHome g) 0x048 → x.state = .service → x.sparing = none → l.state = .standby →
        exec (.groupSpare ini ep grp lane (BitVec.ofNat 4 off.val)) s = .next (((s.startSparing g lane off).cmdTaken g true).answer ini 0)) ∧
      (x.sparing = some p → p.switched = false → p.t1 + 40 ≤ s.now → (x.lane p.new).state = .shadow → exec (.sparingSwitch grp) s =
        .next (((s.setGrp g { switched with map := switched.map.set p.lane p.new, sparing := some { p with switched := true } }).irq .phoHome (grpHome g) 1).clearLimits g)) ∧
      (x.sparing = some p → p.switched = true → (∀ k : Fin 8, (x.lanes.get (x.map.get k)).state ≠ .failed ∧ s.lineFaded g (x.map.get k) = false) →
        exec (.sparingEnd grp) s = .next ((s.setGrp g { x with sparing := none }).cmdTaken g false))) ∧
  (
    ∀ (s : State) (grp : Fin 1158),
      let x := s.grp grp
      let up := (List.finRange 10).filter (fun o => decide ((x.lanes.get o).state = .standby))
      x.state = .training → 8 ≤ up.length →
      ∃ t, exec (.groupStart grp) s = .next t ∧ t = { s with groups := t.groups } ∧ (∀ g, g ≠ grp.val → t.grp g = s.grp g) ∧
        (t.grp grp).state = .service ∧ (t.grp grp).token = .free ∧ (t.grp grp).passOnce = [] ∧
        (∀ k : Fin 8, up[k.val]? = some ((t.grp grp).map.get k)) ∧
        (∀ k : Fin 8, ((t.grp grp).lanes.get ((t.grp grp).map.get k)).state = .active) ∧
        (∀ k j : Fin 8, k < j → (t.grp grp).map.get k < (t.grp grp).map.get j) ∧
        (∀ o : Fin 10, (x.lanes.get o).state ≠ .standby → (t.grp grp).lanes.get o = x.lanes.get o))

/-- R22, R231 to R233, R237: a transmitter is withdrawn with its cause and its bursts fall due again; a spine hop that never succeeds answers ERROR code 5; a
die answers IDENT, and one that has not answered in 10 µs is lost. R347 to R351, R353: the increments that reach a COUNT kettle in one cycle are added
together, all or none; a kettle at or above expected subtracts it and releases; and a KREL adds 1 to the named counter of each participant. -/
def Obligations.SitesAndKettles : Prop :=
  (
    ∀ (s : State) (site : Fin 59) (tx : BitVec 7) (cause : BitVec 2) (ini : Initiator) (word : Dword) (bads rest : List (Dword × Byte)) (good : Dword × Byte) (at6 : BitVec 6)
      (failed : BitVec 52) (die : Byte) (t : Nat),
      let n := site.val
      let x := s.site n
      let gone := { x with gone := x.gone ++ [tx.toNat], bursts := x.bursts.map (fun b => if b.tx = tx.toNat ∧ b.due = 0 then { b with due := 3 } else b) }
      let logged := (((s.setSite n gone).latchLog (siteReg n 0x068) (tx.toNat + cause.toNat * 256)).irq .phoSite n 0).bump (siteReg n 0x044) 16 7 1
      let hop := x.hop ++ [word]
      let counted := fun (k : Nat) => (s.setSite n { x with hop := hop.drop (hop.length - 4) }).bump (siteReg n 0x064) 0 16 k
      let failing := (((counted 3).irq .phoSite n 4).emit (.error ini 5)).siteLost n
      (40 ≤ n → tx.toNat < txFitted n → tx.toNat ∉ x.gone → cause = 1 ∨ cause = 2 →
        exec (.transmitterWithdraw site tx cause) s = .next (logged.amendLater 0x07 false (n * 128 + tx.toNat) cause.toNat)) ∧
      ((∀ a ∈ bads, parityOf a.1 ≠ a.2) →
        (bads.length ≤ 3 → parityOf good.1 = good.2 → exec (.spineHopRetry ini site word (bads ++ good :: rest)) s = .next (counted bads.length)) ∧
        (4 ≤ bads.length → exec (.spineHopRetry ini site word (bads ++ rest)) s = .next failing)) ∧
      (s.stage = .larva → s.spineUp = true → (diesAt at6.toNat).filter (fun c => (s.die c).fitted) = [die.toNat] →
        let asked : State := { s with identAt := sput s.identAt at6.toNat s.now }
        let tested := if at6.toNat < 40 then asked.selfTest at6.toNat failed else asked
        (tested.die die.toNat).claimed = none → exec (.ident ⟨at6, failed⟩) s = .next (tested.emit (.ident (BitVec.ofNat 64 (tested.identWord die.toNat)) (tested.die die.toNat).serial))) ∧
      (s.stage = .larva → dieClass die.toNat = 3 → 0x40 ≤ die.toNat → die.toNat < 0x40 + 40 → (s.die die.toNat).fitted = false → sfind s.identAt (die.toNat % 64) = some t →
        t + 10000 ≤ s.now → exec (.identTimeout die) s = .next (s.dieLost die.toNat))) ∧
  (
    ∀ (s : State) (kettle : BitVec 8) (l : List Nat) (w : Dword),
      let k := kettle.toNat
      let count := s.kettleCount k
      let expected := s.rdn (kettleReg k 0x044)
      let arrived : State := { s with kettleIn := sset [] s.kettleIn k [] }.bump (kettleReg k 0x054) 0 32 l.length
      let summed := arrived.wr (kettleReg k 0x048) (BitVec.ofNat 32 (count + l.sum))
      let x : Ctx := if bitOf w.toNat 13 then .p else .d
      (sget [] s.kettleIn k = l → l ≠ [] → s.kettleMode k = 1 → count + l.sum < 2 ^ 32 →
        exec (.kettleIncrement kettle) s = .next (if expected ≤ count + l.sum then summed.setFld (kettleReg k 0x050) 1 1 1 else summed)) ∧
      (sget [] s.kettleIn k = l → l ≠ [] → s.kettleMode k ≠ 1 ∨ 2 ^ 32 ≤ count + l.sum → exec (.kettleIncrement kettle) s = .next (arrived.kettleErr k)) ∧
      (s.kettleMode k = 1 → expected ≤ count → exec (.kettleRelease kettle) s =
        .next (((s.wr (kettleReg k 0x048) (BitVec.ofNat 32 (count - expected))).setFld (kettleReg k 0x050) 1 1 (if expected ≤ count - expected then 1 else 0)).kettleReleases k)) ∧
      (s.krelDue.find? (fun e => decide (e.1 = k)) = some (k, w) → exec (.krel kettle) s =
        .next ((s.participants k).foldl (fun t c => if t.stackOn (c / 50) then t.signal c x (Fin.ofNat 32 (bits w.toNat 8 5)) else t)
          { s with krelDue := dropFirst (fun d => decide (d.1 = k)) s.krelDue })))

/-- R246 to R249, R253, R276, R277: an approved LSM goes to its probe setting and, where every probe check passes, to full power; three failed CMIS
transactions and a removal darken its fibres; REF_LIGHT is valid at once when its light is back, and ends holdover after 10 s; holdover begins and expires; an
unmated input shuts its output and ends a swap on it, and a probe or SAFETY_CMD restores it. -/
def Obligations.LightSources : Prop :=
  ∀ (s : State) (ini : Initiator) (ep : BitVec 8) (lsm : Fin 7) (names : BitVec 256) (serial : BitVec 128) (retries : Fin 4) (fibre : Fin 26) (tap : Int)
    (confirmed : Bool) (outs probes : BitVec 4) (outputs : Nat) (pairs : List (BitVec 4)) (t : Nat),
    let k := lsm.val
    let used : BitVec 4 := if k = 6 then 3 else 15
    let identify := fun (present : Bool) => Instr.lsmIdentify lsm present names ⟨serial, outputs, pairs⟩ probes
    let counted := s.bump (lsmReg k 0x074) 0 16 retries
    let gone := (s.lsmDown k .absent).modLsm k (fun x => { x with swapping := none })
    let warned := (List.range 7).foldl (fun u i => u.irq .lsm i 6) s
    let f := fibre.val
    let m := (fibreLsm f).1
    let j := (fibreLsm f).2
    let unmated := s.modInput f (fun i => { i with tap := tap, mated := false, lowSince := some (s.now - 10000), disabledAt := some s.now, confirmed := confirmed, probeAt := s.now })
    let shut := unmated.modLsm m (fun x => { x with enabled := x.enabled &&& ~~~(BitVec.twoPow 4 j), shut := x.shut ||| BitVec.twoPow 4 j, mode := .shut, swapping := x.swapping.filter (fun w => !w.1.getLsbD j) })
    (s.stage = .larva → s.modelApproved names = true → (s.lsm k).mode ≠ .probe → exec (identify true) s = .next (s.modLsm k (fun x =>
      { x with mode := .probe, approved := true, outputs := outputs, pairs := pairs, enabled := used, shut := 0, enHigh := false, cmisRow := 0 }))) ∧
    (s.stage = .larva → s.modelApproved names = true → (s.lsm k).mode = .probe → used &&& ~~~probes = 0 → (∃ u : State, exec (identify true) s = .next u.startGroups ∧
      (u.lsm k).mode = .lit ∧ (u.lsm k).enabled = used ∧ (u.lsm k).approved = true ∧ (u.lsm k).shut = 0 ∧ u.groups = s.groups ∧
      (∀ i, i ≠ k → u.lsm i = s.lsm i) ∧ ∀ g ∈ lsmFibres k used, ∀ l, l < fibreLines g → (u.line g l).lit = true)) ∧
    (s.stage = .larva → exec (identify false) s = .next (s.lsmDown k .absent)) ∧
    exec (.cmisFail lsm retries true) s = .next (counted.modLsm k (fun x => { x with cmisRow := 0 })) ∧
    ((s.lsm k).cmisRow = 2 → ∃ u : State, exec (.cmisFail lsm retries false) s = .next (u.darken (lsmFibres k 15)) ∧
      (u.lsm k).mode = .fault ∧ (u.lsm k).enabled = 0 ∧ u = { s with lsms := u.lsms, regs := u.regs, bootWait := u.bootWait }) ∧
    (s.dst = .d0 ∨ s.dst = .d1 → exec (.lsmRemoval lsm) s = .next (gone.darken (lsmFibres k 15))) ∧
    (s.dst ≠ .d0 → s.dst ≠ .d1 → exec (.lsmRemoval lsm) s = .next gone) ∧
    (s.stage = .pupa ∨ s.stage = .imago → exec .refLightLoss s = .next { warned with refLight := { s.refLight with valid := false, since := s.now, holdover := some (s.refLight.holdover.getD s.now) } }) ∧
    (s.refLight.valid = true → s.refLight.since + 10000000000 ≤ s.now →
      exec .refLightRestored s = .next { s with refLight := { s.refLight with holdover := none, expired := false } }) ∧
    (s.stage ≠ .larva → s.refLight.valid = false → exec .refLightRestored s = .next { s with refLight := { s.refLight with valid := true, since := s.now }, bootWait := (if s.bootWait = 2 then 0 else s.bootWait) }) ∧
    (s.refLight.holdover = some t → s.refLight.expired = false → t + 3600000000000 ≤ s.now →
      exec .holdoverExpiry s = .next { s with refLight := { s.refLight with expired := true }, stopAsked := some (3, 0) }) ∧
    (tap < -1000 → (s.lsm m).enabled.getLsbD j = true → exec (.interlockUnmated fibre tap confirmed) s = .next (((shut.irq .lsm m 5).swapOff m ((s.lsm m).swapping.filter (fun w => w.1.getLsbD j))).darken [f])) ∧
    (tap < -1000 → (s.lsm m).enabled.getLsbD j = false → (s.lsm m).shut.getLsbD j = true → exec (.interlockUnmated fibre tap true) s =
      .next (s.modInput f (fun i => { i with confirmed := true }))) ∧
    ((s.input f).lowSince = some t → (s.input f).confirmed = false → (s.lsm m).shut.getLsbD j = true → t + 900000 ≤ s.now →
      exec (.interlockEnableDrop fibre) s = .next ((s.modLsm m (fun x => { x with enHigh := true, enabled := 0 })).darken (lsmFibres m 15))) ∧
    (s.fld (lsmReg m 0x06C) 0 1 = 1 → (s.lsm m).shut.getLsbD j = true → (s.input f).probeAt + 1000000000 ≤ s.now →
      exec (.probe fibre tap) s = .next (let u := s.modInput f (fun x => { x with tap := tap, probeAt := s.now }); if -300 ≤ tap ∧ tap ≤ 300 then u.restoreOutput f else u)) ∧
    (s.takes ini ep .lsm k 0x070 → exec (.safetyRestore ini ep lsm outs) s = .next ((s.restoreOuts k outs).answer ini 0))

/-- R251, R252, R269 to R271, R279: what a visit of a line monitor leaves, the steering of a line more than 0.10 GHz off, and the next line of the fibre; the
commissioning value is set once; a loss of −1.5 dB warns, −2.5 dB lights the standby, −3.0 dB decides a swap, and a recovered line goes back, on every fibre
of the laser pair; a fitted slope steeper than −0.5 dB/s decides a swap at once; LINE_SEL takes a value that names a line which the LSM carries. R272, R273,
R275: the times of a swap: its trigger, in the order decided, the pause at 7.5 µs in which the masters keep the tokens, its end at 9.5 µs, and the check
that keeps the new laser or swaps back. The offset that a visit keeps is the measured one corrected by the slot's residual, a factory value. -/
def Obligations.LaserLines : Prop :=
  (
    ∀ (s : State) (ini : Initiator) (ep : BitVec 8) (lsm at7 : Fin 7) (out : Fin 4) (fibre : Fin 26) (line : Fin 41) (power offset : Int) (t : Nat) (v : Word),
      let f := fibre.val
      let l := line.val
      let y := s.line f l
      let m := (fibreLsm f).1
      let becomes := fun (z : LaserLine) => ({ s with lines := sset {} s.lines (41 * f + l) z } : State)
      let pair := fun (h : LaserLine → LaserLine) => s.modPair f l h
      let real := offset + Config.residual l
      let visited : LaserLine := { y with power := power, offset := real, first := some (y.first.getD s.now), hist := (s.now, power) :: y.hist.filter (fun e => decide (s.now < e.1 + 200000000)), recoverAt := none }
      let went := fun (z : LaserLine) => (s.modInput f (fun i => { i with visit := (l + 1) % fibreLines f })).modLine f l (fun _ => z)
      l < fibreLines f →
      (y.mode = .normal → (s.input f).visit = l → s.stage ≠ .larva → -10 ≤ real → real ≤ 10 →
        exec (.lineMonitorVisit fibre line power offset) s = .next (went visited)) ∧
      (y.mode = .normal → (s.input f).visit = l → 10 < real.natAbs → (∀ t, y.steered = some t → t + 10000000 ≤ s.now) → (y.tune - real).natAbs ≤ 500 →
        exec (.lineMonitorVisit fibre line power offset) s =
          .next ((went { visited with tune := y.tune - real, steered := some s.now }).bump (lsmReg m 0x07C) 0 16 1)) ∧
      (y.lit = true → y.base = none → exec (.commissioning fibre line power) s =
        .next ((becomes { y with base := some power }).amend 0x09 false (f * 64 + l) ((power % 2 ^ 64).toNat))) ∧
      (y.mode = .normal → y.loss ≤ -150 → -250 < y.loss → exec (.fadeCrossing fibre line) s = .next ((pair (fun z => { z with mode := .warning, recoverAt := none })).irq .lsm m 0)) ∧
      (y.mode = .warning → y.loss ≤ -250 → -300 < y.loss → y.standbyGone = false → exec (.fadeCrossing fibre line) s =
        .next ((pair (fun z => { z with mode := .standbyLit, standbyLit := true, recoverAt := none })).irq .lsm m 1)) ∧
      (y.mode = .standbyLit → y.loss ≤ -300 → (∀ k ∈ s.pairFibres f, (s.line k l).swap = none) → y.standbyGone = false → exec (.fadeCrossing fibre line) s =
        .next (pair (fun z => { z with mode := .swapping, standbyLit := true, swap := some { decided := s.now } }))) ∧
      (y.mode = .warning → y.recoverAt = some t → t + 10000000000 ≤ s.now → exec (.fadeRecovery fibre line) s = .next (pair (fun z => { z with mode := .normal, recoverAt := none }))) ∧
      (y.mode = .standbyLit → y.recoverAt = some t → t + 60000000000 ≤ s.now → exec (.fadeRecovery fibre line) s =
        .next (pair (fun z => { z with mode := .warning, standbyLit := false, ready := false, recoverAt := none }))) ∧
      (4 * at7.val + out.val = f → y.first = some t → t + 60000000000 ≤ s.now → y.falling = true → y.loss ≤ -50 → (∀ k ∈ s.pairFibres f, (s.line k l).swap = none) → y.standbyGone = false →
        exec (.rapidFade at7 out line) s = .next (pair (fun z => { z with mode := .swapping, standbyLit := true, swap := some { decided := s.now } }))) ∧
      (s.takes ini ep .lsm lsm 0x060 → bits v.toNat 0 2 < (if lsm.val = 6 then 2 else 4) → bits v.toNat 0 6 < (if lsm.val = 6 then 10 else 41) →
        exec (.lineSelWrite ini ep lsm v) s = .next ((s.wr (lsmReg lsm 0x060) (BitVec.ofNat 32 (v.toNat &&& 0x13F))).answer ini 0))) ∧
  (
    ∀ (s : State) (lsm : Fin 7) (outs : BitVec 4) (line : Fin 41) (w : Swap) (t1 : Nat) (power offset : Int),
      let k := lsm.val
      let l := line.val
      let fs := lsmFibres k outs
      let each := fun (u : State) (h : Swap → Swap) => fs.foldl (fun t f => t.modLine f l (fun y => { y with swap := y.swap.map h })) u
      let groups := pairGroups fs l
      ((s.lsm k).swapping = none → s.pairReady fs l = true → (∀ f ∈ fs, s.pairOuts f = outs) → (∀ f ∈ fs, ∀ w, (s.line f l).swap = some w → s.swapBefore k w.decided = false) →
        (∀ e ∈ groups, (s.grp e.1).sparing = none) → (∀ f ∈ fs, ∀ p ∈ fibrePorts f, (s.port p).spare = none) →
        exec (.swapTrigger lsm outs line) s = .next (each (s.modLsm k (fun x => { x with swapping := some (outs, l) })) (fun v => { v with trigger := some s.now }))) ∧
      (s.swapAt k outs l = some w → w.trigger = some t1 →
        (w.paused = false → t1 + 7500 ≤ s.now → ∃ t : State, exec (.swapPauseStart lsm outs line) s = .next t ∧ t.lines = (each s (fun v => { v with paused := true })).lines ∧
          t = { s with lines := t.lines, groups := t.groups } ∧ ∀ g, g ∉ groups.map Prod.fst → t.grp g = s.grp g) ∧
        (w.paused = true → w.resumed = false → t1 + 9500 ≤ s.now → ∃ t : State, exec (.swapPauseEnd lsm outs line) s = .next t ∧
          t.lines = (each s (fun v => { v with resumed := true })).lines ∧ ∀ g, g ∉ groups.map Prod.fst → t.grp g = s.grp g)) ∧
      (s.swapAt k outs l = some w → w.resumed = true → w.back = true → exec (.swapCheck lsm outs line power offset) s =
        .next ((fs.foldl (fun t f => t.modLine f l (fun y => y.swapped true power offset)) (s.modLsm k (fun x => { x with swapping := none }))).bump (lsmReg k 0x068) 16 16 1)) ∧
      (s.swapAt k outs l = some w → w.resumed = true → w.back = false → -50 ≤ offset → offset ≤ 50 → (∀ f ∈ fs, ∀ b, (s.line f l).base = some b → b - 300 ≤ power) →
        exec (.swapCheck lsm outs line power offset) s = .next (fs.foldl (fun t f => (t.modLine f l (fun y => y.swapped false power offset)).amend 0x0A false (f * 64 + l) 0)
          (((s.modLsm k (fun x => { x with swapping := none })).bump (lsmReg k 0x068) 0 16 1).irq .lsm k 2))) ∧
      (s.swapAt k outs l = some w → w.resumed = true → w.back = false → 50 < offset.natAbs →
        exec (.swapCheck lsm outs line power offset) s = .next (fs.foldl (fun t f => (t.modLine f l (fun y =>
          { y with oldBase := y.base, standbyGone := true, swap := some { decided := s.now, back := true } })).amend 0x0A false (f * 64 + l) 1)
          (((s.modLsm k (fun x => { x with swapping := none })).bump (lsmReg k 0x068) 0 16 1).irq .lsm k 3))))

/-- R258 to R260: a lock loop moves its heater by at most one step of 0.01 GHz, toward the line, or toward the place 12 GHz above it where a modulator ring is
parked, and within its span; it counts a ring as lost only after 5 µs off its place or at an end of the span. R261 to R263: a sweep of a slot that sends MARK
begins from the ring tables and counts each writer's MARKs in its turn; when every writer that takes part has 16 valid ones the receive ring is confirmed, and
when fewer than half have it locks again, and the second time fails. R265 to R268, R275, R296, R461: a pass of calibration starts with every group in service
and every port whose directions are in service, and one that may not run is held; a lane whose ring nears an end of its range is calibrated ahead of it, else
one ACTIVE lane of a group after the other, onto the STANDBY slot recalibrated last; a group without a spare is blocked and recalibrated in place; with the
end of a pass that eclosion waits for, a restarted job is in Imago again (R449); and 199 µs end a slot's calibration, in CAL or in place. -/
def Obligations.RingsAndCalibration : Prop :=
  (
    ∀ (s : State) (ring : Ring) (err : Int),
      let r := sget {} s.rings (ringKey ring)
      let span := ringSpan ring
      let off := err - s.ringBias ring
      let next : RingSt := { r.update span off s.now with pick := r.pick }
      let moved : State := { s with rings := sset {} s.rings (ringKey ring) next }
      (r.shift ≤ span → next.shift ≤ span ∧ next.shift ≤ r.shift + 1 ∧ r.shift ≤ next.shift + 1 ∧ (off = 0 → next.shift = r.shift) ∧ (0 < off → r.shift ≤ next.shift) ∧
        (off < 0 → next.shift ≤ r.shift) ∧ (next.lost = true → (∃ t, r.errSince = some t ∧ t + 5000 ≤ s.now) ∨ (∃ t, r.endSince = some t ∧ t + 5000 ≤ s.now))) ∧
      (500 < next.shift → next.shift + 500 < span →
        (next.lost = false → exec (.lockLoopUpdate ring err) s = .next moved) ∧
        (next.lost = true → r.lost = false → exec (.lockLoopUpdate ring err) s = .next (moved.ringLost ring)))) ∧
  (
    ∀ (s : State) (grp : Fin 1158) (off : Fin 10) (start : Nat) (marks : List MarkRun),
      let g := grp.val
      let x := s.grp g
      let l := x.lane off
      let order := turns g l.check
      let ws := (sweepers g).filter (fun n => !x.isAway n)
      let good := fun (n : Nat) => ∃ m ∈ l.marks, m.1 = n ∧ 16 ≤ m.2
      let wrong := fun (t : State) => (t.laneLog g off 3).irq .phoHome (grpHome g) 3
      let becomes := fun (k : Lane) => s.setGrp g (x.setLane off k)
      (x.marking off = true → start + 1250 * order.length ≤ s.now → exec (.markSweep grp off ⟨start, marks⟩) s =
        .next ((if l.sweeps = 0 then s.seedRings (laneRings grp off (sweepers g)) else s).modLane g off (fun k => { k with
          sweepAt := some s.now, sweeps := k.sweeps + 1, marks := (marks.filter (markRight g off start order)).map (fun m => (m.site.val, m.count)) }))) ∧
      (l.sweepAt.isSome = true → l.check = [] → x.away = [] → (∀ n ∈ ws, good n) → exec (.sweepOutcome grp off) s =
        .next ((becomes (l.sweepOk s.now)).laneChecked grp off (sweepers g))) ∧
      (l.sweepAt.isSome = true → l.check ≠ [] → x.away = [] → (∀ n ∈ l.check, good n) → exec (.sweepOutcome grp off) s =
        .next ((becomes (l.sweepOk s.now)).laneChecked grp off l.check)) ∧
      (l.sweepAt.isSome = true → l.check = [] → ws ≠ [] → (∀ n ∈ ws, ¬ good n) → l.again = false → l.locks < 2 → exec (.sweepOutcome grp off) s =
        .next (wrong (becomes { l with again := true, locks := l.locks + 1, sweepAt := none, marks := [] }))) ∧
      (l.sweepAt.isSome = true → l.check = [] → ws ≠ [] → (∀ n ∈ ws, ¬ good n) → l.again = true → exec (.sweepOutcome grp off) s =
        .next ((wrong (becomes { l with state := .failed, since := s.now, sweepAt := none, marks := [], again := false })).laneLog g off 4))) ∧
  (
    ∀ (s : State) (grp : Fin 1158) (o f : Fin 10) (k : Fin 8) (rest : List (Fin 10)) (good : BitVec 10) (port : Fin 6) (t0 : Nat),
      let g := grp.val
      let x := s.grp g
      let p := s.calPass
      let y := s.port port
      let moved := (s.fld (regAddr .cal 0 0x040) 0 8 : Int) < ((s.reading 0 - p.baseTemp).natAbs : Int)
      let spared := fun (todo : List (Fin 10)) => (s.setGrp g { x with calTodo := todo, calFresh := some o }).startSparing g k f
      let lanes : Vector Lane 10 := Vector.ofFn (fun i : Fin 10 => if (x.lanes.get i).state = .active then { x.lanes.get i with calDue := false } else x.lanes.get i)
      let calAsk := extCell 0x13 (s.fld (xportReg port 0x048) 0 12) s.coord 0 4 0 (63 * 2048) 4
      let open_ := fun (o : Fin 10) => decide (y.txLane o = .standby)
      let opened := s.setGrp g { x with state := .service, token := .free, tokenAt := 58, tokenSeen := s.now, blockFor := 0, calTodo := [], lanes := lanes }
      (s.stage = .pupa ∨ s.stage = .imago →
        (p.running = false → s.mayPass = true → p.pending = true ∨ moved → (∃ i, i < 1158 ∧ (s.grp i).inService = true) →
          ∃ t : State, exec .calPassStart s = .next t ∧ t.calPass = { running := true, groups := (List.range 1158).filter (fun i => (s.grp i).inService)
                                                                      ports := (List.range 6).filter (fun q => s.portIn q && decide ((s.port q).tx = .service))
                                                                      began := s.now, baseTemp := s.reading 0, first := p.first, awaited := p.awaited } ∧
            t.free = s.free + 1 ∧ (s.portIn port = true → y.tx = .service → (t.port port).inject = y.inject ++ [(4, calAsk)] ∧
              (t.port port).inPlace = y.inPlace ++ (List.finRange 10).filter (fun o => open_ o && !y.inPlace.contains o)) ∧
            t = { s with calPass := t.calPass, groups := t.groups, ports := t.ports, regs := t.regs, free := t.free }) ∧
        (p.running = true ∨ s.mayPass = false → moved → exec .calPassStart s = .next { s with calPass := { p with pending := true } })) ∧
      (x.sparing = none → x.calOut = false → s.swapArmed g = false →
        (x.calOnto = some f → x.laneOf o = some k → s.calBusy < 64 →
          (x.urgent = some o → exec (.laneCal grp) s = .next (spared (x.calTodo.filter (fun i => decide (i ≠ o))))) ∧
          (x.urgent = none → (∀ e ∈ s.groups, e.2.urgent = none) → p.running = true → g ∈ p.groups → x.calTodo = o :: rest → exec (.laneCal grp) s = .next (spared rest))) ∧
        (x.urgent = none → (∀ e ∈ s.groups, e.2.urgent = none) → p.running = true → g ∈ p.groups → x.calTodo = [] → x.inPlace = [] → x.spare.isSome = true →
          exec (.laneCal grp) s = .next (s.calGroupDone g))) ∧
      (s.stage = .pupa → s.jobPhase = 3 → s.restart.busy = true → s.stop.cause = 0 → p.running = true → p.groups = [g] → p.ports = [] → p.awaited = true → p.pending = false →
        (s.calGroupDone g).stage = .imago) ∧
      (s.mayBlockCal g = true → exec (.blockingCal grp good) s = .next (s.setGrp g { x with blockFor := 3 })) ∧
      (x.state = .blocked → x.blockFor = 3 → (∀ i : Fin 10, (x.lanes.get i).state = .active → good.getLsbD i = true) → exec (.blockingCal grp good) s =
        .next ((opened.calRings (((List.finRange 10).filter (fun i => decide ((x.lanes.get i).state = .active))).flatMap (fun i => laneRings grp i (sweepers g)))).calGroupDone g)) ∧
      ((x.lane o).state = .cal → (x.lane o).since + 199000 ≤ s.now → exec (.calTimeout (.receive grp o)) s =
        .next (s.setGrp g (x.setLane o { x.lane o with state := .training, since := s.now, tries := 0 }))) ∧
      (y.txLane o = .cal ∨ (y.txLane o = .standby ∧ o ∈ y.inPlace) → sfind y.calSince o = some t0 → t0 + 199000 ≤ s.now → exec (.calTimeout (.portTx port o)) s =
        .next ((((s.calRings [.portTx port o]).setPort port
          { (y.setTx o .standby) with calSince := serase y.calSince o, calDue := y.calDue.filter (fun i => decide (i ≠ o))
                                      inPlace := y.inPlace.filter (fun i => decide (i ≠ o)), calFresh := some o }).portSpareNext port).portCalDone port)))


/-! ## The hall fabric -/

/-- R282 to R285, R287, R288: a codeword whose syndromes are all zero is released as it is; one that cannot be corrected is counted, releases nothing and
loses its bytes of the lane's message; 128 such in a row on a lane of the map make the receiver ask for a retrain. -/
def Obligations.Codewords : Prop :=
  ∀ (s : State) (port : Fin 6) (off : Fin 10) (chars : List Byte) (bad disp : BitVec 136),
    let p := port.val
    let x := s.port p
    let served := { x with rx := .service }
    let viol := ((List.range 136).filter (fun i => bitOf bad.toNat i || bitOf disp.toNat i)).length
    let taken := x.rx = .service ∨ x.rx = .waking ∨ (x.rx = .retrain ∧ x.receiving = true)
    let clean := s.setPort p ((served.modRx off (fun l => { l with bad := 0, good := l.good + 1, viol := min 65535 l.viol })).takeWord off ((chars.take 128).map some))
    let failing := (served.modRx off (fun l => { l with bad := l.bad + 1, good := 0, viol := min 65535 (l.viol + viol) })).takeWord off (List.replicate 128 none)
    let asked := s.setPort p { x.rxRestart with rx := .retrain }
    (chars.length = 136 → taken → (∀ j, j < 8 → rsSyndrome (chars.map BitVec.toNat) j = 0) → ∃ t : State,
      exec (.codewordDecode port off chars 0 0) s = .next t ∧ t = { clean with regs := t.regs, out := s.out ++ [.released p off (chars.take 128)] }) ∧
    (chars.length = 136 → taken → rsDecode (chars.map BitVec.toNat) (rsErased bad.toNat disp.toNat) = none →
      exec (.codewordDecode port off chars bad disp) s = .next (((s.setPort p failing).bump (xportReg p 0x064) 16 16 1).emit (.released p off []))) ∧
    (x.rx = .service → 128 ≤ (x.rxLane off).bad → off ∈ x.rxMap.toList → exec (.alignmentLoss port off) s =
      .next (((asked.portLog p off 1 5).irq .xport p 4).lctl p 6 0 0))

/-- R264, R290 to R293, R299 to R302: a port that may trains; sixteen valid XTS on a line within 1.0 GHz of the device's own grid that name another slot show
a wrong lock, and sets that are no sixteen XTS of those fields change nothing; XSTART puts a direction in SERVICE after training, after RETRAIN and after a
wake; an attempt lasts 10 ms, the third one ends OUT; and a device without coordinates stops its ports. -/
def Obligations.PortTraining : Prop :=
  ∀ (s : State) (port : Fin 6) (off : Fin 10) (light : Int) (slot role sender flags : Byte) (coord dims : BitVec 12) (serial : Dword) (expect : BitVec 12) (lanes : BitVec 8) (sets : List (List LineChar)) (i : Nat),
    let p := port.val
    let x := s.port p
    let hears := exec (.xtsReceive port ⟨off, light, sets⟩ slot role sender flags coord dims serial expect) s
    let valid := fun (i : Nat) => sets = sixteenXts slot.toNat role.toNat sender.toNat flags.toNat coord.toNat dims.toNat serial.toNat expect.toNat i
    let ready := ∃ t, x.bothSince = some t ∧ t + 1000 ≤ s.now
    let start := { x with tx := .service, rx := .service, attempts := 0, retrains := 0, txNext := x.peerSeq, replay := [], resend := none, timeouts := 0, lastCell := s.now, credits := #v[48, 48, 48, 48, 16],
                          txLanes := Vector.ofFn (fun o : Fin 10 => if x.txMap.toList.contains o then .active else .standby) }
    let told := (s.wr (xportReg p 0x048) (BitVec.ofNat 32 (coord.toNat + sender.toNat % 8 * 2 ^ 12 + b2n (bitOf flags.toNat 0) * 2 ^ 15))).wr64 (xportReg p 0x04C) serial
    let u := if sender.toNat = (p ^^^ 1) ∧ bitOf flags.toNat 0 then told.takeCoord p coord.toNat else told
    let both := if bitOf flags.toNat 2 ∧ bitOf flags.toNat 3 then some (x.bothSince.getD s.now) else none
    let held := x.replay.any (fun e => decide (e.1 = x.peerSeq))
    let again := { x with tx := .service, retrains := 0, timeouts := 0, advanced := s.now, resend := (if held then some x.peerSeq else none), resendStart := x.peerSeq, rx := (if x.rx = .retrain ∧ x.receiving then .service else x.rx) }
    (x.tx = .off → x.disabled = false → s.portUsed p = true → s.stage = .imago → s.spineUp = true → s.dst = .d0 ∨ s.dst = .d1 → (s.lsm 6).mode = .lit →
      exec (.portTrainStart port) s = .next (s.portTrain p false)) ∧
    ((∀ i, i < 8 → ¬valid i) → hears = .next s) ∧
    (x.rx = .training → light.natAbs ≤ 100 → i < 8 → valid i → slot.toNat ≠ off.val → hears = .next (((s.setPort p (x.modRx off (fun l => { l with state := .locking, confirmed := false }))).portLog p off 1 3).irq .xport p 3)) ∧
    (x.rx = .training → light.natAbs ≤ 100 → i < 8 → valid i → slot.toNat = off.val →
      (u.discFault p sender.toNat flags.toNat coord.toNat dims.toNat = 0 → hears = .next (u.setPort p { x.accept off role with peerRecv := bitOf flags.toNat 2, bothSince := both, peerSeq := expect.toNat })) ∧
      (u.discFault p sender.toNat flags.toNat coord.toNat dims.toNat ≠ 0 → hears = .next (u.portOut p (u.discFault p sender.toNat flags.toNat coord.toNat dims.toNat)))) ∧
    (x.tx = .training → x.receiving = true → ready → s.coordValid = true → s.fld (xportReg p 0x048) 15 1 = 1 → exec (.xstart port) s =
      .next ((((s.setPort p start).irq .xport p 0).sendOnMap p setXstart).discCheck)) ∧
    (x.tx = .retrain → ready → exec (.xstart port) s = .next ((s.setPort p again).sendOnMap p setXstart)) ∧
    (x.tx = .waking → x.since + 200 ≤ s.now → exec (.xstart port) s = .next ((s.setPort p { x with tx := .service, lastCell := s.now }).sendOnMap p setXstart)) ∧
    (x.tx = .training → x.t0 + 10000000 ≤ s.now → x.oneTry = false →
      (x.attempts < 2 → exec (.trainAttemptTimeout port) s = .next (s.setPort p { x.rxRestart with t0 := s.now, attempts := x.attempts + 1, bothSince := none, peerRecv := false })) ∧
      (2 ≤ x.attempts → exec (.trainAttemptTimeout port) s = .next (s.portOut p 4))) ∧
    (x.rx = .service → 6 ≤ popCount lanes.toNat 8 → exec (.xtsAtBoundary port lanes) s = .next (s.setPort p { x.rxRestart with rx := .retrain })) ∧
    (s.coordValid = false → s.fld (fabReg 0x044) 18 2 = 0 → s.stage = .imago → s.discStart + 1000000 * s.fld (fabReg 0x048) 0 16 ≤ s.now →
      exec .discoveryTimeout s = .next ((List.range 6).foldl (fun t p => t.portOut p 4) ((s.setFld (fabReg 0x044) 18 2 2).irq .fab 0 1)))

/-- R293, R294, R297, R326: the sleep, wake, retrain and pause of a direction, with what it sends, and the actions of XPORT.CMD. R293, R295, R296, R306, R327:
the steps of a sparing at its two ends, what ends it, and the two copies of the rank map. -/
def Obligations.PortStates : Prop :=
  (
    ∀ (s : State) (ini : Initiator) (ep : BitVec 8) (port : Fin 6) (lane : Fin 8) (off : Fin 10) (its : List RxItem),
      let p := port.val
      let x := s.port p
      let does := fun (c : Instr) (t : State) => exec c s = .next (t.answer ini 0)
      let retrained := (((s.setPort p { x with tx := .retrain, since := s.now, peerRecv := false, bothSince := none }).bump (xportReg p 0x07C) 0 16 1).irq .xport p 4).sendXts p
      let paused := (s.setPort p { x with tx := .paused, since := s.now, peerRecv := false }).sendXts p
      let shadow := { x.setTx off .shadow with spare := some ⟨lane, x.txMap.get lane, off, s.now⟩ }
      (x.tx = .service → s.dst = .d1 → x.replay = [] → (∀ v ∈ x.owed.toList, v = 0) → exec (.portSleep port) s =
        .next ((((s.portSend p (colsOf setSleep)).portFill p).modPort p (fun y => { y with tx := .asleep })).passOver)) ∧
      (x.rx = .service → x.rxItems = .sleep :: its → exec (.sleep port) s = .next (s.setPort p { x with rx := .asleep, rxItems := its })) ∧
      (x.tx = .asleep → s.dst = .d0 ∨ s.dst = .d1 → x.unacked ≠ 0 ∨ x.nakDue = true ∨ x.inject ≠ [] → exec (.portWake port) s =
        .next (((s.setPort p { x with tx := .waking, since := s.now }).sendOnMap p (List.replicate 16 setWake).flatten).sendXts p)) ∧
      (x.tx = .service → exec (.portRetrain port) s = .next retrained ∧ exec (.retrainReq port) s = .next retrained) ∧
      (x.tx = .retrain → x.since + 1000000 ≤ s.now → x.retrains < 2 → exec (.retrainTimeout port) s =
        .next (((s.setPort p { x with retrains := x.retrains + 1, since := s.now, bothSince := none, peerRecv := false }).bump (xportReg p 0x07C) 0 16 1).sendXts p)) ∧
      (x.tx = .retrain → x.since + 1000000 ≤ s.now → 2 ≤ x.retrains → exec (.retrainTimeout port) s = .next (s.portDown p true)) ∧
      (x.tx = .service → .standby ∉ x.txLanes.toList → exec (.pauseReq port) s = .next paused ∧
        (s.idleInterval = true → s.calPass.running = true → exec (.pausedEntry port) s = .next paused)) ∧
      (x.tx = .paused → x.peerRecv = true ∨ x.since + 199000 ≤ s.now → exec (.pausedEnd port) s =
        .next ((((s.setPort p { x with tx := .service, calDue := [] }).sendOnMap p setXstart).portSpareNext p).portCalDone p)) ∧
      (s.takes ini ep .xport p 0x05C →
        (x.tx = .service → does (.portRetrainCmd ini ep port) retrained) ∧
        (x.tx = .service → x.spare = none → s.portSwap p false = false → x.txLane off = .standby → off ∉ x.inPlace →
          does (.portSpareCmd ini ep port lane (BitVec.ofNat 4 off.val)) (((s.setPort p shadow).irq .xport p 2).lctl p 2 lane off)) ∧
        (x.tx ≠ .out → does (.portDisable ini ep port) ((s.setPort p { x with tx := .off, rx := .off, disabled := true, replay := [], resend := none, txMsg := [] }).passOver)) ∧
        (x.tx ≠ .out → x.disabled = true → does (.portEnable ini ep port) (s.portTrain p false)) ∧
        (x.tx = .out → does (.portEnable ini ep port) (s.errCount .xport p 2)))) ∧
  (
    ∀ (s : State) (ini : Initiator) (ep : BitVec 8) (port : Fin 6) (lane : Fin 8) (off : Fin 10) (k : PortSpare) (page : Fin 4) (reg : Fin 512) (v : Word),
      let p := port.val
      let x := s.port p
      let moved := (x.modRx k.new (fun l => { l with state := .active, viol := 0 })).modRx k.old (fun l => { l with state := .cal })
      let done := (x.setTx k.new .active).setTx k.old (if x.txLane k.old = .failed then .failed else .cal)
      let lost := s.setPort p (x.setTx (x.txMap.get lane) .failed)
      let standby := (List.finRange 10).filter (fun o => decide (x.txLanes.get o = .standby))
      let fresh := standby.filter (fun o => decide (o ∉ x.inPlace))
      let all := (List.finRange 10).filterMap (fun o => (List.finRange 8).find? (fun k => decide (x.txMap.get k = o)))
      let lanes := all.filter (fun k => x.calDue.contains (x.txMap.get k)) ++ all.filter (fun k => !x.calDue.contains (x.txMap.get k))
      (x.spare = none →
        ((x.tx = .service ∨ x.tx = .paused) ∧ .standby ∉ x.txLanes.toList → exec (.spareReq port lane) s = .next ((lost.irq .xport p 6).portDown p true)) ∧
        (x.tx ≠ .service ∧ x.tx ≠ .paused ∨ .standby ∈ x.txLanes.toList → exec (.spareReq port lane) s = .next (lost.portSpareAsk p lane))) ∧
      (x.rxSpare = none → exec (.spareBegin port lane off) s = .next (s.setPort p
        { (x.modRx off (fun l => { l with state := .shadow, good := 0, bad := 0 })) with rxSpare := some ⟨lane, x.rxMap.get lane, off, s.now⟩ })) ∧
      (x.rxSpare = some k → 16 ≤ (x.rxLane k.new).good → (x.rxLane k.old).state = .active → exec (.spareSwitch port true) s =
        .next ((s.setPort p { moved with rxMap := x.rxMap.set k.lane k.new, rxSpare := none }).lctl p 3 k.lane k.new)) ∧
      (x.spare = some k → k.lane = lane → exec (.spareDone port lane) s =
        .next ((s.setPort p { done with txMap := x.txMap.set lane k.new, spare := none, calSince := sput x.calSince k.old s.now }).portSpareNext p)) ∧
      (x.spare = some k → k.t1 + 10000 ≤ s.now → exec (.spareShadowTimeout port) s =
        .next ((s.setPort p { (x.setTx k.new .failed) with spare := none, spareWant := (k.lane, none) :: x.spareWant }).portSpareNext p)) ∧
      (x.tx = .service → standby ≠ [] → exec (.calReq port) s = .next (s.setPort p { x with
        inPlace := x.inPlace ++ fresh, calFresh := none, calSince := fresh.foldl (fun m o => sput m o s.now) x.calSince
        spareWant := x.spareWant ++ (lanes.filter (fun k => decide (∀ w ∈ x.spareWant, w.1 ≠ k))).map (fun k => (k, none)) })) ∧
      (x.tx = .service → standby = [] → exec (.calReq port) s = .next s) ∧
      (s.takes ini ep .rankmap page (0x800 + 4 * reg.val) → exec (.rankmapWrite ini ep page reg v) s =
        .next ((s.wr (regAddr .rankmap page (0x800 + 4 * reg.val)) v).answer ini 0)) ∧
      exec (.rankmapMismatch page) s = .next (((s.setFld (regAddr .rankmap page 0x040) 8 1 0).irq .rankmap page 0).jobFault 2 6 0x17 page))

/-- R287, R311, R316, R319 to R322: what a port does with each cell of its message, whole, faulty or lost, with the acknowledgements and credits that come
back, and when its own fall due. R317, R318, R320, R321: with neither VC 0 nor VC 1 starved, a cell slot sends a LACK that is due first, and with no LACK,
LNAK, resend or LCREDIT due the highest VC that has an eligible cell; that cell takes the next sequence number, uses one credit and stays in the replay
buffer. -/
def Obligations.LinkCells : Prop :=
  (
    ∀ (s : State) (port : Fin 6) (cell : CellBits) (vc : Fin 5) (data : Payload) (tail : BitVec 96) (seq : BitVec 12) (counts : BitVec 40) (t : Nat) (e : Nat × CellBits) (es : List (Nat × CellBits)) (its : List RxItem),
      let p := port.val
      let x := s.port p
      let n := hf cell 72 12
      let cv := hf cell 84 3
      let back := (x.rxNext + 4096 - n) % 4096
      let rest := (x.replay.dropWhile (fun e => decide (e.1 ≠ seq.toNat))).drop 1
      let x0 := { x with rxItems := its }
      let missed := s.setPort p (if x.nakSince.isSome then x0 else { x0 with nakSince := some s.now, nakDue := true })
      let taken := { x0 with rxNext := (n + 1) % 4096, nakSince := none, nakDue := false, unacked := x.unacked + 1, unackedSince := some (x.unackedSince.getD s.now), credits := x.credits.setIfInBounds cv (x.credits.toList.getD cv 0 + hf cell 88 4) }
      let late := (s.setPort p { x with advanced := s.now, timeouts := x.timeouts + 1 }).bump (xportReg p 0x07C) 16 16 1
      (x.rx = .service → x.rxItems = .cell cell :: its → cellGood cell = true → hf cell 0 8 ≠ 0x10 → hf cell 0 8 ≠ 0x11 →
        (n = x.rxNext → (x.inBuf.filter (fun e => decide (hf e.2.2 48 3 = hf cell 48 3))).length < vcRoom (hf cell 48 3) →
          exec (.linkCellReceive port cell true) s = .next ((s.setPort p taken).routeCell p cell)) ∧
        (n ≠ x.rxNext → 1 ≤ back → back ≤ 2048 → exec (.linkCellReceive port cell true) s = .next ((s.setPort p x0).bump (xportReg p 0x06C) 16 16 1)) ∧
        (n ≠ x.rxNext → 2048 < back → exec (.linkCellReceive port cell true) s = .next missed)) ∧
      (x.rx = .service → x.rxItems = .cell cell :: its →
        (cellGood cell = true → hf cell 0 8 = 0x10 ∨ hf cell 0 8 = 0x11 → exec (.linkCellReceive port cell true) s = .next ((s.setPort p x0).routeCell p cell)) ∧
        (cellGood cell = false → exec (.linkCellReceive port cell true) s = .next missed)) ∧
      (x.rx = .service → x.rxItems = .lost :: its → exec (.linkCellReceive port cell false) s = .next missed) ∧
      exec (.xtrh port vc data) s = .next (s.setPort p { x with halves := sput x.halves vc data }) ∧
      (sfind x.halves vc = some data → (x.egress.filter (fun e => decide (e.1 = vc.val))).length < 32 → exec (.xtrt port vc tail) s =
        .next (s.setPort p { x with halves := serase x.halves vc, egress := x.egress ++ [(vc.val, BitVec.ofNat 384 (data.toNat + tail.toNat * 2 ^ 256))] })) ∧
      ((∃ e ∈ x.replay, e.1 = seq.toNat) → x.resend = none →
        exec (.lack port seq) s = .next (s.setPort p { x with replay := rest, resend := none, advanced := s.now, timeouts := 0 }) ∧
        exec (.lnak port seq) s = .next (s.setPort p { x with resend := some seq.toNat, resendStart := seq.toNat })) ∧
      ((∀ e ∈ x.replay, e.1 ≠ seq.toNat) → exec (.lack port seq) s = .next (s.enterRetrain p) ∧ exec (.lnak port seq) s = .next (s.enterRetrain p)) ∧
      exec (.lcredit port counts) s = .next (s.setPort p { x with credits := Vector.ofFn (fun v : Fin 5 => x.credits.get v + bits counts.toNat (8 * v.val) 8) }) ∧
      (x.unackedSince = some t → 32 ≤ x.unacked ∨ t + 100 ≤ s.now → exec (.lackDue port) s = .next (s.setPort p { x with ackDue := true })) ∧
      (x.owedSince = some t → 32 ≤ x.owed.toList.sum ∨ t + 500 ≤ s.now → exec (.lcreditDue port) s = .next (s.setPort p { x with creditDue := true })) ∧
      (x.nakSince = some t → t + 1000 ≤ s.now → exec (.lnakRepeat port) s = .next (s.setPort p { x with nakSince := some s.now, nakDue := true })) ∧
      (x.replay = e :: es → x.tx = .service → x.advanced + s.fld (xportReg p 0x078) 0 16 ≤ s.now →
        (x.timeouts < 7 → exec (.replayTimeout port) s = .next (late.resendFrom p e.1)) ∧
        (7 ≤ x.timeouts → exec (.replayTimeout port) s = .next (late.enterRetrain p)))) ∧
  (
    ∀ (s : State) (port : Fin 6) (vc : Fin 5) (e : Nat × CellBits),
      let p := port.val
      let x := s.port p
      let ack : BitVec 12 := BitVec.ofNat 12 (x.rxNext + 4095)
      let sentOn := fun (t : State) (c : CellBits) => t.out = (s.sendBurst p c).out ∧ (t.port p).txMsg = ((s.sendBurst p c).port p).txMsg
      x.tx = .service → s.portSwap p true = false → (∀ v : Fin 2, x.starve.get v < 16) →
      (x.ackDue = true → ∃ t c, exec (.cellSend port) s = .next t ∧ sentOn t c ∧ hf c 0 8 = 0x10 ∧ bits c.toNat 96 12 = ack.toNat ∧
        (t.port p).ackDue = false ∧ (t.port p).unacked = 0 ∧ (t.port p).replay = x.replay ∧ (t.port p).txNext = x.txNext ∧ ∀ q, q ≠ p → t.port q = s.port q) ∧
      (x.ackDue = false → x.nakDue = false → x.resend = none → x.creditDue = false → x.replay.length < 255 →
        (∀ q, q < 6 → (s.port q).inBuf = []) → x.egress = [] → x.inject = [e] → e.1 = vc.val → x.credits.get vc ≠ 0 →
        ∃ t c, exec (.cellSend port) s = .next t ∧ sentOn t c ∧ cellGood c = true ∧ hf c 72 12 = x.txNext % 4096 ∧ hf c 0 8 = hf e.2 0 8 ∧
          (t.port p).inject = [] ∧ (t.port p).replay = x.replay ++ [(x.txNext, c)] ∧ (t.port p).txNext = (x.txNext + 1) % 4096 ∧
          (t.port p).credits = x.credits.set vc (x.credits.get vc - 1) ∧ ∀ q, q ≠ p → t.port q = s.port q))

/-- R329, R330, R333, R334, R337, R341, R342: a request of space 0 with the job tag in force, where none waits before it, is performed at the address that the
hall translator of its network interface gives; HATX and the last HBDAT complete the request that waits for them, HBWR and a cas of size 1 wait. R304,
R521: a hall request whose job tag is zero or not the one in force, or that comes during a restart, is dropped and counted and changes nothing else. -/
def Obligations.HallRequests : Prop :=
  (
    ∀ (s : State) (m15 size : Bool) (job : BitVec 16) (src : BitVec 12) (cls : BitVec 2) (tag : BitVec 17) (addr lo hi : Dword) (op : Byte) (units : BitVec 4) (die : Byte)
      (data : Payload) (r : HallReq),
      let a := haLocal addr.toNat
      let base : HallReq := { m15 := m15, kind := 0, src := src, cls := cls, tag := tag, addr := addr }
      let performs := fun (c : Instr) (asm : List HallReq) (q : HallReq) => ∀ (pa : Nat) (u : State),
        let q1 := { q with id := s.hallSeq }
        haSpace addr.toNat = 0 → haGlobal addr.toNat = true → (q.kind < 3 → haBad addr.toNat q.kind q.op q.size = false ∧ q.op ≤ 5) →
        (3 ≤ q.kind → a % 64 = 0 ∧ a % 1024 + 64 * q.units ≤ 1024) →
        ({ s with hallAsm := asm, hallSeq := s.hallSeq + 1, hallWait := [q1] } : State).translate (if m15 then 41 else 40) a (decide (q.kind = 1 ∨ q.kind = 2 ∨ q.kind = 4)) = (.hit pa, u) →
        u.regionCheck q1 = 0 → u.inCapacity pa = true → exec c s = .next (({ u with hallWait := [] } : State).hallPerform q1 pa)
      job ≠ 0 → job.toNat = s.jobTag → s.restart.busy = false → s.hallWait = [] → r.fail = 0 → r.waits = false → r.addr = addr → r.m15 = m15 →
      performs (.hrd m15 job src cls tag addr size) s.hallAsm { base with size := size } ∧
      performs (.hwr m15 job src cls tag addr size lo hi) s.hallAsm { base with kind := 1, size := size, lo := lo, hi := hi } ∧
      (op ≠ 4 → performs (.hatm m15 job src cls tag addr size op lo hi) s.hallAsm { base with kind := 2, op := op.toNat, size := size, lo := lo, hi := hi }) ∧
      performs (.hatm m15 job src cls tag addr false 4 lo hi) s.hallAsm { base with kind := 2, op := 4, lo := lo, cmpLo := hi } ∧
      exec (.hatm m15 job src cls tag addr true 4 lo hi) s = .next { s with hallAsm := s.hallAsm ++ [{ base with kind := 2, op := 4, size := true, lo := lo, hi := hi }] } ∧
      (s.hallAsm.find? (fun q => decide (q.kind = 2) && asmOf m15 src tag q) = some r →
        performs (.hatx m15 job src tag lo hi) (dropFirst (fun q => decide (q = r)) s.hallAsm) { r with cmpLo := lo, cmpHi := hi }) ∧
      performs (.hbrd m15 job src cls tag addr units) s.hallAsm { base with kind := 3, units := units.toNat + 1 } ∧
      exec (.hbwr m15 job src cls tag addr units) s = .next { s with hallAsm := s.hallAsm ++ [{ base with kind := 4, units := units.toNat + 1 }] } ∧
      (stackOfDie die.toNat = none → m15 = decide (die = 0x1F) → s.hallAsm.find? (fun q => decide (q.kind = 4) && asmOf m15 src tag q) = some r →
        (r.bulk.length + 1 < 2 * r.units → exec (.hbdat die job src tag data) s =
          .next { s with hallAsm := modFirst (fun q => decide (q = r)) (fun _ => { r with bulk := r.bulk ++ [data] }) s.hallAsm }) ∧
        (r.bulk.length + 1 = 2 * r.units → performs (.hbdat die job src tag data) (dropFirst (fun q => decide (q = r)) s.hallAsm) { r with bulk := r.bulk ++ [data] }))) ∧
  (
    ∀ (s : State) (m15 size : Bool) (job : BitVec 16) (src : BitVec 12) (cls : BitVec 2) (tag : BitVec 17) (addr lo hi : Dword) (op : Byte) (units : BitVec 4) (kettle : Byte)
      (gen : Word), job = 0 ∨ job.toNat ≠ s.jobTag ∨ s.restart.busy = true →
      ∀ c ∈ ([.hrd m15 job src cls tag addr size, .hwr m15 job src cls tag addr size lo hi, .hatm m15 job src cls tag addr size op lo hi, .hatx m15 job src tag lo hi,
          .hbrd m15 job src cls tag addr units, .hbwr m15 job src cls tag addr units, .krelay job kettle gen] : List Instr),
        ∃ t, exec c s = .next t ∧ t = { s with regs := t.regs })

/-- R330, R335, R338, R348, R353: the kettle word of a request of space 1 is read and added to, and refused with status 6 where the kettle is not in COUNT
mode; a region word is handed off by a cas of its owner, and a request of another is refused with status 2. R335, R340, R342, R343, R345, R352, R521: a
reply frees its tag and completes what it stands for, a refusal is HALL_REFUSED or REMOTE, and an operation past its expiry ends with status 8; a reply to
no outstanding tag is only counted; a quarantined tag is freed at its expiry; KRELAY adds 1. -/
def Obligations.HallOperations : Prop :=
  (
    ∀ (s : State) (m15 : Bool) (job : BitVec 16) (src : BitVec 12) (cls : BitVec 2) (tag : BitVec 17) (addr lo hi : Dword),
      let i := haLocal addr.toNat
      let r : HallReq := { m15 := m15, kind := 2, src := src, cls := cls, tag := tag, addr := addr, lo := lo }
      let cas := { r with op := 4, cmpLo := hi }
      let moved := ((((s.setFld (entryReg i 8) 8 13 (lo.toNat % 2 ^ 13)).bump (entryReg i 12) 0 32 1).bump (regAddr .region 0 0x05C) 0 16 1).irq .region 0 3)
      job ≠ 0 → job.toNat = s.jobTag → s.restart.busy = false → haGlobal addr.toNat = true →
      (haSpace addr.toNat = 1 → haBad addr.toNat 0 0 false = false → exec (.hrd m15 job src cls tag addr false) s =
        .next (s.hallAnswer { m15 := m15, kind := 0, src := src, cls := cls, tag := tag, addr := addr } 0x28 (payload [(1, 1, 0), (16, 16, s.kettleWord i)]))) ∧
      (haSpace addr.toNat = 1 → haBad addr.toNat 2 0 false = false → 1 ≤ lo.toNat → lo.toNat ≤ 65535 →
        (s.kettleMode i = 1 → s.kettleCount i + lo.toNat < 2 ^ 32 → exec (.hatm m15 job src cls tag addr false 0 lo 0) s =
          .next ((s.kettleAdd i lo.toNat 1).hallAnswer r 0x28 (payload [(1, 1, 0), (16, 16, s.kettleWord i)]))) ∧
        (s.kettleMode i ≠ 1 → exec (.hatm m15 job src cls tag addr false 0 lo 0) s = .next (s.hallRefuse r 6))) ∧
      (haSpace addr.toNat = 2 → haBad addr.toNat 2 4 false = false → s.regionValid i = true → bitOf lo.toNat 13 = true →
        (s.ownsRegion i src.toNat = true → hi.toNat % 2 ^ 13 = s.regionWord i % 2 ^ 13 → exec (.hatm m15 job src cls tag addr false 4 lo hi) s =
          .next (moved.hallAnswer cas 0x28 (payload [(1, 1, 0), (16, 16, s.regionWord i)]))) ∧
        (s.ownsRegion i src.toNat = false → exec (.hatm m15 job src cls tag addr false 4 lo hi) s = .next (s.hallRefuse cas 2)))) ∧
  (
    ∀ (s : State) (stack : Fin 40) (tag : BitVec 11) (status : Byte) (flags : BitVec 4) (lo hi : Dword) (units : BitVec 4) (die : Byte) (job : BitVec 16) (src : BitVec 12)
      (rtag : BitVec 17) (data : Payload) (u : TagUse) (p : Piece) (kettle : Byte) (gen : Word),
      let n := stack.val
      let t := tag.toNat
      let core := 50 * n + u.core.val
      let freed := s.setXe n { s.xe n with tags := serase (s.xe n).tags t }
      let code := status.toNat % 16
      let expires := u.born + 1000000 * s.fld (regAddr .region 0 0x044) 0 16
      (sfind (s.xe n).tags t = some u → u.quarantined = false →
        (u.xe = false → u.kind = 0 → u.drop = false → u.size = false → exec (.hrsp stack tag 0 flags lo hi) s =
          .next ((freed.modCtx core u.ctx (fun k => (clearPend k u.rd false).setG u.rd lo)).numFlags core u.ctx flags)) ∧
        (u.xe = false → u.kind = 0 → status ≠ 0 → exec (.hrsp stack tag status flags lo hi) s = .next (s.hallRefused n t u code 0)) ∧
        (u.xe = false → u.kind = 1 → u.drop = false → exec (.hwack stack tag 0) s =
          .next ((freed.modCtx core u.ctx (fun k => clearPend k u.rd u.size)).numFlags core u.ctx 0)) ∧
        (u.xe = true → exec (.hwack stack tag 0) s = .next (s.modPiece n (256 + t) (fun q => { q with finished := true }))) ∧
        (u.xe = true → status ≠ 0 → exec (.hwack stack tag status) s = .next (s.remoteFail n t u code 0) ∧ exec (.hbrsp stack tag status units) s = .next (s.remoteFail n t u code 0)) ∧
        (u.xe = true → exec (.hbrsp stack tag 0 units) s = .next s) ∧
        (expires ≤ s.now → u.xe = true → exec (.hangWatchdogExpiry stack tag) s = .next (s.remoteFail n t u 8 1)) ∧
        (expires ≤ s.now → u.xe = false → exec (.hangWatchdogExpiry stack tag) s = .next (s.hallRefused n t u 8 1))) ∧
      (sfind (s.xe n).tags t = some u → u.quarantined = true → expires ≤ s.now → exec (.quarantineRelease stack tag) s = .next freed) ∧
      (sfind (s.xe n).tags t = none → let stale := s.bump (regAddr .region 0 0x058) 0 16 1
        exec (.hrsp stack tag status flags lo hi) s = .next stale ∧ exec (.hwack stack tag status) s = .next stale ∧ exec (.hbrsp stack tag status units) s = .next stale) ∧
      (die.toNat = 0x40 + n → sfind (s.xe n).pieces (256 + rtag.toNat % 2048) = some p → p.srcSpace = 3 → p.finished = false → p.full = false →
        let q := p.fill (32 * popCount p.got.toNat 32) data.toNat 1
        let s1 := s.modPiece n (256 + rtag.toNat % 2048) (fun _ => q)
        exec (.hbdat die job src rtag data) s = .next (if q.full = true then s1.pieceLand n (256 + rtag.toNat % 2048) else s1)) ∧
      (job ≠ 0 → job.toNat = s.jobTag → s.restart.busy = false → s.kettleMode kettle.toNat = 1 → exec (.krelay job kettle gen) s = .next (s.kettleAdd kettle.toNat 1 1)))


/-! ## Serving and restarts -/

/-- R359, R361 to R364: a message of the request protocol is checked in the order of R363: one that no enabled port takes changes nothing, a malformed one, one
under no key, one with a bad code and one with a stale number are counted, and nothing else changes. R366, R368 to R372, R386: what SUBMIT, CANCEL, STATUS
and ACK do once R363 has let them through; `u` is the state after its checks. -/
def Obligations.RequestProtocol : Prop :=
  (
    ∀ (s : State) (f : Frame) (m : List Byte) (c : Instr) (k : List Byte),
      c ∈ ([.submit f m, .cancel f m, .status f m, .ack f m] : List Instr) →
      let p := f.peer.port.val
      let h := hdrOf m
      let unproved := (s.bump (fdReg p 0x074) 0 16 1).irq .fdoor p 1
      (s.frameOk f = false → exec c s = .next s) ∧
      (s.frameOk f = true → malformed false m = true → exec c s = .next (s.bump (fdReg p 0x078) 0 16 1)) ∧
      (s.frameOk f = true → malformed false m = false → s.job.keys.length ≤ h.key → exec c s = .next unproved) ∧
      (s.frameOk f = true → malformed false m = false → s.job.keys[h.key]? = some k → (hmac256 k (m.take (m.length - 16))).take 16 ≠ m.drop (m.length - 16) →
        exec c s = .next unproved) ∧
      (s.frameOk f = true → malformed false m = false → s.job.keys[h.key]? = some k → (hmac256 k (m.take (m.length - 16))).take 16 = m.drop (m.length - 16) →
        seqFresh (sget (0, 0) s.serving.rx h.key) h.seq = false → exec c s = .next ((s.bump (fdReg p 0x074) 16 16 1).irq .fdoor p 1))) ∧
  (
    ∀ (s : State) (f : Frame) (m : List Byte) (h : Hdr) (t : State) (r : Request) (part : List Byte),
      let p := f.peer
      let b := bodyOf m
      let bySubmit := t.wakeFor 1
      let u := t.wakeFor 5
      let new : Request := { id := BitVec.ofNat 64 h.id, key := h.key, peer := p, born := bySubmit.now, head := slice b 2 62 }
      let known := u.modReq h.id (fun q => { q with peer := p, key := h.key })
      s.fdTake f false m = (some h, t) →
      (h.ty = 1 → bySubmit.req h.id = none → bySubmit.restart.busy = false → bySubmit.stage = .imago → bySubmit.stopping = false → bySubmit.partFault b = 0 →
        (bySubmit.reqsIn (fun x => decide (x = .assembling))).length < 64 → exec (.submit f m) s =
          .next (({ bySubmit with serving := { bySubmit.serving with reqs := bySubmit.serving.reqs ++ [new] } }).keepPart p h new b)) ∧
      (h.ty = 1 → bySubmit.req h.id = none → bySubmit.restart.busy = true → exec (.submit f m) s = .next (bySubmit.fdBusy p h 4)) ∧
      (h.ty = 1 → bySubmit.req h.id = some r → r.state = .queued → exec (.submit f m) s =
        .next ((bySubmit.modReq h.id (fun q => { q with peer := p, key := h.key })).fdAck p h 1 0xFFFF (bySubmit.queuePos h.id))) ∧
      (h.ty = 3 → b = [] → u.req h.id = some r → r.state = .queued → exec (.cancel f m) s =
        .next ((known.fdAck p h 2 0xFFFF 0xFFFFFFFF).endReq h.id r.toks.length [] 3 u.beatNow)) ∧
      (h.ty = 3 → b = [] → u.req h.id = some r → r.state = .decode ∨ r.state = .prefill → exec (.cancel f m) s =
        .next ((known.modReq h.id (fun q => { q with cancel := (if q.cancel.isSome then q.cancel else some u.serving.begun) })).fdAck p h 2 r.slot 0xFFFFFFFF)) ∧
      (h.ty = 4 → b = 0 :: part → b.length = 8 → beNat (slice b 1 3) = 0 → exec (.status f m) s =
        .next (u.fdSend p h.key 4 0 ([0] ++ beBytes 1 u.statusStage ++ beBytes 2 (u.reqsIn inSlot).length ++ beBytes 2 u.serving.queue.length ++
          beBytes 2 (u.reqsIn (fun x => decide (x = .assembling))).length ++ beBytes 4 (u.wing / 1000) ++ beBytes 4 0 ++ beBytes 8 u.beatNow ++ beBytes 8 u.nextBoundary))) ∧
      (h.ty = 6 → u.req h.id = some r → r.state = .ended → b.length = 16 → beNat (slice b 0 1) = 0 → (h.key, beNat (slice b 8 8)) ∈ r.seqs →
        exec (.ack f m) s = .next (u.modReq h.id (fun q => { q with peer := p, key := h.key, acked := true }))))

/-- R359, R371, R372, R391, R393: what a port answers for its own address, the times of a request, a chunk of a segment that is asked for again, and the links
of the ports. -/
def Obligations.FrontDoorEvents : Prop :=
  ∀ (s : State) (f : Frame) (target : BitVec 32) (target6 : BitVec 128) (mac : BitVec 48) (data : List Byte) (id : Dword) (r : Request) (port : Fin 2) (seg : Word) (chunk : Nat)
    (x : Seg) (msg : List Byte) (h : Hdr) (t : State),
    let off := beNat (slice (bodyOf msg) 4 8)
    let d := (bodyOf msg).drop 16
    let rec_ := segRec s.job.manifest x.idx
    (s.frameOk f = true → f.peer.v6 = false → s.ip4 f.peer.port = some target.toNat → exec (.arpRequest f target mac) s = .next (s.emit (.arp f.peer target (s.mac f.peer.port)))) ∧
    (s.frameOk f = true → f.peer.v6 = true → s.ip6 f.peer.port = target6.toNat →
      exec (.neighbourSolicitation f target6 mac) s = .next (s.emit (.neighbour f.peer target6 (s.mac f.peer.port)))) ∧
    (s.frameOk f = true → s.ownAddr f target6.toNat = true → exec (.echoRequest f target6 data) s = .next (s.emit (.echo f.peer data))) ∧
    (s.req id.toNat = some r → r.state = .assembling → r.born + 1000000000 ≤ s.now → exec (.assemblyTimeout id) s = .next (s.dropReq id.toNat)) ∧
    (s.req id.toNat = some r → r.state = .ended → r.acked = false → r.resends < 10 → r.sentAt + 100000000 ≤ s.now → exec (.tokensResend id) s =
      .next ((s.modReq id.toNat (fun q => { q with resends := q.resends + 1, sentAt := s.now })).sendTokens id.toNat r.final true)) ∧
    (s.req id.toNat = some r → r.state = .ended → r.finalAt + 1000000000 * s.fld (fdReg 0 0x0A8) 0 10 ≤ s.now → exec (.lingerExpiry id) s = .next (s.dropReq id.toNat)) ∧
    (s.fdTake f true msg = (some h, t) → t.job = s.job → s.job.segs.find? (fun y => decide ((segRec s.job.manifest y.idx).id = beNat (slice (bodyOf msg) 0 4))) = some x →
      16 ≤ (bodyOf msg).length → off % 1024 = 0 → off < rec_.len → d.length = min 1024 (rec_.len - off) → beNat (slice (bodyOf msg) 12 4) = 0 → x.delivered = false →
      let got := sput x.got (off / 1024) d
      let kept := t.modSeg x.idx (fun y => { y with got := got, asked := y.asked.filter (fun a => decide (a.1 ≠ off / 1024)), silent := 0 })
      (got.length ≠ rec_.chunks → exec (.fdata f msg) s = .next (kept.fetchSeg x.idx 5)) ∧
      (got.length = rec_.chunks → exec (.fdata f msg) s = .next ((kept.segWhole x.idx (got.flatMap Prod.snd)).fetchAll))) ∧
    (s.job.segs.find? (fun y => decide ((segRec s.job.manifest y.idx).id = seg.toNat)) = some x → x.delivered = false → (∃ a ∈ x.asked, a.1 = chunk ∧ a.2 + 20000000 ≤ s.now) →
      (x.silent < 9 → exec (.fetchChunkTimeout seg chunk) s = .next ((s.modSeg x.idx (fun y => { y with silent := y.silent + 1 })).sendFreq x.idx chunk 1)) ∧
      (9 ≤ x.silent → exec (.fetchChunkTimeout seg chunk) s =
        .next ((s.modSeg x.idx (fun y => { y with src := nextSrc s.job.manifest x.idx y.src, asked := [], silent := 0 })).fetchAll))) ∧
    exec (.frontDoorLinkDown port false) s = .next (((s.setFld (fdReg port 0x044) 0 1 0).setFld (fdReg port 0x044) 2 1 0).irq .fdoor port 0) ∧
    (s.dst ≠ .d3 → s.rstLow = false → exec (.frontDoorLinkUp port) s = .next (s.setFld (fdReg port 0x044) 0 4 (5 + 2 * s.fld (fdReg port 0x048) 1 1)))

/-- R372: the final TOKENS is sent again once 100 ms have passed since it was last sent, while no ACK has acknowledged it and it has been sent again fewer than
ten times; otherwise nothing is sent. -/
def Obligations.FinalTokensRepeat : Prop :=
  ∀ (s : State) (id : Dword) (r : Request), s.req id.toNat = some r → r.state = .ended →
    (r.acked = false → r.resends < 10 → r.sentAt + 100000000 ≤ s.now → ∃ u : State, exec (.tokensResend id) s = .next u ∧
      u = (s.modReq id.toNat (fun q => { q with resends := r.resends + 1, sentAt := s.now })).sendTokens id.toNat r.final true ∧
      (∃ q, u.req id.toNat = some q ∧ q.resends = r.resends + 1 ∧ q.sentAt = s.now ∧ q.final = r.final)) ∧
    (r.acked = true ∨ 10 ≤ r.resends ∨ s.now < r.sentAt + 100000000 → exec (.tokensResend id) s = .next s)

/-- R382, R383: the tokens of a result record are committed in order, and only up to the first that ends the request: a stop token, max_new tokens, or the
context's end. -/
def Obligations.CommitTokens : Prop :=
  ∀ (c : Nat) (r : Request) (ts : List Word),
    let z := commitToks c r ts
    z.1.toks = r.toks ++ z.2.1 ∧ z.1.pos = r.pos + z.2.1.length ∧ z.2.1 <+: ts ∧
    (z.2.2 = 0 → z.2.1 = ts ∧ ∀ t ∈ ts, t ∉ r.stops) ∧
    (z.2.2 = 1 → ∃ t l, z.2.1 = l ++ [t] ∧ t ∈ r.stops ∧ ∀ w ∈ l, w ∉ r.stops) ∧
    (z.2.2 = 2 → r.maxNew ≤ z.1.toks.length) ∧ (z.2.2 = 4 → c ≤ z.1.pos) ∧
    (r.toks.length < r.maxNew → z.1.toks.length ≤ r.maxNew) ∧ (r.pos < c → z.1.pos ≤ c)

/-- R375 to R378, R447: a boundary in D0 aborts D and pre-empts P on every core of the job; a commit follows once D is drained, and the idle interval once
every P context is still; at its end D starts again, and P resumes or starts. R447 to R449: an orderly stop begins with the die that asks for it; at t0 + 100
ms the abort runs without a boundary, at t0 + 500 ms P contexts that are not still are halted and their chains cancelled (R190); and once the cause has
cleared for 10 s the job restarts, before any calibration pass that was deferred. -/
def Obligations.WingbeatAndStops : Prop :=
  (
    ∀ (s : State) (t f : Nat),
      let k := s.beatAt s.now
      let s1 := if s.serving.phase = 0 then s else s.overrun
      let begun : State := { s1 with idleInterval := false, serving := { s1.serving with last := some k, begun := s1.serving.begun + 1, phase := 1, idleSince := none } }
      let slots := List.range s.jobSlots
      let committed := slots.foldl (fun u i => match u.inSlotNo i with | some r => u.commitSlot r | none => u) ({ s with serving := { s.serving with sent := [] } } : State)
      let tables := (slots.foldl (fun u i => u.admitNext i) committed).writeTables (s.serving.last.getD 0)
      let ended : State := { s with idleInterval := false, serving := { s.serving with phase := 0, idleSince := none } }
      let go := fun (u : State) => u.jobCores.foldl (fun v c => match (v.ctx c .p).mode with
        | .parked => v.resumeP c
        | .idle => if (s.reqsIn (fun x => decide (x = .prefill))).isEmpty then v else v.startCtx c .p
        | _ => v) u
      (s.stage = .imago → 3 ≤ s.jobPhase → s.dst = .d0 → s.jobE ≤ s.now → s.serving.last ≠ some k → s.stop.begun = false → s.stop.cause = 0 → s.restart.busy = false →
        s.serving.first = some f → f ≤ k → exec .wingbeatBoundary s = .next (begun.jobCores.foldl (fun t c => ((t.abortD c).cancelChains c .d).preemptP c) begun)) ∧
      (s.serving.phase = 1 → s.dStill = true → s.restart.busy = false → 3 ≤ s.jobPhase → s.stop.cause = 0 → tables.reqsIn inSlot ≠ [] ∨ tables.serving.queue ≠ [] →
        tables.serving.d1Asked = false → exec .boundaryCommit s =
          .next ({ tables with serving := { tables.serving with recK := s.serving.last.getD 0, phase := 2, idleRuns := 0, d1Asked := false } } : State).userRecord.copyOut.afterCommit) ∧
      (s.serving.idleSince = some t → s.idleInterval = true → t + 1000 * s.fld (fdReg 0 0x084) 0 11 ≤ s.now → s.now + 100000 ≤ s.bnd (s.serving.last.getD 0 + 1) →
        exec .idleIntervalEnd s = .next (go (ended.jobCores.foldl (fun u c => u.startCtx c .d) ended)))) ∧
  (
    ∀ (s : State) (d t : Nat),
      let aborting : State := { s with stop := { s.stop with begun := true }, idleInterval := false, serving := { s.serving with begun := s.serving.begun + 1, phase := 1, idleSince := none } }
      let halted := s.jobCores.foldl (fun t c => match (t.ctx c .p).mode with
        | .idle => t
        | .parked => t
        | .halted => t
        | _ => (t.modCtx c .p (fun k => { k with mode := .halted, qMe := [], qVe := [], qRm := [] })).cancelChains c .p) s
      let back := fun (wait : Bool) => ({ s with stop := {}, calPass := { s.calPass with awaited := wait } } : State).irq .therm 0 5
      (s.stage = .imago → s.stop.cause = 0 → s.dst = .d0 → s.stopDie = some d → exec .orderlyStop s = .next (s.stopBegin 1 d)) ∧
      (s.stop.cause ≠ 0 → s.stop.begun = false → s.stop.stopped = false → s.stop.t0 + 100000000 ≤ s.now → exec .orderlyStopDeadline s = .next aborting.boundaryAbort) ∧
      (s.stop.cause ≠ 0 → s.stop.stopped = false → s.stop.t0 + 500000000 ≤ s.now → exec .parkDeadline s = .next halted.stopReached) ∧
      (s.stop.stopped = true → s.stop.cause = 1 → s.stop.coolSince = some t → t + 10000000000 ≤ s.now →
        (s.jobPhase = 3 → s.calPass.running = false → s.calPass.pending = false → exec .orderlyStopReturn s = .next (back false).restartZero) ∧
        (s.jobPhase = 3 → s.calPass.running = true ∨ s.calPass.pending = true → exec .orderlyStopReturn s = .next (back true).restartZero) ∧
        (s.jobPhase = 0 → exec .orderlyStopReturn s = .next (back (s.calPass.running || s.calPass.pending)))))

/-- R375, R513 to R517, R519, R522 to R524: job faults start a restart under the next number, a RESTART notice one under its own; READY is held at rank 0, GO
fixes the wingbeat, ABANDON and the timeouts end the job. A GO that names a passed wingbeat is taken by log entry 35. -/
def Obligations.JobRestarts : Prop :=
  ∀ (s : State) (job rank : BitVec 16) (num k : Word) (cls code : Byte),
    let ours := s.jobTag ≠ 0 ∧ job.toNat = s.jobTag
    let heard : FaultRec := { cls := 9, code := cls.toNat, die := 0xFF, inst := 0, flags := 0, rank := rank.toNat, t0 := s.now }
    let ranked := s.faultsDue.map (fun f => { f with rank := s.jobRank })
    let atGo := s.jobPhase = 3 ∧ 2 ≤ s.jobRanks ∧ s.restart.resume = none
    (s.faultsDue ≠ [] → s.mayRestart = true → exec .jobRestart s = .next (s.restartWith (s.restart.num + 1) true ranked)) ∧
    (ours → 2 ≤ s.jobPhase → s.restart.num < num.toNat → s.mayRestart = true → exec (.restartNotice job rank num cls code) s = .next (s.restartWith num.toNat false (heard :: ranked))) ∧
    (ours → s.jobPhase = 3 → s.jobRank = 0 → num.toNat = s.restart.num → s.restart.busy = true → s.restart.resume = none → rank.toNat ∉ s.restart.ready →
      exec (.readyNotice job rank num) s = .next (({ s with restart := { s.restart with ready := rank.toNat :: s.restart.ready } } : State).tryGo)) ∧
    (ours → s.jobPhase = 3 → num.toNat = s.restart.num → s.restart.busy = false → s.serving.first = none → s.now ≤ s.bnd (s.goNamed k.toNat) →
      exec (.goNotice job rank num k) s = .next { s with serving := { s.serving with first := some (s.goNamed k.toNat) } }) ∧
    (ours → 2 ≤ s.jobPhase → s.jobPhase ≤ 3 → s.restart.num ≤ num.toNat → exec (.abandonNotice job rank num) s = .next s.abandon) ∧
    (atGo → s.restart.busy = false → s.serving.first = none → s.restart.sentAt + 100000000 ≤ s.now → exec .readyRepeat s = .next s.sayReady) ∧
    (atGo → s.restart.busy = true → s.restart.t5 ≠ 0 → s.restart.t5 + 10000000000 ≤ s.now → exec .rejoinTimeout s = .next s.abandon) ∧
    (atGo → s.restart.busy = false → s.serving.first = none → s.serving.eclosed + 10000000000 ≤ s.now → exec .goWaitTimeout s = .next s.abandon)


/-! ## Clocks, power and heat -/

/-- R395 to R400, R404, R409 to R412, R418: the PLL hands over to a valid input and is in reference holdover without one; what each PLL's failure does; and how
SYNC_IN sets, corrects, loses and forgets the second. R400, R402, R415: f_set is the lowest of the limits; a region whose generator fails runs on its ring
oscillator; a stretch within the bounds of R402 is counted, more than 2 % of them in 1 µs lower the droop limit by one step and 10 µs without one raise it,
up to the table top. -/
def Obligations.ClocksAndTime : Prop :=
  (
    ∀ (s : State) (ini : Initiator) (ep : BitVec 8) (inp : Fin 2) (v : Word) (n : Dword) (t : Nat) (stack : Fin 40) (region : Fin 160) (site : Fin 60) (tx : BitVec 7)
      (cause : BitVec 3),
      let lost : State := { s with clock := { s.clock with valid := s.clock.valid.set inp false } }
      let event := lost.pllEvent 1 0 1
      let pll := ({ s with clock := { s.clock with rowPll := sset 0 s.clock.rowPll stack.val (sget 0 s.clock.rowPll stack.val + 1) } } : State)
      let alarm := s.pllEvent 4 (serialiserNo site tx.toNat) cause.toNat
      (s.clock.valid.get inp = true → s.clock.locked = true → s.clock.inUse = inp → s.clock.valid.get (1 - inp) = true →
        exec (.refclkInvalid inp) s = .next (event.refSwitch (1 - inp))) ∧
      (s.clock.valid.get inp = true → s.clock.locked = true → s.clock.inUse = inp → s.clock.valid.get (1 - inp) = false →
        exec (.refclkInvalid inp) s = .next (({ event with clock := { event.clock with holdover := some s.now } } : State).irq .timebase 0 1)) ∧
      (s.clock.valid.get inp = false → s.clock.holdover = none → s.stage ≠ .larva → exec (.refclkValid inp) s =
        .next { s with clock := { s.clock with valid := s.clock.valid.set inp true } }) ∧
      (s.clock.holdover = some t → t + 100000000 ≤ s.now → s.stop.cause = 0 → s.stage = .imago → exec .refHoldoverStop s = .next { s with stopAsked := some (4, 0) }) ∧
      (s.takes ini ep .timebase 0 0x048 → s.clock.valid.get (if bitOf v.toNat 0 then 1 else 0) = true → exec (.refCtlWrite ini ep v) s =
        .next ((s.regStore .timebase 0 0x048 v.toNat).answer ini 0)) ∧
      (s.clock.locked = true → s.jobPhase = 3 → ∃ u : State, exec .basePllUnlock s = .next u ∧ u.stage = .larva ∧ u.spineUp = false ∧ u.clock.locked = false ∧
        u.faultsDue.any (fun f => decide (f.cls = 7) && decide (f.code = 2)) = true ∧ u.coreBuf = s.coreBuf ∧ u.rowStore = s.rowStore ∧ u.job = s.job) ∧
      (s.spineUp = true → site.val < 59 → tx.toNat < txFitted site → tx.toNat ∉ (s.site site).gone → cause.toNat ≠ 0 → cause.toNat ≤ 4 →
        exec (.serialiserAlarm site tx cause) s = .next (alarm.withdrawTx site tx.toNat 2)) ∧
      (s.spineUp = true → site.val = 59 → tx.toNat < 6 → cause.toNat ≠ 0 → cause.toNat ≤ 4 → exec (.serialiserAlarm site tx cause) s = .next (alarm.enterRetrain tx.toNat)) ∧
      (s.stackOn stack = true → sget 0 s.clock.rowPll stack.val = 0 → exec (.rowstorePllFailover stack) s = .next (pll.pllEvent 2 (2 * stack.val) 2)) ∧
      (s.regionOn region = true → exec (.crossingError region) s =
        .next (((s.bump (clkReg region 0x064) 0 16 1).irq .clkreg region 1).jobFault 7 1 (0x40 + region.val / 4) region)) ∧
      (s.dst = .d0 → s.fld (tbReg 0x050) 0 1 ≠ 0 → s.clock.locked = true → s.edgeValid = true → s.clock.armed = some n → ∃ u : State, exec .syncEdge s = .next u ∧
        u.timebase = BitVec.ofNat 64 (n.toNat * 1000000000) ∧ u.clock.aligned = true ∧ u.clock.armed = none ∧ u.clock.syncLost = false ∧
        u = { s with timebase := u.timebase, clock := u.clock, regs := u.regs }) ∧
      (s.dst = .d0 → s.fld (tbReg 0x050) 0 1 ≠ 0 → s.clock.locked = true → s.edgeValid = true → s.clock.armed = none → s.clock.aligned = true → ∃ u : State,
        exec .syncEdge s = .next u ∧ u.timebase = s.timebase ∧ u.clock.rate = max (-200000) (min 200000 (s.clock.rate - phaseError s.now)) ∧ u.clock.lastEdge = some s.now) ∧
      (s.dst = .d0 → s.fld (tbReg 0x050) 0 1 ≠ 0 → s.edgeValid = false → exec .syncEdge s = .next (s.bump (tbReg 0x068) 16 16 1)) ∧
      (s.takes ini ep .timebase 0 0x054 → s.jobPhase = 0 → exec (.secSet ini ep n) s = .next (({ s with clock := { s.clock with armed := some n } } : State).answer ini 0)) ∧
      (s.takes ini ep .timebase 0 0x054 → s.jobPhase ≠ 0 → exec (.secSet ini ep n) s = .next ((s.errCount .timebase 0 2).answer ini 0)) ∧
      (s.clock.syncLost = false → s.dst = .d0 → 1500000000 ≤ s.sinceEdge → exec .syncHoldover s = .next (({ s with clock := { s.clock with syncLost := true } } : State).irq .timebase 0 3)) ∧
      (s.clock.syncLost = true → s.clock.aligned = true → 1000000000 * s.fld (tbReg 0x050) 8 8 ≤ s.sinceEdge → exec .syncHoldoverExpiry s =
        .next { s with clock := { s.clock with aligned := false } })) ∧
  (
    ∀ (s : State) (ini : Initiator) (ep : BitVec 8) (region : Fin 160) (noticed : Bool) (added : Nat) (v : Word),
      let r := region.val
      let x := s.region r
      let recent := x.stretches.filter (fun p => decide (s.now < p.1 + 1000))
      let total := (recent.map Prod.snd).sum
      let y := { x with stretches := recent ++ [(s.now, added)], unannounced := !noticed, lastStretch := s.now }
      let becomes := fun (z : Region) => ({ s with regions := sset {} s.regions r z } : State)
      s.regionOn region = true →
      (∃ f, exec (.fSetChange region) s = .next (becomes { x with fset := f }) ∧ (32 ≤ x.ftop → 32 ≤ f ∧ f ≤ x.ftop) ∧
        (f ≤ (s.stk (r / 4)).ceiling ∨ f = 32) ∧ (f ≤ x.droop ∨ f = 32)) ∧
      (x.locked = true → exec (.regionGenFail region false) s =
        .next ((((((becomes { x with gen := false, locked := false }).pllEvent 3 r 2).irq .clkreg r 2).bump (clkReg r 0x064) 16 16 1).irq .clkreg r 0))) ∧
      (added ≠ 0 → x.gen = true → total + added ≤ 50000 → noticed = true → added * x.fset ≤ 40000 → exec (.stretch region noticed added) s =
        .next (((becomes y).bump (clkReg r 0x05C) 0 16 1).raiseTo (clkReg r 0x060) 0 8 (y.stretched s.now / 1000))) ∧
      (20000 < total → 32 < x.droop → x.lowered = 0 ∨ x.lowered + 1000 ≤ s.now → exec (.droopLimitLower region) s = .next (becomes { x with droop := x.droop - 1, lowered := s.now })) ∧
      (x.droop < x.ftop → x.lastStretch + 10000 ≤ s.now → x.raised + 10000 ≤ s.now → exec (.droopLimitRaise region) s =
        .next (becomes { x with droop := x.droop + 1, raised := s.now })) ∧
      (s.takes ini ep .clkreg r 0x044 → x.locked = true → x.failed < 3 → bitOf v.toNat 0 = true → exec (.clkSrcWrite ini ep region v) s =
        .next (((becomes { x with gen := true, locked := true }).regStore .clkreg r 0x044 v.toNat).answer ini 0)) ∧
      (s.takes ini ep .clkreg r 0x044 → bitOf v.toNat 0 = false → exec (.clkSrcWrite ini ep region v) s =
        .next (((becomes { x with gen := false }).regStore .clkreg r 0x044 v.toNat).answer ini 0)))

/-- R423 to R425, R427 to R429, R462: the actions of STATE_CMD in the states that list them, and the wakes from D1 and D2, that to D0 after the calibration
pass that comes first. R153, R424, R427: D2 performs what is queued, keeps main memory in self-refresh and loses the row stores, core buffers and instruction
stores; everything off keeps only what is fused, in flash or outside the machine. -/
def Obligations.DeviceStates : Prop :=
  (
    ∀ (s : State) (ini : Initiator) (ep : BitVec 8) (c : Nat) (i : Fin 2) (port : Fin 6),
      let does := fun (c : Instr) (t : State) => exec c s = .next (t.answer ini 0)
      let waking := fun (n : Nat) => ({ s with power := { s.power with wake := some n } } : State)
      let n := s.fld (pwrReg 0x048) 0 16
      let at_ := (s.rd64 (pwrReg 0x04C)).toNat
      let built := (s.d2Up i).d2Restart
      (s.takes ini ep .pwr 0 0x044 →
        (s.dst = .d1 → s.power.wake = none → does (.stateCmdD0 ini ep) (waking 2)) ∧
        (s.dst = .d0 → does (.stateCmdD0 ini ep) (s.errCount .pwr 0 2)) ∧
        (s.dst = .d0 → s.reqsIn inSlot = [] → s.serving.queue = [] → does (.stateCmdD1 ini ep) { s with serving := { s.serving with d1Asked := true } }) ∧
        (s.dst = .d0 → s.serving.queue ≠ [] → does (.stateCmdD1 ini ep) (s.errCount .pwr 0 2)) ∧
        (s.dst = .d1 → s.power.wake = none → does (.stateCmdD2 ini ep) s.enterD2) ∧
        (s.dst = .d0 → does (.stateCmdD2 ini ep) (s.errCount .pwr 0 2)) ∧
        (s.dst = .d0 → s.stage = .imago → s.stop.stopped = false → s.stop.cause = 0 → does (.stateCmdD3 ini ep) { s with stopAsked := some (5, 0) }) ∧
        (s.dst = .d1 → does (.stateCmdD3 ini ep) s.powerOff)) ∧
      (s.dst = .d1 → s.power.wake = none → n ≠ 0 → s.jobPhase = 3 → s.jobRanks ≤ 1 → s.serving.d1Since + 1000000000 * n ≤ s.now → exec .d2IdleExpiry s = .next s.enterD2) ∧
      (s.dst = .d1 → s.power.wake = some c →
        ((s.calPass.first = true → s.calPass.running = false ∧ s.calPass.pending = false) → exec .d1Wake s =
          .next ((({ s with dst := .d0, calPass := { s.calPass with first := false }, serving := { s.serving with idleRuns := 0, d1Asked := false } } : State).regionsUp).woken c)) ∧
        (s.calPass.first = true → s.calPass.running = true ∨ s.calPass.pending = true → exec .d1Wake s = .next s)) ∧
      (s.dst = .d2 → (s.port port).tx ≠ .out → s.power.wake = none → exec (.portLightWake port) s = .next (waking 3)) ∧
      (s.dst = .d2 → s.power.wake = none → at_ ≠ 0 → at_ ≤ s.now → exec .wakeAtReached s = .next ((s.wr64 (pwrReg 0x04C) 0).wakeFor 4)) ∧
      (s.dst = .d2 → s.power.wake = some c → s.larvaInput = some i →
        (c = 1 ∨ c = 2 ∨ c = 4 → built.calPass.pending = true ∨ built.passMoved = true → exec .d2Wake s =
          .next { built with dst := .d1, serving := { built.serving with d1Since := built.now, idleRuns := 0, d1Asked := false }, calPass := { built.calPass with pending := true, first := true } }) ∧
        (c = 1 ∨ c = 2 ∨ c = 4 → built.calPass.pending = false → built.passMoved = false → exec .d2Wake s = .next (({ built with dst := .d0, serving := { built.serving with idleRuns := 0, d1Asked := false } } : State).woken c)) ∧
        (c = 3 → 2 ≤ built.jobRanks → exec .d2Wake s = .next (({ built with dst := .d1, serving := { built.serving with d1Since := built.now } } : State).woken c)))) ∧
  (
    ∀ (s : State),
      s.enterD2.mainMem = s.flushChans.mainMem ∧ ((∀ e ∈ s.chans, e.2.queue = []) → s.enterD2.mainMem = s.mainMem) ∧ s.enterD2.rowStore = {} ∧ s.enterD2.coreBuf = {} ∧ s.enterD2.instStore = {} ∧ s.enterD2.dst = .d2 ∧ s.enterD2.job = s.job ∧
      s.enterD2.vault = s.vault ∧ (∀ c : Nat, (s.enterD2.chan c).queue = [] ∨ (s.chan c).mode = .failed ∨ (s.chan c).mode = .off) ∧
      s.powerOff.dst = .d3 ∧ s.powerOff.mainMem = {} ∧ s.powerOff.rowStore = {} ∧ s.powerOff.coreBuf = {} ∧ s.powerOff.job = {} ∧ s.powerOff.pending = s.pending ∧
      s.powerOff.vault.folio = s.vault.folio ∧ s.powerOff.vault.hours = s.vault.hours ∧ s.powerOff.dies = s.dies ∧ s.powerOff.jobPhase = 0)

/-- R431 to R441: a low or high input, its trim, the entry and the ends of a Surge, a grant withdrawn, a stack at its cap floor, and the power figures. -/
def Obligations.PowerSupply : Prop :=
  ∀ (s : State) (ini : Initiator) (ep : BitVec 8) (mv window t : Nat) (stack : Fin 40) (v : Word) (p : PowerFigures),
    let n := stack.val
    let k := s.stk n
    let low := ({ s with power := { s.power with voltLowAt := some s.now } } : State).surgeEnd 5
    let seen := (s.setFld (pwrReg 0x06C) 0 16 (min window 65535)).raiseTo (pwrReg 0x070) 0 16 window
    (s.dst = .d0 → 40000 ≤ mv → mv < 44000 → exec (.inputUndervolt mv) s = .next low) ∧
    (s.dst = .d0 → mv < 40000 → exec (.inputUndervolt mv) s = .next ((low.irq .pwr 0 4).trimStart.trimStep)) ∧
    (s.dst ≠ .d3 → mv < 38000 ∨ 62000 < mv → exec (.inputFault mv) s = .next s.powerOff) ∧
    (s.dst = .d0 → s.power.surge = false → s.power.trimOn = false → window ≤ 3111 → exec (.inputTrim window) s = .next { seen with power := { seen.power with overSince := none } }) ∧
    (s.dst = .d0 → s.power.surge = false → s.power.trimOn = true → 3050 < window → exec (.inputTrim window) s = .next seen.trimStep) ∧
    (s.maySurge mv = true → exec (.surgeEntry mv) s =
      .next ((((({ s with power := { s.power with surge := true, surgeAt := s.now } } : State).grantAll true).bump (pwrReg 0x07C) 0 16 1)).irq .pwr 0 1)) ∧
    (s.stop.cause ≠ 0 → exec .surgeEnd s = .next (s.surgeEnd 7)) ∧
    (s.dst = .d0 → s.stop.cause = 0 → s.restart.busy = false → s.power.demandSince = some t → t + 1000000000 ≤ s.now → s.power.surgeAt + 1000000000 ≤ s.now →
      exec .surgeEnd s = .next (s.surgeEnd 6)) ∧
    (s.allowance = 0 → exec .surgeAllowanceExpiry s = .next (s.surgeEnd 1)) ∧ (s.wearLeft = 0 → exec .wearBudgetExhaust s = .next (s.surgeEnd 2)) ∧
    (s.takes ini ep .pwr 0 0x058 → exec (.surgeInhibitWrite ini ep v) s =
      .next ((if bitOf v.toNat 0 = true then (s.regStore .pwr 0 0x058 v.toNat).surgeEnd 4 else s.regStore .pwr 0 0x058 v.toNat).answer ini 0)) ∧
    (s.power.surge = true → s.fld (rowsReg n 0x064) 0 1 ≠ 0 → k.floor = true ∨ 16 ≤ (k.brakes.filter (fun t => decide (s.now < t + 1000000000))).length →
      exec (.grantWithdraw stack) s = .next ((s.setFld (rowsReg n 0x064) 0 1 0).bump (pwrReg 0x080) 16 16 1)) ∧
    (s.power.surge = false → k.floor = true → k.floorSince = some t → t + 101000000 ≤ s.now → k.retireDue = false → k.retired = false →
      exec (.capFloorFault stack) s = .next (((s.setStk n { k with retireDue := true }).irq .rows n 7).jobFault 6 2 (0x40 + n) n)) ∧
    (s.dst ≠ .d3 → ∃ u : State, exec (.powerTelemetry p) s = .next u ∧ u = { s with regs := u.regs, power := { s.power with voltLowAt := u.power.voltLowAt }, reportOut := u.reportOut } ∧
      u.power.voltLowAt = (if p.volt < 4500 then some s.now else s.power.voltLowAt) ∧ u.reportOut.inputPeak = max s.reportOut.inputPeak p.watt)

/-- R443 to R446, R453, R455: a sample of a trusted diode is the reading in use and is held against the thresholds (a Keeper has a warn threshold and no
other); a die at throttle asks one step more, to its floor, and one well below it gives one back; the row-store model moves a twentieth of the way to its
steady state; a diode that failed ten samples is broken, and its comparator no longer trips. R450 to R452: a raw diode at its trip threshold for 100 µs, or
a fitted line that reaches the threshold within the stop window, trips the device, which is then in D3 and keeps the record; a Keeper's diode switches that
Keeper alone off. R435, R459, R462 to R465: a region's die that moved by more than CAL_DELTA is recalibrated in the idle interval; CAL.CMD start begins a
pass; each hour is recorded with its Surge seconds; an ageing epoch makes every item due and never lowers a guard band nor raises a table top (that an
amendment's figures bind at once, and what an absent record reads as, are the model's choice of log entry 62). -/
def Obligations.HeatAndAgeing : Prop :=
  (
    ∀ (s : State) (die : Byte) (raw : Int) (check : Bool) (stack : Fin 40),
      let c := die.toNat
      let d := s.diode c
      let top := if 0x10 ≤ c ∧ c < 0x40 then 4 else 48
      let n := stack.val
      let m := s.diode (0x80 + n)
      let tc : Rat := ((s.diode (0x40 + n)).use : Rat) / 10
      let tb : Rat := ((s.diode 0).use : Rat) / 10
      let ps : Rat := ((s.fld (rowsReg n 0x06C) 10 10 + s.fld (rowsReg n 0x06C) 20 10 : Nat) : Rat) / 10
      let m0 : Rat := m.model.getD ((m.raw : Rat) / 10)
      let tss : Rat := tc + Config.theta n * ps + Config.beta n * (tb - tc)
      let keeper := 1 ≤ c ∧ c ≤ 3
      (s.diodeRead c = true → d.broken = false → d.suspect = false → s.stage ≠ .larva → ∃ u : State, exec (.diodeSample die raw check) s = .next u ∧
        (u.diode c).raw = raw ∧ (u.diode c).use = raw ∧ (u.diode c).valid = true ∧
        ((u.diode c).warn = true ↔ s.thresh c 0 ≤ raw ∨ (d.warn = true ∧ s.thresh c 0 - 20 < raw)) ∧
        ((u.diode c).throttle = true ↔ ¬keeper ∧ (s.thresh c 1 ≤ raw ∨ (d.throttle = true ∧ s.thresh c 1 - 20 ≤ raw))) ∧
        ((u.diode c).stop = true ↔ ¬keeper ∧ s.thresh c 2 ≤ raw) ∧
        u.mainMem = s.mainMem ∧ u.cores = s.cores ∧ u.job = s.job ∧ u.tally = s.tally) ∧
      (s.diodeRead c = false → exec (.diodeSample die raw check) s = .next s) ∧
      (s.dst = .d0 ∨ s.dst = .d1 → ¬keeper → d ≠ {} → ∃ u : State, exec .throttleStep s = .next u ∧ u = { s with diodes := u.diodes } ∧
        (s.thresh c 1 ≤ d.use → d.stepAt + 1000000 ≤ s.now → (u.diode c).steps = min top (d.steps + 1) ∧ (u.diode c).stepAt = s.now) ∧
        (d.use < s.thresh c 1 - 20 → 0 < d.steps → d.stepAt + 10000000 ≤ s.now → (u.diode c).steps = d.steps - 1 ∧ (u.diode c).stepAt = s.now) ∧
        (s.thresh c 1 - 20 ≤ d.use → d.use < s.thresh c 1 → u.diode c = d)) ∧
      (s.stackOn n = true → ∃ u : State, exec (.middleModelUpdate stack) s = .next u ∧ (u.diode (0x80 + n)).model = some (m0 + (tss - m0) / 20) ∧
        (u.diode (0x80 + n)).raw = m.raw ∧ u.rowStore = s.rowStore ∧ u.job = s.job) ∧
      (dieCodes.contains c = true → d.broken = false → 10 ≤ d.badRun ∨ 10 ≤ d.checkRun → ∃ u : State, exec (.diodeBroken die) s = .next u ∧
        (u.diode c).broken = true ∧ (u.diode c).tripSince = none ∧ (u.diode c).subst = true ∧ u.mainMem = s.mainMem ∧ u.job = s.job)) ∧
  (
    ∀ (s : State) (die : Byte) (t : Nat) (k : Fin 3),
      let c := die.toNat
      let d := s.diode c
      let kp := s.keepers.get k
      let t0 := if s.stop.cause = 0 then s.now else s.stop.t0
      let l := fitLine d.hist
      let trips := fun (i : Instr) (predicted : Bool) => ∃ u : State, exec i s = .next u ∧ u.dst = .d3 ∧ u.spineUp = false ∧
        u.trip = some { die := die, predicted := predicted } ∧ u.timebase = s.timebase ∧ u.mainMem = {} ∧ u.rowStore = {} ∧ u.coreBuf = {} ∧ u.instStore = {} ∧ u.cores = [] ∧
        u.pending = s.pending
      (d.tripSince = some t → d.broken = false → s.dst ≠ .d3 → t + 100000 ≤ s.now → ¬(1 ≤ c ∧ c ≤ 3) → trips (.thermalTrip die) false) ∧
      (d.tripSince = some t → d.broken = false → s.dst ≠ .d3 → t + 100000 ≤ s.now → c = k.val + 1 → exec (.thermalTrip die) s =
        .next { s with keepers := s.keepers.set k { kp with tripped := true, healthy := false, inSync := false, role := (if kp.role = .active ∨ kp.role = .failed then kp.role else .starting) } }) ∧
      (d.tripSince = none → exec (.thermalTrip die) s = .next s) ∧
      (dieCodes.contains c = true → d.stop = true → s.stop.stopped = false → s.dst ≠ .d3 → s.now < t0 + 500000000 → 2 ≤ d.hist.length →
        (s.thresh c 3 : Rat) ≤ l.2 + l.1 * (((t0 + 500000000 - s.now : Nat) : Rat) / 1000000) → trips (.predictedTrip die) true) ∧
      (dieCodes.contains c = true → d.stop = true → d.hist.length < 2 → exec (.predictedTrip die) s = .next s)) ∧
  (
    ∀ (s : State) (ini : Initiator) (ep : BitVec 8) (v : Word) (die : Fin 40) (m : AgeFigures),
      let c := 0x40 + die.val
      let rs := (List.range 4).map (· + 4 * die.val)
      (swf (fun _ => {}) s.regions = true → s.idleInterval = true → s.stackOn die = true → s.calDelta < ((s.diode c).use - (s.diode c).calTemp).natAbs → ∃ u : State, exec (.regionRecal die) s = .next u ∧
        (∀ r ∈ rs, (u.region r).recalDue = false) ∧ u.vault.userDue = s.vault.userDue ++ rs ∧ u.vault.amends = s.vault.amends ∧ u.job = s.job ∧ u.cores = s.cores) ∧
      (s.idleInterval = false → exec (.regionRecal die) s = .next s) ∧
      (s.takes ini ep .cal 0 0x048 → bitOf v.toNat 0 = true → exec (.calStart ini ep v) s =
        .next (({ s with calPass := { s.calPass with pending := true } } : State).answer ini 0)) ∧
      (s.takes ini ep .cal 0 0x048 → bitOf v.toNat 0 = false → exec (.calStart ini ep v) s = .next (s.answer ini 0)) ∧
      (s.dst ≠ .d3 → ∃ u : State, exec .hourCount s = .next u ∧ u.vault.hours = s.vault.hours + 1 ∧
        u.vault.surgeSecs = (s.surgeNow / 1000000000 :: s.vault.surgeSecs).take 720 ∧ u.surgeNow = s.surgeNow % 1000000000) ∧
      (s.idleInterval = true → 1000 * (s.epochs + 1) ≤ s.vault.hours → ∃ u : State, exec (.ageingEpoch m) s = .next u ∧ u.epochs = s.vault.hours / 1000 ∧
        u.calPass.pending = true ∧ u.vault.hours = s.vault.hours ∧ s.vault.amends <+: u.vault.amends ∧ u.job = s.job ∧ u.cores = s.cores) ∧
      (∀ r slow, (∀ a, (s.planRegion r slow).boundValue 0x0F r = some a → bits ((s.boundValue 0x0F r).getD (80 * 256)) 0 8 ≤ bits a 0 8 ∧
        bits a 8 8 ≤ bits ((s.boundValue 0x0F r).getD (80 * 256)) 8 8)))


/-! ## Boot, Keepers and trust -/

/-- R471, R477 to R481: release starts Ovum; a Keeper ROM records its result; the lowest Keeper that accepted the image is active and the others that did are
standbys; with none, Recovery; what RCHUNK, RCOMMIT and RSTAT do there; the writes to the flash; eclosion. -/
def Obligations.Boot : Prop :=
  ∀ (s : State) (k a : Fin 3) (f : Frame) (m : List Byte),
    let x := s.keepers.get k
    let ok := s.imageOk s.vault.image
    let b := bodyOf m
    let off := beNat (slice b 0 8)
    let n := beNat (slice b 0 4)
    let data := (s.recov.chunks.flatMap Prod.snd).take n
    let o := wordsOf data
    let code := if n % 4 ≠ 0 then 1 else s.objFault 1 o
    let verified := fun (j : Fin 3) => (s.keepers.get j).verdict = some true
    let starts := s.stage = .ovum ∧ s.rstLow = false ∧ s.dst ≠ .d3
    (s.rstLow = true → s.dst ≠ .d3 → ∃ u : State, exec .resetRelease s = .next u ∧ u.stage = .ovum ∧ u.dst = .d0 ∧ u.rstLow = false ∧
      (u.keepers.get k).role = (if s.keeperLost k then .failed else .starting) ∧ (u.keepers.get k).verdict = none) ∧
    (s.rstLow = true → s.dst = .d3 → exec .resetRelease s = .next { s with rstLow := false, power := { s.power with rising := true } }) ∧
    (starts → x.role = .starting → x.verdict = none → ∃ u : State, exec (.imageVerify k) s = .next u ∧
      u.keepers = s.keepers.set k { x with verdict := some ok, measured := beNat (sha512 (objHeader s.vault.image)) } ∧
      u.vault = (if ok then { s.vault with running := s.vault.image } else s.vault) ∧ u = { s with keepers := u.keepers, vault := u.vault }) ∧
    (starts → (∀ j : Fin 3, (s.keepers.get j).role = .failed ∨ (s.keepers.get j).verdict.isSome = true ∨ (s.keepers.get j).since + 2000000000 ≤ s.now) →
      (verified a → (∀ j : Fin 3, j < a → ¬verified j) → ∃ u : State, exec .roleAssign s = .next u ∧ u.tally.active = some a ∧ u.tally.epoch = 1 ∧
        (u.keepers.get a).role = .active ∧ (k ≠ a → verified k → (u.keepers.get k).role = .standby) ∧ (¬verified k → (u.keepers.get k).role = .failed)) ∧
      ((∀ j : Fin 3, ¬verified j) → ∃ u : State, exec .roleAssign s = .next u ∧ u.stage = .recovery ∧ u.recov = {} ∧ u.vault = s.vault)) ∧
    (s.recovMsg f 32 m = true → 9 ≤ b.length → b.length ≤ 1032 → off % 1024 = 0 → off < 16 * 2 ^ 20 → s.recov.state ≠ 3 → exec (.rchunk f m) s =
      .next { s with recov := { s.recov with chunks := sput s.recov.chunks (off / 1024) (b.drop 8), state := 1, code := 0 } }) ∧
    (s.recovMsg f 33 m = true → b.length = 4 → s.recov.state ≠ 3 → n - n % 1024 ≤ s.recov.missing → data.length = n →
      (code = 0 → exec (.rcommit f m) s = .next (({ s with recov := { s.recov with state := 3, code := 0, image := o } } : State).sendRstat f.peer)) ∧
      (code ≠ 0 → exec (.rcommit f m) s = .next (({ s with recov := { s.recov with state := 4, code := code } } : State).sendRstat f.peer))) ∧
    (s.recovMsg f 34 m = true → b = [] → exec (.rstat f m) s = .next (s.sendRstat f.peer)) ∧
    (s.stage ≠ .recovery → exec (.rchunk f m) s = .next s ∧ exec (.rcommit f m) s = .next s ∧ exec (.rstat f m) s = .next s) ∧
    (s.stage = .recovery → s.recov.state = 3 → ∃ u : State, exec .recoveryWriteComplete s = .next u ∧ u.stage = .ovum ∧ u.vault.image = s.recov.image) ∧
    (s.vault.imageDue ≠ [] → s.dst ≠ .d3 → exec .imageFlashWrite s = .next { s with vault := { s.vault with image := s.vault.imageDue, imageDue := [] } }) ∧
    (s.stage = .pupa → s.jobPhase = 2 → s.dst = .d0 → s.stop.cause = 0 → s.restart.busy = false → s.faultsDue = [] → s.calPass.awaited = false → s.job.segs.all (fun g => g.delivered) = true →
      ∃ u : State, exec .eclosion s = .next u ∧ u.stage = .imago ∧ u.jobPhase = 3 ∧ u.vault.newFolio = false ∧ u.serving.eclosed = s.now)

/-- R484 to R486, R491: a window's heartbeat counts under the epoch in force; a window without one is missed; a round's digests are compared: both voters
against the active Keeper is an out-vote, one voter alone dissents and its fourth dissent in 1 s restarts it; HEALTH and its timeout. R487, R491: a
standby's self-test is counted, and one that fails restarts it, the third in a row for good; a restarted Keeper whose copy of the image verifies takes its
role. -/
def Obligations.TallyRounds : Prop :=
  (
    ∀ (s : State) (k a v w : Fin 3) (ep : Byte) (window round : Word) (d word : Dword),
      let t := s.tally
      let r := s.now / 1000000
      let dg := fun (j : Fin 3) => (s.keepers.get j).digestOf (r - 1)
      let x := s.keepers.get v
      let ds := x.dissents.filter (fun q => decide (s.now < q + 1000000000)) ++ [s.now]
      let compared := fun (u : State) (out : Nat) => u.tally = { t with round := r, outRow := out } ∧ u.mainMem = s.mainMem ∧ u.job = s.job ∧ u.vault = s.vault
      s.tallyRuns = true →
      (window.toNat = s.now / 100000 % 2 ^ 32 → t.active = some k → t.demotion = none → exec (.heartbeat k t.epoch window) s = .next { s with tally := { t with beat := true } }) ∧
      (t.active ≠ some k ∨ (t.demotion = none ∧ ep ≠ t.epoch) → exec (.heartbeat k ep window) s = .next s) ∧
      (t.window < s.now / 100000 → t.beat = true → exec .heartbeatWindowEnd s = .next { s with tally := { t with window := s.now / 100000, beat := false, missed := 0 } }) ∧
      (t.window < s.now / 100000 → t.beat = false → exec .heartbeatWindowEnd s =
        .next (({ s with tally := { t with window := s.now / 100000, beat := false, missed := t.missed + 1 } } : State).bump (tallyReg 0x058) 0 16 1)) ∧
      (round.toNat = (r - 1) % 2 ^ 32 → s.now % 1000000 ≤ 500000 → t.round < r → exec (.digest k round d) s =
        .next { s with keepers := s.keepers.set k { s.keepers.get k with digest := some (r - 1, d) } }) ∧
      (t.active = some a → v ≠ w → v ≠ a → w ≠ a → (s.keepers.get v).votes = true → (s.keepers.get w).votes = true → t.round < r → 500000 ≤ s.now % 1000000 →
        ((dg v).isSome = true → dg w = dg v → dg a ≠ dg v → ∃ u : State, exec .decisionRoundCompare s = .next u ∧ compared u (t.outRow + 1) ∧
          u.keepers = s.keepers.map (fun y => { y with digest := none })) ∧
        (dg w = dg v → dg a = dg v → ∃ u : State, exec .decisionRoundCompare s = .next u ∧ compared u 0 ∧ u.keepers = s.keepers.map (fun y => { y with digest := none })) ∧
        ((dg v).isSome = true → (dg w).isSome = true → dg w = dg a → dg v ≠ dg w → ∃ u : State, exec .decisionRoundCompare s = .next u ∧ compared u 0 ∧
          (ds.length < 4 → (u.keepers.get v).dissents = ds ∧ (u.keepers.get v).role = x.role) ∧
          (4 ≤ ds.length → (u.keepers.get v).role = .starting ∧ (u.keepers.get v).healthy = false ∧ (u.keepers.get v).after = x.role))) ∧
      ((s.keepers.get k).role ≠ .failed → (s.keepers.get k).role ≠ .starting → exec (.health k word) s =
        .next { s with keepers := s.keepers.set k { s.keepers.get k with lastHealth := s.now, word := word, healthy := true } }) ∧
      ((s.keepers.get k).role = .standby ∨ (s.keepers.get k).role = .held → (s.keepers.get k).healthy = true → (s.keepers.get k).lastHealth + 3000000000 ≤ s.now →
        exec (.healthTimeout k) s = .next (({ s with keepers := s.keepers.set k { s.keepers.get k with healthy := false } } : State).irq .keeper k 2))) ∧
  (
    ∀ (s : State) (k : Fin 3) (good : Bool),
      let x := s.keepers.get k
      s.tallyRuns = true →
      (x.role = .standby ∨ x.role = .held → x.lastTest = 0 ∨ x.lastTest + 10000000000 ≤ s.now →
        (∃ u : State, exec (.keeperSelfTest k true) s = .next u ∧ u.keepers = s.keepers.set k { x with passed := true, lastTest := s.now, testFails := 0 } ∧ u.tally = s.tally) ∧
        (x.testFails < 2 → ∃ u : State, exec (.keeperSelfTest k false) s = .next u ∧ (u.keepers.get k).role = .starting ∧ (u.keepers.get k).testFails = x.testFails + 1 ∧
          (u.keepers.get k).inSync = false ∧ (u.keepers.get k).after = x.role ∧ u.vault = s.vault) ∧
        (2 ≤ x.testFails → ∃ u : State, exec (.keeperSelfTest k false) s = .next u ∧ (u.keepers.get k).role = .failed ∧ s.vault.amends.length < u.vault.amends.length)) ∧
      (x.role = .starting → x.tripped = false → x.verdict ≠ some true →
        (s.imageOk s.vault.running = true → s.stage ≠ .imago ∨ s.jobPhase ≠ 3 → ∃ u : State, exec (.keeperRestart k true) s = .next u ∧ (u.keepers.get k).role = x.after ∧
          (u.keepers.get k).healthy = true ∧ (u.keepers.get k).inSync = true ∧ (u.keepers.get k).verdict = some true ∧ u.tally = s.tally ∧ u.vault = s.vault) ∧
        (s.imageOk s.vault.running = true → s.stage = .imago → s.jobPhase = 3 → exec (.keeperRestart k true) s =
          .next { s with keepers := s.keepers.set k { x with verdict := some true, since := s.now, lastHealth := s.now, dissents := [] } }) ∧
        (good = false ∨ s.imageOk s.vault.running = false → x.restartFails < 2 → exec (.keeperRestart k good) s =
          .next { s with keepers := s.keepers.set k { x with restartFails := x.restartFails + 1 } }) ∧
        (good = false ∨ s.imageOk s.vault.running = false → 2 ≤ x.restartFails → ∃ u : State, exec (.keeperRestart k good) s = .next u ∧ (u.keepers.get k).role = .failed)))

/-- R487 to R490, R532: a demotion sends ROLE active to the successor and HOLD to the old active Keeper and keeps the epoch; the successor's heartbeat answers
it; HOLD's acknowledgement, or 20 µs, brings the next epoch and the old active Keeper's restart; with no successor the device starts from Ovum; the successor
goes on from the last copy, and runs a restart in progress again; PROMOTE asks for a demotion. -/
def Obligations.Demotions : Prop :=
  ∀ (s : State) (a k : Fin 3) (d : Demotion) (ini : Initiator) (ep : BitVec 8) (v : Word),
    let t := s.tally
    let e := nextEpoch t.epoch
    let bumped := fun (u : State) => u.tally = { t with epoch := e, demotion := none, rewrite := some d.new } ∧ (u.keepers.get d.old).role = .starting ∧
      (u.keepers.get d.old).verdict = none ∧ (u.keepers.get d.old).healthy = false ∧ (u.keepers.get d.old).after = (if d.cause = 3 then .standby else .held) ∧ u.vault = s.vault ∧ u.job = s.job
    let c := s.demoteCause
    let rewritten : State := { s with
      tally := { t with rewrite := none }
      serving := { s.serving with reqs := s.serving.copy.reqs, queue := s.serving.copy.queue, tx := s.serving.copy.tx.map (fun q => (q.1, q.2 + 2 ^ 20)), sent := [] } }
    (t.active = some a → c ≠ 0 → s.tallyRuns = true → t.demotion = none →
      (s.successor c = some k → k ≠ a → ∃ u : State, exec .demotion s = .next u ∧ u.tally.active = some k ∧ u.tally.epoch = t.epoch ∧
        u.tally.demotion = some { t0 := s.now, old := a, new := k, cause := c } ∧ u.tally.missed = 0 ∧ u.tally.outRow = 0 ∧ u.tally.promote = none ∧
        (u.keepers.get k).role = .active ∧ (u.keepers.get a).role = .standby ∧ (u.keepers.get a).inSync = false ∧ u.staging = {} ∧
        u.out = s.out ++ [.tally 4 k e 0 1, .tally 5 a e 0 0] ∧ u.job = s.job ∧ u.vault = s.vault) ∧
      (s.successor c = none → c ≠ 3 → ∃ u : State, exec .demotion s = .next u ∧ u.stage = .ovum ∧ u.tally.active = none ∧ u.jobPhase = 0) ∧
      (s.successor c = none → c = 3 → exec .demotion s = .next { s with tally := { t with promote := none } })) ∧
    (t.demotion = some d → d.new = k → d.answered = false → exec (.role k) s =
      .next (({ s with tally := { t with demotion := some { d with answered := true }, beat := true } } : State).emit (.tally 1 k e (s.now / 100000) 0))) ∧
    (t.demotion = some d → d.old = k → (s.keepers.get k).tripped = false → ∃ u : State, exec (.hold k) s = .next u ∧ bumped u) ∧
    (t.demotion = some d → d.t0 + 20000 ≤ s.now → ∃ u : State, exec .epochBump s = .next u ∧ bumped u) ∧
    (t.demotion = some d → s.now < d.t0 + 20000 → exec .epochBump s = .next s) ∧
    (t.rewrite = some k → s.jobPhase = 0 → exec .successorRewrite s = .next { s with tally := { t with rewrite := none } }) ∧
    (t.rewrite = some k → s.jobPhase ≠ 0 → s.serving.copy.sent = [] →
      (s.restart.busy = false → exec .successorRewrite s = .next rewritten) ∧ (s.restart.busy = true → exec .successorRewrite s = .next rewritten.restartRun)) ∧
    (s.takes ini ep .tally 0 0x048 → v.toNat % 4 = k.val →
      (bits v.toNat 8 8 = 0xA5 → (s.keepers.get k).role = .standby ∨ (s.keepers.get k).role = .held → t.demotion = none → exec (.promote ini ep v) s =
        .next (({ s with tally := { t with promote := some k } } : State).answer ini 0)) ∧
      (bits v.toNat 8 8 ≠ 0xA5 → exec (.promote ini ep v) s = .next ((s.errCount .tally 0 2).answer ini 0)))

/-- R476, R492, R512: the object window: begin, data, commit and abort by the initiator that stages; another's begin is refused as busy and leaves the staging;
a commit that fails a check is refused under its code, and discarded; a report that is ready is read word by word. R495, R496, R506, R512: a pending folio
is applied with no job loaded and becomes current, the one before it prior; a fold back restores the prior folio and rejects the other; what the commands
of FOLIO.CMD do. -/
def Obligations.ObjectsAndFolios : Prop :=
  (
    ∀ (s : State) (ini : Initiator) (ep : BitVec 8) (kind : BitVec 3) (v w : Word) (rest : List Word),
      let does := fun (c : Instr) (t : State) => exec c s = .next (t.answer ini 0)
      let ko := s.staging.kind
      let o := s.staging.words
      let code := s.stagedFault ini ko o
      let mine := s.staging.state = 1 ∧ s.staging.ini = iniCode ini
      let another := s.staging.state = 1 ∧ s.staging.ini ≠ iniCode ini
      (s.takes ini ep .folio 0 0x058 → s.stage ≠ .ovum → kind ≠ 0 → kind ≠ 7 →
        (¬another → does (.objBegin ini ep kind) { s with staging := { state := 1, ini := iniCode ini, kind := kind.toNat } }) ∧
        (another → does (.objBegin ini ep kind) (({ s with staging := { s.staging with code := 7 } } : State).irq .folio 0 1))) ∧
      (s.takes ini ep .folio 0 0x058 → s.stage = .ovum ∨ kind = 0 ∨ kind = 7 → does (.objBegin ini ep kind) (s.errCount .folio 0 2)) ∧
      (s.takes ini ep .folio 0 0x05C →
        (mine → does (.objDataWrite ini ep v) { s with staging := { s.staging with words := o ++ [v] } }) ∧ (¬mine → does (.objDataWrite ini ep v) (s.errCount .folio 0 2))) ∧
      (s.takes ini ep .folio 0 0x058 →
        (¬mine → does (.objCommit ini ep) (s.errCount .folio 0 2)) ∧
        (mine → ko < 5 → code ≠ 0 → does (.objCommit ini ep) (s.objRefuse code 0 0)) ∧
        (∀ sec reason, mine → ko < 5 → code = 0 → s.contentFault ko o = some (sec, reason) → does (.objCommit ini ep) (s.objRefuse 9 sec reason)) ∧
        (mine → ko = 1 → code = 0 → s.stage ≠ .recovery → does (.objCommit ini ep) { s.objAccept with vault := { s.vault with imageDue := o } }) ∧
        (mine → ko = 4 → code = 0 → s.contentFault 4 o = none → ∃ u : State, does (.objCommit ini ep) u ∧ u.vault.enrolKeys = secBody o 0x60 ∧
          u.vault.enrolled.length = s.vault.enrolled.length + 1 ∧ u.staging.state = 3) ∧
        (mine → ko = 6 → s.kindAccepted ini 6 = true → o = [] → does (.objCommit ini ep)
          (({ s with staging := { s.staging with state := 5, code := 0, words := s.reportOut.report } } : State).irq .folio 0 0)) ∧
        (¬another → does (.objAbort ini ep) { s with staging := {} }) ∧ (another → does (.objAbort ini ep) (s.errCount .folio 0 2))) ∧
      (s.pageAnswers .folio 0 = true → s.staging.state = 5 → o = w :: rest → exec (.objDataRead ini) s =
        .next (({ s with staging := { s.staging with words := rest } } : State).emit (.reply ini (some w))))) ∧
  (
    ∀ (s : State) (ini : Initiator) (ep : BitVec 8),
      let does := fun (c : Instr) (t : State) => exec c s = .next (t.answer ini 0)
      let v := s.vault
      (v.pendingFolio ≠ [] → s.jobPhase = 0 → s.stage = .pupa → s.stop.cause = 0 → s.dst = .d0 → ∃ u : State, exec .folioApply s = .next u ∧
        u.vault.folio = v.pendingFolio ∧ u.vault.prior = v.folio ∧ u.vault.pendingFolio = [] ∧ u.stage = .larva ∧ u.warm = true) ∧
      (v.pendingFolio ≠ [] → s.jobPhase ≠ 0 → exec .folioApply s = .next s) ∧
      (s.foldDue = true → v.prior ≠ [] → v.priorRejected = false → ∃ u : State, exec .foldBack s = .next u ∧
        u.vault.folio = v.prior ∧ u.vault.prior = v.folio ∧ u.vault.priorRejected = true ∧ u.stage = .larva ∧ u.jobPhase = 0) ∧
      (s.foldDue = false → exec .foldBack s = .next s) ∧
      (s.takes ini ep .folio 0 0x054 →
        (v.prior ≠ [] → v.priorRejected = false → does (.foldBackCmd ini ep) { s with vault := { v with foldBackAsked := true } }) ∧
        (v.prior = [] ∨ v.priorRejected = true → does (.foldBackCmd ini ep) (s.errCount .folio 0 2)) ∧
        (s.jobPhase = 0 → does (.unload ini ep) (s.errCount .folio 0 2)) ∧
        (s.jobPhase ≠ 0 → s.stop.stopped = false → s.stop.cause = 0 → does (.unload ini ep) (s.stopBegin 6 0)) ∧
        (s.jobPhase ≠ 0 → s.stop.stopped = false → s.stop.cause ≠ 0 → s.stop.cause ≠ 6 → does (.unload ini ep) { s with stop := { s.stop with abandon := true } }) ∧
        (s.jobPhase ≠ 0 → s.stop.stopped = true → v.foldBackAsked = false → ∃ u : State, does (.unload ini ep) u ∧ u.jobPhase = 0 ∧ u.job = {} ∧ u.stage = .pupa ∧ u.stop = s.stop) ∧
        (s.jobPhase = 0 → ∃ u : State, does (.resetToOvum ini ep) u ∧ u.stage = .ovum ∧ u.vault.folio = v.folio ∧ u.tally.active = none) ∧
        (s.jobPhase ≠ 0 → does (.resetToOvum ini ep) (s.errCount .folio 0 2))))

/-- R271, R423, R528, R530, R557, R564, R566: power-up and reset by pin; the TAP's instructions; a standby laser that is ready; and the health report of each
second. -/
def Obligations.PinsAndReports : Prop :=
  ∀ (s : State) (pins load : BitVec 80) (lsm : Fin 7) (outs : BitVec 4) (line : Fin 41) (f : Nat),
    let tapped := fun (c : Instr) (x : Tap) => exec c s = .next { s with tap := x }
    let y := s.line f line
    (s.dst = .d3 → exec .inputRise s = .next { s with trip := none, power := { s.power with rising := true } }) ∧
    (s.dst = .d3 → s.power.rising = true → s.rstLow = false → ∃ u : State, exec .alwaysOnStart s = .next u ∧ u.dst = .d0 ∧ u.stage = .ovum ∧ u.timebase = 0 ∧ u.power.rising = false) ∧
    (s.dst = .d3 → s.power.rising = true → s.rstLow = true → ∃ u : State, exec .alwaysOnStart s = .next u ∧ u.dst = .d0 ∧ u.stage = s.stage ∧ u.timebase = 0 ∧ u.rstLow = true) ∧
    (s.dst ≠ .d3 → ∃ u : State, exec .resetAssert s = .next u ∧ u.rstLow = true ∧ u.timebase = s.timebase ∧ u.trip = s.trip ∧ u.spineUp = false ∧ u.cores = [] ∧ u.mainMem = {} ∧
      u.rowStore = {} ∧ u.mgmt = State.reset.mgmt ∧ u.vault.folio = s.vault.folio) ∧
    (s.dst = .d3 → exec .resetAssert s = .next { s with rstLow := true }) ∧
    tapped .tapBypass { s.tap with ir := .bypass } ∧ tapped .tapIdcode { s.tap with ir := .idcode } ∧ tapped .testLogicReset { s.tap with ir := .idcode } ∧
    tapped (.tapSamplePreload pins load) { ir := .sample, captured := pins, loaded := load } ∧
    (s.rstLow = true → exec .tapExtest s = .next (({ s with tap := { s.tap with ir := .extest } } : State).emit (.bpins s.tap.loaded))) ∧
    (s.rstLow = false → tapped .tapExtest { s.tap with ir := .bypass }) ∧
    (f ∈ lsmFibres lsm outs → line.val < fibreLines f → y.standbyLit = true → y.ready = false → ∃ u : State, exec (.lsmStandbyReady lsm outs line) s = .next u ∧
      (u.line f line).ready = true ∧ (u.line f line).mode = y.mode ∧ u = { s with lines := u.lines }) ∧
    (s.tally.active.isSome = true → s.stage ≠ .ovum → s.stage ≠ .recovery → s.dst ≠ .d3 → ∃ u : State, exec .healthReportForm s = .next u ∧ u.reportOut.num = s.reportOut.num + 1 ∧
      u.reportOut.records = s.reportOut.records ∧ u.reportOut.inputPeak = 0 ∧ u.reportOut.figs = [] ∧ u.reportOut.busy = 0 ∧ u.job = s.job ∧ u.mainMem = s.mainMem)
end

