-- ==== Sys2Proof/Laws/Dispatch.lean ====
section
/-!
SUPPORT. Sys2Proof/Laws/Dispatch.lean: what `exec` calls for each constructor, so that no proof unfolds the dispatch.
-/
namespace Sys2Proof.Machine

@[simp] theorem exec_registerWrite {ini ep addr data} (s) : exec (.registerWrite ini ep addr data) s = execRegisterWrite ini ep addr data s := rfl
@[simp] theorem exec_rcRead {ini addr} (s) : exec (.rcRead ini addr) s = execRcRead ini addr s := rfl
@[simp] theorem exec_lowHalfRead {ini addr} (s) : exec (.lowHalfRead ini addr) s = execLowHalfRead ini addr s := rfl
@[simp] theorem exec_highHalfRead {ini addr} (s) : exec (.highHalfRead ini addr) s = execHighHalfRead ini addr s := rfl
@[simp] theorem exec_highHalfWrite {ini ep addr data} (s) : exec (.highHalfWrite ini ep addr data) s = execHighHalfWrite ini ep addr data s := rfl
@[simp] theorem exec_lowHalfWrite {ini ep addr data} (s) : exec (.lowHalfWrite ini ep addr data) s = execLowHalfWrite ini ep addr data s := rfl
@[simp] theorem exec_softReset {ini ep page} (s) : exec (.softReset ini ep page) s = execSoftReset ini ep page s := rfl
@[simp] theorem exec_pageLock {ini ep page} (s) : exec (.pageLock ini ep page) s = execPageLock ini ep page s := rfl
@[simp] theorem exec_pageUnlock {ini ep page} (s) : exec (.pageUnlock ini ep page) s = execPageUnlock ini ep page s := rfl
@[simp] theorem exec_pageIrqForce {ini ep page bits} (s) : exec (.pageIrqForce ini ep page bits) s = execPageIrqForce ini ep page bits s := rfl
@[simp] theorem exec_bcastWrite {ini ep addr data} (s) : exec (.bcastWrite ini ep addr data) s = execBcastWrite ini ep addr data s := rfl
@[simp] theorem exec_irqTelemetry {page} (s) : exec (.irqTelemetry page) s = execIrqTelemetry page s := rfl
@[simp] theorem exec_irqPeriodicMessage {page} (s) : exec (.irqPeriodicMessage page) s = execIrqPeriodicMessage page s := rfl
@[simp] theorem exec_i3cPointerWrite {addr} (s) : exec (.i3cPointerWrite addr) s = execI3cPointerWrite addr s := rfl
@[simp] theorem exec_i3cWordWrite {addr words} (s) : exec (.i3cWordWrite addr words) s = execI3cWordWrite addr words s := rfl
@[simp] theorem exec_i3cPrivateRead {n} (s) : exec (.i3cPrivateRead n) s = execI3cPrivateRead n s := rfl
@[simp] theorem exec_entdaa {dyn} (s) : exec (.entdaa dyn) s = execEntdaa dyn s := rfl
@[simp] theorem exec_setdasa {dyn} (s) : exec (.setdasa dyn) s = execSetdasa dyn s := rfl
@[simp] theorem exec_bundleIssue {core ctx} (s) : exec (.bundleIssue core ctx) s = execBundleIssue core ctx s := rfl
@[simp] theorem exec_nop {core ctx slot low} (s) : exec (.nop core ctx slot low) s = execNop core ctx slot low s := rfl
@[simp] theorem exec_endCmd {core ctx} (s) : exec (.endCmd core ctx) s = execEndCmd core ctx s := rfl
@[simp] theorem exec_fence {core ctx} (s) : exec (.fence core ctx) s = execFence core ctx s := rfl
@[simp] theorem exec_wait {core ctx ra ctr} (s) : exec (.wait core ctx ra ctr) s = execWait core ctx ra ctr s := rfl
@[simp] theorem exec_sig {core ctx ctr} (s) : exec (.sig core ctx ctr) s = execSig core ctx ctr s := rfl
@[simp] theorem exec_rdctr {core ctx rd ctr} (s) : exec (.rdctr core ctx rd ctr) s = execRdctr core ctx rd ctr s := rfl
@[simp] theorem exec_cwait {core ctx n} (s) : exec (.cwait core ctx n) s = execCwait core ctx n s := rfl
@[simp] theorem exec_twait {core ctx ra} (s) : exec (.twait core ctx ra) s = execTwait core ctx ra s := rfl
@[simp] theorem exec_rdtb {core ctx rd} (s) : exec (.rdtb core ctx rd) s = execRdtb core ctx rd s := rfl
@[simp] theorem exec_ldi {core ctx rd imm} (s) : exec (.ldi core ctx rd imm) s = execLdi core ctx rd imm s := rfl
@[simp] theorem exec_addi {core ctx rd ra imm} (s) : exec (.addi core ctx rd ra imm) s = execAddi core ctx rd ra imm s := rfl
@[simp] theorem exec_add {core ctx rd ra rb} (s) : exec (.add core ctx rd ra rb) s = execAdd core ctx rd ra rb s := rfl
@[simp] theorem exec_sub {core ctx rd ra rb} (s) : exec (.sub core ctx rd ra rb) s = execSub core ctx rd ra rb s := rfl
@[simp] theorem exec_and {core ctx rd ra rb} (s) : exec (.and core ctx rd ra rb) s = execAnd core ctx rd ra rb s := rfl
@[simp] theorem exec_or {core ctx rd ra rb} (s) : exec (.or core ctx rd ra rb) s = execOr core ctx rd ra rb s := rfl
@[simp] theorem exec_xor {core ctx rd ra rb} (s) : exec (.xor core ctx rd ra rb) s = execXor core ctx rd ra rb s := rfl
@[simp] theorem exec_shl {core ctx rd ra rb} (s) : exec (.shl core ctx rd ra rb) s = execShl core ctx rd ra rb s := rfl
@[simp] theorem exec_shr {core ctx rd ra rb} (s) : exec (.shr core ctx rd ra rb) s = execShr core ctx rd ra rb s := rfl
@[simp] theorem exec_mul {core ctx rd ra rb} (s) : exec (.mul core ctx rd ra rb) s = execMul core ctx rd ra rb s := rfl
@[simp] theorem exec_jmp {core ctx target} (s) : exec (.jmp core ctx target) s = execJmp core ctx target s := rfl
@[simp] theorem exec_br {core ctx ra rb cond target} (s) : exec (.br core ctx ra rb cond target) s = execBr core ctx ra rb cond target s := rfl
@[simp] theorem exec_dbnz {core ctx ra target} (s) : exec (.dbnz core ctx ra target) s = execDbnz core ctx ra target s := rfl
@[simp] theorem exec_hld {core ctx rd ra size} (s) : exec (.hld core ctx rd ra size) s = execHld core ctx rd ra size s := rfl
@[simp] theorem exec_hst {core ctx rs ra size} (s) : exec (.hst core ctx rs ra size) s = execHst core ctx rs ra size s := rfl
@[simp] theorem exec_hatAdd {core ctx rd ra rb size} (s) : exec (.hatAdd core ctx rd ra rb size) s = execHatAdd core ctx rd ra rb size s := rfl
@[simp] theorem exec_hatMin {core ctx rd ra rb size} (s) : exec (.hatMin core ctx rd ra rb size) s = execHatMin core ctx rd ra rb size s := rfl
@[simp] theorem exec_hatMax {core ctx rd ra rb size} (s) : exec (.hatMax core ctx rd ra rb size) s = execHatMax core ctx rd ra rb size s := rfl
@[simp] theorem exec_hatSwap {core ctx rd ra rb size} (s) : exec (.hatSwap core ctx rd ra rb size) s = execHatSwap core ctx rd ra rb size s := rfl
@[simp] theorem exec_hatCas {core ctx rd ra rb size} (s) : exec (.hatCas core ctx rd ra rb size) s = execHatCas core ctx rd ra rb size s := rfl
@[simp] theorem exec_hatFadd {core ctx rd ra rb size} (s) : exec (.hatFadd core ctx rd ra rb size) s = execHatFadd core ctx rd ra rb size s := rfl
@[simp] theorem exec_xpost {core ctx ra} (s) : exec (.xpost core ctx ra) s = execXpost core ctx ra s := rfl
@[simp] theorem exec_kinc {core ctx kettle} (s) : exec (.kinc core ctx kettle) s = execKinc core ctx kettle s := rfl
@[simp] theorem exec_mcfg {core ctx} (s) : exec (.mcfg core ctx) s = execMcfg core ctx s := rfl
@[simp] theorem exec_mlcb {core ctx} (s) : exec (.mlcb core ctx) s = execMlcb core ctx s := rfl
@[simp] theorem exec_mma {core ctx} (s) : exec (.mma core ctx) s = execMma core ctx s := rfl
@[simp] theorem exec_mst {core ctx} (s) : exec (.mst core ctx) s = execMst core ctx s := rfl
@[simp] theorem exec_mld {core ctx} (s) : exec (.mld core ctx) s = execMld core ctx s := rfl
@[simp] theorem exec_rmld {core ctx} (s) : exec (.rmld core ctx) s = execRmld core ctx s := rfl
@[simp] theorem exec_rmst {core ctx} (s) : exec (.rmst core ctx) s = execRmst core ctx s := rfl
@[simp] theorem exec_rmx {core ctx} (s) : exec (.rmx core ctx) s = execRmx core ctx s := rfl
@[simp] theorem exec_vadd {core ctx} (s) : exec (.vadd core ctx) s = execVadd core ctx s := rfl
@[simp] theorem exec_vsub {core ctx} (s) : exec (.vsub core ctx) s = execVsub core ctx s := rfl
@[simp] theorem exec_vmul {core ctx} (s) : exec (.vmul core ctx) s = execVmul core ctx s := rfl
@[simp] theorem exec_vmax {core ctx} (s) : exec (.vmax core ctx) s = execVmax core ctx s := rfl
@[simp] theorem exec_vmin {core ctx} (s) : exec (.vmin core ctx) s = execVmin core ctx s := rfl
@[simp] theorem exec_vfma {core ctx} (s) : exec (.vfma core ctx) s = execVfma core ctx s := rfl
@[simp] theorem exec_vsmul {core ctx} (s) : exec (.vsmul core ctx) s = execVsmul core ctx s := rfl
@[simp] theorem exec_vsadd {core ctx} (s) : exec (.vsadd core ctx) s = execVsadd core ctx s := rfl
@[simp] theorem exec_vexp2 {core ctx} (s) : exec (.vexp2 core ctx) s = execVexp2 core ctx s := rfl
@[simp] theorem exec_vlog2 {core ctx} (s) : exec (.vlog2 core ctx) s = execVlog2 core ctx s := rfl
@[simp] theorem exec_vrcp {core ctx} (s) : exec (.vrcp core ctx) s = execVrcp core ctx s := rfl
@[simp] theorem exec_vrsqrt {core ctx} (s) : exec (.vrsqrt core ctx) s = execVrsqrt core ctx s := rfl
@[simp] theorem exec_vabs {core ctx} (s) : exec (.vabs core ctx) s = execVabs core ctx s := rfl
@[simp] theorem exec_vneg {core ctx} (s) : exec (.vneg core ctx) s = execVneg core ctx s := rfl
@[simp] theorem exec_vmov {core ctx} (s) : exec (.vmov core ctx) s = execVmov core ctx s := rfl
@[simp] theorem exec_vcvt {core ctx} (s) : exec (.vcvt core ctx) s = execVcvt core ctx s := rfl
@[simp] theorem exec_vrsum {core ctx} (s) : exec (.vrsum core ctx) s = execVrsum core ctx s := rfl
@[simp] theorem exec_vrmax {core ctx} (s) : exec (.vrmax core ctx) s = execVrmax core ctx s := rfl
@[simp] theorem exec_vtopk {core ctx} (s) : exec (.vtopk core ctx) s = execVtopk core ctx s := rfl
@[simp] theorem exec_vsamp {core ctx} (s) : exec (.vsamp core ctx) s = execVsamp core ctx s := rfl
@[simp] theorem exec_vrng {core ctx} (s) : exec (.vrng core ctx) s = execVrng core ctx s := rfl
@[simp] theorem exec_engineCommandComplete {core eng} (s) : exec (.engineCommandComplete core eng) s = execEngineCommandComplete core eng s := rfl
@[simp] theorem exec_waitTmo {core ctx slot} (s) : exec (.waitTmo core ctx slot) s = execWaitTmo core ctx slot s := rfl
@[simp] theorem exec_dStart {ini ep core} (s) : exec (.dStart ini ep core) s = execDStart ini ep core s := rfl
@[simp] theorem exec_pStart {ini ep core} (s) : exec (.pStart ini ep core) s = execPStart ini ep core s := rfl
@[simp] theorem exec_dAbort {ini ep core} (s) : exec (.dAbort ini ep core) s = execDAbort ini ep core s := rfl
@[simp] theorem exec_pPreempt {ini ep core} (s) : exec (.pPreempt ini ep core) s = execPPreempt ini ep core s := rfl
@[simp] theorem exec_pResume {ini ep core} (s) : exec (.pResume ini ep core) s = execPResume ini ep core s := rfl
@[simp] theorem exec_clearCtr {ini ep core} (s) : exec (.clearCtr ini ep core) s = execClearCtr ini ep core s := rfl
@[simp] theorem exec_abortDrainComplete {core} (s) : exec (.abortDrainComplete core) s = execAbortDrainComplete core s := rfl
@[simp] theorem exec_parkComplete {core} (s) : exec (.parkComplete core) s = execParkComplete core s := rfl
@[simp] theorem exec_ctxBanksWrite {ini ep core dBanks pBanks} (s) : exec (.ctxBanksWrite ini ep core dBanks pBanks) s = execCtxBanksWrite ini ep core dBanks pBanks s := rfl
@[simp] theorem exec_gRegisterWrite {ini ep core ctx reg v} (s) : exec (.gRegisterWrite ini ep core ctx reg v) s = execGRegisterWrite ini ep core ctx reg v s := rfl
@[simp] theorem exec_rowGrant {stack bank} (s) : exec (.rowGrant stack bank) s = execRowGrant stack bank s := rfl
@[simp] theorem exec_rowScrub {stack} (s) : exec (.rowScrub stack) s = execRowScrub stack s := rfl
@[simp] theorem exec_spareRowRemap {stack bank row} (s) : exec (.spareRowRemap stack bank row) s = execSpareRowRemap stack bank row s := rfl
@[simp] theorem exec_bondFailDeclare {stack kind grp pos} (s) : exec (.bondFailDeclare stack kind grp pos) s = execBondFailDeclare stack kind grp pos s := rfl
@[simp] theorem exec_bondRepair {stack kind place} (s) : exec (.bondRepair stack kind place) s = execBondRepair stack kind place s := rfl
@[simp] theorem exec_halfRowEntry {stack} (s) : exec (.halfRowEntry stack) s = execHalfRowEntry stack s := rfl
@[simp] theorem exec_governorTick {stack} (s) : exec (.governorTick stack) s = execGovernorTick stack s := rfl
@[simp] theorem exec_powerSample {stack compute rowStore base} (s) : exec (.powerSample stack compute rowStore base) s = execPowerSample stack compute rowStore base s := rfl
@[simp] theorem exec_capLimitWrite {ini ep stack sustained surge} (s) : exec (.capLimitWrite ini ep stack sustained surge) s = execCapLimitWrite ini ep stack sustained surge s := rfl
@[simp] theorem exec_surgeGrantWrite {ini ep stack grant} (s) : exec (.surgeGrantWrite ini ep stack grant) s = execSurgeGrantWrite ini ep stack grant s := rfl
@[simp] theorem exec_mrd {src tag grp blk first count} (s) : exec (.mrd src tag grp blk first count) s = execMrd src tag grp blk first count s := rfl
@[simp] theorem exec_mwr {src tag grp blk chunk data} (s) : exec (.mwr src tag grp blk chunk data) s = execMwr src tag grp blk chunk data s := rfl
@[simp] theorem exec_mwrp {src tag grp addr len data} (s) : exec (.mwrp src tag grp addr len data) s = execMwrp src tag grp addr len data s := rfl
@[simp] theorem exec_mcas {src tag addr expected new} (s) : exec (.mcas src tag addr expected new) s = execMcas src tag addr expected new s := rfl
@[simp] theorem exec_memCommandIssue {chan} (s) : exec (.memCommandIssue chan) s = execMemCommandIssue chan s := rfl
@[simp] theorem exec_mrsp {dst tag chunk data} (s) : exec (.mrsp dst tag chunk data) s = execMrsp dst tag chunk data s := rfl
@[simp] theorem exec_mwack {dst tag chunk} (s) : exec (.mwack dst tag chunk) s = execMwack dst tag chunk s := rfl
@[simp] theorem exec_mpoison {dst tag chunk} (s) : exec (.mpoison dst tag chunk) s = execMpoison dst tag chunk s := rfl
@[simp] theorem exec_mcasr {dst tag found success} (s) : exec (.mcasr dst tag found success) s = execMcasr dst tag found success s := rfl
@[simp] theorem exec_memScrub {chan} (s) : exec (.memScrub chan) s = execMemScrub chan s := rfl
@[simp] theorem exec_refreshDue {chan bank} (s) : exec (.refreshDue chan bank) s = execRefreshDue chan bank s := rfl
@[simp] theorem exec_refreshRateChange {chan rate} (s) : exec (.refreshRateChange chan rate) s = execRefreshRateChange chan rate s := rfl
@[simp] theorem exec_channelRetrain {chan good} (s) : exec (.channelRetrain chan good) s = execChannelRetrain chan good s := rfl
@[simp] theorem exec_retrainDeadline {chan good} (s) : exec (.retrainDeadline chan good) s = execRetrainDeadline chan good s := rfl
@[simp] theorem exec_memoryTraining {tries} (s) : exec (.memoryTraining tries) s = execMemoryTraining tries s := rfl
@[simp] theorem exec_phyPllAlarm {phy persists} (s) : exec (.phyPllAlarm phy persists) s = execPhyPllAlarm phy persists s := rfl
@[simp] theorem exec_sieveSeal {unit} (s) : exec (.sieveSeal unit) s = execSieveSeal unit s := rfl
@[simp] theorem exec_sieveQuery {unit} (s) : exec (.sieveQuery unit) s = execSieveQuery unit s := rfl
@[simp] theorem exec_svop {unit src tag blk chunk data} (s) : exec (.svop unit src tag blk chunk data) s = execSvop unit src tag blk chunk data s := rfl
@[simp] theorem exec_svdone {stack tag status} (s) : exec (.svdone stack tag status) s = execSvdone stack tag status s := rfl
@[simp] theorem exec_chainActivate {stack} (s) : exec (.chainActivate stack) s = execChainActivate stack s := rfl
@[simp] theorem exec_descriptorFetched {stack place} (s) : exec (.descriptorFetched stack place) s = execDescriptorFetched stack place s := rfl
@[simp] theorem exec_pieceIssue {stack} (s) : exec (.pieceIssue stack) s = execPieceIssue stack s := rfl
@[simp] theorem exec_walkStep {unit walk} (s) : exec (.walkStep unit walk) s = execWalkStep unit walk s := rfl
@[simp] theorem exec_pagerFaultReceive {stack} (s) : exec (.pagerFaultReceive stack) s = execPagerFaultReceive stack s := rfl
@[simp] theorem exec_zeroFill {stack} (s) : exec (.zeroFill stack) s = execZeroFill stack s := rfl
@[simp] theorem exec_ticketDone {ticket data} (s) : exec (.ticketDone ticket data) s = execTicketDone ticket data s := rfl
@[simp] theorem exec_resume {stack entry} (s) : exec (.resume stack entry) s = execResume stack entry s := rfl
@[simp] theorem exec_loadTmo {stack} (s) : exec (.loadTmo stack) s = execLoadTmo stack s := rfl
@[simp] theorem exec_poolPush {ini ep stack page} (s) : exec (.poolPush ini ep stack page) s = execPoolPush ini ep stack page s := rfl
@[simp] theorem exec_pieceComplete {stack tag} (s) : exec (.pieceComplete stack tag) s = execPieceComplete stack tag s := rfl
@[simp] theorem exec_recordWriteComplete {stack seq} (s) : exec (.recordWriteComplete stack seq) s = execRecordWriteComplete stack seq s := rfl
@[simp] theorem exec_tableBaseWrite {ini ep stack v} (s) : exec (.tableBaseWrite ini ep stack v) s = execTableBaseWrite ini ep stack v s := rfl
@[simp] theorem exec_tagLimitWrite {ini ep stack v} (s) : exec (.tagLimitWrite ini ep stack v) s = execTagLimitWrite ini ep stack v s := rfl
@[simp] theorem exec_tokenCapture {site grp seen cells} (s) : exec (.tokenCapture site grp seen cells) s = execTokenCapture site grp seen cells s := rfl
@[simp] theorem exec_tokenRelease {site ended} (s) : exec (.tokenRelease site ended) s = execTokenRelease site ended s := rfl
@[simp] theorem exec_burstReceive {grp site lower upper} (s) : exec (.burstReceive grp site lower upper) s = execBurstReceive grp site lower upper s := rfl
@[simp] theorem exec_burstAck {site grp id} (s) : exec (.burstAck site grp id) s = execBurstAck site grp id s := rfl
@[simp] theorem exec_burstNak {site grp id idx} (s) : exec (.burstNak site grp id idx) s = execBurstNak site grp id idx s := rfl
@[simp] theorem exec_statusTimeout {site grp} (s) : exec (.statusTimeout site grp) s = execStatusTimeout site grp s := rfl
@[simp] theorem exec_retryLimitExpiry {site grp} (s) : exec (.retryLimitExpiry site grp) s = execRetryLimitExpiry site grp s := rfl
@[simp] theorem exec_groupBlock {ini ep grp} (s) : exec (.groupBlock ini ep grp) s = execGroupBlock ini ep grp s := rfl
@[simp] theorem exec_groupBlocked {grp} (s) : exec (.groupBlocked grp) s = execGroupBlocked grp s := rfl
@[simp] theorem exec_groupUnblock {ini ep grp} (s) : exec (.groupUnblock ini ep grp) s = execGroupUnblock ini ep grp s := rfl
@[simp] theorem exec_groupSleep {ini ep grp} (s) : exec (.groupSleep ini ep grp) s = execGroupSleep ini ep grp s := rfl
@[simp] theorem exec_groupWake {ini ep grp} (s) : exec (.groupWake ini ep grp) s = execGroupWake ini ep grp s := rfl
@[simp] theorem exec_groupSpare {ini ep grp lane off} (s) : exec (.groupSpare ini ep grp lane off) s = execGroupSpare ini ep grp lane off s := rfl
@[simp] theorem exec_tokenRegenerate {grp} (s) : exec (.tokenRegenerate grp) s = execTokenRegenerate grp s := rfl
@[simp] theorem exec_groupSleepEntry {grp} (s) : exec (.groupSleepEntry grp) s = execGroupSleepEntry grp s := rfl
@[simp] theorem exec_wake {grp} (s) : exec (.wake grp) s = execWake grp s := rfl
@[simp] theorem exec_ready {grp} (s) : exec (.ready grp) s = execReady grp s := rfl
@[simp] theorem exec_wakeFailure {grp} (s) : exec (.wakeFailure grp) s = execWakeFailure grp s := rfl
@[simp] theorem exec_laneLockAchieved {grp off} (s) : exec (.laneLockAchieved grp off) s = execLaneLockAchieved grp off s := rfl
@[simp] theorem exec_tsMatch {grp seen} (s) : exec (.tsMatch grp seen) s = execTsMatch grp seen s := rfl
@[simp] theorem exec_tsWrongSlot {grp seen} (s) : exec (.tsWrongSlot grp seen) s = execTsWrongSlot grp seen s := rfl
@[simp] theorem exec_trainingTimeout {grp off} (s) : exec (.trainingTimeout grp off) s = execTrainingTimeout grp off s := rfl
@[simp] theorem exec_laneHardFail {ring loss} (s) : exec (.laneHardFail ring loss) s = execLaneHardFail ring loss s := rfl
@[simp] theorem exec_groupStart {grp} (s) : exec (.groupStart grp) s = execGroupStart grp s := rfl
@[simp] theorem exec_sparingSwitch {grp} (s) : exec (.sparingSwitch grp) s = execSparingSwitch grp s := rfl
@[simp] theorem exec_sparingEnd {grp} (s) : exec (.sparingEnd grp) s = execSparingEnd grp s := rfl
@[simp] theorem exec_transmitterWithdraw {site tx cause} (s) : exec (.transmitterWithdraw site tx cause) s = execTransmitterWithdraw site tx cause s := rfl
@[simp] theorem exec_spineHopRetry {ini site word got} (s) : exec (.spineHopRetry ini site word got) s = execSpineHopRetry ini site word got s := rfl
@[simp] theorem exec_ident {ask} (s) : exec (.ident ask) s = execIdent ask s := rfl
@[simp] theorem exec_identTimeout {die} (s) : exec (.identTimeout die) s = execIdentTimeout die s := rfl
@[simp] theorem exec_kettleIncrement {kettle} (s) : exec (.kettleIncrement kettle) s = execKettleIncrement kettle s := rfl
@[simp] theorem exec_kettleRelease {kettle} (s) : exec (.kettleRelease kettle) s = execKettleRelease kettle s := rfl
@[simp] theorem exec_krel {kettle} (s) : exec (.krel kettle) s = execKrel kettle s := rfl
@[simp] theorem exec_lsmIdentify {lsm present names read probes} (s) : exec (.lsmIdentify lsm present names read probes) s = execLsmIdentify lsm present names read probes s := rfl
@[simp] theorem exec_cmisFail {lsm retries good} (s) : exec (.cmisFail lsm retries good) s = execCmisFail lsm retries good s := rfl
@[simp] theorem exec_lineMonitorVisit {fibre line power offset} (s) : exec (.lineMonitorVisit fibre line power offset) s = execLineMonitorVisit fibre line power offset s := rfl
@[simp] theorem exec_refLightLoss (s) : exec .refLightLoss s = execRefLightLoss s := rfl
@[simp] theorem exec_refLightRestored (s) : exec .refLightRestored s = execRefLightRestored s := rfl
@[simp] theorem exec_holdoverExpiry (s) : exec .holdoverExpiry s = execHoldoverExpiry s := rfl
@[simp] theorem exec_lockLoopUpdate {ring err} (s) : exec (.lockLoopUpdate ring err) s = execLockLoopUpdate ring err s := rfl
@[simp] theorem exec_calPassStart (s) : exec .calPassStart s = execCalPassStart s := rfl
@[simp] theorem exec_laneCal {grp} (s) : exec (.laneCal grp) s = execLaneCal grp s := rfl
@[simp] theorem exec_calTimeout {ring} (s) : exec (.calTimeout ring) s = execCalTimeout ring s := rfl
@[simp] theorem exec_blockingCal {grp good} (s) : exec (.blockingCal grp good) s = execBlockingCal grp good s := rfl
@[simp] theorem exec_markSweep {grp off heard} (s) : exec (.markSweep grp off heard) s = execMarkSweep grp off heard s := rfl
@[simp] theorem exec_sweepOutcome {grp off} (s) : exec (.sweepOutcome grp off) s = execSweepOutcome grp off s := rfl
@[simp] theorem exec_commissioning {fibre line power} (s) : exec (.commissioning fibre line power) s = execCommissioning fibre line power s := rfl
@[simp] theorem exec_fadeCrossing {fibre line} (s) : exec (.fadeCrossing fibre line) s = execFadeCrossing fibre line s := rfl
@[simp] theorem exec_fadeRecovery {fibre line} (s) : exec (.fadeRecovery fibre line) s = execFadeRecovery fibre line s := rfl
@[simp] theorem exec_rapidFade {lsm out line} (s) : exec (.rapidFade lsm out line) s = execRapidFade lsm out line s := rfl
@[simp] theorem exec_swapTrigger {lsm outs line} (s) : exec (.swapTrigger lsm outs line) s = execSwapTrigger lsm outs line s := rfl
@[simp] theorem exec_swapPauseStart {lsm outs line} (s) : exec (.swapPauseStart lsm outs line) s = execSwapPauseStart lsm outs line s := rfl
@[simp] theorem exec_swapPauseEnd {lsm outs line} (s) : exec (.swapPauseEnd lsm outs line) s = execSwapPauseEnd lsm outs line s := rfl
@[simp] theorem exec_swapCheck {lsm outs line power offset} (s) : exec (.swapCheck lsm outs line power offset) s = execSwapCheck lsm outs line power offset s := rfl
@[simp] theorem exec_interlockUnmated {fibre tap disabled} (s) : exec (.interlockUnmated fibre tap disabled) s = execInterlockUnmated fibre tap disabled s := rfl
@[simp] theorem exec_interlockEnableDrop {fibre} (s) : exec (.interlockEnableDrop fibre) s = execInterlockEnableDrop fibre s := rfl
@[simp] theorem exec_probe {fibre tap} (s) : exec (.probe fibre tap) s = execProbe fibre tap s := rfl
@[simp] theorem exec_safetyRestore {ini ep lsm outs} (s) : exec (.safetyRestore ini ep lsm outs) s = execSafetyRestore ini ep lsm outs s := rfl
@[simp] theorem exec_lsmRemoval {lsm} (s) : exec (.lsmRemoval lsm) s = execLsmRemoval lsm s := rfl
@[simp] theorem exec_lineSelWrite {ini ep lsm v} (s) : exec (.lineSelWrite ini ep lsm v) s = execLineSelWrite ini ep lsm v s := rfl
@[simp] theorem exec_codewordDecode {port off chars bad disp} (s) : exec (.codewordDecode port off chars bad disp) s = execCodewordDecode port off chars bad disp s := rfl
@[simp] theorem exec_alignmentLoss {port off} (s) : exec (.alignmentLoss port off) s = execAlignmentLoss port off s := rfl
@[simp] theorem exec_portTrainStart {port} (s) : exec (.portTrainStart port) s = execPortTrainStart port s := rfl
@[simp] theorem exec_xtsReceive {port lane slot role sender flags coord dims serial expect} (s) : exec (.xtsReceive port lane slot role sender flags coord dims serial expect) s = execXtsReceive port lane slot role sender flags coord dims serial expect s := rfl
@[simp] theorem exec_xstart {port} (s) : exec (.xstart port) s = execXstart port s := rfl
@[simp] theorem exec_trainAttemptTimeout {port} (s) : exec (.trainAttemptTimeout port) s = execTrainAttemptTimeout port s := rfl
@[simp] theorem exec_xtsAtBoundary {port lanes} (s) : exec (.xtsAtBoundary port lanes) s = execXtsAtBoundary port lanes s := rfl
@[simp] theorem exec_discoveryTimeout (s) : exec .discoveryTimeout s = execDiscoveryTimeout s := rfl
@[simp] theorem exec_portSleep {port} (s) : exec (.portSleep port) s = execPortSleep port s := rfl
@[simp] theorem exec_sleep {port} (s) : exec (.sleep port) s = execSleep port s := rfl
@[simp] theorem exec_portWake {port} (s) : exec (.portWake port) s = execPortWake port s := rfl
@[simp] theorem exec_portRetrain {port} (s) : exec (.portRetrain port) s = execPortRetrain port s := rfl
@[simp] theorem exec_retrainTimeout {port} (s) : exec (.retrainTimeout port) s = execRetrainTimeout port s := rfl
@[simp] theorem exec_pausedEntry {port} (s) : exec (.pausedEntry port) s = execPausedEntry port s := rfl
@[simp] theorem exec_pausedEnd {port} (s) : exec (.pausedEnd port) s = execPausedEnd port s := rfl
@[simp] theorem exec_spareReq {port lane} (s) : exec (.spareReq port lane) s = execSpareReq port lane s := rfl
@[simp] theorem exec_spareBegin {port lane off} (s) : exec (.spareBegin port lane off) s = execSpareBegin port lane off s := rfl
@[simp] theorem exec_spareSwitch {port same} (s) : exec (.spareSwitch port same) s = execSpareSwitch port same s := rfl
@[simp] theorem exec_spareDone {port lane} (s) : exec (.spareDone port lane) s = execSpareDone port lane s := rfl
@[simp] theorem exec_spareShadowTimeout {port} (s) : exec (.spareShadowTimeout port) s = execSpareShadowTimeout port s := rfl
@[simp] theorem exec_calReq {port} (s) : exec (.calReq port) s = execCalReq port s := rfl
@[simp] theorem exec_pauseReq {port} (s) : exec (.pauseReq port) s = execPauseReq port s := rfl
@[simp] theorem exec_retrainReq {port} (s) : exec (.retrainReq port) s = execRetrainReq port s := rfl
@[simp] theorem exec_linkCellReceive {port cell whole} (s) : exec (.linkCellReceive port cell whole) s = execLinkCellReceive port cell whole s := rfl
@[simp] theorem exec_xtrh {out vc data} (s) : exec (.xtrh out vc data) s = execXtrh out vc data s := rfl
@[simp] theorem exec_xtrt {out vc data} (s) : exec (.xtrt out vc data) s = execXtrt out vc data s := rfl
@[simp] theorem exec_cellSend {port} (s) : exec (.cellSend port) s = execCellSend port s := rfl
@[simp] theorem exec_lack {port seq} (s) : exec (.lack port seq) s = execLack port seq s := rfl
@[simp] theorem exec_lnak {port seq} (s) : exec (.lnak port seq) s = execLnak port seq s := rfl
@[simp] theorem exec_lcredit {port counts} (s) : exec (.lcredit port counts) s = execLcredit port counts s := rfl
@[simp] theorem exec_lackDue {port} (s) : exec (.lackDue port) s = execLackDue port s := rfl
@[simp] theorem exec_lcreditDue {port} (s) : exec (.lcreditDue port) s = execLcreditDue port s := rfl
@[simp] theorem exec_lnakRepeat {port} (s) : exec (.lnakRepeat port) s = execLnakRepeat port s := rfl
@[simp] theorem exec_replayTimeout {port} (s) : exec (.replayTimeout port) s = execReplayTimeout port s := rfl
@[simp] theorem exec_fmgmtRead {m15 src tag addr} (s) : exec (.fmgmtRead m15 src tag addr) s = execFmgmtRead m15 src tag addr s := rfl
@[simp] theorem exec_fmgmtWrite {m15 src tag addr data} (s) : exec (.fmgmtWrite m15 src tag addr data) s = execFmgmtWrite m15 src tag addr data s := rfl
@[simp] theorem exec_fmgmtReply {tag addr data} (s) : exec (.fmgmtReply tag addr data) s = execFmgmtReply tag addr data s := rfl
@[simp] theorem exec_fmgmtError {tag addr code} (s) : exec (.fmgmtError tag addr code) s = execFmgmtError tag addr code s := rfl
@[simp] theorem exec_portRetrainCmd {ini ep port} (s) : exec (.portRetrainCmd ini ep port) s = execPortRetrainCmd ini ep port s := rfl
@[simp] theorem exec_portSpareCmd {ini ep port lane off} (s) : exec (.portSpareCmd ini ep port lane off) s = execPortSpareCmd ini ep port lane off s := rfl
@[simp] theorem exec_portDisable {ini ep port} (s) : exec (.portDisable ini ep port) s = execPortDisable ini ep port s := rfl
@[simp] theorem exec_portEnable {ini ep port} (s) : exec (.portEnable ini ep port) s = execPortEnable ini ep port s := rfl
@[simp] theorem exec_rankmapWrite {ini ep page reg v} (s) : exec (.rankmapWrite ini ep page reg v) s = execRankmapWrite ini ep page reg v s := rfl
@[simp] theorem exec_rankmapMismatch {page} (s) : exec (.rankmapMismatch page) s = execRankmapMismatch page s := rfl
@[simp] theorem exec_hrd {m15 job src cls tag addr size} (s) : exec (.hrd m15 job src cls tag addr size) s = execHrd m15 job src cls tag addr size s := rfl
@[simp] theorem exec_hwr {m15 job src cls tag addr size lo hi} (s) : exec (.hwr m15 job src cls tag addr size lo hi) s = execHwr m15 job src cls tag addr size lo hi s := rfl
@[simp] theorem exec_hatm {m15 job src cls tag addr size op lo hi} (s) : exec (.hatm m15 job src cls tag addr size op lo hi) s = execHatm m15 job src cls tag addr size op lo hi s := rfl
@[simp] theorem exec_hatx {m15 job src tag lo hi} (s) : exec (.hatx m15 job src tag lo hi) s = execHatx m15 job src tag lo hi s := rfl
@[simp] theorem exec_hbrd {m15 job src cls tag addr units} (s) : exec (.hbrd m15 job src cls tag addr units) s = execHbrd m15 job src cls tag addr units s := rfl
@[simp] theorem exec_hbwr {m15 job src cls tag addr units} (s) : exec (.hbwr m15 job src cls tag addr units) s = execHbwr m15 job src cls tag addr units s := rfl
@[simp] theorem exec_hbdat {die job src tag data} (s) : exec (.hbdat die job src tag data) s = execHbdat die job src tag data s := rfl
@[simp] theorem exec_hrsp {stack tag status flags lo hi} (s) : exec (.hrsp stack tag status flags lo hi) s = execHrsp stack tag status flags lo hi s := rfl
@[simp] theorem exec_hwack {stack tag status} (s) : exec (.hwack stack tag status) s = execHwack stack tag status s := rfl
@[simp] theorem exec_hbrsp {stack tag status units} (s) : exec (.hbrsp stack tag status units) s = execHbrsp stack tag status units s := rfl
@[simp] theorem exec_hangWatchdogExpiry {stack tag} (s) : exec (.hangWatchdogExpiry stack tag) s = execHangWatchdogExpiry stack tag s := rfl
@[simp] theorem exec_krelay {job kettle gen} (s) : exec (.krelay job kettle gen) s = execKrelay job kettle gen s := rfl
@[simp] theorem exec_quarantineRelease {stack tag} (s) : exec (.quarantineRelease stack tag) s = execQuarantineRelease stack tag s := rfl
@[simp] theorem exec_arpRequest {f target mac} (s) : exec (.arpRequest f target mac) s = execArpRequest f target mac s := rfl
@[simp] theorem exec_neighbourSolicitation {f target mac} (s) : exec (.neighbourSolicitation f target mac) s = execNeighbourSolicitation f target mac s := rfl
@[simp] theorem exec_echoRequest {f dst data} (s) : exec (.echoRequest f dst data) s = execEchoRequest f dst data s := rfl
@[simp] theorem exec_submit {f msg} (s) : exec (.submit f msg) s = execSubmit f msg s := rfl
@[simp] theorem exec_cancel {f msg} (s) : exec (.cancel f msg) s = execCancel f msg s := rfl
@[simp] theorem exec_status {f msg} (s) : exec (.status f msg) s = execStatus f msg s := rfl
@[simp] theorem exec_ack {f msg} (s) : exec (.ack f msg) s = execAck f msg s := rfl
@[simp] theorem exec_assemblyTimeout {id} (s) : exec (.assemblyTimeout id) s = execAssemblyTimeout id s := rfl
@[simp] theorem exec_tokensResend {id} (s) : exec (.tokensResend id) s = execTokensResend id s := rfl
@[simp] theorem exec_lingerExpiry {id} (s) : exec (.lingerExpiry id) s = execLingerExpiry id s := rfl
@[simp] theorem exec_wingbeatBoundary (s) : exec .wingbeatBoundary s = execWingbeatBoundary s := rfl
@[simp] theorem exec_boundaryCommit (s) : exec .boundaryCommit s = execBoundaryCommit s := rfl
@[simp] theorem exec_idleIntervalEnd (s) : exec .idleIntervalEnd s = execIdleIntervalEnd s := rfl
@[simp] theorem exec_fdata {f msg} (s) : exec (.fdata f msg) s = execFdata f msg s := rfl
@[simp] theorem exec_fetchChunkTimeout {seg chunk} (s) : exec (.fetchChunkTimeout seg chunk) s = execFetchChunkTimeout seg chunk s := rfl
@[simp] theorem exec_refclkInvalid {inp} (s) : exec (.refclkInvalid inp) s = execRefclkInvalid inp s := rfl
@[simp] theorem exec_refclkValid {inp} (s) : exec (.refclkValid inp) s = execRefclkValid inp s := rfl
@[simp] theorem exec_refHoldoverStop (s) : exec .refHoldoverStop s = execRefHoldoverStop s := rfl
@[simp] theorem exec_refCtlWrite {ini ep v} (s) : exec (.refCtlWrite ini ep v) s = execRefCtlWrite ini ep v s := rfl
@[simp] theorem exec_basePllUnlock (s) : exec .basePllUnlock s = execBasePllUnlock s := rfl
@[simp] theorem exec_serialiserAlarm {site tx cause} (s) : exec (.serialiserAlarm site tx cause) s = execSerialiserAlarm site tx cause s := rfl
@[simp] theorem exec_rowstorePllFailover {stack} (s) : exec (.rowstorePllFailover stack) s = execRowstorePllFailover stack s := rfl
@[simp] theorem exec_regionGenFail {region ref} (s) : exec (.regionGenFail region ref) s = execRegionGenFail region ref s := rfl
@[simp] theorem exec_fSetChange {region} (s) : exec (.fSetChange region) s = execFSetChange region s := rfl
@[simp] theorem exec_droopLimitLower {region} (s) : exec (.droopLimitLower region) s = execDroopLimitLower region s := rfl
@[simp] theorem exec_droopLimitRaise {region} (s) : exec (.droopLimitRaise region) s = execDroopLimitRaise region s := rfl
@[simp] theorem exec_crossingError {region} (s) : exec (.crossingError region) s = execCrossingError region s := rfl
@[simp] theorem exec_syncEdge (s) : exec .syncEdge s = execSyncEdge s := rfl
@[simp] theorem exec_secSet {ini ep n} (s) : exec (.secSet ini ep n) s = execSecSet ini ep n s := rfl
@[simp] theorem exec_syncHoldover (s) : exec .syncHoldover s = execSyncHoldover s := rfl
@[simp] theorem exec_syncHoldoverExpiry (s) : exec .syncHoldoverExpiry s = execSyncHoldoverExpiry s := rfl
@[simp] theorem exec_clkSrcWrite {ini ep region v} (s) : exec (.clkSrcWrite ini ep region v) s = execClkSrcWrite ini ep region v s := rfl
@[simp] theorem exec_stateCmdD0 {ini ep} (s) : exec (.stateCmdD0 ini ep) s = execStateCmdD0 ini ep s := rfl
@[simp] theorem exec_stateCmdD1 {ini ep} (s) : exec (.stateCmdD1 ini ep) s = execStateCmdD1 ini ep s := rfl
@[simp] theorem exec_stateCmdD2 {ini ep} (s) : exec (.stateCmdD2 ini ep) s = execStateCmdD2 ini ep s := rfl
@[simp] theorem exec_stateCmdD3 {ini ep} (s) : exec (.stateCmdD3 ini ep) s = execStateCmdD3 ini ep s := rfl
@[simp] theorem exec_d1Wake (s) : exec .d1Wake s = execD1Wake s := rfl
@[simp] theorem exec_d2IdleExpiry (s) : exec .d2IdleExpiry s = execD2IdleExpiry s := rfl
@[simp] theorem exec_portLightWake {port} (s) : exec (.portLightWake port) s = execPortLightWake port s := rfl
@[simp] theorem exec_wakeAtReached (s) : exec .wakeAtReached s = execWakeAtReached s := rfl
@[simp] theorem exec_d2Wake (s) : exec .d2Wake s = execD2Wake s := rfl
@[simp] theorem exec_inputUndervolt {mv} (s) : exec (.inputUndervolt mv) s = execInputUndervolt mv s := rfl
@[simp] theorem exec_inputFault {mv} (s) : exec (.inputFault mv) s = execInputFault mv s := rfl
@[simp] theorem exec_inputTrim {window} (s) : exec (.inputTrim window) s = execInputTrim window s := rfl
@[simp] theorem exec_surgeEntry {mv} (s) : exec (.surgeEntry mv) s = execSurgeEntry mv s := rfl
@[simp] theorem exec_surgeEnd (s) : exec .surgeEnd s = execSurgeEnd s := rfl
@[simp] theorem exec_surgeAllowanceExpiry (s) : exec .surgeAllowanceExpiry s = execSurgeAllowanceExpiry s := rfl
@[simp] theorem exec_wearBudgetExhaust (s) : exec .wearBudgetExhaust s = execWearBudgetExhaust s := rfl
@[simp] theorem exec_surgeInhibitWrite {ini ep v} (s) : exec (.surgeInhibitWrite ini ep v) s = execSurgeInhibitWrite ini ep v s := rfl
@[simp] theorem exec_grantWithdraw {stack} (s) : exec (.grantWithdraw stack) s = execGrantWithdraw stack s := rfl
@[simp] theorem exec_capFloorFault {stack} (s) : exec (.capFloorFault stack) s = execCapFloorFault stack s := rfl
@[simp] theorem exec_powerTelemetry {p} (s) : exec (.powerTelemetry p) s = execPowerTelemetry p s := rfl
@[simp] theorem exec_diodeSample {die raw check} (s) : exec (.diodeSample die raw check) s = execDiodeSample die raw check s := rfl
@[simp] theorem exec_throttleStep (s) : exec .throttleStep s = execThrottleStep s := rfl
@[simp] theorem exec_orderlyStop (s) : exec .orderlyStop s = execOrderlyStop s := rfl
@[simp] theorem exec_parkDeadline (s) : exec .parkDeadline s = execParkDeadline s := rfl
@[simp] theorem exec_orderlyStopReturn (s) : exec .orderlyStopReturn s = execOrderlyStopReturn s := rfl
@[simp] theorem exec_predictedTrip {die} (s) : exec (.predictedTrip die) s = execPredictedTrip die s := rfl
@[simp] theorem exec_thermalTrip {die} (s) : exec (.thermalTrip die) s = execThermalTrip die s := rfl
@[simp] theorem exec_middleModelUpdate {stack} (s) : exec (.middleModelUpdate stack) s = execMiddleModelUpdate stack s := rfl
@[simp] theorem exec_diodeBroken {die} (s) : exec (.diodeBroken die) s = execDiodeBroken die s := rfl
@[simp] theorem exec_regionRecal {die} (s) : exec (.regionRecal die) s = execRegionRecal die s := rfl
@[simp] theorem exec_calStart {ini ep v} (s) : exec (.calStart ini ep v) s = execCalStart ini ep v s := rfl
@[simp] theorem exec_hourCount (s) : exec .hourCount s = execHourCount s := rfl
@[simp] theorem exec_ageingEpoch {m} (s) : exec (.ageingEpoch m) s = execAgeingEpoch m s := rfl
@[simp] theorem exec_resetRelease (s) : exec .resetRelease s = execResetRelease s := rfl
@[simp] theorem exec_imageVerify {k} (s) : exec (.imageVerify k) s = execImageVerify k s := rfl
@[simp] theorem exec_roleAssign (s) : exec .roleAssign s = execRoleAssign s := rfl
@[simp] theorem exec_eclosion (s) : exec .eclosion s = execEclosion s := rfl
@[simp] theorem exec_goWaitTimeout (s) : exec .goWaitTimeout s = execGoWaitTimeout s := rfl
@[simp] theorem exec_rchunk {f msg} (s) : exec (.rchunk f msg) s = execRchunk f msg s := rfl
@[simp] theorem exec_rcommit {f msg} (s) : exec (.rcommit f msg) s = execRcommit f msg s := rfl
@[simp] theorem exec_rstat {f msg} (s) : exec (.rstat f msg) s = execRstat f msg s := rfl
@[simp] theorem exec_recoveryWriteComplete (s) : exec .recoveryWriteComplete s = execRecoveryWriteComplete s := rfl
@[simp] theorem exec_imageFlashWrite (s) : exec .imageFlashWrite s = execImageFlashWrite s := rfl
@[simp] theorem exec_heartbeat {k ep window} (s) : exec (.heartbeat k ep window) s = execHeartbeat k ep window s := rfl
@[simp] theorem exec_heartbeatWindowEnd (s) : exec .heartbeatWindowEnd s = execHeartbeatWindowEnd s := rfl
@[simp] theorem exec_digest {k round d} (s) : exec (.digest k round d) s = execDigest k round d s := rfl
@[simp] theorem exec_decisionRoundCompare (s) : exec .decisionRoundCompare s = execDecisionRoundCompare s := rfl
@[simp] theorem exec_health {k word} (s) : exec (.health k word) s = execHealth k word s := rfl
@[simp] theorem exec_healthTimeout {k} (s) : exec (.healthTimeout k) s = execHealthTimeout k s := rfl
@[simp] theorem exec_demotion (s) : exec .demotion s = execDemotion s := rfl
@[simp] theorem exec_role {k} (s) : exec (.role k) s = execRole k s := rfl
@[simp] theorem exec_hold {k} (s) : exec (.hold k) s = execHold k s := rfl
@[simp] theorem exec_epochBump (s) : exec .epochBump s = execEpochBump s := rfl
@[simp] theorem exec_successorRewrite (s) : exec .successorRewrite s = execSuccessorRewrite s := rfl
@[simp] theorem exec_promote {ini ep v} (s) : exec (.promote ini ep v) s = execPromote ini ep v s := rfl
@[simp] theorem exec_keeperSelfTest {k pass} (s) : exec (.keeperSelfTest k pass) s = execKeeperSelfTest k pass s := rfl
@[simp] theorem exec_keeperRestart {k good} (s) : exec (.keeperRestart k good) s = execKeeperRestart k good s := rfl
@[simp] theorem exec_objBegin {ini ep kind} (s) : exec (.objBegin ini ep kind) s = execObjBegin ini ep kind s := rfl
@[simp] theorem exec_objDataWrite {ini ep v} (s) : exec (.objDataWrite ini ep v) s = execObjDataWrite ini ep v s := rfl
@[simp] theorem exec_objDataRead {ini} (s) : exec (.objDataRead ini) s = execObjDataRead ini s := rfl
@[simp] theorem exec_objCommit {ini ep} (s) : exec (.objCommit ini ep) s = execObjCommit ini ep s := rfl
@[simp] theorem exec_objAbort {ini ep} (s) : exec (.objAbort ini ep) s = execObjAbort ini ep s := rfl
@[simp] theorem exec_folioApply (s) : exec .folioApply s = execFolioApply s := rfl
@[simp] theorem exec_foldBack (s) : exec .foldBack s = execFoldBack s := rfl
@[simp] theorem exec_foldBackCmd {ini ep} (s) : exec (.foldBackCmd ini ep) s = execFoldBackCmd ini ep s := rfl
@[simp] theorem exec_unload {ini ep} (s) : exec (.unload ini ep) s = execUnload ini ep s := rfl
@[simp] theorem exec_resetToOvum {ini ep} (s) : exec (.resetToOvum ini ep) s = execResetToOvum ini ep s := rfl
@[simp] theorem exec_jobRestart (s) : exec .jobRestart s = execJobRestart s := rfl
@[simp] theorem exec_restartNotice {job rank num cls code} (s) : exec (.restartNotice job rank num cls code) s = execRestartNotice job rank num cls code s := rfl
@[simp] theorem exec_readyNotice {job rank num} (s) : exec (.readyNotice job rank num) s = execReadyNotice job rank num s := rfl
@[simp] theorem exec_goNotice {job rank num k} (s) : exec (.goNotice job rank num k) s = execGoNotice job rank num k s := rfl
@[simp] theorem exec_abandonNotice {job rank num} (s) : exec (.abandonNotice job rank num) s = execAbandonNotice job rank num s := rfl
@[simp] theorem exec_readyRepeat (s) : exec .readyRepeat s = execReadyRepeat s := rfl
@[simp] theorem exec_rejoinTimeout (s) : exec .rejoinTimeout s = execRejoinTimeout s := rfl
@[simp] theorem exec_healthReportForm (s) : exec .healthReportForm s = execHealthReportForm s := rfl
@[simp] theorem exec_inputRise (s) : exec .inputRise s = execInputRise s := rfl
@[simp] theorem exec_alwaysOnStart (s) : exec .alwaysOnStart s = execAlwaysOnStart s := rfl
@[simp] theorem exec_resetAssert (s) : exec .resetAssert s = execResetAssert s := rfl
@[simp] theorem exec_tapBypass (s) : exec .tapBypass s = execTapBypass s := rfl
@[simp] theorem exec_tapIdcode (s) : exec .tapIdcode s = execTapIdcode s := rfl
@[simp] theorem exec_tapSamplePreload {pins load} (s) : exec (.tapSamplePreload pins load) s = execTapSamplePreload pins load s := rfl
@[simp] theorem exec_tapExtest (s) : exec .tapExtest s = execTapExtest s := rfl
@[simp] theorem exec_frontDoorLinkDown {port pll} (s) : exec (.frontDoorLinkDown port pll) s = execFrontDoorLinkDown port pll s := rfl
@[simp] theorem exec_frontDoorLinkUp {port} (s) : exec (.frontDoorLinkUp port) s = execFrontDoorLinkUp port s := rfl
@[simp] theorem exec_ibiDelivery (s) : exec .ibiDelivery s = execIbiDelivery s := rfl
@[simp] theorem exec_lsmStandbyReady {lsm outs line} (s) : exec (.lsmStandbyReady lsm outs line) s = execLsmStandbyReady lsm outs line s := rfl
@[simp] theorem exec_stretch {region noticed added} (s) : exec (.stretch region noticed added) s = execStretch region noticed added s := rfl
@[simp] theorem exec_orderlyStopDeadline (s) : exec .orderlyStopDeadline s = execOrderlyStopDeadline s := rfl
@[simp] theorem exec_testLogicReset (s) : exec .testLogicReset s = execTestLogicReset s := rfl

end Sys2Proof.Machine
end

