-- ==== Sys2Proof/Laws/Sparse.lean ====
section
/-!
SUPPORT. Sys2Proof/Laws/Sparse.lean: reading after writing a table held by key, and that every operation on a memory keeps its canonical form.
-/
namespace Sys2Proof.Machine

variable {α : Type}

/-! ## Reading after writing -/

/-- A write leaves every other key alone. -/
@[simp] theorem sget_sset_ne [DecidableEq α] (d e : α) (m : Sparse α) {k j : Nat} (v : α) (h : j ≠ k) :
    sget e (sset d m k v) j = sget e m j := by
  induction m with
  | nil => by_cases hv : v = d <;> simp [sset, sget, hv, Ne.symm h]
  | cons x t ih =>
    obtain ⟨i, w⟩ := x
    unfold sset
    split
    · split <;> simp [sget, Ne.symm h]
    · split
      · rename_i hi
        split <;> simp [sget, hi, Ne.symm h]
      · simp only [sget, ih]

/-- A value that a key does not read as by default reads back at once, in any table. -/
theorem sget_sset_same_ne [DecidableEq α] {d : α} (e : α) (m : Sparse α) (k : Nat) {v : α} (h : v ≠ d) :
    sget e (sset d m k v) k = v := by
  induction m with
  | nil => simp [sset, sget, h]
  | cons x t ih =>
    obtain ⟨i, w⟩ := x
    unfold sset
    split
    · simp [sget, h]
    · split
      · simp [sget, h]
      · rename_i hi
        simp [sget, hi, ih]

/-- A key below every key of a table is not in it. -/
theorem sget_of_lt [DecidableEq α] (d : Nat → α) (e : α) : ∀ (m : Sparse α) (l k : Nat), swfFrom d (some l) m = true → k ≤ l →
    sget e m k = e
  | [], _, _, _, _ => rfl
  | (j, v) :: t, l, k, h, hk => by
    simp only [swfFrom, Bool.and_eq_true, decide_eq_true_eq] at h
    have hj : j ≠ k := by omega
    simp only [sget, hj, if_false]
    exact sget_of_lt d e t j k h.2 (by omega)

/-- Reading back what was written, in a table in canonical form. -/
theorem sget_sset_same_from [DecidableEq α] (d : Nat → α) : ∀ (m : Sparse α) (lo : Option Nat) (k : Nat) (v : α),
    swfFrom d lo m = true → sget (d k) (sset (d k) m k v) k = v
  | [], _, k, v, _ => by by_cases hv : v = d k <;> simp [sset, sget, hv]
  | (j, w) :: t, lo, k, v, h => by
    simp only [swfFrom, Bool.and_eq_true, decide_eq_true_eq] at h
    unfold sset
    split
    · rename_i hk
      split
      · rename_i hv
        simp only [sget, Nat.ne_of_gt hk, if_false, hv]
        exact sget_of_lt d _ t j k h.2 (by omega)
      · simp [sget]
    · split
      · rename_i hj
        split
        · rename_i hv
          subst hj
          rw [hv]
          exact sget_of_lt d _ t j j h.2 (Nat.le_refl _)
        · simp [sget]
      · rename_i hj
        simp only [sget, hj, if_false]
        exact sget_sset_same_from d t (some j) k v h.2

/-- Reading back what was written, in a table in canonical form. -/
theorem sget_sset_same [DecidableEq α] (d : Nat → α) {m : Sparse α} (h : swf d m = true) (k : Nat) (v : α) :
    sget (d k) (sset (d k) m k v) k = v := sget_sset_same_from d m none k v h

/-! ## The canonical form -/

/-- Whether a key may follow the bound `lo`. -/
def above (lo : Option Nat) (k : Nat) : Bool := match lo with | none => true | some l => decide (l < k)

theorem swfFrom_cons [DecidableEq α] (d : Nat → α) (lo : Option Nat) (j : Nat) (v : α) (t : Sparse α) :
    swfFrom d lo ((j, v) :: t) = (above lo j && decide (v ≠ d j) && swfFrom d (some j) t) := by
  cases lo <;> rfl

/-- A table in canonical form above a key is so above any bound that the key is above. -/
theorem swfFrom_weaken [DecidableEq α] (d : Nat → α) {t : Sparse α} {j : Nat} {lo : Option Nat} (hj : above lo j = true)
    (h : swfFrom d (some j) t = true) : swfFrom d lo t = true := by
  cases t with
  | nil => rfl
  | cons x t =>
    obtain ⟨i, v⟩ := x
    simp only [swfFrom_cons, Bool.and_eq_true] at h ⊢
    refine ⟨⟨?_, h.1.2⟩, h.2⟩
    cases lo with
    | none => rfl
    | some l =>
      simp only [above, decide_eq_true_eq] at hj h ⊢
      omega

/-- A write keeps the canonical form. -/
theorem swfFrom_sset [DecidableEq α] (d : Nat → α) : ∀ (m : Sparse α) (lo : Option Nat) (k : Nat) (v : α),
    swfFrom d lo m = true → above lo k = true → swfFrom d lo (sset (d k) m k v) = true
  | [], lo, k, v, _, hk => by
    by_cases hv : v = d k
    · simp [sset, hv, swfFrom]
    · simp [sset, hv, swfFrom_cons, swfFrom, hk]
  | (j, w) :: t, lo, k, v, h, hk => by
    have h' := h
    simp only [swfFrom_cons, Bool.and_eq_true, decide_eq_true_eq] at h'
    unfold sset
    split
    · rename_i hkj
      split
      · exact h
      · rename_i hv
        simp only [swfFrom_cons, Bool.and_eq_true, decide_eq_true_eq]
        exact ⟨⟨hk, hv⟩, ⟨decide_eq_true hkj, h'.1.2⟩, h'.2⟩
    · split
      · rename_i hj
        subst hj
        split
        · exact swfFrom_weaken d hk h'.2
        · rename_i hv
          simp [swfFrom_cons, hk, hv, h'.2]
      · rename_i hlt hj
        simp only [swfFrom_cons, Bool.and_eq_true, decide_eq_true_eq]
        exact ⟨h'.1, swfFrom_sset d t (some j) k v h'.2 (by simp [above]; omega)⟩

/-- A write keeps the canonical form. -/
@[simp] theorem swf_sset [DecidableEq α] (d : Nat → α) {m : Sparse α} (h : swf d m = true) (k : Nat) (v : α) :
    swf d (sset (d k) m k v) = true := swfFrom_sset d m none k v h rfl

/-- Removing entries keeps the canonical form. -/
theorem swfFrom_filter [DecidableEq α] (d : Nat → α) (p : Nat × α → Bool) : ∀ (m : Sparse α) (lo : Option Nat),
    swfFrom d lo m = true → swfFrom d lo (m.filter p) = true
  | [], _, _ => rfl
  | (j, v) :: t, lo, h => by
    simp only [swfFrom_cons, Bool.and_eq_true] at h
    by_cases hp : p (j, v) = true
    · simp only [List.filter_cons, hp, if_true, swfFrom_cons, Bool.and_eq_true]
      exact ⟨h.1, swfFrom_filter d p t (some j) h.2⟩
    · simp only [List.filter_cons, hp]
      exact swfFrom_weaken d h.1.1 (swfFrom_filter d p t (some j) h.2)

/-- Removing entries keeps the canonical form. -/
theorem swf_filter [DecidableEq α] (d : Nat → α) (p : Nat × α → Bool) {m : Sparse α} (h : swf d m = true) :
    swf d (m.filter p) = true := swfFrom_filter d p m none h

/-! ## Memories (R41, R108, R143): every operation keeps the canonical form -/

/-- Storing bytes keeps the canonical form of a memory's cells. -/
theorem swf_putBytes : ∀ (n : Nat) (l : List Host.Cell) (a v : Nat), swf (fun _ => (0 : Byte)) l = true →
    swf (fun _ => (0 : Byte)) (putBytes l a v n) = true
  | 0, _, _, _, h => h
  | n + 1, _, a, _, h => swf_putBytes n _ _ _ (swf_sset (fun _ => (0 : Byte)) h a _)

theorem Mem.wf_iff (m : Mem) : m.wf = true ↔ swf (fun _ => (0 : Byte)) m.data = true ∧ swf (fun _ => (0 : Byte)) m.check = true := by
  simp [Mem.wf]

@[simp] theorem Mem.wf_empty : Mem.wf {} = true := rfl

@[simp] theorem Mem.wf_putWord {m : Mem} (h : m.wf = true) (w v : Nat) : (m.putWord w v).wf = true :=
  (Mem.wf_iff _).2 ⟨swf_putBytes 8 _ _ _ ((Mem.wf_iff m).1 h).1, swf_sset (fun _ => (0 : Byte)) ((Mem.wf_iff m).1 h).2 w _⟩

@[simp] theorem Mem.wf_setBit {m : Mem} (h : m.wf = true) (w bit : Nat) (v : Bool) : (m.setBit w bit v).wf = true := by
  unfold Mem.setBit
  split
  · exact (Mem.wf_iff _).2 ⟨swf_putBytes 8 _ _ _ ((Mem.wf_iff m).1 h).1, ((Mem.wf_iff m).1 h).2⟩
  · exact (Mem.wf_iff _).2 ⟨((Mem.wf_iff m).1 h).1, swf_sset (fun _ => (0 : Byte)) ((Mem.wf_iff m).1 h).2 w _⟩

@[simp] theorem Mem.wf_patchWord {m : Mem} (h : m.wf = true) (w lo n v : Nat) : (m.patchWord w lo n v).wf = true :=
  (Mem.wf_iff _).2 ⟨swf_putBytes n _ _ _ ((Mem.wf_iff m).1 h).1, swf_sset (fun _ => (0 : Byte)) ((Mem.wf_iff m).1 h).2 w _⟩

@[simp] theorem Mem.wf_putWords : ∀ (n : Nat) {m : Mem} (_ : m.wf = true) (w v : Nat), (m.putWords w v n).wf = true
  | 0, _, h, _, _ => h
  | n + 1, _, h, _, _ => Mem.wf_putWords n (Mem.wf_putWord h _ _) _ _

theorem Mem.wf_putPart : ∀ (fuel : Nat) {m : Mem} (_ : m.wf = true) (a v n : Nat), (m.putPart a v n fuel).wf = true
  | 0, _, h, _, _, _ => h
  | fuel + 1, m, h, a, v, n => by
    unfold Mem.putPart
    split
    · exact h
    · refine Mem.wf_putPart fuel ?_ _ _ _
      split
      · exact Mem.wf_putWord h _ _
      · exact Mem.wf_patchWord h _ _ _ _

@[simp] theorem Mem.wf_put {m : Mem} (h : m.wf = true) (a v n : Nat) : (m.put a v n).wf = true := Mem.wf_putPart _ h _ _ _

@[simp] theorem Mem.wf_fix : ∀ (l : List (Nat × Nat)) {m : Mem} (_ : m.wf = true), (m.fix l).wf = true
  | [], _, h => h
  | (_, _) :: t, _, h => Mem.wf_fix t (Mem.wf_putWord h _ _)

@[simp] theorem Mem.wf_clear {m : Mem} (h : m.wf = true) (lo hi : Nat) : (m.clear lo hi).wf = true :=
  (Mem.wf_iff _).2 ⟨swf_filter _ _ ((Mem.wf_iff m).1 h).1, swf_filter _ _ ((Mem.wf_iff m).1 h).2⟩

/-! ## Where a write lands -/

/-- Storing bytes leaves every byte outside them alone. -/
theorem sget_putBytes_outside : ∀ (n : Nat) (l : List Host.Cell) (a v b : Nat), (b < a ∨ a + n ≤ b) →
    sget (0 : Byte) (putBytes l a v n) b = sget 0 l b
  | 0, _, _, _, _, _ => rfl
  | n + 1, l, a, v, b, h => by
    rw [putBytes, sget_putBytes_outside n _ _ _ _ (by omega), sget_sset_ne]
    omega

@[simp] theorem Mem.byte_putWord_outside (m : Mem) (w v b : Nat) (h : b < 8 * w ∨ 8 * w + 8 ≤ b) :
    (m.putWord w v).byte b = m.byte b := sget_putBytes_outside 8 _ _ _ _ h

@[simp] theorem Mem.byte_patchWord_outside (m : Mem) (w lo n v b : Nat) (h : b < 8 * w + lo ∨ 8 * w + lo + n ≤ b) :
    (m.patchWord w lo n v).byte b = m.byte b := sget_putBytes_outside n _ _ _ _ h

theorem Mem.byte_putPart_outside : ∀ (fuel : Nat) (m : Mem) (a v n b : Nat), (b < a ∨ a + n ≤ b) → (m.putPart a v n fuel).byte b = m.byte b
  | 0, _, _, _, _, _, _ => rfl
  | fuel + 1, m, a, v, n, b, h => by
    unfold Mem.putPart
    split
    · rfl
    · rename_i hn
      simp only
      rw [Mem.byte_putPart_outside fuel _ _ _ _ _ (by omega)]
      split
      · exact Mem.byte_putWord_outside _ _ _ _ (by omega)
      · exact Mem.byte_patchWord_outside _ _ _ _ _ _ (by omega)

/-- A write of `n` bytes leaves every byte outside them alone. -/
@[simp] theorem Mem.byte_put_outside (m : Mem) (a v n b : Nat) (h : b < a ∨ a + n ≤ b) : (m.put a v n).byte b = m.byte b :=
  Mem.byte_putPart_outside _ _ _ _ _ _ h

end Sys2Proof.Machine
end

