-- ==== Sys2Proof/Laws/State.lean ====
section
/-!
SUPPORT. Sys2Proof/Laws/State.lean: what each named update of the state leaves alone: one lemma per update and field, so that no proof unfolds an update.
-/
namespace Sys2Proof.Machine

variable (s : State)

/-! ## `State.setCore` changes `cores` only -/
@[simp] theorem State.setCore_pending (n : Nat) (c : Core) : (s.setCore n c).pending = s.pending := rfl
@[simp] theorem State.setCore_timebase (n : Nat) (c : Core) : (s.setCore n c).timebase = s.timebase := rfl
@[simp] theorem State.setCore_free (n : Nat) (c : Core) : (s.setCore n c).free = s.free := rfl
@[simp] theorem State.setCore_out (n : Nat) (c : Core) : (s.setCore n c).out = s.out := rfl
@[simp] theorem State.setCore_stage (n : Nat) (c : Core) : (s.setCore n c).stage = s.stage := rfl
@[simp] theorem State.setCore_dst (n : Nat) (c : Core) : (s.setCore n c).dst = s.dst := rfl
@[simp] theorem State.setCore_spineUp (n : Nat) (c : Core) : (s.setCore n c).spineUp = s.spineUp := rfl
@[simp] theorem State.setCore_activeStacks (n : Nat) (c : Core) : (s.setCore n c).activeStacks = s.activeStacks := rfl
@[simp] theorem State.setCore_dies (n : Nat) (c : Core) : (s.setCore n c).dies = s.dies := rfl
@[simp] theorem State.setCore_keepers (n : Nat) (c : Core) : (s.setCore n c).keepers = s.keepers := rfl
@[simp] theorem State.setCore_tally (n : Nat) (c : Core) : (s.setCore n c).tally = s.tally := rfl
@[simp] theorem State.setCore_staging (n : Nat) (c : Core) : (s.setCore n c).staging = s.staging := rfl
@[simp] theorem State.setCore_vault (n : Nat) (c : Core) : (s.setCore n c).vault = s.vault := rfl
@[simp] theorem State.setCore_mgmt (n : Nat) (c : Core) : (s.setCore n c).mgmt = s.mgmt := rfl
@[simp] theorem State.setCore_jobPhase (n : Nat) (c : Core) : (s.setCore n c).jobPhase = s.jobPhase := rfl
@[simp] theorem State.setCore_bootWait (n : Nat) (c : Core) : (s.setCore n c).bootWait = s.bootWait := rfl
@[simp] theorem State.setCore_stopAsked (n : Nat) (c : Core) : (s.setCore n c).stopAsked = s.stopAsked := rfl
@[simp] theorem State.setCore_idleInterval (n : Nat) (c : Core) : (s.setCore n c).idleInterval = s.idleInterval := rfl
@[simp] theorem State.setCore_faultsDue (n : Nat) (c : Core) : (s.setCore n c).faultsDue = s.faultsDue := rfl
@[simp] theorem State.setCore_regs (n : Nat) (c : Core) : (s.setCore n c).regs = s.regs := rfl
@[simp] theorem State.setCore_irqSent (n : Nat) (c : Core) : (s.setCore n c).irqSent = s.irqSent := rfl
@[simp] theorem State.setCore_latched (n : Nat) (c : Core) : (s.setCore n c).latched = s.latched := rfl
@[simp] theorem State.setCore_highHeld (n : Nat) (c : Core) : (s.setCore n c).highHeld = s.highHeld := rfl
@[simp] theorem State.setCore_lateReads (n : Nat) (c : Core) : (s.setCore n c).lateReads = s.lateReads := rfl
@[simp] theorem State.setCore_coreBuf (n : Nat) (c : Core) : (s.setCore n c).coreBuf = s.coreBuf := rfl
@[simp] theorem State.setCore_instStore (n : Nat) (c : Core) : (s.setCore n c).instStore = s.instStore := rfl
@[simp] theorem State.setCore_stks (n : Nat) (c : Core) : (s.setCore n c).stks = s.stks := rfl
@[simp] theorem State.setCore_rowStore (n : Nat) (c : Core) : (s.setCore n c).rowStore = s.rowStore := rfl
@[simp] theorem State.setCore_xes (n : Nat) (c : Core) : (s.setCore n c).xes = s.xes := rfl
@[simp] theorem State.setCore_pagers (n : Nat) (c : Core) : (s.setCore n c).pagers = s.pagers := rfl
@[simp] theorem State.setCore_chans (n : Nat) (c : Core) : (s.setCore n c).chans = s.chans := rfl
@[simp] theorem State.setCore_mainMem (n : Nat) (c : Core) : (s.setCore n c).mainMem = s.mainMem := rfl
@[simp] theorem State.setCore_thirds (n : Nat) (c : Core) : (s.setCore n c).thirds = s.thirds := rfl
@[simp] theorem State.setCore_sieves (n : Nat) (c : Core) : (s.setCore n c).sieves = s.sieves := rfl
@[simp] theorem State.setCore_kettleIn (n : Nat) (c : Core) : (s.setCore n c).kettleIn = s.kettleIn := rfl
@[simp] theorem State.setCore_groups (n : Nat) (c : Core) : (s.setCore n c).groups = s.groups := rfl
@[simp] theorem State.setCore_sites (n : Nat) (c : Core) : (s.setCore n c).sites = s.sites := rfl
@[simp] theorem State.setCore_statusQ (n : Nat) (c : Core) : (s.setCore n c).statusQ = s.statusQ := rfl
@[simp] theorem State.setCore_statusHeld (n : Nat) (c : Core) : (s.setCore n c).statusHeld = s.statusHeld := rfl
@[simp] theorem State.setCore_krelDue (n : Nat) (c : Core) : (s.setCore n c).krelDue = s.krelDue := rfl
@[simp] theorem State.setCore_rings (n : Nat) (c : Core) : (s.setCore n c).rings = s.rings := rfl
@[simp] theorem State.setCore_lsms (n : Nat) (c : Core) : (s.setCore n c).lsms = s.lsms := rfl
@[simp] theorem State.setCore_lines (n : Nat) (c : Core) : (s.setCore n c).lines = s.lines := rfl
@[simp] theorem State.setCore_inputs (n : Nat) (c : Core) : (s.setCore n c).inputs = s.inputs := rfl
@[simp] theorem State.setCore_refLight (n : Nat) (c : Core) : (s.setCore n c).refLight = s.refLight := rfl
@[simp] theorem State.setCore_calPass (n : Nat) (c : Core) : (s.setCore n c).calPass = s.calPass := rfl
@[simp] theorem State.setCore_identAt (n : Nat) (c : Core) : (s.setCore n c).identAt = s.identAt := rfl
@[simp] theorem State.setCore_hallWait (n : Nat) (c : Core) : (s.setCore n c).hallWait = s.hallWait := rfl
@[simp] theorem State.setCore_hallAsm (n : Nat) (c : Core) : (s.setCore n c).hallAsm = s.hallAsm := rfl
@[simp] theorem State.setCore_hallSeq (n : Nat) (c : Core) : (s.setCore n c).hallSeq = s.hallSeq := rfl
@[simp] theorem State.setCore_ports (n : Nat) (c : Core) : (s.setCore n c).ports = s.ports := rfl
@[simp] theorem State.setCore_originLow (n : Nat) (c : Core) : (s.setCore n c).originLow = s.originLow := rfl
@[simp] theorem State.setCore_discStart (n : Nat) (c : Core) : (s.setCore n c).discStart = s.discStart := rfl
@[simp] theorem State.setCore_restart (n : Nat) (c : Core) : (s.setCore n c).restart = s.restart := rfl
@[simp] theorem State.setCore_serving (n : Nat) (c : Core) : (s.setCore n c).serving = s.serving := rfl
@[simp] theorem State.setCore_job (n : Nat) (c : Core) : (s.setCore n c).job = s.job := rfl
@[simp] theorem State.setCore_regions (n : Nat) (c : Core) : (s.setCore n c).regions = s.regions := rfl
@[simp] theorem State.setCore_clock (n : Nat) (c : Core) : (s.setCore n c).clock = s.clock := rfl
@[simp] theorem State.setCore_power (n : Nat) (c : Core) : (s.setCore n c).power = s.power := rfl
@[simp] theorem State.setCore_diodes (n : Nat) (c : Core) : (s.setCore n c).diodes = s.diodes := rfl
@[simp] theorem State.setCore_stop (n : Nat) (c : Core) : (s.setCore n c).stop = s.stop := rfl
@[simp] theorem State.setCore_trip (n : Nat) (c : Core) : (s.setCore n c).trip = s.trip := rfl
@[simp] theorem State.setCore_reportOut (n : Nat) (c : Core) : (s.setCore n c).reportOut = s.reportOut := rfl
@[simp] theorem State.setCore_recov (n : Nat) (c : Core) : (s.setCore n c).recov = s.recov := rfl
@[simp] theorem State.setCore_tap (n : Nat) (c : Core) : (s.setCore n c).tap = s.tap := rfl
@[simp] theorem State.setCore_rstLow (n : Nat) (c : Core) : (s.setCore n c).rstLow = s.rstLow := rfl
@[simp] theorem State.setCore_warm (n : Nat) (c : Core) : (s.setCore n c).warm = s.warm := rfl
@[simp] theorem State.setCore_epochs (n : Nat) (c : Core) : (s.setCore n c).epochs = s.epochs := rfl
@[simp] theorem State.setCore_surgeNow (n : Nat) (c : Core) : (s.setCore n c).surgeNow = s.surgeNow := rfl
@[simp] theorem State.setCore_jobPool64 (n : Nat) (c : Core) : (s.setCore n c).jobPool64 = s.jobPool64 := rfl
@[simp] theorem State.setCore_jobPool2M (n : Nat) (c : Core) : (s.setCore n c).jobPool2M = s.jobPool2M := rfl

/-! ## `State.setStk` changes `stks` only -/
@[simp] theorem State.setStk_pending (n : Nat) (k : Stack) : (s.setStk n k).pending = s.pending := rfl
@[simp] theorem State.setStk_timebase (n : Nat) (k : Stack) : (s.setStk n k).timebase = s.timebase := rfl
@[simp] theorem State.setStk_free (n : Nat) (k : Stack) : (s.setStk n k).free = s.free := rfl
@[simp] theorem State.setStk_out (n : Nat) (k : Stack) : (s.setStk n k).out = s.out := rfl
@[simp] theorem State.setStk_stage (n : Nat) (k : Stack) : (s.setStk n k).stage = s.stage := rfl
@[simp] theorem State.setStk_dst (n : Nat) (k : Stack) : (s.setStk n k).dst = s.dst := rfl
@[simp] theorem State.setStk_spineUp (n : Nat) (k : Stack) : (s.setStk n k).spineUp = s.spineUp := rfl
@[simp] theorem State.setStk_activeStacks (n : Nat) (k : Stack) : (s.setStk n k).activeStacks = s.activeStacks := rfl
@[simp] theorem State.setStk_dies (n : Nat) (k : Stack) : (s.setStk n k).dies = s.dies := rfl
@[simp] theorem State.setStk_keepers (n : Nat) (k : Stack) : (s.setStk n k).keepers = s.keepers := rfl
@[simp] theorem State.setStk_tally (n : Nat) (k : Stack) : (s.setStk n k).tally = s.tally := rfl
@[simp] theorem State.setStk_staging (n : Nat) (k : Stack) : (s.setStk n k).staging = s.staging := rfl
@[simp] theorem State.setStk_vault (n : Nat) (k : Stack) : (s.setStk n k).vault = s.vault := rfl
@[simp] theorem State.setStk_mgmt (n : Nat) (k : Stack) : (s.setStk n k).mgmt = s.mgmt := rfl
@[simp] theorem State.setStk_jobPhase (n : Nat) (k : Stack) : (s.setStk n k).jobPhase = s.jobPhase := rfl
@[simp] theorem State.setStk_bootWait (n : Nat) (k : Stack) : (s.setStk n k).bootWait = s.bootWait := rfl
@[simp] theorem State.setStk_stopAsked (n : Nat) (k : Stack) : (s.setStk n k).stopAsked = s.stopAsked := rfl
@[simp] theorem State.setStk_idleInterval (n : Nat) (k : Stack) : (s.setStk n k).idleInterval = s.idleInterval := rfl
@[simp] theorem State.setStk_faultsDue (n : Nat) (k : Stack) : (s.setStk n k).faultsDue = s.faultsDue := rfl
@[simp] theorem State.setStk_regs (n : Nat) (k : Stack) : (s.setStk n k).regs = s.regs := rfl
@[simp] theorem State.setStk_irqSent (n : Nat) (k : Stack) : (s.setStk n k).irqSent = s.irqSent := rfl
@[simp] theorem State.setStk_latched (n : Nat) (k : Stack) : (s.setStk n k).latched = s.latched := rfl
@[simp] theorem State.setStk_highHeld (n : Nat) (k : Stack) : (s.setStk n k).highHeld = s.highHeld := rfl
@[simp] theorem State.setStk_lateReads (n : Nat) (k : Stack) : (s.setStk n k).lateReads = s.lateReads := rfl
@[simp] theorem State.setStk_cores (n : Nat) (k : Stack) : (s.setStk n k).cores = s.cores := rfl
@[simp] theorem State.setStk_coreBuf (n : Nat) (k : Stack) : (s.setStk n k).coreBuf = s.coreBuf := rfl
@[simp] theorem State.setStk_instStore (n : Nat) (k : Stack) : (s.setStk n k).instStore = s.instStore := rfl
@[simp] theorem State.setStk_rowStore (n : Nat) (k : Stack) : (s.setStk n k).rowStore = s.rowStore := rfl
@[simp] theorem State.setStk_xes (n : Nat) (k : Stack) : (s.setStk n k).xes = s.xes := rfl
@[simp] theorem State.setStk_pagers (n : Nat) (k : Stack) : (s.setStk n k).pagers = s.pagers := rfl
@[simp] theorem State.setStk_chans (n : Nat) (k : Stack) : (s.setStk n k).chans = s.chans := rfl
@[simp] theorem State.setStk_mainMem (n : Nat) (k : Stack) : (s.setStk n k).mainMem = s.mainMem := rfl
@[simp] theorem State.setStk_thirds (n : Nat) (k : Stack) : (s.setStk n k).thirds = s.thirds := rfl
@[simp] theorem State.setStk_sieves (n : Nat) (k : Stack) : (s.setStk n k).sieves = s.sieves := rfl
@[simp] theorem State.setStk_kettleIn (n : Nat) (k : Stack) : (s.setStk n k).kettleIn = s.kettleIn := rfl
@[simp] theorem State.setStk_groups (n : Nat) (k : Stack) : (s.setStk n k).groups = s.groups := rfl
@[simp] theorem State.setStk_sites (n : Nat) (k : Stack) : (s.setStk n k).sites = s.sites := rfl
@[simp] theorem State.setStk_statusQ (n : Nat) (k : Stack) : (s.setStk n k).statusQ = s.statusQ := rfl
@[simp] theorem State.setStk_statusHeld (n : Nat) (k : Stack) : (s.setStk n k).statusHeld = s.statusHeld := rfl
@[simp] theorem State.setStk_krelDue (n : Nat) (k : Stack) : (s.setStk n k).krelDue = s.krelDue := rfl
@[simp] theorem State.setStk_rings (n : Nat) (k : Stack) : (s.setStk n k).rings = s.rings := rfl
@[simp] theorem State.setStk_lsms (n : Nat) (k : Stack) : (s.setStk n k).lsms = s.lsms := rfl
@[simp] theorem State.setStk_lines (n : Nat) (k : Stack) : (s.setStk n k).lines = s.lines := rfl
@[simp] theorem State.setStk_inputs (n : Nat) (k : Stack) : (s.setStk n k).inputs = s.inputs := rfl
@[simp] theorem State.setStk_refLight (n : Nat) (k : Stack) : (s.setStk n k).refLight = s.refLight := rfl
@[simp] theorem State.setStk_calPass (n : Nat) (k : Stack) : (s.setStk n k).calPass = s.calPass := rfl
@[simp] theorem State.setStk_identAt (n : Nat) (k : Stack) : (s.setStk n k).identAt = s.identAt := rfl
@[simp] theorem State.setStk_hallWait (n : Nat) (k : Stack) : (s.setStk n k).hallWait = s.hallWait := rfl
@[simp] theorem State.setStk_hallAsm (n : Nat) (k : Stack) : (s.setStk n k).hallAsm = s.hallAsm := rfl
@[simp] theorem State.setStk_hallSeq (n : Nat) (k : Stack) : (s.setStk n k).hallSeq = s.hallSeq := rfl
@[simp] theorem State.setStk_ports (n : Nat) (k : Stack) : (s.setStk n k).ports = s.ports := rfl
@[simp] theorem State.setStk_originLow (n : Nat) (k : Stack) : (s.setStk n k).originLow = s.originLow := rfl
@[simp] theorem State.setStk_discStart (n : Nat) (k : Stack) : (s.setStk n k).discStart = s.discStart := rfl
@[simp] theorem State.setStk_restart (n : Nat) (k : Stack) : (s.setStk n k).restart = s.restart := rfl
@[simp] theorem State.setStk_serving (n : Nat) (k : Stack) : (s.setStk n k).serving = s.serving := rfl
@[simp] theorem State.setStk_job (n : Nat) (k : Stack) : (s.setStk n k).job = s.job := rfl
@[simp] theorem State.setStk_regions (n : Nat) (k : Stack) : (s.setStk n k).regions = s.regions := rfl
@[simp] theorem State.setStk_clock (n : Nat) (k : Stack) : (s.setStk n k).clock = s.clock := rfl
@[simp] theorem State.setStk_power (n : Nat) (k : Stack) : (s.setStk n k).power = s.power := rfl
@[simp] theorem State.setStk_diodes (n : Nat) (k : Stack) : (s.setStk n k).diodes = s.diodes := rfl
@[simp] theorem State.setStk_stop (n : Nat) (k : Stack) : (s.setStk n k).stop = s.stop := rfl
@[simp] theorem State.setStk_trip (n : Nat) (k : Stack) : (s.setStk n k).trip = s.trip := rfl
@[simp] theorem State.setStk_reportOut (n : Nat) (k : Stack) : (s.setStk n k).reportOut = s.reportOut := rfl
@[simp] theorem State.setStk_recov (n : Nat) (k : Stack) : (s.setStk n k).recov = s.recov := rfl
@[simp] theorem State.setStk_tap (n : Nat) (k : Stack) : (s.setStk n k).tap = s.tap := rfl
@[simp] theorem State.setStk_rstLow (n : Nat) (k : Stack) : (s.setStk n k).rstLow = s.rstLow := rfl
@[simp] theorem State.setStk_warm (n : Nat) (k : Stack) : (s.setStk n k).warm = s.warm := rfl
@[simp] theorem State.setStk_epochs (n : Nat) (k : Stack) : (s.setStk n k).epochs = s.epochs := rfl
@[simp] theorem State.setStk_surgeNow (n : Nat) (k : Stack) : (s.setStk n k).surgeNow = s.surgeNow := rfl
@[simp] theorem State.setStk_jobPool64 (n : Nat) (k : Stack) : (s.setStk n k).jobPool64 = s.jobPool64 := rfl
@[simp] theorem State.setStk_jobPool2M (n : Nat) (k : Stack) : (s.setStk n k).jobPool2M = s.jobPool2M := rfl

/-! ## `State.setXe` changes `xes` only -/
@[simp] theorem State.setXe_pending (n : Nat) (x : Xe) : (s.setXe n x).pending = s.pending := rfl
@[simp] theorem State.setXe_timebase (n : Nat) (x : Xe) : (s.setXe n x).timebase = s.timebase := rfl
@[simp] theorem State.setXe_free (n : Nat) (x : Xe) : (s.setXe n x).free = s.free := rfl
@[simp] theorem State.setXe_out (n : Nat) (x : Xe) : (s.setXe n x).out = s.out := rfl
@[simp] theorem State.setXe_stage (n : Nat) (x : Xe) : (s.setXe n x).stage = s.stage := rfl
@[simp] theorem State.setXe_dst (n : Nat) (x : Xe) : (s.setXe n x).dst = s.dst := rfl
@[simp] theorem State.setXe_spineUp (n : Nat) (x : Xe) : (s.setXe n x).spineUp = s.spineUp := rfl
@[simp] theorem State.setXe_activeStacks (n : Nat) (x : Xe) : (s.setXe n x).activeStacks = s.activeStacks := rfl
@[simp] theorem State.setXe_dies (n : Nat) (x : Xe) : (s.setXe n x).dies = s.dies := rfl
@[simp] theorem State.setXe_keepers (n : Nat) (x : Xe) : (s.setXe n x).keepers = s.keepers := rfl
@[simp] theorem State.setXe_tally (n : Nat) (x : Xe) : (s.setXe n x).tally = s.tally := rfl
@[simp] theorem State.setXe_staging (n : Nat) (x : Xe) : (s.setXe n x).staging = s.staging := rfl
@[simp] theorem State.setXe_vault (n : Nat) (x : Xe) : (s.setXe n x).vault = s.vault := rfl
@[simp] theorem State.setXe_mgmt (n : Nat) (x : Xe) : (s.setXe n x).mgmt = s.mgmt := rfl
@[simp] theorem State.setXe_jobPhase (n : Nat) (x : Xe) : (s.setXe n x).jobPhase = s.jobPhase := rfl
@[simp] theorem State.setXe_bootWait (n : Nat) (x : Xe) : (s.setXe n x).bootWait = s.bootWait := rfl
@[simp] theorem State.setXe_stopAsked (n : Nat) (x : Xe) : (s.setXe n x).stopAsked = s.stopAsked := rfl
@[simp] theorem State.setXe_idleInterval (n : Nat) (x : Xe) : (s.setXe n x).idleInterval = s.idleInterval := rfl
@[simp] theorem State.setXe_faultsDue (n : Nat) (x : Xe) : (s.setXe n x).faultsDue = s.faultsDue := rfl
@[simp] theorem State.setXe_regs (n : Nat) (x : Xe) : (s.setXe n x).regs = s.regs := rfl
@[simp] theorem State.setXe_irqSent (n : Nat) (x : Xe) : (s.setXe n x).irqSent = s.irqSent := rfl
@[simp] theorem State.setXe_latched (n : Nat) (x : Xe) : (s.setXe n x).latched = s.latched := rfl
@[simp] theorem State.setXe_highHeld (n : Nat) (x : Xe) : (s.setXe n x).highHeld = s.highHeld := rfl
@[simp] theorem State.setXe_lateReads (n : Nat) (x : Xe) : (s.setXe n x).lateReads = s.lateReads := rfl
@[simp] theorem State.setXe_cores (n : Nat) (x : Xe) : (s.setXe n x).cores = s.cores := rfl
@[simp] theorem State.setXe_coreBuf (n : Nat) (x : Xe) : (s.setXe n x).coreBuf = s.coreBuf := rfl
@[simp] theorem State.setXe_instStore (n : Nat) (x : Xe) : (s.setXe n x).instStore = s.instStore := rfl
@[simp] theorem State.setXe_stks (n : Nat) (x : Xe) : (s.setXe n x).stks = s.stks := rfl
@[simp] theorem State.setXe_rowStore (n : Nat) (x : Xe) : (s.setXe n x).rowStore = s.rowStore := rfl
@[simp] theorem State.setXe_pagers (n : Nat) (x : Xe) : (s.setXe n x).pagers = s.pagers := rfl
@[simp] theorem State.setXe_chans (n : Nat) (x : Xe) : (s.setXe n x).chans = s.chans := rfl
@[simp] theorem State.setXe_mainMem (n : Nat) (x : Xe) : (s.setXe n x).mainMem = s.mainMem := rfl
@[simp] theorem State.setXe_thirds (n : Nat) (x : Xe) : (s.setXe n x).thirds = s.thirds := rfl
@[simp] theorem State.setXe_sieves (n : Nat) (x : Xe) : (s.setXe n x).sieves = s.sieves := rfl
@[simp] theorem State.setXe_kettleIn (n : Nat) (x : Xe) : (s.setXe n x).kettleIn = s.kettleIn := rfl
@[simp] theorem State.setXe_groups (n : Nat) (x : Xe) : (s.setXe n x).groups = s.groups := rfl
@[simp] theorem State.setXe_sites (n : Nat) (x : Xe) : (s.setXe n x).sites = s.sites := rfl
@[simp] theorem State.setXe_statusQ (n : Nat) (x : Xe) : (s.setXe n x).statusQ = s.statusQ := rfl
@[simp] theorem State.setXe_statusHeld (n : Nat) (x : Xe) : (s.setXe n x).statusHeld = s.statusHeld := rfl
@[simp] theorem State.setXe_krelDue (n : Nat) (x : Xe) : (s.setXe n x).krelDue = s.krelDue := rfl
@[simp] theorem State.setXe_rings (n : Nat) (x : Xe) : (s.setXe n x).rings = s.rings := rfl
@[simp] theorem State.setXe_lsms (n : Nat) (x : Xe) : (s.setXe n x).lsms = s.lsms := rfl
@[simp] theorem State.setXe_lines (n : Nat) (x : Xe) : (s.setXe n x).lines = s.lines := rfl
@[simp] theorem State.setXe_inputs (n : Nat) (x : Xe) : (s.setXe n x).inputs = s.inputs := rfl
@[simp] theorem State.setXe_refLight (n : Nat) (x : Xe) : (s.setXe n x).refLight = s.refLight := rfl
@[simp] theorem State.setXe_calPass (n : Nat) (x : Xe) : (s.setXe n x).calPass = s.calPass := rfl
@[simp] theorem State.setXe_identAt (n : Nat) (x : Xe) : (s.setXe n x).identAt = s.identAt := rfl
@[simp] theorem State.setXe_hallWait (n : Nat) (x : Xe) : (s.setXe n x).hallWait = s.hallWait := rfl
@[simp] theorem State.setXe_hallAsm (n : Nat) (x : Xe) : (s.setXe n x).hallAsm = s.hallAsm := rfl
@[simp] theorem State.setXe_hallSeq (n : Nat) (x : Xe) : (s.setXe n x).hallSeq = s.hallSeq := rfl
@[simp] theorem State.setXe_ports (n : Nat) (x : Xe) : (s.setXe n x).ports = s.ports := rfl
@[simp] theorem State.setXe_originLow (n : Nat) (x : Xe) : (s.setXe n x).originLow = s.originLow := rfl
@[simp] theorem State.setXe_discStart (n : Nat) (x : Xe) : (s.setXe n x).discStart = s.discStart := rfl
@[simp] theorem State.setXe_restart (n : Nat) (x : Xe) : (s.setXe n x).restart = s.restart := rfl
@[simp] theorem State.setXe_serving (n : Nat) (x : Xe) : (s.setXe n x).serving = s.serving := rfl
@[simp] theorem State.setXe_job (n : Nat) (x : Xe) : (s.setXe n x).job = s.job := rfl
@[simp] theorem State.setXe_regions (n : Nat) (x : Xe) : (s.setXe n x).regions = s.regions := rfl
@[simp] theorem State.setXe_clock (n : Nat) (x : Xe) : (s.setXe n x).clock = s.clock := rfl
@[simp] theorem State.setXe_power (n : Nat) (x : Xe) : (s.setXe n x).power = s.power := rfl
@[simp] theorem State.setXe_diodes (n : Nat) (x : Xe) : (s.setXe n x).diodes = s.diodes := rfl
@[simp] theorem State.setXe_stop (n : Nat) (x : Xe) : (s.setXe n x).stop = s.stop := rfl
@[simp] theorem State.setXe_trip (n : Nat) (x : Xe) : (s.setXe n x).trip = s.trip := rfl
@[simp] theorem State.setXe_reportOut (n : Nat) (x : Xe) : (s.setXe n x).reportOut = s.reportOut := rfl
@[simp] theorem State.setXe_recov (n : Nat) (x : Xe) : (s.setXe n x).recov = s.recov := rfl
@[simp] theorem State.setXe_tap (n : Nat) (x : Xe) : (s.setXe n x).tap = s.tap := rfl
@[simp] theorem State.setXe_rstLow (n : Nat) (x : Xe) : (s.setXe n x).rstLow = s.rstLow := rfl
@[simp] theorem State.setXe_warm (n : Nat) (x : Xe) : (s.setXe n x).warm = s.warm := rfl
@[simp] theorem State.setXe_epochs (n : Nat) (x : Xe) : (s.setXe n x).epochs = s.epochs := rfl
@[simp] theorem State.setXe_surgeNow (n : Nat) (x : Xe) : (s.setXe n x).surgeNow = s.surgeNow := rfl
@[simp] theorem State.setXe_jobPool64 (n : Nat) (x : Xe) : (s.setXe n x).jobPool64 = s.jobPool64 := rfl
@[simp] theorem State.setXe_jobPool2M (n : Nat) (x : Xe) : (s.setXe n x).jobPool2M = s.jobPool2M := rfl

/-! ## `State.setPager` changes `pagers` only -/
@[simp] theorem State.setPager_pending (n : Nat) (p : Pager) : (s.setPager n p).pending = s.pending := rfl
@[simp] theorem State.setPager_timebase (n : Nat) (p : Pager) : (s.setPager n p).timebase = s.timebase := rfl
@[simp] theorem State.setPager_free (n : Nat) (p : Pager) : (s.setPager n p).free = s.free := rfl
@[simp] theorem State.setPager_out (n : Nat) (p : Pager) : (s.setPager n p).out = s.out := rfl
@[simp] theorem State.setPager_stage (n : Nat) (p : Pager) : (s.setPager n p).stage = s.stage := rfl
@[simp] theorem State.setPager_dst (n : Nat) (p : Pager) : (s.setPager n p).dst = s.dst := rfl
@[simp] theorem State.setPager_spineUp (n : Nat) (p : Pager) : (s.setPager n p).spineUp = s.spineUp := rfl
@[simp] theorem State.setPager_activeStacks (n : Nat) (p : Pager) : (s.setPager n p).activeStacks = s.activeStacks := rfl
@[simp] theorem State.setPager_dies (n : Nat) (p : Pager) : (s.setPager n p).dies = s.dies := rfl
@[simp] theorem State.setPager_keepers (n : Nat) (p : Pager) : (s.setPager n p).keepers = s.keepers := rfl
@[simp] theorem State.setPager_tally (n : Nat) (p : Pager) : (s.setPager n p).tally = s.tally := rfl
@[simp] theorem State.setPager_staging (n : Nat) (p : Pager) : (s.setPager n p).staging = s.staging := rfl
@[simp] theorem State.setPager_vault (n : Nat) (p : Pager) : (s.setPager n p).vault = s.vault := rfl
@[simp] theorem State.setPager_mgmt (n : Nat) (p : Pager) : (s.setPager n p).mgmt = s.mgmt := rfl
@[simp] theorem State.setPager_jobPhase (n : Nat) (p : Pager) : (s.setPager n p).jobPhase = s.jobPhase := rfl
@[simp] theorem State.setPager_bootWait (n : Nat) (p : Pager) : (s.setPager n p).bootWait = s.bootWait := rfl
@[simp] theorem State.setPager_stopAsked (n : Nat) (p : Pager) : (s.setPager n p).stopAsked = s.stopAsked := rfl
@[simp] theorem State.setPager_idleInterval (n : Nat) (p : Pager) : (s.setPager n p).idleInterval = s.idleInterval := rfl
@[simp] theorem State.setPager_faultsDue (n : Nat) (p : Pager) : (s.setPager n p).faultsDue = s.faultsDue := rfl
@[simp] theorem State.setPager_regs (n : Nat) (p : Pager) : (s.setPager n p).regs = s.regs := rfl
@[simp] theorem State.setPager_irqSent (n : Nat) (p : Pager) : (s.setPager n p).irqSent = s.irqSent := rfl
@[simp] theorem State.setPager_latched (n : Nat) (p : Pager) : (s.setPager n p).latched = s.latched := rfl
@[simp] theorem State.setPager_highHeld (n : Nat) (p : Pager) : (s.setPager n p).highHeld = s.highHeld := rfl
@[simp] theorem State.setPager_lateReads (n : Nat) (p : Pager) : (s.setPager n p).lateReads = s.lateReads := rfl
@[simp] theorem State.setPager_cores (n : Nat) (p : Pager) : (s.setPager n p).cores = s.cores := rfl
@[simp] theorem State.setPager_coreBuf (n : Nat) (p : Pager) : (s.setPager n p).coreBuf = s.coreBuf := rfl
@[simp] theorem State.setPager_instStore (n : Nat) (p : Pager) : (s.setPager n p).instStore = s.instStore := rfl
@[simp] theorem State.setPager_stks (n : Nat) (p : Pager) : (s.setPager n p).stks = s.stks := rfl
@[simp] theorem State.setPager_rowStore (n : Nat) (p : Pager) : (s.setPager n p).rowStore = s.rowStore := rfl
@[simp] theorem State.setPager_xes (n : Nat) (p : Pager) : (s.setPager n p).xes = s.xes := rfl
@[simp] theorem State.setPager_chans (n : Nat) (p : Pager) : (s.setPager n p).chans = s.chans := rfl
@[simp] theorem State.setPager_mainMem (n : Nat) (p : Pager) : (s.setPager n p).mainMem = s.mainMem := rfl
@[simp] theorem State.setPager_thirds (n : Nat) (p : Pager) : (s.setPager n p).thirds = s.thirds := rfl
@[simp] theorem State.setPager_sieves (n : Nat) (p : Pager) : (s.setPager n p).sieves = s.sieves := rfl
@[simp] theorem State.setPager_kettleIn (n : Nat) (p : Pager) : (s.setPager n p).kettleIn = s.kettleIn := rfl
@[simp] theorem State.setPager_groups (n : Nat) (p : Pager) : (s.setPager n p).groups = s.groups := rfl
@[simp] theorem State.setPager_sites (n : Nat) (p : Pager) : (s.setPager n p).sites = s.sites := rfl
@[simp] theorem State.setPager_statusQ (n : Nat) (p : Pager) : (s.setPager n p).statusQ = s.statusQ := rfl
@[simp] theorem State.setPager_statusHeld (n : Nat) (p : Pager) : (s.setPager n p).statusHeld = s.statusHeld := rfl
@[simp] theorem State.setPager_krelDue (n : Nat) (p : Pager) : (s.setPager n p).krelDue = s.krelDue := rfl
@[simp] theorem State.setPager_rings (n : Nat) (p : Pager) : (s.setPager n p).rings = s.rings := rfl
@[simp] theorem State.setPager_lsms (n : Nat) (p : Pager) : (s.setPager n p).lsms = s.lsms := rfl
@[simp] theorem State.setPager_lines (n : Nat) (p : Pager) : (s.setPager n p).lines = s.lines := rfl
@[simp] theorem State.setPager_inputs (n : Nat) (p : Pager) : (s.setPager n p).inputs = s.inputs := rfl
@[simp] theorem State.setPager_refLight (n : Nat) (p : Pager) : (s.setPager n p).refLight = s.refLight := rfl
@[simp] theorem State.setPager_calPass (n : Nat) (p : Pager) : (s.setPager n p).calPass = s.calPass := rfl
@[simp] theorem State.setPager_identAt (n : Nat) (p : Pager) : (s.setPager n p).identAt = s.identAt := rfl
@[simp] theorem State.setPager_hallWait (n : Nat) (p : Pager) : (s.setPager n p).hallWait = s.hallWait := rfl
@[simp] theorem State.setPager_hallAsm (n : Nat) (p : Pager) : (s.setPager n p).hallAsm = s.hallAsm := rfl
@[simp] theorem State.setPager_hallSeq (n : Nat) (p : Pager) : (s.setPager n p).hallSeq = s.hallSeq := rfl
@[simp] theorem State.setPager_ports (n : Nat) (p : Pager) : (s.setPager n p).ports = s.ports := rfl
@[simp] theorem State.setPager_originLow (n : Nat) (p : Pager) : (s.setPager n p).originLow = s.originLow := rfl
@[simp] theorem State.setPager_discStart (n : Nat) (p : Pager) : (s.setPager n p).discStart = s.discStart := rfl
@[simp] theorem State.setPager_restart (n : Nat) (p : Pager) : (s.setPager n p).restart = s.restart := rfl
@[simp] theorem State.setPager_serving (n : Nat) (p : Pager) : (s.setPager n p).serving = s.serving := rfl
@[simp] theorem State.setPager_job (n : Nat) (p : Pager) : (s.setPager n p).job = s.job := rfl
@[simp] theorem State.setPager_regions (n : Nat) (p : Pager) : (s.setPager n p).regions = s.regions := rfl
@[simp] theorem State.setPager_clock (n : Nat) (p : Pager) : (s.setPager n p).clock = s.clock := rfl
@[simp] theorem State.setPager_power (n : Nat) (p : Pager) : (s.setPager n p).power = s.power := rfl
@[simp] theorem State.setPager_diodes (n : Nat) (p : Pager) : (s.setPager n p).diodes = s.diodes := rfl
@[simp] theorem State.setPager_stop (n : Nat) (p : Pager) : (s.setPager n p).stop = s.stop := rfl
@[simp] theorem State.setPager_trip (n : Nat) (p : Pager) : (s.setPager n p).trip = s.trip := rfl
@[simp] theorem State.setPager_reportOut (n : Nat) (p : Pager) : (s.setPager n p).reportOut = s.reportOut := rfl
@[simp] theorem State.setPager_recov (n : Nat) (p : Pager) : (s.setPager n p).recov = s.recov := rfl
@[simp] theorem State.setPager_tap (n : Nat) (p : Pager) : (s.setPager n p).tap = s.tap := rfl
@[simp] theorem State.setPager_rstLow (n : Nat) (p : Pager) : (s.setPager n p).rstLow = s.rstLow := rfl
@[simp] theorem State.setPager_warm (n : Nat) (p : Pager) : (s.setPager n p).warm = s.warm := rfl
@[simp] theorem State.setPager_epochs (n : Nat) (p : Pager) : (s.setPager n p).epochs = s.epochs := rfl
@[simp] theorem State.setPager_surgeNow (n : Nat) (p : Pager) : (s.setPager n p).surgeNow = s.surgeNow := rfl
@[simp] theorem State.setPager_jobPool64 (n : Nat) (p : Pager) : (s.setPager n p).jobPool64 = s.jobPool64 := rfl
@[simp] theorem State.setPager_jobPool2M (n : Nat) (p : Pager) : (s.setPager n p).jobPool2M = s.jobPool2M := rfl

/-! ## `State.setChan` changes `chans` only -/
@[simp] theorem State.setChan_pending (n : Nat) (c : Chan) : (s.setChan n c).pending = s.pending := rfl
@[simp] theorem State.setChan_timebase (n : Nat) (c : Chan) : (s.setChan n c).timebase = s.timebase := rfl
@[simp] theorem State.setChan_free (n : Nat) (c : Chan) : (s.setChan n c).free = s.free := rfl
@[simp] theorem State.setChan_out (n : Nat) (c : Chan) : (s.setChan n c).out = s.out := rfl
@[simp] theorem State.setChan_stage (n : Nat) (c : Chan) : (s.setChan n c).stage = s.stage := rfl
@[simp] theorem State.setChan_dst (n : Nat) (c : Chan) : (s.setChan n c).dst = s.dst := rfl
@[simp] theorem State.setChan_spineUp (n : Nat) (c : Chan) : (s.setChan n c).spineUp = s.spineUp := rfl
@[simp] theorem State.setChan_activeStacks (n : Nat) (c : Chan) : (s.setChan n c).activeStacks = s.activeStacks := rfl
@[simp] theorem State.setChan_dies (n : Nat) (c : Chan) : (s.setChan n c).dies = s.dies := rfl
@[simp] theorem State.setChan_keepers (n : Nat) (c : Chan) : (s.setChan n c).keepers = s.keepers := rfl
@[simp] theorem State.setChan_tally (n : Nat) (c : Chan) : (s.setChan n c).tally = s.tally := rfl
@[simp] theorem State.setChan_staging (n : Nat) (c : Chan) : (s.setChan n c).staging = s.staging := rfl
@[simp] theorem State.setChan_vault (n : Nat) (c : Chan) : (s.setChan n c).vault = s.vault := rfl
@[simp] theorem State.setChan_mgmt (n : Nat) (c : Chan) : (s.setChan n c).mgmt = s.mgmt := rfl
@[simp] theorem State.setChan_jobPhase (n : Nat) (c : Chan) : (s.setChan n c).jobPhase = s.jobPhase := rfl
@[simp] theorem State.setChan_bootWait (n : Nat) (c : Chan) : (s.setChan n c).bootWait = s.bootWait := rfl
@[simp] theorem State.setChan_stopAsked (n : Nat) (c : Chan) : (s.setChan n c).stopAsked = s.stopAsked := rfl
@[simp] theorem State.setChan_idleInterval (n : Nat) (c : Chan) : (s.setChan n c).idleInterval = s.idleInterval := rfl
@[simp] theorem State.setChan_faultsDue (n : Nat) (c : Chan) : (s.setChan n c).faultsDue = s.faultsDue := rfl
@[simp] theorem State.setChan_regs (n : Nat) (c : Chan) : (s.setChan n c).regs = s.regs := rfl
@[simp] theorem State.setChan_irqSent (n : Nat) (c : Chan) : (s.setChan n c).irqSent = s.irqSent := rfl
@[simp] theorem State.setChan_latched (n : Nat) (c : Chan) : (s.setChan n c).latched = s.latched := rfl
@[simp] theorem State.setChan_highHeld (n : Nat) (c : Chan) : (s.setChan n c).highHeld = s.highHeld := rfl
@[simp] theorem State.setChan_lateReads (n : Nat) (c : Chan) : (s.setChan n c).lateReads = s.lateReads := rfl
@[simp] theorem State.setChan_cores (n : Nat) (c : Chan) : (s.setChan n c).cores = s.cores := rfl
@[simp] theorem State.setChan_coreBuf (n : Nat) (c : Chan) : (s.setChan n c).coreBuf = s.coreBuf := rfl
@[simp] theorem State.setChan_instStore (n : Nat) (c : Chan) : (s.setChan n c).instStore = s.instStore := rfl
@[simp] theorem State.setChan_stks (n : Nat) (c : Chan) : (s.setChan n c).stks = s.stks := rfl
@[simp] theorem State.setChan_rowStore (n : Nat) (c : Chan) : (s.setChan n c).rowStore = s.rowStore := rfl
@[simp] theorem State.setChan_xes (n : Nat) (c : Chan) : (s.setChan n c).xes = s.xes := rfl
@[simp] theorem State.setChan_pagers (n : Nat) (c : Chan) : (s.setChan n c).pagers = s.pagers := rfl
@[simp] theorem State.setChan_mainMem (n : Nat) (c : Chan) : (s.setChan n c).mainMem = s.mainMem := rfl
@[simp] theorem State.setChan_thirds (n : Nat) (c : Chan) : (s.setChan n c).thirds = s.thirds := rfl
@[simp] theorem State.setChan_sieves (n : Nat) (c : Chan) : (s.setChan n c).sieves = s.sieves := rfl
@[simp] theorem State.setChan_kettleIn (n : Nat) (c : Chan) : (s.setChan n c).kettleIn = s.kettleIn := rfl
@[simp] theorem State.setChan_groups (n : Nat) (c : Chan) : (s.setChan n c).groups = s.groups := rfl
@[simp] theorem State.setChan_sites (n : Nat) (c : Chan) : (s.setChan n c).sites = s.sites := rfl
@[simp] theorem State.setChan_statusQ (n : Nat) (c : Chan) : (s.setChan n c).statusQ = s.statusQ := rfl
@[simp] theorem State.setChan_statusHeld (n : Nat) (c : Chan) : (s.setChan n c).statusHeld = s.statusHeld := rfl
@[simp] theorem State.setChan_krelDue (n : Nat) (c : Chan) : (s.setChan n c).krelDue = s.krelDue := rfl
@[simp] theorem State.setChan_rings (n : Nat) (c : Chan) : (s.setChan n c).rings = s.rings := rfl
@[simp] theorem State.setChan_lsms (n : Nat) (c : Chan) : (s.setChan n c).lsms = s.lsms := rfl
@[simp] theorem State.setChan_lines (n : Nat) (c : Chan) : (s.setChan n c).lines = s.lines := rfl
@[simp] theorem State.setChan_inputs (n : Nat) (c : Chan) : (s.setChan n c).inputs = s.inputs := rfl
@[simp] theorem State.setChan_refLight (n : Nat) (c : Chan) : (s.setChan n c).refLight = s.refLight := rfl
@[simp] theorem State.setChan_calPass (n : Nat) (c : Chan) : (s.setChan n c).calPass = s.calPass := rfl
@[simp] theorem State.setChan_identAt (n : Nat) (c : Chan) : (s.setChan n c).identAt = s.identAt := rfl
@[simp] theorem State.setChan_hallWait (n : Nat) (c : Chan) : (s.setChan n c).hallWait = s.hallWait := rfl
@[simp] theorem State.setChan_hallAsm (n : Nat) (c : Chan) : (s.setChan n c).hallAsm = s.hallAsm := rfl
@[simp] theorem State.setChan_hallSeq (n : Nat) (c : Chan) : (s.setChan n c).hallSeq = s.hallSeq := rfl
@[simp] theorem State.setChan_ports (n : Nat) (c : Chan) : (s.setChan n c).ports = s.ports := rfl
@[simp] theorem State.setChan_originLow (n : Nat) (c : Chan) : (s.setChan n c).originLow = s.originLow := rfl
@[simp] theorem State.setChan_discStart (n : Nat) (c : Chan) : (s.setChan n c).discStart = s.discStart := rfl
@[simp] theorem State.setChan_restart (n : Nat) (c : Chan) : (s.setChan n c).restart = s.restart := rfl
@[simp] theorem State.setChan_serving (n : Nat) (c : Chan) : (s.setChan n c).serving = s.serving := rfl
@[simp] theorem State.setChan_job (n : Nat) (c : Chan) : (s.setChan n c).job = s.job := rfl
@[simp] theorem State.setChan_regions (n : Nat) (c : Chan) : (s.setChan n c).regions = s.regions := rfl
@[simp] theorem State.setChan_clock (n : Nat) (c : Chan) : (s.setChan n c).clock = s.clock := rfl
@[simp] theorem State.setChan_power (n : Nat) (c : Chan) : (s.setChan n c).power = s.power := rfl
@[simp] theorem State.setChan_diodes (n : Nat) (c : Chan) : (s.setChan n c).diodes = s.diodes := rfl
@[simp] theorem State.setChan_stop (n : Nat) (c : Chan) : (s.setChan n c).stop = s.stop := rfl
@[simp] theorem State.setChan_trip (n : Nat) (c : Chan) : (s.setChan n c).trip = s.trip := rfl
@[simp] theorem State.setChan_reportOut (n : Nat) (c : Chan) : (s.setChan n c).reportOut = s.reportOut := rfl
@[simp] theorem State.setChan_recov (n : Nat) (c : Chan) : (s.setChan n c).recov = s.recov := rfl
@[simp] theorem State.setChan_tap (n : Nat) (c : Chan) : (s.setChan n c).tap = s.tap := rfl
@[simp] theorem State.setChan_rstLow (n : Nat) (c : Chan) : (s.setChan n c).rstLow = s.rstLow := rfl
@[simp] theorem State.setChan_warm (n : Nat) (c : Chan) : (s.setChan n c).warm = s.warm := rfl
@[simp] theorem State.setChan_epochs (n : Nat) (c : Chan) : (s.setChan n c).epochs = s.epochs := rfl
@[simp] theorem State.setChan_surgeNow (n : Nat) (c : Chan) : (s.setChan n c).surgeNow = s.surgeNow := rfl
@[simp] theorem State.setChan_jobPool64 (n : Nat) (c : Chan) : (s.setChan n c).jobPool64 = s.jobPool64 := rfl
@[simp] theorem State.setChan_jobPool2M (n : Nat) (c : Chan) : (s.setChan n c).jobPool2M = s.jobPool2M := rfl

/-! ## `State.setDie` changes `dies` only -/
@[simp] theorem State.setDie_pending (c : Nat) (d : Die) : (s.setDie c d).pending = s.pending := rfl
@[simp] theorem State.setDie_timebase (c : Nat) (d : Die) : (s.setDie c d).timebase = s.timebase := rfl
@[simp] theorem State.setDie_free (c : Nat) (d : Die) : (s.setDie c d).free = s.free := rfl
@[simp] theorem State.setDie_out (c : Nat) (d : Die) : (s.setDie c d).out = s.out := rfl
@[simp] theorem State.setDie_stage (c : Nat) (d : Die) : (s.setDie c d).stage = s.stage := rfl
@[simp] theorem State.setDie_dst (c : Nat) (d : Die) : (s.setDie c d).dst = s.dst := rfl
@[simp] theorem State.setDie_spineUp (c : Nat) (d : Die) : (s.setDie c d).spineUp = s.spineUp := rfl
@[simp] theorem State.setDie_activeStacks (c : Nat) (d : Die) : (s.setDie c d).activeStacks = s.activeStacks := rfl
@[simp] theorem State.setDie_keepers (c : Nat) (d : Die) : (s.setDie c d).keepers = s.keepers := rfl
@[simp] theorem State.setDie_tally (c : Nat) (d : Die) : (s.setDie c d).tally = s.tally := rfl
@[simp] theorem State.setDie_staging (c : Nat) (d : Die) : (s.setDie c d).staging = s.staging := rfl
@[simp] theorem State.setDie_vault (c : Nat) (d : Die) : (s.setDie c d).vault = s.vault := rfl
@[simp] theorem State.setDie_mgmt (c : Nat) (d : Die) : (s.setDie c d).mgmt = s.mgmt := rfl
@[simp] theorem State.setDie_jobPhase (c : Nat) (d : Die) : (s.setDie c d).jobPhase = s.jobPhase := rfl
@[simp] theorem State.setDie_bootWait (c : Nat) (d : Die) : (s.setDie c d).bootWait = s.bootWait := rfl
@[simp] theorem State.setDie_stopAsked (c : Nat) (d : Die) : (s.setDie c d).stopAsked = s.stopAsked := rfl
@[simp] theorem State.setDie_idleInterval (c : Nat) (d : Die) : (s.setDie c d).idleInterval = s.idleInterval := rfl
@[simp] theorem State.setDie_faultsDue (c : Nat) (d : Die) : (s.setDie c d).faultsDue = s.faultsDue := rfl
@[simp] theorem State.setDie_regs (c : Nat) (d : Die) : (s.setDie c d).regs = s.regs := rfl
@[simp] theorem State.setDie_irqSent (c : Nat) (d : Die) : (s.setDie c d).irqSent = s.irqSent := rfl
@[simp] theorem State.setDie_latched (c : Nat) (d : Die) : (s.setDie c d).latched = s.latched := rfl
@[simp] theorem State.setDie_highHeld (c : Nat) (d : Die) : (s.setDie c d).highHeld = s.highHeld := rfl
@[simp] theorem State.setDie_lateReads (c : Nat) (d : Die) : (s.setDie c d).lateReads = s.lateReads := rfl
@[simp] theorem State.setDie_cores (c : Nat) (d : Die) : (s.setDie c d).cores = s.cores := rfl
@[simp] theorem State.setDie_coreBuf (c : Nat) (d : Die) : (s.setDie c d).coreBuf = s.coreBuf := rfl
@[simp] theorem State.setDie_instStore (c : Nat) (d : Die) : (s.setDie c d).instStore = s.instStore := rfl
@[simp] theorem State.setDie_stks (c : Nat) (d : Die) : (s.setDie c d).stks = s.stks := rfl
@[simp] theorem State.setDie_rowStore (c : Nat) (d : Die) : (s.setDie c d).rowStore = s.rowStore := rfl
@[simp] theorem State.setDie_xes (c : Nat) (d : Die) : (s.setDie c d).xes = s.xes := rfl
@[simp] theorem State.setDie_pagers (c : Nat) (d : Die) : (s.setDie c d).pagers = s.pagers := rfl
@[simp] theorem State.setDie_chans (c : Nat) (d : Die) : (s.setDie c d).chans = s.chans := rfl
@[simp] theorem State.setDie_mainMem (c : Nat) (d : Die) : (s.setDie c d).mainMem = s.mainMem := rfl
@[simp] theorem State.setDie_thirds (c : Nat) (d : Die) : (s.setDie c d).thirds = s.thirds := rfl
@[simp] theorem State.setDie_sieves (c : Nat) (d : Die) : (s.setDie c d).sieves = s.sieves := rfl
@[simp] theorem State.setDie_kettleIn (c : Nat) (d : Die) : (s.setDie c d).kettleIn = s.kettleIn := rfl
@[simp] theorem State.setDie_groups (c : Nat) (d : Die) : (s.setDie c d).groups = s.groups := rfl
@[simp] theorem State.setDie_sites (c : Nat) (d : Die) : (s.setDie c d).sites = s.sites := rfl
@[simp] theorem State.setDie_statusQ (c : Nat) (d : Die) : (s.setDie c d).statusQ = s.statusQ := rfl
@[simp] theorem State.setDie_statusHeld (c : Nat) (d : Die) : (s.setDie c d).statusHeld = s.statusHeld := rfl
@[simp] theorem State.setDie_krelDue (c : Nat) (d : Die) : (s.setDie c d).krelDue = s.krelDue := rfl
@[simp] theorem State.setDie_rings (c : Nat) (d : Die) : (s.setDie c d).rings = s.rings := rfl
@[simp] theorem State.setDie_lsms (c : Nat) (d : Die) : (s.setDie c d).lsms = s.lsms := rfl
@[simp] theorem State.setDie_lines (c : Nat) (d : Die) : (s.setDie c d).lines = s.lines := rfl
@[simp] theorem State.setDie_inputs (c : Nat) (d : Die) : (s.setDie c d).inputs = s.inputs := rfl
@[simp] theorem State.setDie_refLight (c : Nat) (d : Die) : (s.setDie c d).refLight = s.refLight := rfl
@[simp] theorem State.setDie_calPass (c : Nat) (d : Die) : (s.setDie c d).calPass = s.calPass := rfl
@[simp] theorem State.setDie_identAt (c : Nat) (d : Die) : (s.setDie c d).identAt = s.identAt := rfl
@[simp] theorem State.setDie_hallWait (c : Nat) (d : Die) : (s.setDie c d).hallWait = s.hallWait := rfl
@[simp] theorem State.setDie_hallAsm (c : Nat) (d : Die) : (s.setDie c d).hallAsm = s.hallAsm := rfl
@[simp] theorem State.setDie_hallSeq (c : Nat) (d : Die) : (s.setDie c d).hallSeq = s.hallSeq := rfl
@[simp] theorem State.setDie_ports (c : Nat) (d : Die) : (s.setDie c d).ports = s.ports := rfl
@[simp] theorem State.setDie_originLow (c : Nat) (d : Die) : (s.setDie c d).originLow = s.originLow := rfl
@[simp] theorem State.setDie_discStart (c : Nat) (d : Die) : (s.setDie c d).discStart = s.discStart := rfl
@[simp] theorem State.setDie_restart (c : Nat) (d : Die) : (s.setDie c d).restart = s.restart := rfl
@[simp] theorem State.setDie_serving (c : Nat) (d : Die) : (s.setDie c d).serving = s.serving := rfl
@[simp] theorem State.setDie_job (c : Nat) (d : Die) : (s.setDie c d).job = s.job := rfl
@[simp] theorem State.setDie_regions (c : Nat) (d : Die) : (s.setDie c d).regions = s.regions := rfl
@[simp] theorem State.setDie_clock (c : Nat) (d : Die) : (s.setDie c d).clock = s.clock := rfl
@[simp] theorem State.setDie_power (c : Nat) (d : Die) : (s.setDie c d).power = s.power := rfl
@[simp] theorem State.setDie_diodes (c : Nat) (d : Die) : (s.setDie c d).diodes = s.diodes := rfl
@[simp] theorem State.setDie_stop (c : Nat) (d : Die) : (s.setDie c d).stop = s.stop := rfl
@[simp] theorem State.setDie_trip (c : Nat) (d : Die) : (s.setDie c d).trip = s.trip := rfl
@[simp] theorem State.setDie_reportOut (c : Nat) (d : Die) : (s.setDie c d).reportOut = s.reportOut := rfl
@[simp] theorem State.setDie_recov (c : Nat) (d : Die) : (s.setDie c d).recov = s.recov := rfl
@[simp] theorem State.setDie_tap (c : Nat) (d : Die) : (s.setDie c d).tap = s.tap := rfl
@[simp] theorem State.setDie_rstLow (c : Nat) (d : Die) : (s.setDie c d).rstLow = s.rstLow := rfl
@[simp] theorem State.setDie_warm (c : Nat) (d : Die) : (s.setDie c d).warm = s.warm := rfl
@[simp] theorem State.setDie_epochs (c : Nat) (d : Die) : (s.setDie c d).epochs = s.epochs := rfl
@[simp] theorem State.setDie_surgeNow (c : Nat) (d : Die) : (s.setDie c d).surgeNow = s.surgeNow := rfl
@[simp] theorem State.setDie_jobPool64 (c : Nat) (d : Die) : (s.setDie c d).jobPool64 = s.jobPool64 := rfl
@[simp] theorem State.setDie_jobPool2M (c : Nat) (d : Die) : (s.setDie c d).jobPool2M = s.jobPool2M := rfl

/-! ## `State.wr` changes `regs` only -/
@[simp] theorem State.wr_pending (a : Nat) (v : Word) : (s.wr a v).pending = s.pending := rfl
@[simp] theorem State.wr_timebase (a : Nat) (v : Word) : (s.wr a v).timebase = s.timebase := rfl
@[simp] theorem State.wr_free (a : Nat) (v : Word) : (s.wr a v).free = s.free := rfl
@[simp] theorem State.wr_out (a : Nat) (v : Word) : (s.wr a v).out = s.out := rfl
@[simp] theorem State.wr_stage (a : Nat) (v : Word) : (s.wr a v).stage = s.stage := rfl
@[simp] theorem State.wr_dst (a : Nat) (v : Word) : (s.wr a v).dst = s.dst := rfl
@[simp] theorem State.wr_spineUp (a : Nat) (v : Word) : (s.wr a v).spineUp = s.spineUp := rfl
@[simp] theorem State.wr_activeStacks (a : Nat) (v : Word) : (s.wr a v).activeStacks = s.activeStacks := rfl
@[simp] theorem State.wr_dies (a : Nat) (v : Word) : (s.wr a v).dies = s.dies := rfl
@[simp] theorem State.wr_keepers (a : Nat) (v : Word) : (s.wr a v).keepers = s.keepers := rfl
@[simp] theorem State.wr_tally (a : Nat) (v : Word) : (s.wr a v).tally = s.tally := rfl
@[simp] theorem State.wr_staging (a : Nat) (v : Word) : (s.wr a v).staging = s.staging := rfl
@[simp] theorem State.wr_vault (a : Nat) (v : Word) : (s.wr a v).vault = s.vault := rfl
@[simp] theorem State.wr_mgmt (a : Nat) (v : Word) : (s.wr a v).mgmt = s.mgmt := rfl
@[simp] theorem State.wr_jobPhase (a : Nat) (v : Word) : (s.wr a v).jobPhase = s.jobPhase := rfl
@[simp] theorem State.wr_bootWait (a : Nat) (v : Word) : (s.wr a v).bootWait = s.bootWait := rfl
@[simp] theorem State.wr_stopAsked (a : Nat) (v : Word) : (s.wr a v).stopAsked = s.stopAsked := rfl
@[simp] theorem State.wr_idleInterval (a : Nat) (v : Word) : (s.wr a v).idleInterval = s.idleInterval := rfl
@[simp] theorem State.wr_faultsDue (a : Nat) (v : Word) : (s.wr a v).faultsDue = s.faultsDue := rfl
@[simp] theorem State.wr_irqSent (a : Nat) (v : Word) : (s.wr a v).irqSent = s.irqSent := rfl
@[simp] theorem State.wr_latched (a : Nat) (v : Word) : (s.wr a v).latched = s.latched := rfl
@[simp] theorem State.wr_highHeld (a : Nat) (v : Word) : (s.wr a v).highHeld = s.highHeld := rfl
@[simp] theorem State.wr_lateReads (a : Nat) (v : Word) : (s.wr a v).lateReads = s.lateReads := rfl
@[simp] theorem State.wr_cores (a : Nat) (v : Word) : (s.wr a v).cores = s.cores := rfl
@[simp] theorem State.wr_coreBuf (a : Nat) (v : Word) : (s.wr a v).coreBuf = s.coreBuf := rfl
@[simp] theorem State.wr_instStore (a : Nat) (v : Word) : (s.wr a v).instStore = s.instStore := rfl
@[simp] theorem State.wr_stks (a : Nat) (v : Word) : (s.wr a v).stks = s.stks := rfl
@[simp] theorem State.wr_rowStore (a : Nat) (v : Word) : (s.wr a v).rowStore = s.rowStore := rfl
@[simp] theorem State.wr_xes (a : Nat) (v : Word) : (s.wr a v).xes = s.xes := rfl
@[simp] theorem State.wr_pagers (a : Nat) (v : Word) : (s.wr a v).pagers = s.pagers := rfl
@[simp] theorem State.wr_chans (a : Nat) (v : Word) : (s.wr a v).chans = s.chans := rfl
@[simp] theorem State.wr_mainMem (a : Nat) (v : Word) : (s.wr a v).mainMem = s.mainMem := rfl
@[simp] theorem State.wr_thirds (a : Nat) (v : Word) : (s.wr a v).thirds = s.thirds := rfl
@[simp] theorem State.wr_sieves (a : Nat) (v : Word) : (s.wr a v).sieves = s.sieves := rfl
@[simp] theorem State.wr_kettleIn (a : Nat) (v : Word) : (s.wr a v).kettleIn = s.kettleIn := rfl
@[simp] theorem State.wr_groups (a : Nat) (v : Word) : (s.wr a v).groups = s.groups := rfl
@[simp] theorem State.wr_sites (a : Nat) (v : Word) : (s.wr a v).sites = s.sites := rfl
@[simp] theorem State.wr_statusQ (a : Nat) (v : Word) : (s.wr a v).statusQ = s.statusQ := rfl
@[simp] theorem State.wr_statusHeld (a : Nat) (v : Word) : (s.wr a v).statusHeld = s.statusHeld := rfl
@[simp] theorem State.wr_krelDue (a : Nat) (v : Word) : (s.wr a v).krelDue = s.krelDue := rfl
@[simp] theorem State.wr_rings (a : Nat) (v : Word) : (s.wr a v).rings = s.rings := rfl
@[simp] theorem State.wr_lsms (a : Nat) (v : Word) : (s.wr a v).lsms = s.lsms := rfl
@[simp] theorem State.wr_lines (a : Nat) (v : Word) : (s.wr a v).lines = s.lines := rfl
@[simp] theorem State.wr_inputs (a : Nat) (v : Word) : (s.wr a v).inputs = s.inputs := rfl
@[simp] theorem State.wr_refLight (a : Nat) (v : Word) : (s.wr a v).refLight = s.refLight := rfl
@[simp] theorem State.wr_calPass (a : Nat) (v : Word) : (s.wr a v).calPass = s.calPass := rfl
@[simp] theorem State.wr_identAt (a : Nat) (v : Word) : (s.wr a v).identAt = s.identAt := rfl
@[simp] theorem State.wr_hallWait (a : Nat) (v : Word) : (s.wr a v).hallWait = s.hallWait := rfl
@[simp] theorem State.wr_hallAsm (a : Nat) (v : Word) : (s.wr a v).hallAsm = s.hallAsm := rfl
@[simp] theorem State.wr_hallSeq (a : Nat) (v : Word) : (s.wr a v).hallSeq = s.hallSeq := rfl
@[simp] theorem State.wr_ports (a : Nat) (v : Word) : (s.wr a v).ports = s.ports := rfl
@[simp] theorem State.wr_originLow (a : Nat) (v : Word) : (s.wr a v).originLow = s.originLow := rfl
@[simp] theorem State.wr_discStart (a : Nat) (v : Word) : (s.wr a v).discStart = s.discStart := rfl
@[simp] theorem State.wr_restart (a : Nat) (v : Word) : (s.wr a v).restart = s.restart := rfl
@[simp] theorem State.wr_serving (a : Nat) (v : Word) : (s.wr a v).serving = s.serving := rfl
@[simp] theorem State.wr_job (a : Nat) (v : Word) : (s.wr a v).job = s.job := rfl
@[simp] theorem State.wr_regions (a : Nat) (v : Word) : (s.wr a v).regions = s.regions := rfl
@[simp] theorem State.wr_clock (a : Nat) (v : Word) : (s.wr a v).clock = s.clock := rfl
@[simp] theorem State.wr_power (a : Nat) (v : Word) : (s.wr a v).power = s.power := rfl
@[simp] theorem State.wr_diodes (a : Nat) (v : Word) : (s.wr a v).diodes = s.diodes := rfl
@[simp] theorem State.wr_stop (a : Nat) (v : Word) : (s.wr a v).stop = s.stop := rfl
@[simp] theorem State.wr_trip (a : Nat) (v : Word) : (s.wr a v).trip = s.trip := rfl
@[simp] theorem State.wr_reportOut (a : Nat) (v : Word) : (s.wr a v).reportOut = s.reportOut := rfl
@[simp] theorem State.wr_recov (a : Nat) (v : Word) : (s.wr a v).recov = s.recov := rfl
@[simp] theorem State.wr_tap (a : Nat) (v : Word) : (s.wr a v).tap = s.tap := rfl
@[simp] theorem State.wr_rstLow (a : Nat) (v : Word) : (s.wr a v).rstLow = s.rstLow := rfl
@[simp] theorem State.wr_warm (a : Nat) (v : Word) : (s.wr a v).warm = s.warm := rfl
@[simp] theorem State.wr_epochs (a : Nat) (v : Word) : (s.wr a v).epochs = s.epochs := rfl
@[simp] theorem State.wr_surgeNow (a : Nat) (v : Word) : (s.wr a v).surgeNow = s.surgeNow := rfl
@[simp] theorem State.wr_jobPool64 (a : Nat) (v : Word) : (s.wr a v).jobPool64 = s.jobPool64 := rfl
@[simp] theorem State.wr_jobPool2M (a : Nat) (v : Word) : (s.wr a v).jobPool2M = s.jobPool2M := rfl

/-! ## `State.emit` changes `out` only -/
@[simp] theorem State.emit_pending (m : Msg) : (s.emit m).pending = s.pending := rfl
@[simp] theorem State.emit_timebase (m : Msg) : (s.emit m).timebase = s.timebase := rfl
@[simp] theorem State.emit_free (m : Msg) : (s.emit m).free = s.free := rfl
@[simp] theorem State.emit_stage (m : Msg) : (s.emit m).stage = s.stage := rfl
@[simp] theorem State.emit_dst (m : Msg) : (s.emit m).dst = s.dst := rfl
@[simp] theorem State.emit_spineUp (m : Msg) : (s.emit m).spineUp = s.spineUp := rfl
@[simp] theorem State.emit_activeStacks (m : Msg) : (s.emit m).activeStacks = s.activeStacks := rfl
@[simp] theorem State.emit_dies (m : Msg) : (s.emit m).dies = s.dies := rfl
@[simp] theorem State.emit_keepers (m : Msg) : (s.emit m).keepers = s.keepers := rfl
@[simp] theorem State.emit_tally (m : Msg) : (s.emit m).tally = s.tally := rfl
@[simp] theorem State.emit_staging (m : Msg) : (s.emit m).staging = s.staging := rfl
@[simp] theorem State.emit_vault (m : Msg) : (s.emit m).vault = s.vault := rfl
@[simp] theorem State.emit_mgmt (m : Msg) : (s.emit m).mgmt = s.mgmt := rfl
@[simp] theorem State.emit_jobPhase (m : Msg) : (s.emit m).jobPhase = s.jobPhase := rfl
@[simp] theorem State.emit_bootWait (m : Msg) : (s.emit m).bootWait = s.bootWait := rfl
@[simp] theorem State.emit_stopAsked (m : Msg) : (s.emit m).stopAsked = s.stopAsked := rfl
@[simp] theorem State.emit_idleInterval (m : Msg) : (s.emit m).idleInterval = s.idleInterval := rfl
@[simp] theorem State.emit_faultsDue (m : Msg) : (s.emit m).faultsDue = s.faultsDue := rfl
@[simp] theorem State.emit_regs (m : Msg) : (s.emit m).regs = s.regs := rfl
@[simp] theorem State.emit_irqSent (m : Msg) : (s.emit m).irqSent = s.irqSent := rfl
@[simp] theorem State.emit_latched (m : Msg) : (s.emit m).latched = s.latched := rfl
@[simp] theorem State.emit_highHeld (m : Msg) : (s.emit m).highHeld = s.highHeld := rfl
@[simp] theorem State.emit_lateReads (m : Msg) : (s.emit m).lateReads = s.lateReads := rfl
@[simp] theorem State.emit_cores (m : Msg) : (s.emit m).cores = s.cores := rfl
@[simp] theorem State.emit_coreBuf (m : Msg) : (s.emit m).coreBuf = s.coreBuf := rfl
@[simp] theorem State.emit_instStore (m : Msg) : (s.emit m).instStore = s.instStore := rfl
@[simp] theorem State.emit_stks (m : Msg) : (s.emit m).stks = s.stks := rfl
@[simp] theorem State.emit_rowStore (m : Msg) : (s.emit m).rowStore = s.rowStore := rfl
@[simp] theorem State.emit_xes (m : Msg) : (s.emit m).xes = s.xes := rfl
@[simp] theorem State.emit_pagers (m : Msg) : (s.emit m).pagers = s.pagers := rfl
@[simp] theorem State.emit_chans (m : Msg) : (s.emit m).chans = s.chans := rfl
@[simp] theorem State.emit_mainMem (m : Msg) : (s.emit m).mainMem = s.mainMem := rfl
@[simp] theorem State.emit_thirds (m : Msg) : (s.emit m).thirds = s.thirds := rfl
@[simp] theorem State.emit_sieves (m : Msg) : (s.emit m).sieves = s.sieves := rfl
@[simp] theorem State.emit_kettleIn (m : Msg) : (s.emit m).kettleIn = s.kettleIn := rfl
@[simp] theorem State.emit_groups (m : Msg) : (s.emit m).groups = s.groups := rfl
@[simp] theorem State.emit_sites (m : Msg) : (s.emit m).sites = s.sites := rfl
@[simp] theorem State.emit_statusQ (m : Msg) : (s.emit m).statusQ = s.statusQ := rfl
@[simp] theorem State.emit_statusHeld (m : Msg) : (s.emit m).statusHeld = s.statusHeld := rfl
@[simp] theorem State.emit_krelDue (m : Msg) : (s.emit m).krelDue = s.krelDue := rfl
@[simp] theorem State.emit_rings (m : Msg) : (s.emit m).rings = s.rings := rfl
@[simp] theorem State.emit_lsms (m : Msg) : (s.emit m).lsms = s.lsms := rfl
@[simp] theorem State.emit_lines (m : Msg) : (s.emit m).lines = s.lines := rfl
@[simp] theorem State.emit_inputs (m : Msg) : (s.emit m).inputs = s.inputs := rfl
@[simp] theorem State.emit_refLight (m : Msg) : (s.emit m).refLight = s.refLight := rfl
@[simp] theorem State.emit_calPass (m : Msg) : (s.emit m).calPass = s.calPass := rfl
@[simp] theorem State.emit_identAt (m : Msg) : (s.emit m).identAt = s.identAt := rfl
@[simp] theorem State.emit_hallWait (m : Msg) : (s.emit m).hallWait = s.hallWait := rfl
@[simp] theorem State.emit_hallAsm (m : Msg) : (s.emit m).hallAsm = s.hallAsm := rfl
@[simp] theorem State.emit_hallSeq (m : Msg) : (s.emit m).hallSeq = s.hallSeq := rfl
@[simp] theorem State.emit_ports (m : Msg) : (s.emit m).ports = s.ports := rfl
@[simp] theorem State.emit_originLow (m : Msg) : (s.emit m).originLow = s.originLow := rfl
@[simp] theorem State.emit_discStart (m : Msg) : (s.emit m).discStart = s.discStart := rfl
@[simp] theorem State.emit_restart (m : Msg) : (s.emit m).restart = s.restart := rfl
@[simp] theorem State.emit_serving (m : Msg) : (s.emit m).serving = s.serving := rfl
@[simp] theorem State.emit_job (m : Msg) : (s.emit m).job = s.job := rfl
@[simp] theorem State.emit_regions (m : Msg) : (s.emit m).regions = s.regions := rfl
@[simp] theorem State.emit_clock (m : Msg) : (s.emit m).clock = s.clock := rfl
@[simp] theorem State.emit_power (m : Msg) : (s.emit m).power = s.power := rfl
@[simp] theorem State.emit_diodes (m : Msg) : (s.emit m).diodes = s.diodes := rfl
@[simp] theorem State.emit_stop (m : Msg) : (s.emit m).stop = s.stop := rfl
@[simp] theorem State.emit_trip (m : Msg) : (s.emit m).trip = s.trip := rfl
@[simp] theorem State.emit_reportOut (m : Msg) : (s.emit m).reportOut = s.reportOut := rfl
@[simp] theorem State.emit_recov (m : Msg) : (s.emit m).recov = s.recov := rfl
@[simp] theorem State.emit_tap (m : Msg) : (s.emit m).tap = s.tap := rfl
@[simp] theorem State.emit_rstLow (m : Msg) : (s.emit m).rstLow = s.rstLow := rfl
@[simp] theorem State.emit_warm (m : Msg) : (s.emit m).warm = s.warm := rfl
@[simp] theorem State.emit_epochs (m : Msg) : (s.emit m).epochs = s.epochs := rfl
@[simp] theorem State.emit_surgeNow (m : Msg) : (s.emit m).surgeNow = s.surgeNow := rfl
@[simp] theorem State.emit_jobPool64 (m : Msg) : (s.emit m).jobPool64 = s.jobPool64 := rfl
@[simp] theorem State.emit_jobPool2M (m : Msg) : (s.emit m).jobPool2M = s.jobPool2M := rfl

/-! ## `State.setCtx` changes `cores` only -/
@[simp] theorem State.setCtx_pending (n : Nat) (x : Ctx) (k : Context) : (s.setCtx n x k).pending = s.pending := rfl
@[simp] theorem State.setCtx_timebase (n : Nat) (x : Ctx) (k : Context) : (s.setCtx n x k).timebase = s.timebase := rfl
@[simp] theorem State.setCtx_free (n : Nat) (x : Ctx) (k : Context) : (s.setCtx n x k).free = s.free := rfl
@[simp] theorem State.setCtx_out (n : Nat) (x : Ctx) (k : Context) : (s.setCtx n x k).out = s.out := rfl
@[simp] theorem State.setCtx_stage (n : Nat) (x : Ctx) (k : Context) : (s.setCtx n x k).stage = s.stage := rfl
@[simp] theorem State.setCtx_dst (n : Nat) (x : Ctx) (k : Context) : (s.setCtx n x k).dst = s.dst := rfl
@[simp] theorem State.setCtx_spineUp (n : Nat) (x : Ctx) (k : Context) : (s.setCtx n x k).spineUp = s.spineUp := rfl
@[simp] theorem State.setCtx_activeStacks (n : Nat) (x : Ctx) (k : Context) : (s.setCtx n x k).activeStacks = s.activeStacks := rfl
@[simp] theorem State.setCtx_dies (n : Nat) (x : Ctx) (k : Context) : (s.setCtx n x k).dies = s.dies := rfl
@[simp] theorem State.setCtx_keepers (n : Nat) (x : Ctx) (k : Context) : (s.setCtx n x k).keepers = s.keepers := rfl
@[simp] theorem State.setCtx_tally (n : Nat) (x : Ctx) (k : Context) : (s.setCtx n x k).tally = s.tally := rfl
@[simp] theorem State.setCtx_staging (n : Nat) (x : Ctx) (k : Context) : (s.setCtx n x k).staging = s.staging := rfl
@[simp] theorem State.setCtx_vault (n : Nat) (x : Ctx) (k : Context) : (s.setCtx n x k).vault = s.vault := rfl
@[simp] theorem State.setCtx_mgmt (n : Nat) (x : Ctx) (k : Context) : (s.setCtx n x k).mgmt = s.mgmt := rfl
@[simp] theorem State.setCtx_jobPhase (n : Nat) (x : Ctx) (k : Context) : (s.setCtx n x k).jobPhase = s.jobPhase := rfl
@[simp] theorem State.setCtx_bootWait (n : Nat) (x : Ctx) (k : Context) : (s.setCtx n x k).bootWait = s.bootWait := rfl
@[simp] theorem State.setCtx_stopAsked (n : Nat) (x : Ctx) (k : Context) : (s.setCtx n x k).stopAsked = s.stopAsked := rfl
@[simp] theorem State.setCtx_idleInterval (n : Nat) (x : Ctx) (k : Context) : (s.setCtx n x k).idleInterval = s.idleInterval := rfl
@[simp] theorem State.setCtx_faultsDue (n : Nat) (x : Ctx) (k : Context) : (s.setCtx n x k).faultsDue = s.faultsDue := rfl
@[simp] theorem State.setCtx_regs (n : Nat) (x : Ctx) (k : Context) : (s.setCtx n x k).regs = s.regs := rfl
@[simp] theorem State.setCtx_irqSent (n : Nat) (x : Ctx) (k : Context) : (s.setCtx n x k).irqSent = s.irqSent := rfl
@[simp] theorem State.setCtx_latched (n : Nat) (x : Ctx) (k : Context) : (s.setCtx n x k).latched = s.latched := rfl
@[simp] theorem State.setCtx_highHeld (n : Nat) (x : Ctx) (k : Context) : (s.setCtx n x k).highHeld = s.highHeld := rfl
@[simp] theorem State.setCtx_lateReads (n : Nat) (x : Ctx) (k : Context) : (s.setCtx n x k).lateReads = s.lateReads := rfl
@[simp] theorem State.setCtx_coreBuf (n : Nat) (x : Ctx) (k : Context) : (s.setCtx n x k).coreBuf = s.coreBuf := rfl
@[simp] theorem State.setCtx_instStore (n : Nat) (x : Ctx) (k : Context) : (s.setCtx n x k).instStore = s.instStore := rfl
@[simp] theorem State.setCtx_stks (n : Nat) (x : Ctx) (k : Context) : (s.setCtx n x k).stks = s.stks := rfl
@[simp] theorem State.setCtx_rowStore (n : Nat) (x : Ctx) (k : Context) : (s.setCtx n x k).rowStore = s.rowStore := rfl
@[simp] theorem State.setCtx_xes (n : Nat) (x : Ctx) (k : Context) : (s.setCtx n x k).xes = s.xes := rfl
@[simp] theorem State.setCtx_pagers (n : Nat) (x : Ctx) (k : Context) : (s.setCtx n x k).pagers = s.pagers := rfl
@[simp] theorem State.setCtx_chans (n : Nat) (x : Ctx) (k : Context) : (s.setCtx n x k).chans = s.chans := rfl
@[simp] theorem State.setCtx_mainMem (n : Nat) (x : Ctx) (k : Context) : (s.setCtx n x k).mainMem = s.mainMem := rfl
@[simp] theorem State.setCtx_thirds (n : Nat) (x : Ctx) (k : Context) : (s.setCtx n x k).thirds = s.thirds := rfl
@[simp] theorem State.setCtx_sieves (n : Nat) (x : Ctx) (k : Context) : (s.setCtx n x k).sieves = s.sieves := rfl
@[simp] theorem State.setCtx_kettleIn (n : Nat) (x : Ctx) (k : Context) : (s.setCtx n x k).kettleIn = s.kettleIn := rfl
@[simp] theorem State.setCtx_groups (n : Nat) (x : Ctx) (k : Context) : (s.setCtx n x k).groups = s.groups := rfl
@[simp] theorem State.setCtx_sites (n : Nat) (x : Ctx) (k : Context) : (s.setCtx n x k).sites = s.sites := rfl
@[simp] theorem State.setCtx_statusQ (n : Nat) (x : Ctx) (k : Context) : (s.setCtx n x k).statusQ = s.statusQ := rfl
@[simp] theorem State.setCtx_statusHeld (n : Nat) (x : Ctx) (k : Context) : (s.setCtx n x k).statusHeld = s.statusHeld := rfl
@[simp] theorem State.setCtx_krelDue (n : Nat) (x : Ctx) (k : Context) : (s.setCtx n x k).krelDue = s.krelDue := rfl
@[simp] theorem State.setCtx_rings (n : Nat) (x : Ctx) (k : Context) : (s.setCtx n x k).rings = s.rings := rfl
@[simp] theorem State.setCtx_lsms (n : Nat) (x : Ctx) (k : Context) : (s.setCtx n x k).lsms = s.lsms := rfl
@[simp] theorem State.setCtx_lines (n : Nat) (x : Ctx) (k : Context) : (s.setCtx n x k).lines = s.lines := rfl
@[simp] theorem State.setCtx_inputs (n : Nat) (x : Ctx) (k : Context) : (s.setCtx n x k).inputs = s.inputs := rfl
@[simp] theorem State.setCtx_refLight (n : Nat) (x : Ctx) (k : Context) : (s.setCtx n x k).refLight = s.refLight := rfl
@[simp] theorem State.setCtx_calPass (n : Nat) (x : Ctx) (k : Context) : (s.setCtx n x k).calPass = s.calPass := rfl
@[simp] theorem State.setCtx_identAt (n : Nat) (x : Ctx) (k : Context) : (s.setCtx n x k).identAt = s.identAt := rfl
@[simp] theorem State.setCtx_hallWait (n : Nat) (x : Ctx) (k : Context) : (s.setCtx n x k).hallWait = s.hallWait := rfl
@[simp] theorem State.setCtx_hallAsm (n : Nat) (x : Ctx) (k : Context) : (s.setCtx n x k).hallAsm = s.hallAsm := rfl
@[simp] theorem State.setCtx_hallSeq (n : Nat) (x : Ctx) (k : Context) : (s.setCtx n x k).hallSeq = s.hallSeq := rfl
@[simp] theorem State.setCtx_ports (n : Nat) (x : Ctx) (k : Context) : (s.setCtx n x k).ports = s.ports := rfl
@[simp] theorem State.setCtx_originLow (n : Nat) (x : Ctx) (k : Context) : (s.setCtx n x k).originLow = s.originLow := rfl
@[simp] theorem State.setCtx_discStart (n : Nat) (x : Ctx) (k : Context) : (s.setCtx n x k).discStart = s.discStart := rfl
@[simp] theorem State.setCtx_restart (n : Nat) (x : Ctx) (k : Context) : (s.setCtx n x k).restart = s.restart := rfl
@[simp] theorem State.setCtx_serving (n : Nat) (x : Ctx) (k : Context) : (s.setCtx n x k).serving = s.serving := rfl
@[simp] theorem State.setCtx_job (n : Nat) (x : Ctx) (k : Context) : (s.setCtx n x k).job = s.job := rfl
@[simp] theorem State.setCtx_regions (n : Nat) (x : Ctx) (k : Context) : (s.setCtx n x k).regions = s.regions := rfl
@[simp] theorem State.setCtx_clock (n : Nat) (x : Ctx) (k : Context) : (s.setCtx n x k).clock = s.clock := rfl
@[simp] theorem State.setCtx_power (n : Nat) (x : Ctx) (k : Context) : (s.setCtx n x k).power = s.power := rfl
@[simp] theorem State.setCtx_diodes (n : Nat) (x : Ctx) (k : Context) : (s.setCtx n x k).diodes = s.diodes := rfl
@[simp] theorem State.setCtx_stop (n : Nat) (x : Ctx) (k : Context) : (s.setCtx n x k).stop = s.stop := rfl
@[simp] theorem State.setCtx_trip (n : Nat) (x : Ctx) (k : Context) : (s.setCtx n x k).trip = s.trip := rfl
@[simp] theorem State.setCtx_reportOut (n : Nat) (x : Ctx) (k : Context) : (s.setCtx n x k).reportOut = s.reportOut := rfl
@[simp] theorem State.setCtx_recov (n : Nat) (x : Ctx) (k : Context) : (s.setCtx n x k).recov = s.recov := rfl
@[simp] theorem State.setCtx_tap (n : Nat) (x : Ctx) (k : Context) : (s.setCtx n x k).tap = s.tap := rfl
@[simp] theorem State.setCtx_rstLow (n : Nat) (x : Ctx) (k : Context) : (s.setCtx n x k).rstLow = s.rstLow := rfl
@[simp] theorem State.setCtx_warm (n : Nat) (x : Ctx) (k : Context) : (s.setCtx n x k).warm = s.warm := rfl
@[simp] theorem State.setCtx_epochs (n : Nat) (x : Ctx) (k : Context) : (s.setCtx n x k).epochs = s.epochs := rfl
@[simp] theorem State.setCtx_surgeNow (n : Nat) (x : Ctx) (k : Context) : (s.setCtx n x k).surgeNow = s.surgeNow := rfl
@[simp] theorem State.setCtx_jobPool64 (n : Nat) (x : Ctx) (k : Context) : (s.setCtx n x k).jobPool64 = s.jobPool64 := rfl
@[simp] theorem State.setCtx_jobPool2M (n : Nat) (x : Ctx) (k : Context) : (s.setCtx n x k).jobPool2M = s.jobPool2M := rfl

/-! ## `State.setFld` changes `regs` only -/
@[simp] theorem State.setFld_pending (a lsb w v : Nat) : (s.setFld a lsb w v).pending = s.pending := rfl
@[simp] theorem State.setFld_timebase (a lsb w v : Nat) : (s.setFld a lsb w v).timebase = s.timebase := rfl
@[simp] theorem State.setFld_free (a lsb w v : Nat) : (s.setFld a lsb w v).free = s.free := rfl
@[simp] theorem State.setFld_out (a lsb w v : Nat) : (s.setFld a lsb w v).out = s.out := rfl
@[simp] theorem State.setFld_stage (a lsb w v : Nat) : (s.setFld a lsb w v).stage = s.stage := rfl
@[simp] theorem State.setFld_dst (a lsb w v : Nat) : (s.setFld a lsb w v).dst = s.dst := rfl
@[simp] theorem State.setFld_spineUp (a lsb w v : Nat) : (s.setFld a lsb w v).spineUp = s.spineUp := rfl
@[simp] theorem State.setFld_activeStacks (a lsb w v : Nat) : (s.setFld a lsb w v).activeStacks = s.activeStacks := rfl
@[simp] theorem State.setFld_dies (a lsb w v : Nat) : (s.setFld a lsb w v).dies = s.dies := rfl
@[simp] theorem State.setFld_keepers (a lsb w v : Nat) : (s.setFld a lsb w v).keepers = s.keepers := rfl
@[simp] theorem State.setFld_tally (a lsb w v : Nat) : (s.setFld a lsb w v).tally = s.tally := rfl
@[simp] theorem State.setFld_staging (a lsb w v : Nat) : (s.setFld a lsb w v).staging = s.staging := rfl
@[simp] theorem State.setFld_vault (a lsb w v : Nat) : (s.setFld a lsb w v).vault = s.vault := rfl
@[simp] theorem State.setFld_mgmt (a lsb w v : Nat) : (s.setFld a lsb w v).mgmt = s.mgmt := rfl
@[simp] theorem State.setFld_jobPhase (a lsb w v : Nat) : (s.setFld a lsb w v).jobPhase = s.jobPhase := rfl
@[simp] theorem State.setFld_bootWait (a lsb w v : Nat) : (s.setFld a lsb w v).bootWait = s.bootWait := rfl
@[simp] theorem State.setFld_stopAsked (a lsb w v : Nat) : (s.setFld a lsb w v).stopAsked = s.stopAsked := rfl
@[simp] theorem State.setFld_idleInterval (a lsb w v : Nat) : (s.setFld a lsb w v).idleInterval = s.idleInterval := rfl
@[simp] theorem State.setFld_faultsDue (a lsb w v : Nat) : (s.setFld a lsb w v).faultsDue = s.faultsDue := rfl
@[simp] theorem State.setFld_irqSent (a lsb w v : Nat) : (s.setFld a lsb w v).irqSent = s.irqSent := rfl
@[simp] theorem State.setFld_latched (a lsb w v : Nat) : (s.setFld a lsb w v).latched = s.latched := rfl
@[simp] theorem State.setFld_highHeld (a lsb w v : Nat) : (s.setFld a lsb w v).highHeld = s.highHeld := rfl
@[simp] theorem State.setFld_lateReads (a lsb w v : Nat) : (s.setFld a lsb w v).lateReads = s.lateReads := rfl
@[simp] theorem State.setFld_cores (a lsb w v : Nat) : (s.setFld a lsb w v).cores = s.cores := rfl
@[simp] theorem State.setFld_coreBuf (a lsb w v : Nat) : (s.setFld a lsb w v).coreBuf = s.coreBuf := rfl
@[simp] theorem State.setFld_instStore (a lsb w v : Nat) : (s.setFld a lsb w v).instStore = s.instStore := rfl
@[simp] theorem State.setFld_stks (a lsb w v : Nat) : (s.setFld a lsb w v).stks = s.stks := rfl
@[simp] theorem State.setFld_rowStore (a lsb w v : Nat) : (s.setFld a lsb w v).rowStore = s.rowStore := rfl
@[simp] theorem State.setFld_xes (a lsb w v : Nat) : (s.setFld a lsb w v).xes = s.xes := rfl
@[simp] theorem State.setFld_pagers (a lsb w v : Nat) : (s.setFld a lsb w v).pagers = s.pagers := rfl
@[simp] theorem State.setFld_chans (a lsb w v : Nat) : (s.setFld a lsb w v).chans = s.chans := rfl
@[simp] theorem State.setFld_mainMem (a lsb w v : Nat) : (s.setFld a lsb w v).mainMem = s.mainMem := rfl
@[simp] theorem State.setFld_thirds (a lsb w v : Nat) : (s.setFld a lsb w v).thirds = s.thirds := rfl
@[simp] theorem State.setFld_sieves (a lsb w v : Nat) : (s.setFld a lsb w v).sieves = s.sieves := rfl
@[simp] theorem State.setFld_kettleIn (a lsb w v : Nat) : (s.setFld a lsb w v).kettleIn = s.kettleIn := rfl
@[simp] theorem State.setFld_groups (a lsb w v : Nat) : (s.setFld a lsb w v).groups = s.groups := rfl
@[simp] theorem State.setFld_sites (a lsb w v : Nat) : (s.setFld a lsb w v).sites = s.sites := rfl
@[simp] theorem State.setFld_statusQ (a lsb w v : Nat) : (s.setFld a lsb w v).statusQ = s.statusQ := rfl
@[simp] theorem State.setFld_statusHeld (a lsb w v : Nat) : (s.setFld a lsb w v).statusHeld = s.statusHeld := rfl
@[simp] theorem State.setFld_krelDue (a lsb w v : Nat) : (s.setFld a lsb w v).krelDue = s.krelDue := rfl
@[simp] theorem State.setFld_rings (a lsb w v : Nat) : (s.setFld a lsb w v).rings = s.rings := rfl
@[simp] theorem State.setFld_lsms (a lsb w v : Nat) : (s.setFld a lsb w v).lsms = s.lsms := rfl
@[simp] theorem State.setFld_lines (a lsb w v : Nat) : (s.setFld a lsb w v).lines = s.lines := rfl
@[simp] theorem State.setFld_inputs (a lsb w v : Nat) : (s.setFld a lsb w v).inputs = s.inputs := rfl
@[simp] theorem State.setFld_refLight (a lsb w v : Nat) : (s.setFld a lsb w v).refLight = s.refLight := rfl
@[simp] theorem State.setFld_calPass (a lsb w v : Nat) : (s.setFld a lsb w v).calPass = s.calPass := rfl
@[simp] theorem State.setFld_identAt (a lsb w v : Nat) : (s.setFld a lsb w v).identAt = s.identAt := rfl
@[simp] theorem State.setFld_hallWait (a lsb w v : Nat) : (s.setFld a lsb w v).hallWait = s.hallWait := rfl
@[simp] theorem State.setFld_hallAsm (a lsb w v : Nat) : (s.setFld a lsb w v).hallAsm = s.hallAsm := rfl
@[simp] theorem State.setFld_hallSeq (a lsb w v : Nat) : (s.setFld a lsb w v).hallSeq = s.hallSeq := rfl
@[simp] theorem State.setFld_ports (a lsb w v : Nat) : (s.setFld a lsb w v).ports = s.ports := rfl
@[simp] theorem State.setFld_originLow (a lsb w v : Nat) : (s.setFld a lsb w v).originLow = s.originLow := rfl
@[simp] theorem State.setFld_discStart (a lsb w v : Nat) : (s.setFld a lsb w v).discStart = s.discStart := rfl
@[simp] theorem State.setFld_restart (a lsb w v : Nat) : (s.setFld a lsb w v).restart = s.restart := rfl
@[simp] theorem State.setFld_serving (a lsb w v : Nat) : (s.setFld a lsb w v).serving = s.serving := rfl
@[simp] theorem State.setFld_job (a lsb w v : Nat) : (s.setFld a lsb w v).job = s.job := rfl
@[simp] theorem State.setFld_regions (a lsb w v : Nat) : (s.setFld a lsb w v).regions = s.regions := rfl
@[simp] theorem State.setFld_clock (a lsb w v : Nat) : (s.setFld a lsb w v).clock = s.clock := rfl
@[simp] theorem State.setFld_power (a lsb w v : Nat) : (s.setFld a lsb w v).power = s.power := rfl
@[simp] theorem State.setFld_diodes (a lsb w v : Nat) : (s.setFld a lsb w v).diodes = s.diodes := rfl
@[simp] theorem State.setFld_stop (a lsb w v : Nat) : (s.setFld a lsb w v).stop = s.stop := rfl
@[simp] theorem State.setFld_trip (a lsb w v : Nat) : (s.setFld a lsb w v).trip = s.trip := rfl
@[simp] theorem State.setFld_reportOut (a lsb w v : Nat) : (s.setFld a lsb w v).reportOut = s.reportOut := rfl
@[simp] theorem State.setFld_recov (a lsb w v : Nat) : (s.setFld a lsb w v).recov = s.recov := rfl
@[simp] theorem State.setFld_tap (a lsb w v : Nat) : (s.setFld a lsb w v).tap = s.tap := rfl
@[simp] theorem State.setFld_rstLow (a lsb w v : Nat) : (s.setFld a lsb w v).rstLow = s.rstLow := rfl
@[simp] theorem State.setFld_warm (a lsb w v : Nat) : (s.setFld a lsb w v).warm = s.warm := rfl
@[simp] theorem State.setFld_epochs (a lsb w v : Nat) : (s.setFld a lsb w v).epochs = s.epochs := rfl
@[simp] theorem State.setFld_surgeNow (a lsb w v : Nat) : (s.setFld a lsb w v).surgeNow = s.surgeNow := rfl
@[simp] theorem State.setFld_jobPool64 (a lsb w v : Nat) : (s.setFld a lsb w v).jobPool64 = s.jobPool64 := rfl
@[simp] theorem State.setFld_jobPool2M (a lsb w v : Nat) : (s.setFld a lsb w v).jobPool2M = s.jobPool2M := rfl

/-! ## `State.bump` changes `regs` only -/
@[simp] theorem State.bump_pending (a lsb w n : Nat) : (s.bump a lsb w n).pending = s.pending := rfl
@[simp] theorem State.bump_timebase (a lsb w n : Nat) : (s.bump a lsb w n).timebase = s.timebase := rfl
@[simp] theorem State.bump_free (a lsb w n : Nat) : (s.bump a lsb w n).free = s.free := rfl
@[simp] theorem State.bump_out (a lsb w n : Nat) : (s.bump a lsb w n).out = s.out := rfl
@[simp] theorem State.bump_stage (a lsb w n : Nat) : (s.bump a lsb w n).stage = s.stage := rfl
@[simp] theorem State.bump_dst (a lsb w n : Nat) : (s.bump a lsb w n).dst = s.dst := rfl
@[simp] theorem State.bump_spineUp (a lsb w n : Nat) : (s.bump a lsb w n).spineUp = s.spineUp := rfl
@[simp] theorem State.bump_activeStacks (a lsb w n : Nat) : (s.bump a lsb w n).activeStacks = s.activeStacks := rfl
@[simp] theorem State.bump_dies (a lsb w n : Nat) : (s.bump a lsb w n).dies = s.dies := rfl
@[simp] theorem State.bump_keepers (a lsb w n : Nat) : (s.bump a lsb w n).keepers = s.keepers := rfl
@[simp] theorem State.bump_tally (a lsb w n : Nat) : (s.bump a lsb w n).tally = s.tally := rfl
@[simp] theorem State.bump_staging (a lsb w n : Nat) : (s.bump a lsb w n).staging = s.staging := rfl
@[simp] theorem State.bump_vault (a lsb w n : Nat) : (s.bump a lsb w n).vault = s.vault := rfl
@[simp] theorem State.bump_mgmt (a lsb w n : Nat) : (s.bump a lsb w n).mgmt = s.mgmt := rfl
@[simp] theorem State.bump_jobPhase (a lsb w n : Nat) : (s.bump a lsb w n).jobPhase = s.jobPhase := rfl
@[simp] theorem State.bump_bootWait (a lsb w n : Nat) : (s.bump a lsb w n).bootWait = s.bootWait := rfl
@[simp] theorem State.bump_stopAsked (a lsb w n : Nat) : (s.bump a lsb w n).stopAsked = s.stopAsked := rfl
@[simp] theorem State.bump_idleInterval (a lsb w n : Nat) : (s.bump a lsb w n).idleInterval = s.idleInterval := rfl
@[simp] theorem State.bump_faultsDue (a lsb w n : Nat) : (s.bump a lsb w n).faultsDue = s.faultsDue := rfl
@[simp] theorem State.bump_irqSent (a lsb w n : Nat) : (s.bump a lsb w n).irqSent = s.irqSent := rfl
@[simp] theorem State.bump_latched (a lsb w n : Nat) : (s.bump a lsb w n).latched = s.latched := rfl
@[simp] theorem State.bump_highHeld (a lsb w n : Nat) : (s.bump a lsb w n).highHeld = s.highHeld := rfl
@[simp] theorem State.bump_lateReads (a lsb w n : Nat) : (s.bump a lsb w n).lateReads = s.lateReads := rfl
@[simp] theorem State.bump_cores (a lsb w n : Nat) : (s.bump a lsb w n).cores = s.cores := rfl
@[simp] theorem State.bump_coreBuf (a lsb w n : Nat) : (s.bump a lsb w n).coreBuf = s.coreBuf := rfl
@[simp] theorem State.bump_instStore (a lsb w n : Nat) : (s.bump a lsb w n).instStore = s.instStore := rfl
@[simp] theorem State.bump_stks (a lsb w n : Nat) : (s.bump a lsb w n).stks = s.stks := rfl
@[simp] theorem State.bump_rowStore (a lsb w n : Nat) : (s.bump a lsb w n).rowStore = s.rowStore := rfl
@[simp] theorem State.bump_xes (a lsb w n : Nat) : (s.bump a lsb w n).xes = s.xes := rfl
@[simp] theorem State.bump_pagers (a lsb w n : Nat) : (s.bump a lsb w n).pagers = s.pagers := rfl
@[simp] theorem State.bump_chans (a lsb w n : Nat) : (s.bump a lsb w n).chans = s.chans := rfl
@[simp] theorem State.bump_mainMem (a lsb w n : Nat) : (s.bump a lsb w n).mainMem = s.mainMem := rfl
@[simp] theorem State.bump_thirds (a lsb w n : Nat) : (s.bump a lsb w n).thirds = s.thirds := rfl
@[simp] theorem State.bump_sieves (a lsb w n : Nat) : (s.bump a lsb w n).sieves = s.sieves := rfl
@[simp] theorem State.bump_kettleIn (a lsb w n : Nat) : (s.bump a lsb w n).kettleIn = s.kettleIn := rfl
@[simp] theorem State.bump_groups (a lsb w n : Nat) : (s.bump a lsb w n).groups = s.groups := rfl
@[simp] theorem State.bump_sites (a lsb w n : Nat) : (s.bump a lsb w n).sites = s.sites := rfl
@[simp] theorem State.bump_statusQ (a lsb w n : Nat) : (s.bump a lsb w n).statusQ = s.statusQ := rfl
@[simp] theorem State.bump_statusHeld (a lsb w n : Nat) : (s.bump a lsb w n).statusHeld = s.statusHeld := rfl
@[simp] theorem State.bump_krelDue (a lsb w n : Nat) : (s.bump a lsb w n).krelDue = s.krelDue := rfl
@[simp] theorem State.bump_rings (a lsb w n : Nat) : (s.bump a lsb w n).rings = s.rings := rfl
@[simp] theorem State.bump_lsms (a lsb w n : Nat) : (s.bump a lsb w n).lsms = s.lsms := rfl
@[simp] theorem State.bump_lines (a lsb w n : Nat) : (s.bump a lsb w n).lines = s.lines := rfl
@[simp] theorem State.bump_inputs (a lsb w n : Nat) : (s.bump a lsb w n).inputs = s.inputs := rfl
@[simp] theorem State.bump_refLight (a lsb w n : Nat) : (s.bump a lsb w n).refLight = s.refLight := rfl
@[simp] theorem State.bump_calPass (a lsb w n : Nat) : (s.bump a lsb w n).calPass = s.calPass := rfl
@[simp] theorem State.bump_identAt (a lsb w n : Nat) : (s.bump a lsb w n).identAt = s.identAt := rfl
@[simp] theorem State.bump_hallWait (a lsb w n : Nat) : (s.bump a lsb w n).hallWait = s.hallWait := rfl
@[simp] theorem State.bump_hallAsm (a lsb w n : Nat) : (s.bump a lsb w n).hallAsm = s.hallAsm := rfl
@[simp] theorem State.bump_hallSeq (a lsb w n : Nat) : (s.bump a lsb w n).hallSeq = s.hallSeq := rfl
@[simp] theorem State.bump_ports (a lsb w n : Nat) : (s.bump a lsb w n).ports = s.ports := rfl
@[simp] theorem State.bump_originLow (a lsb w n : Nat) : (s.bump a lsb w n).originLow = s.originLow := rfl
@[simp] theorem State.bump_discStart (a lsb w n : Nat) : (s.bump a lsb w n).discStart = s.discStart := rfl
@[simp] theorem State.bump_restart (a lsb w n : Nat) : (s.bump a lsb w n).restart = s.restart := rfl
@[simp] theorem State.bump_serving (a lsb w n : Nat) : (s.bump a lsb w n).serving = s.serving := rfl
@[simp] theorem State.bump_job (a lsb w n : Nat) : (s.bump a lsb w n).job = s.job := rfl
@[simp] theorem State.bump_regions (a lsb w n : Nat) : (s.bump a lsb w n).regions = s.regions := rfl
@[simp] theorem State.bump_clock (a lsb w n : Nat) : (s.bump a lsb w n).clock = s.clock := rfl
@[simp] theorem State.bump_power (a lsb w n : Nat) : (s.bump a lsb w n).power = s.power := rfl
@[simp] theorem State.bump_diodes (a lsb w n : Nat) : (s.bump a lsb w n).diodes = s.diodes := rfl
@[simp] theorem State.bump_stop (a lsb w n : Nat) : (s.bump a lsb w n).stop = s.stop := rfl
@[simp] theorem State.bump_trip (a lsb w n : Nat) : (s.bump a lsb w n).trip = s.trip := rfl
@[simp] theorem State.bump_reportOut (a lsb w n : Nat) : (s.bump a lsb w n).reportOut = s.reportOut := rfl
@[simp] theorem State.bump_recov (a lsb w n : Nat) : (s.bump a lsb w n).recov = s.recov := rfl
@[simp] theorem State.bump_tap (a lsb w n : Nat) : (s.bump a lsb w n).tap = s.tap := rfl
@[simp] theorem State.bump_rstLow (a lsb w n : Nat) : (s.bump a lsb w n).rstLow = s.rstLow := rfl
@[simp] theorem State.bump_warm (a lsb w n : Nat) : (s.bump a lsb w n).warm = s.warm := rfl
@[simp] theorem State.bump_epochs (a lsb w n : Nat) : (s.bump a lsb w n).epochs = s.epochs := rfl
@[simp] theorem State.bump_surgeNow (a lsb w n : Nat) : (s.bump a lsb w n).surgeNow = s.surgeNow := rfl
@[simp] theorem State.bump_jobPool64 (a lsb w n : Nat) : (s.bump a lsb w n).jobPool64 = s.jobPool64 := rfl
@[simp] theorem State.bump_jobPool2M (a lsb w n : Nat) : (s.bump a lsb w n).jobPool2M = s.jobPool2M := rfl

/-! ## `State.irq` changes `regs` only -/
@[simp] theorem State.irq_pending (t : PageType) (i b : Nat) : (s.irq t i b).pending = s.pending := rfl
@[simp] theorem State.irq_timebase (t : PageType) (i b : Nat) : (s.irq t i b).timebase = s.timebase := rfl
@[simp] theorem State.irq_free (t : PageType) (i b : Nat) : (s.irq t i b).free = s.free := rfl
@[simp] theorem State.irq_out (t : PageType) (i b : Nat) : (s.irq t i b).out = s.out := rfl
@[simp] theorem State.irq_stage (t : PageType) (i b : Nat) : (s.irq t i b).stage = s.stage := rfl
@[simp] theorem State.irq_dst (t : PageType) (i b : Nat) : (s.irq t i b).dst = s.dst := rfl
@[simp] theorem State.irq_spineUp (t : PageType) (i b : Nat) : (s.irq t i b).spineUp = s.spineUp := rfl
@[simp] theorem State.irq_activeStacks (t : PageType) (i b : Nat) : (s.irq t i b).activeStacks = s.activeStacks := rfl
@[simp] theorem State.irq_dies (t : PageType) (i b : Nat) : (s.irq t i b).dies = s.dies := rfl
@[simp] theorem State.irq_keepers (t : PageType) (i b : Nat) : (s.irq t i b).keepers = s.keepers := rfl
@[simp] theorem State.irq_tally (t : PageType) (i b : Nat) : (s.irq t i b).tally = s.tally := rfl
@[simp] theorem State.irq_staging (t : PageType) (i b : Nat) : (s.irq t i b).staging = s.staging := rfl
@[simp] theorem State.irq_vault (t : PageType) (i b : Nat) : (s.irq t i b).vault = s.vault := rfl
@[simp] theorem State.irq_mgmt (t : PageType) (i b : Nat) : (s.irq t i b).mgmt = s.mgmt := rfl
@[simp] theorem State.irq_jobPhase (t : PageType) (i b : Nat) : (s.irq t i b).jobPhase = s.jobPhase := rfl
@[simp] theorem State.irq_bootWait (t : PageType) (i b : Nat) : (s.irq t i b).bootWait = s.bootWait := rfl
@[simp] theorem State.irq_stopAsked (t : PageType) (i b : Nat) : (s.irq t i b).stopAsked = s.stopAsked := rfl
@[simp] theorem State.irq_idleInterval (t : PageType) (i b : Nat) : (s.irq t i b).idleInterval = s.idleInterval := rfl
@[simp] theorem State.irq_faultsDue (t : PageType) (i b : Nat) : (s.irq t i b).faultsDue = s.faultsDue := rfl
@[simp] theorem State.irq_irqSent (t : PageType) (i b : Nat) : (s.irq t i b).irqSent = s.irqSent := rfl
@[simp] theorem State.irq_latched (t : PageType) (i b : Nat) : (s.irq t i b).latched = s.latched := rfl
@[simp] theorem State.irq_highHeld (t : PageType) (i b : Nat) : (s.irq t i b).highHeld = s.highHeld := rfl
@[simp] theorem State.irq_lateReads (t : PageType) (i b : Nat) : (s.irq t i b).lateReads = s.lateReads := rfl
@[simp] theorem State.irq_cores (t : PageType) (i b : Nat) : (s.irq t i b).cores = s.cores := rfl
@[simp] theorem State.irq_coreBuf (t : PageType) (i b : Nat) : (s.irq t i b).coreBuf = s.coreBuf := rfl
@[simp] theorem State.irq_instStore (t : PageType) (i b : Nat) : (s.irq t i b).instStore = s.instStore := rfl
@[simp] theorem State.irq_stks (t : PageType) (i b : Nat) : (s.irq t i b).stks = s.stks := rfl
@[simp] theorem State.irq_rowStore (t : PageType) (i b : Nat) : (s.irq t i b).rowStore = s.rowStore := rfl
@[simp] theorem State.irq_xes (t : PageType) (i b : Nat) : (s.irq t i b).xes = s.xes := rfl
@[simp] theorem State.irq_pagers (t : PageType) (i b : Nat) : (s.irq t i b).pagers = s.pagers := rfl
@[simp] theorem State.irq_chans (t : PageType) (i b : Nat) : (s.irq t i b).chans = s.chans := rfl
@[simp] theorem State.irq_mainMem (t : PageType) (i b : Nat) : (s.irq t i b).mainMem = s.mainMem := rfl
@[simp] theorem State.irq_thirds (t : PageType) (i b : Nat) : (s.irq t i b).thirds = s.thirds := rfl
@[simp] theorem State.irq_sieves (t : PageType) (i b : Nat) : (s.irq t i b).sieves = s.sieves := rfl
@[simp] theorem State.irq_kettleIn (t : PageType) (i b : Nat) : (s.irq t i b).kettleIn = s.kettleIn := rfl
@[simp] theorem State.irq_groups (t : PageType) (i b : Nat) : (s.irq t i b).groups = s.groups := rfl
@[simp] theorem State.irq_sites (t : PageType) (i b : Nat) : (s.irq t i b).sites = s.sites := rfl
@[simp] theorem State.irq_statusQ (t : PageType) (i b : Nat) : (s.irq t i b).statusQ = s.statusQ := rfl
@[simp] theorem State.irq_statusHeld (t : PageType) (i b : Nat) : (s.irq t i b).statusHeld = s.statusHeld := rfl
@[simp] theorem State.irq_krelDue (t : PageType) (i b : Nat) : (s.irq t i b).krelDue = s.krelDue := rfl
@[simp] theorem State.irq_rings (t : PageType) (i b : Nat) : (s.irq t i b).rings = s.rings := rfl
@[simp] theorem State.irq_lsms (t : PageType) (i b : Nat) : (s.irq t i b).lsms = s.lsms := rfl
@[simp] theorem State.irq_lines (t : PageType) (i b : Nat) : (s.irq t i b).lines = s.lines := rfl
@[simp] theorem State.irq_inputs (t : PageType) (i b : Nat) : (s.irq t i b).inputs = s.inputs := rfl
@[simp] theorem State.irq_refLight (t : PageType) (i b : Nat) : (s.irq t i b).refLight = s.refLight := rfl
@[simp] theorem State.irq_calPass (t : PageType) (i b : Nat) : (s.irq t i b).calPass = s.calPass := rfl
@[simp] theorem State.irq_identAt (t : PageType) (i b : Nat) : (s.irq t i b).identAt = s.identAt := rfl
@[simp] theorem State.irq_hallWait (t : PageType) (i b : Nat) : (s.irq t i b).hallWait = s.hallWait := rfl
@[simp] theorem State.irq_hallAsm (t : PageType) (i b : Nat) : (s.irq t i b).hallAsm = s.hallAsm := rfl
@[simp] theorem State.irq_hallSeq (t : PageType) (i b : Nat) : (s.irq t i b).hallSeq = s.hallSeq := rfl
@[simp] theorem State.irq_ports (t : PageType) (i b : Nat) : (s.irq t i b).ports = s.ports := rfl
@[simp] theorem State.irq_originLow (t : PageType) (i b : Nat) : (s.irq t i b).originLow = s.originLow := rfl
@[simp] theorem State.irq_discStart (t : PageType) (i b : Nat) : (s.irq t i b).discStart = s.discStart := rfl
@[simp] theorem State.irq_restart (t : PageType) (i b : Nat) : (s.irq t i b).restart = s.restart := rfl
@[simp] theorem State.irq_serving (t : PageType) (i b : Nat) : (s.irq t i b).serving = s.serving := rfl
@[simp] theorem State.irq_job (t : PageType) (i b : Nat) : (s.irq t i b).job = s.job := rfl
@[simp] theorem State.irq_regions (t : PageType) (i b : Nat) : (s.irq t i b).regions = s.regions := rfl
@[simp] theorem State.irq_clock (t : PageType) (i b : Nat) : (s.irq t i b).clock = s.clock := rfl
@[simp] theorem State.irq_power (t : PageType) (i b : Nat) : (s.irq t i b).power = s.power := rfl
@[simp] theorem State.irq_diodes (t : PageType) (i b : Nat) : (s.irq t i b).diodes = s.diodes := rfl
@[simp] theorem State.irq_stop (t : PageType) (i b : Nat) : (s.irq t i b).stop = s.stop := rfl
@[simp] theorem State.irq_trip (t : PageType) (i b : Nat) : (s.irq t i b).trip = s.trip := rfl
@[simp] theorem State.irq_reportOut (t : PageType) (i b : Nat) : (s.irq t i b).reportOut = s.reportOut := rfl
@[simp] theorem State.irq_recov (t : PageType) (i b : Nat) : (s.irq t i b).recov = s.recov := rfl
@[simp] theorem State.irq_tap (t : PageType) (i b : Nat) : (s.irq t i b).tap = s.tap := rfl
@[simp] theorem State.irq_rstLow (t : PageType) (i b : Nat) : (s.irq t i b).rstLow = s.rstLow := rfl
@[simp] theorem State.irq_warm (t : PageType) (i b : Nat) : (s.irq t i b).warm = s.warm := rfl
@[simp] theorem State.irq_epochs (t : PageType) (i b : Nat) : (s.irq t i b).epochs = s.epochs := rfl
@[simp] theorem State.irq_surgeNow (t : PageType) (i b : Nat) : (s.irq t i b).surgeNow = s.surgeNow := rfl
@[simp] theorem State.irq_jobPool64 (t : PageType) (i b : Nat) : (s.irq t i b).jobPool64 = s.jobPool64 := rfl
@[simp] theorem State.irq_jobPool2M (t : PageType) (i b : Nat) : (s.irq t i b).jobPool2M = s.jobPool2M := rfl

/-! ## `State.errCount` changes `regs` only -/
@[simp] theorem State.errCount_pending (t : PageType) (i c : Nat) : (s.errCount t i c).pending = s.pending := rfl
@[simp] theorem State.errCount_timebase (t : PageType) (i c : Nat) : (s.errCount t i c).timebase = s.timebase := rfl
@[simp] theorem State.errCount_free (t : PageType) (i c : Nat) : (s.errCount t i c).free = s.free := rfl
@[simp] theorem State.errCount_out (t : PageType) (i c : Nat) : (s.errCount t i c).out = s.out := rfl
@[simp] theorem State.errCount_stage (t : PageType) (i c : Nat) : (s.errCount t i c).stage = s.stage := rfl
@[simp] theorem State.errCount_dst (t : PageType) (i c : Nat) : (s.errCount t i c).dst = s.dst := rfl
@[simp] theorem State.errCount_spineUp (t : PageType) (i c : Nat) : (s.errCount t i c).spineUp = s.spineUp := rfl
@[simp] theorem State.errCount_activeStacks (t : PageType) (i c : Nat) : (s.errCount t i c).activeStacks = s.activeStacks := rfl
@[simp] theorem State.errCount_dies (t : PageType) (i c : Nat) : (s.errCount t i c).dies = s.dies := rfl
@[simp] theorem State.errCount_keepers (t : PageType) (i c : Nat) : (s.errCount t i c).keepers = s.keepers := rfl
@[simp] theorem State.errCount_tally (t : PageType) (i c : Nat) : (s.errCount t i c).tally = s.tally := rfl
@[simp] theorem State.errCount_staging (t : PageType) (i c : Nat) : (s.errCount t i c).staging = s.staging := rfl
@[simp] theorem State.errCount_vault (t : PageType) (i c : Nat) : (s.errCount t i c).vault = s.vault := rfl
@[simp] theorem State.errCount_mgmt (t : PageType) (i c : Nat) : (s.errCount t i c).mgmt = s.mgmt := rfl
@[simp] theorem State.errCount_jobPhase (t : PageType) (i c : Nat) : (s.errCount t i c).jobPhase = s.jobPhase := rfl
@[simp] theorem State.errCount_bootWait (t : PageType) (i c : Nat) : (s.errCount t i c).bootWait = s.bootWait := rfl
@[simp] theorem State.errCount_stopAsked (t : PageType) (i c : Nat) : (s.errCount t i c).stopAsked = s.stopAsked := rfl
@[simp] theorem State.errCount_idleInterval (t : PageType) (i c : Nat) : (s.errCount t i c).idleInterval = s.idleInterval := rfl
@[simp] theorem State.errCount_faultsDue (t : PageType) (i c : Nat) : (s.errCount t i c).faultsDue = s.faultsDue := rfl
@[simp] theorem State.errCount_irqSent (t : PageType) (i c : Nat) : (s.errCount t i c).irqSent = s.irqSent := rfl
@[simp] theorem State.errCount_latched (t : PageType) (i c : Nat) : (s.errCount t i c).latched = s.latched := rfl
@[simp] theorem State.errCount_highHeld (t : PageType) (i c : Nat) : (s.errCount t i c).highHeld = s.highHeld := rfl
@[simp] theorem State.errCount_lateReads (t : PageType) (i c : Nat) : (s.errCount t i c).lateReads = s.lateReads := rfl
@[simp] theorem State.errCount_cores (t : PageType) (i c : Nat) : (s.errCount t i c).cores = s.cores := rfl
@[simp] theorem State.errCount_coreBuf (t : PageType) (i c : Nat) : (s.errCount t i c).coreBuf = s.coreBuf := rfl
@[simp] theorem State.errCount_instStore (t : PageType) (i c : Nat) : (s.errCount t i c).instStore = s.instStore := rfl
@[simp] theorem State.errCount_stks (t : PageType) (i c : Nat) : (s.errCount t i c).stks = s.stks := rfl
@[simp] theorem State.errCount_rowStore (t : PageType) (i c : Nat) : (s.errCount t i c).rowStore = s.rowStore := rfl
@[simp] theorem State.errCount_xes (t : PageType) (i c : Nat) : (s.errCount t i c).xes = s.xes := rfl
@[simp] theorem State.errCount_pagers (t : PageType) (i c : Nat) : (s.errCount t i c).pagers = s.pagers := rfl
@[simp] theorem State.errCount_chans (t : PageType) (i c : Nat) : (s.errCount t i c).chans = s.chans := rfl
@[simp] theorem State.errCount_mainMem (t : PageType) (i c : Nat) : (s.errCount t i c).mainMem = s.mainMem := rfl
@[simp] theorem State.errCount_thirds (t : PageType) (i c : Nat) : (s.errCount t i c).thirds = s.thirds := rfl
@[simp] theorem State.errCount_sieves (t : PageType) (i c : Nat) : (s.errCount t i c).sieves = s.sieves := rfl
@[simp] theorem State.errCount_kettleIn (t : PageType) (i c : Nat) : (s.errCount t i c).kettleIn = s.kettleIn := rfl
@[simp] theorem State.errCount_groups (t : PageType) (i c : Nat) : (s.errCount t i c).groups = s.groups := rfl
@[simp] theorem State.errCount_sites (t : PageType) (i c : Nat) : (s.errCount t i c).sites = s.sites := rfl
@[simp] theorem State.errCount_statusQ (t : PageType) (i c : Nat) : (s.errCount t i c).statusQ = s.statusQ := rfl
@[simp] theorem State.errCount_statusHeld (t : PageType) (i c : Nat) : (s.errCount t i c).statusHeld = s.statusHeld := rfl
@[simp] theorem State.errCount_krelDue (t : PageType) (i c : Nat) : (s.errCount t i c).krelDue = s.krelDue := rfl
@[simp] theorem State.errCount_rings (t : PageType) (i c : Nat) : (s.errCount t i c).rings = s.rings := rfl
@[simp] theorem State.errCount_lsms (t : PageType) (i c : Nat) : (s.errCount t i c).lsms = s.lsms := rfl
@[simp] theorem State.errCount_lines (t : PageType) (i c : Nat) : (s.errCount t i c).lines = s.lines := rfl
@[simp] theorem State.errCount_inputs (t : PageType) (i c : Nat) : (s.errCount t i c).inputs = s.inputs := rfl
@[simp] theorem State.errCount_refLight (t : PageType) (i c : Nat) : (s.errCount t i c).refLight = s.refLight := rfl
@[simp] theorem State.errCount_calPass (t : PageType) (i c : Nat) : (s.errCount t i c).calPass = s.calPass := rfl
@[simp] theorem State.errCount_identAt (t : PageType) (i c : Nat) : (s.errCount t i c).identAt = s.identAt := rfl
@[simp] theorem State.errCount_hallWait (t : PageType) (i c : Nat) : (s.errCount t i c).hallWait = s.hallWait := rfl
@[simp] theorem State.errCount_hallAsm (t : PageType) (i c : Nat) : (s.errCount t i c).hallAsm = s.hallAsm := rfl
@[simp] theorem State.errCount_hallSeq (t : PageType) (i c : Nat) : (s.errCount t i c).hallSeq = s.hallSeq := rfl
@[simp] theorem State.errCount_ports (t : PageType) (i c : Nat) : (s.errCount t i c).ports = s.ports := rfl
@[simp] theorem State.errCount_originLow (t : PageType) (i c : Nat) : (s.errCount t i c).originLow = s.originLow := rfl
@[simp] theorem State.errCount_discStart (t : PageType) (i c : Nat) : (s.errCount t i c).discStart = s.discStart := rfl
@[simp] theorem State.errCount_restart (t : PageType) (i c : Nat) : (s.errCount t i c).restart = s.restart := rfl
@[simp] theorem State.errCount_serving (t : PageType) (i c : Nat) : (s.errCount t i c).serving = s.serving := rfl
@[simp] theorem State.errCount_job (t : PageType) (i c : Nat) : (s.errCount t i c).job = s.job := rfl
@[simp] theorem State.errCount_regions (t : PageType) (i c : Nat) : (s.errCount t i c).regions = s.regions := rfl
@[simp] theorem State.errCount_clock (t : PageType) (i c : Nat) : (s.errCount t i c).clock = s.clock := rfl
@[simp] theorem State.errCount_power (t : PageType) (i c : Nat) : (s.errCount t i c).power = s.power := rfl
@[simp] theorem State.errCount_diodes (t : PageType) (i c : Nat) : (s.errCount t i c).diodes = s.diodes := rfl
@[simp] theorem State.errCount_stop (t : PageType) (i c : Nat) : (s.errCount t i c).stop = s.stop := rfl
@[simp] theorem State.errCount_trip (t : PageType) (i c : Nat) : (s.errCount t i c).trip = s.trip := rfl
@[simp] theorem State.errCount_reportOut (t : PageType) (i c : Nat) : (s.errCount t i c).reportOut = s.reportOut := rfl
@[simp] theorem State.errCount_recov (t : PageType) (i c : Nat) : (s.errCount t i c).recov = s.recov := rfl
@[simp] theorem State.errCount_tap (t : PageType) (i c : Nat) : (s.errCount t i c).tap = s.tap := rfl
@[simp] theorem State.errCount_rstLow (t : PageType) (i c : Nat) : (s.errCount t i c).rstLow = s.rstLow := rfl
@[simp] theorem State.errCount_warm (t : PageType) (i c : Nat) : (s.errCount t i c).warm = s.warm := rfl
@[simp] theorem State.errCount_epochs (t : PageType) (i c : Nat) : (s.errCount t i c).epochs = s.epochs := rfl
@[simp] theorem State.errCount_surgeNow (t : PageType) (i c : Nat) : (s.errCount t i c).surgeNow = s.surgeNow := rfl
@[simp] theorem State.errCount_jobPool64 (t : PageType) (i c : Nat) : (s.errCount t i c).jobPool64 = s.jobPool64 := rfl
@[simp] theorem State.errCount_jobPool2M (t : PageType) (i c : Nat) : (s.errCount t i c).jobPool2M = s.jobPool2M := rfl

/-! ## `State.wr64` changes `regs` only -/
@[simp] theorem State.wr64_pending (a : Nat) (v : Dword) : (s.wr64 a v).pending = s.pending := rfl
@[simp] theorem State.wr64_timebase (a : Nat) (v : Dword) : (s.wr64 a v).timebase = s.timebase := rfl
@[simp] theorem State.wr64_free (a : Nat) (v : Dword) : (s.wr64 a v).free = s.free := rfl
@[simp] theorem State.wr64_out (a : Nat) (v : Dword) : (s.wr64 a v).out = s.out := rfl
@[simp] theorem State.wr64_stage (a : Nat) (v : Dword) : (s.wr64 a v).stage = s.stage := rfl
@[simp] theorem State.wr64_dst (a : Nat) (v : Dword) : (s.wr64 a v).dst = s.dst := rfl
@[simp] theorem State.wr64_spineUp (a : Nat) (v : Dword) : (s.wr64 a v).spineUp = s.spineUp := rfl
@[simp] theorem State.wr64_activeStacks (a : Nat) (v : Dword) : (s.wr64 a v).activeStacks = s.activeStacks := rfl
@[simp] theorem State.wr64_dies (a : Nat) (v : Dword) : (s.wr64 a v).dies = s.dies := rfl
@[simp] theorem State.wr64_keepers (a : Nat) (v : Dword) : (s.wr64 a v).keepers = s.keepers := rfl
@[simp] theorem State.wr64_tally (a : Nat) (v : Dword) : (s.wr64 a v).tally = s.tally := rfl
@[simp] theorem State.wr64_staging (a : Nat) (v : Dword) : (s.wr64 a v).staging = s.staging := rfl
@[simp] theorem State.wr64_vault (a : Nat) (v : Dword) : (s.wr64 a v).vault = s.vault := rfl
@[simp] theorem State.wr64_mgmt (a : Nat) (v : Dword) : (s.wr64 a v).mgmt = s.mgmt := rfl
@[simp] theorem State.wr64_jobPhase (a : Nat) (v : Dword) : (s.wr64 a v).jobPhase = s.jobPhase := rfl
@[simp] theorem State.wr64_bootWait (a : Nat) (v : Dword) : (s.wr64 a v).bootWait = s.bootWait := rfl
@[simp] theorem State.wr64_stopAsked (a : Nat) (v : Dword) : (s.wr64 a v).stopAsked = s.stopAsked := rfl
@[simp] theorem State.wr64_idleInterval (a : Nat) (v : Dword) : (s.wr64 a v).idleInterval = s.idleInterval := rfl
@[simp] theorem State.wr64_faultsDue (a : Nat) (v : Dword) : (s.wr64 a v).faultsDue = s.faultsDue := rfl
@[simp] theorem State.wr64_irqSent (a : Nat) (v : Dword) : (s.wr64 a v).irqSent = s.irqSent := rfl
@[simp] theorem State.wr64_latched (a : Nat) (v : Dword) : (s.wr64 a v).latched = s.latched := rfl
@[simp] theorem State.wr64_highHeld (a : Nat) (v : Dword) : (s.wr64 a v).highHeld = s.highHeld := rfl
@[simp] theorem State.wr64_lateReads (a : Nat) (v : Dword) : (s.wr64 a v).lateReads = s.lateReads := rfl
@[simp] theorem State.wr64_cores (a : Nat) (v : Dword) : (s.wr64 a v).cores = s.cores := rfl
@[simp] theorem State.wr64_coreBuf (a : Nat) (v : Dword) : (s.wr64 a v).coreBuf = s.coreBuf := rfl
@[simp] theorem State.wr64_instStore (a : Nat) (v : Dword) : (s.wr64 a v).instStore = s.instStore := rfl
@[simp] theorem State.wr64_stks (a : Nat) (v : Dword) : (s.wr64 a v).stks = s.stks := rfl
@[simp] theorem State.wr64_rowStore (a : Nat) (v : Dword) : (s.wr64 a v).rowStore = s.rowStore := rfl
@[simp] theorem State.wr64_xes (a : Nat) (v : Dword) : (s.wr64 a v).xes = s.xes := rfl
@[simp] theorem State.wr64_pagers (a : Nat) (v : Dword) : (s.wr64 a v).pagers = s.pagers := rfl
@[simp] theorem State.wr64_chans (a : Nat) (v : Dword) : (s.wr64 a v).chans = s.chans := rfl
@[simp] theorem State.wr64_mainMem (a : Nat) (v : Dword) : (s.wr64 a v).mainMem = s.mainMem := rfl
@[simp] theorem State.wr64_thirds (a : Nat) (v : Dword) : (s.wr64 a v).thirds = s.thirds := rfl
@[simp] theorem State.wr64_sieves (a : Nat) (v : Dword) : (s.wr64 a v).sieves = s.sieves := rfl
@[simp] theorem State.wr64_kettleIn (a : Nat) (v : Dword) : (s.wr64 a v).kettleIn = s.kettleIn := rfl
@[simp] theorem State.wr64_groups (a : Nat) (v : Dword) : (s.wr64 a v).groups = s.groups := rfl
@[simp] theorem State.wr64_sites (a : Nat) (v : Dword) : (s.wr64 a v).sites = s.sites := rfl
@[simp] theorem State.wr64_statusQ (a : Nat) (v : Dword) : (s.wr64 a v).statusQ = s.statusQ := rfl
@[simp] theorem State.wr64_statusHeld (a : Nat) (v : Dword) : (s.wr64 a v).statusHeld = s.statusHeld := rfl
@[simp] theorem State.wr64_krelDue (a : Nat) (v : Dword) : (s.wr64 a v).krelDue = s.krelDue := rfl
@[simp] theorem State.wr64_rings (a : Nat) (v : Dword) : (s.wr64 a v).rings = s.rings := rfl
@[simp] theorem State.wr64_lsms (a : Nat) (v : Dword) : (s.wr64 a v).lsms = s.lsms := rfl
@[simp] theorem State.wr64_lines (a : Nat) (v : Dword) : (s.wr64 a v).lines = s.lines := rfl
@[simp] theorem State.wr64_inputs (a : Nat) (v : Dword) : (s.wr64 a v).inputs = s.inputs := rfl
@[simp] theorem State.wr64_refLight (a : Nat) (v : Dword) : (s.wr64 a v).refLight = s.refLight := rfl
@[simp] theorem State.wr64_calPass (a : Nat) (v : Dword) : (s.wr64 a v).calPass = s.calPass := rfl
@[simp] theorem State.wr64_identAt (a : Nat) (v : Dword) : (s.wr64 a v).identAt = s.identAt := rfl
@[simp] theorem State.wr64_hallWait (a : Nat) (v : Dword) : (s.wr64 a v).hallWait = s.hallWait := rfl
@[simp] theorem State.wr64_hallAsm (a : Nat) (v : Dword) : (s.wr64 a v).hallAsm = s.hallAsm := rfl
@[simp] theorem State.wr64_hallSeq (a : Nat) (v : Dword) : (s.wr64 a v).hallSeq = s.hallSeq := rfl
@[simp] theorem State.wr64_ports (a : Nat) (v : Dword) : (s.wr64 a v).ports = s.ports := rfl
@[simp] theorem State.wr64_originLow (a : Nat) (v : Dword) : (s.wr64 a v).originLow = s.originLow := rfl
@[simp] theorem State.wr64_discStart (a : Nat) (v : Dword) : (s.wr64 a v).discStart = s.discStart := rfl
@[simp] theorem State.wr64_restart (a : Nat) (v : Dword) : (s.wr64 a v).restart = s.restart := rfl
@[simp] theorem State.wr64_serving (a : Nat) (v : Dword) : (s.wr64 a v).serving = s.serving := rfl
@[simp] theorem State.wr64_job (a : Nat) (v : Dword) : (s.wr64 a v).job = s.job := rfl
@[simp] theorem State.wr64_regions (a : Nat) (v : Dword) : (s.wr64 a v).regions = s.regions := rfl
@[simp] theorem State.wr64_clock (a : Nat) (v : Dword) : (s.wr64 a v).clock = s.clock := rfl
@[simp] theorem State.wr64_power (a : Nat) (v : Dword) : (s.wr64 a v).power = s.power := rfl
@[simp] theorem State.wr64_diodes (a : Nat) (v : Dword) : (s.wr64 a v).diodes = s.diodes := rfl
@[simp] theorem State.wr64_stop (a : Nat) (v : Dword) : (s.wr64 a v).stop = s.stop := rfl
@[simp] theorem State.wr64_trip (a : Nat) (v : Dword) : (s.wr64 a v).trip = s.trip := rfl
@[simp] theorem State.wr64_reportOut (a : Nat) (v : Dword) : (s.wr64 a v).reportOut = s.reportOut := rfl
@[simp] theorem State.wr64_recov (a : Nat) (v : Dword) : (s.wr64 a v).recov = s.recov := rfl
@[simp] theorem State.wr64_tap (a : Nat) (v : Dword) : (s.wr64 a v).tap = s.tap := rfl
@[simp] theorem State.wr64_rstLow (a : Nat) (v : Dword) : (s.wr64 a v).rstLow = s.rstLow := rfl
@[simp] theorem State.wr64_warm (a : Nat) (v : Dword) : (s.wr64 a v).warm = s.warm := rfl
@[simp] theorem State.wr64_epochs (a : Nat) (v : Dword) : (s.wr64 a v).epochs = s.epochs := rfl
@[simp] theorem State.wr64_surgeNow (a : Nat) (v : Dword) : (s.wr64 a v).surgeNow = s.surgeNow := rfl
@[simp] theorem State.wr64_jobPool64 (a : Nat) (v : Dword) : (s.wr64 a v).jobPool64 = s.jobPool64 := rfl
@[simp] theorem State.wr64_jobPool2M (a : Nat) (v : Dword) : (s.wr64 a v).jobPool2M = s.jobPool2M := rfl

/-! ## `State.jobFault` changes `faultsDue` only -/
@[simp] theorem State.jobFault_pending (c d e i : Nat) : (s.jobFault c d e i).pending = s.pending := rfl
@[simp] theorem State.jobFault_timebase (c d e i : Nat) : (s.jobFault c d e i).timebase = s.timebase := rfl
@[simp] theorem State.jobFault_free (c d e i : Nat) : (s.jobFault c d e i).free = s.free := rfl
@[simp] theorem State.jobFault_out (c d e i : Nat) : (s.jobFault c d e i).out = s.out := rfl
@[simp] theorem State.jobFault_stage (c d e i : Nat) : (s.jobFault c d e i).stage = s.stage := rfl
@[simp] theorem State.jobFault_dst (c d e i : Nat) : (s.jobFault c d e i).dst = s.dst := rfl
@[simp] theorem State.jobFault_spineUp (c d e i : Nat) : (s.jobFault c d e i).spineUp = s.spineUp := rfl
@[simp] theorem State.jobFault_activeStacks (c d e i : Nat) : (s.jobFault c d e i).activeStacks = s.activeStacks := rfl
@[simp] theorem State.jobFault_dies (c d e i : Nat) : (s.jobFault c d e i).dies = s.dies := rfl
@[simp] theorem State.jobFault_keepers (c d e i : Nat) : (s.jobFault c d e i).keepers = s.keepers := rfl
@[simp] theorem State.jobFault_tally (c d e i : Nat) : (s.jobFault c d e i).tally = s.tally := rfl
@[simp] theorem State.jobFault_staging (c d e i : Nat) : (s.jobFault c d e i).staging = s.staging := rfl
@[simp] theorem State.jobFault_vault (c d e i : Nat) : (s.jobFault c d e i).vault = s.vault := rfl
@[simp] theorem State.jobFault_mgmt (c d e i : Nat) : (s.jobFault c d e i).mgmt = s.mgmt := rfl
@[simp] theorem State.jobFault_jobPhase (c d e i : Nat) : (s.jobFault c d e i).jobPhase = s.jobPhase := rfl
@[simp] theorem State.jobFault_bootWait (c d e i : Nat) : (s.jobFault c d e i).bootWait = s.bootWait := rfl
@[simp] theorem State.jobFault_stopAsked (c d e i : Nat) : (s.jobFault c d e i).stopAsked = s.stopAsked := rfl
@[simp] theorem State.jobFault_idleInterval (c d e i : Nat) : (s.jobFault c d e i).idleInterval = s.idleInterval := rfl
@[simp] theorem State.jobFault_regs (c d e i : Nat) : (s.jobFault c d e i).regs = s.regs := rfl
@[simp] theorem State.jobFault_irqSent (c d e i : Nat) : (s.jobFault c d e i).irqSent = s.irqSent := rfl
@[simp] theorem State.jobFault_latched (c d e i : Nat) : (s.jobFault c d e i).latched = s.latched := rfl
@[simp] theorem State.jobFault_highHeld (c d e i : Nat) : (s.jobFault c d e i).highHeld = s.highHeld := rfl
@[simp] theorem State.jobFault_lateReads (c d e i : Nat) : (s.jobFault c d e i).lateReads = s.lateReads := rfl
@[simp] theorem State.jobFault_cores (c d e i : Nat) : (s.jobFault c d e i).cores = s.cores := rfl
@[simp] theorem State.jobFault_coreBuf (c d e i : Nat) : (s.jobFault c d e i).coreBuf = s.coreBuf := rfl
@[simp] theorem State.jobFault_instStore (c d e i : Nat) : (s.jobFault c d e i).instStore = s.instStore := rfl
@[simp] theorem State.jobFault_stks (c d e i : Nat) : (s.jobFault c d e i).stks = s.stks := rfl
@[simp] theorem State.jobFault_rowStore (c d e i : Nat) : (s.jobFault c d e i).rowStore = s.rowStore := rfl
@[simp] theorem State.jobFault_xes (c d e i : Nat) : (s.jobFault c d e i).xes = s.xes := rfl
@[simp] theorem State.jobFault_pagers (c d e i : Nat) : (s.jobFault c d e i).pagers = s.pagers := rfl
@[simp] theorem State.jobFault_chans (c d e i : Nat) : (s.jobFault c d e i).chans = s.chans := rfl
@[simp] theorem State.jobFault_mainMem (c d e i : Nat) : (s.jobFault c d e i).mainMem = s.mainMem := rfl
@[simp] theorem State.jobFault_thirds (c d e i : Nat) : (s.jobFault c d e i).thirds = s.thirds := rfl
@[simp] theorem State.jobFault_sieves (c d e i : Nat) : (s.jobFault c d e i).sieves = s.sieves := rfl
@[simp] theorem State.jobFault_kettleIn (c d e i : Nat) : (s.jobFault c d e i).kettleIn = s.kettleIn := rfl
@[simp] theorem State.jobFault_groups (c d e i : Nat) : (s.jobFault c d e i).groups = s.groups := rfl
@[simp] theorem State.jobFault_sites (c d e i : Nat) : (s.jobFault c d e i).sites = s.sites := rfl
@[simp] theorem State.jobFault_statusQ (c d e i : Nat) : (s.jobFault c d e i).statusQ = s.statusQ := rfl
@[simp] theorem State.jobFault_statusHeld (c d e i : Nat) : (s.jobFault c d e i).statusHeld = s.statusHeld := rfl
@[simp] theorem State.jobFault_krelDue (c d e i : Nat) : (s.jobFault c d e i).krelDue = s.krelDue := rfl
@[simp] theorem State.jobFault_rings (c d e i : Nat) : (s.jobFault c d e i).rings = s.rings := rfl
@[simp] theorem State.jobFault_lsms (c d e i : Nat) : (s.jobFault c d e i).lsms = s.lsms := rfl
@[simp] theorem State.jobFault_lines (c d e i : Nat) : (s.jobFault c d e i).lines = s.lines := rfl
@[simp] theorem State.jobFault_inputs (c d e i : Nat) : (s.jobFault c d e i).inputs = s.inputs := rfl
@[simp] theorem State.jobFault_refLight (c d e i : Nat) : (s.jobFault c d e i).refLight = s.refLight := rfl
@[simp] theorem State.jobFault_calPass (c d e i : Nat) : (s.jobFault c d e i).calPass = s.calPass := rfl
@[simp] theorem State.jobFault_identAt (c d e i : Nat) : (s.jobFault c d e i).identAt = s.identAt := rfl
@[simp] theorem State.jobFault_hallWait (c d e i : Nat) : (s.jobFault c d e i).hallWait = s.hallWait := rfl
@[simp] theorem State.jobFault_hallAsm (c d e i : Nat) : (s.jobFault c d e i).hallAsm = s.hallAsm := rfl
@[simp] theorem State.jobFault_hallSeq (c d e i : Nat) : (s.jobFault c d e i).hallSeq = s.hallSeq := rfl
@[simp] theorem State.jobFault_ports (c d e i : Nat) : (s.jobFault c d e i).ports = s.ports := rfl
@[simp] theorem State.jobFault_originLow (c d e i : Nat) : (s.jobFault c d e i).originLow = s.originLow := rfl
@[simp] theorem State.jobFault_discStart (c d e i : Nat) : (s.jobFault c d e i).discStart = s.discStart := rfl
@[simp] theorem State.jobFault_restart (c d e i : Nat) : (s.jobFault c d e i).restart = s.restart := rfl
@[simp] theorem State.jobFault_serving (c d e i : Nat) : (s.jobFault c d e i).serving = s.serving := rfl
@[simp] theorem State.jobFault_job (c d e i : Nat) : (s.jobFault c d e i).job = s.job := rfl
@[simp] theorem State.jobFault_regions (c d e i : Nat) : (s.jobFault c d e i).regions = s.regions := rfl
@[simp] theorem State.jobFault_clock (c d e i : Nat) : (s.jobFault c d e i).clock = s.clock := rfl
@[simp] theorem State.jobFault_power (c d e i : Nat) : (s.jobFault c d e i).power = s.power := rfl
@[simp] theorem State.jobFault_diodes (c d e i : Nat) : (s.jobFault c d e i).diodes = s.diodes := rfl
@[simp] theorem State.jobFault_stop (c d e i : Nat) : (s.jobFault c d e i).stop = s.stop := rfl
@[simp] theorem State.jobFault_trip (c d e i : Nat) : (s.jobFault c d e i).trip = s.trip := rfl
@[simp] theorem State.jobFault_reportOut (c d e i : Nat) : (s.jobFault c d e i).reportOut = s.reportOut := rfl
@[simp] theorem State.jobFault_recov (c d e i : Nat) : (s.jobFault c d e i).recov = s.recov := rfl
@[simp] theorem State.jobFault_tap (c d e i : Nat) : (s.jobFault c d e i).tap = s.tap := rfl
@[simp] theorem State.jobFault_rstLow (c d e i : Nat) : (s.jobFault c d e i).rstLow = s.rstLow := rfl
@[simp] theorem State.jobFault_warm (c d e i : Nat) : (s.jobFault c d e i).warm = s.warm := rfl
@[simp] theorem State.jobFault_epochs (c d e i : Nat) : (s.jobFault c d e i).epochs = s.epochs := rfl
@[simp] theorem State.jobFault_surgeNow (c d e i : Nat) : (s.jobFault c d e i).surgeNow = s.surgeNow := rfl
@[simp] theorem State.jobFault_jobPool64 (c d e i : Nat) : (s.jobFault c d e i).jobPool64 = s.jobPool64 := rfl
@[simp] theorem State.jobFault_jobPool2M (c d e i : Nat) : (s.jobFault c d e i).jobPool2M = s.jobPool2M := rfl

@[simp] theorem State.latchLog_pending (a v : Nat) : (s.latchLog a v).pending = s.pending := by unfold State.latchLog; split <;> rfl
@[simp] theorem State.latchLog_timebase (a v : Nat) : (s.latchLog a v).timebase = s.timebase := by unfold State.latchLog; split <;> rfl
@[simp] theorem State.latchLog_free (a v : Nat) : (s.latchLog a v).free = s.free := by unfold State.latchLog; split <;> rfl
@[simp] theorem State.latchLog_out (a v : Nat) : (s.latchLog a v).out = s.out := by unfold State.latchLog; split <;> rfl
@[simp] theorem State.latchLog_stage (a v : Nat) : (s.latchLog a v).stage = s.stage := by unfold State.latchLog; split <;> rfl
@[simp] theorem State.latchLog_dst (a v : Nat) : (s.latchLog a v).dst = s.dst := by unfold State.latchLog; split <;> rfl
@[simp] theorem State.latchLog_spineUp (a v : Nat) : (s.latchLog a v).spineUp = s.spineUp := by unfold State.latchLog; split <;> rfl
@[simp] theorem State.latchLog_activeStacks (a v : Nat) : (s.latchLog a v).activeStacks = s.activeStacks := by unfold State.latchLog; split <;> rfl
@[simp] theorem State.latchLog_dies (a v : Nat) : (s.latchLog a v).dies = s.dies := by unfold State.latchLog; split <;> rfl
@[simp] theorem State.latchLog_keepers (a v : Nat) : (s.latchLog a v).keepers = s.keepers := by unfold State.latchLog; split <;> rfl
@[simp] theorem State.latchLog_tally (a v : Nat) : (s.latchLog a v).tally = s.tally := by unfold State.latchLog; split <;> rfl
@[simp] theorem State.latchLog_staging (a v : Nat) : (s.latchLog a v).staging = s.staging := by unfold State.latchLog; split <;> rfl
@[simp] theorem State.latchLog_vault (a v : Nat) : (s.latchLog a v).vault = s.vault := by unfold State.latchLog; split <;> rfl
@[simp] theorem State.latchLog_mgmt (a v : Nat) : (s.latchLog a v).mgmt = s.mgmt := by unfold State.latchLog; split <;> rfl
@[simp] theorem State.latchLog_jobPhase (a v : Nat) : (s.latchLog a v).jobPhase = s.jobPhase := by unfold State.latchLog; split <;> rfl
@[simp] theorem State.latchLog_bootWait (a v : Nat) : (s.latchLog a v).bootWait = s.bootWait := by unfold State.latchLog; split <;> rfl
@[simp] theorem State.latchLog_stopAsked (a v : Nat) : (s.latchLog a v).stopAsked = s.stopAsked := by unfold State.latchLog; split <;> rfl
@[simp] theorem State.latchLog_idleInterval (a v : Nat) : (s.latchLog a v).idleInterval = s.idleInterval := by unfold State.latchLog; split <;> rfl
@[simp] theorem State.latchLog_faultsDue (a v : Nat) : (s.latchLog a v).faultsDue = s.faultsDue := by unfold State.latchLog; split <;> rfl
@[simp] theorem State.latchLog_irqSent (a v : Nat) : (s.latchLog a v).irqSent = s.irqSent := by unfold State.latchLog; split <;> rfl
@[simp] theorem State.latchLog_latched (a v : Nat) : (s.latchLog a v).latched = s.latched := by unfold State.latchLog; split <;> rfl
@[simp] theorem State.latchLog_highHeld (a v : Nat) : (s.latchLog a v).highHeld = s.highHeld := by unfold State.latchLog; split <;> rfl
@[simp] theorem State.latchLog_lateReads (a v : Nat) : (s.latchLog a v).lateReads = s.lateReads := by unfold State.latchLog; split <;> rfl
@[simp] theorem State.latchLog_cores (a v : Nat) : (s.latchLog a v).cores = s.cores := by unfold State.latchLog; split <;> rfl
@[simp] theorem State.latchLog_coreBuf (a v : Nat) : (s.latchLog a v).coreBuf = s.coreBuf := by unfold State.latchLog; split <;> rfl
@[simp] theorem State.latchLog_instStore (a v : Nat) : (s.latchLog a v).instStore = s.instStore := by unfold State.latchLog; split <;> rfl
@[simp] theorem State.latchLog_stks (a v : Nat) : (s.latchLog a v).stks = s.stks := by unfold State.latchLog; split <;> rfl
@[simp] theorem State.latchLog_rowStore (a v : Nat) : (s.latchLog a v).rowStore = s.rowStore := by unfold State.latchLog; split <;> rfl
@[simp] theorem State.latchLog_xes (a v : Nat) : (s.latchLog a v).xes = s.xes := by unfold State.latchLog; split <;> rfl
@[simp] theorem State.latchLog_pagers (a v : Nat) : (s.latchLog a v).pagers = s.pagers := by unfold State.latchLog; split <;> rfl
@[simp] theorem State.latchLog_chans (a v : Nat) : (s.latchLog a v).chans = s.chans := by unfold State.latchLog; split <;> rfl
@[simp] theorem State.latchLog_mainMem (a v : Nat) : (s.latchLog a v).mainMem = s.mainMem := by unfold State.latchLog; split <;> rfl
@[simp] theorem State.latchLog_thirds (a v : Nat) : (s.latchLog a v).thirds = s.thirds := by unfold State.latchLog; split <;> rfl
@[simp] theorem State.latchLog_sieves (a v : Nat) : (s.latchLog a v).sieves = s.sieves := by unfold State.latchLog; split <;> rfl
@[simp] theorem State.latchLog_kettleIn (a v : Nat) : (s.latchLog a v).kettleIn = s.kettleIn := by unfold State.latchLog; split <;> rfl
@[simp] theorem State.latchLog_groups (a v : Nat) : (s.latchLog a v).groups = s.groups := by unfold State.latchLog; split <;> rfl
@[simp] theorem State.latchLog_sites (a v : Nat) : (s.latchLog a v).sites = s.sites := by unfold State.latchLog; split <;> rfl
@[simp] theorem State.latchLog_statusQ (a v : Nat) : (s.latchLog a v).statusQ = s.statusQ := by unfold State.latchLog; split <;> rfl
@[simp] theorem State.latchLog_statusHeld (a v : Nat) : (s.latchLog a v).statusHeld = s.statusHeld := by unfold State.latchLog; split <;> rfl
@[simp] theorem State.latchLog_krelDue (a v : Nat) : (s.latchLog a v).krelDue = s.krelDue := by unfold State.latchLog; split <;> rfl
@[simp] theorem State.latchLog_rings (a v : Nat) : (s.latchLog a v).rings = s.rings := by unfold State.latchLog; split <;> rfl
@[simp] theorem State.latchLog_lsms (a v : Nat) : (s.latchLog a v).lsms = s.lsms := by unfold State.latchLog; split <;> rfl
@[simp] theorem State.latchLog_lines (a v : Nat) : (s.latchLog a v).lines = s.lines := by unfold State.latchLog; split <;> rfl
@[simp] theorem State.latchLog_inputs (a v : Nat) : (s.latchLog a v).inputs = s.inputs := by unfold State.latchLog; split <;> rfl
@[simp] theorem State.latchLog_refLight (a v : Nat) : (s.latchLog a v).refLight = s.refLight := by unfold State.latchLog; split <;> rfl
@[simp] theorem State.latchLog_calPass (a v : Nat) : (s.latchLog a v).calPass = s.calPass := by unfold State.latchLog; split <;> rfl
@[simp] theorem State.latchLog_identAt (a v : Nat) : (s.latchLog a v).identAt = s.identAt := by unfold State.latchLog; split <;> rfl
@[simp] theorem State.latchLog_hallWait (a v : Nat) : (s.latchLog a v).hallWait = s.hallWait := by unfold State.latchLog; split <;> rfl
@[simp] theorem State.latchLog_hallAsm (a v : Nat) : (s.latchLog a v).hallAsm = s.hallAsm := by unfold State.latchLog; split <;> rfl
@[simp] theorem State.latchLog_hallSeq (a v : Nat) : (s.latchLog a v).hallSeq = s.hallSeq := by unfold State.latchLog; split <;> rfl
@[simp] theorem State.latchLog_ports (a v : Nat) : (s.latchLog a v).ports = s.ports := by unfold State.latchLog; split <;> rfl
@[simp] theorem State.latchLog_originLow (a v : Nat) : (s.latchLog a v).originLow = s.originLow := by unfold State.latchLog; split <;> rfl
@[simp] theorem State.latchLog_discStart (a v : Nat) : (s.latchLog a v).discStart = s.discStart := by unfold State.latchLog; split <;> rfl
@[simp] theorem State.latchLog_restart (a v : Nat) : (s.latchLog a v).restart = s.restart := by unfold State.latchLog; split <;> rfl
@[simp] theorem State.latchLog_serving (a v : Nat) : (s.latchLog a v).serving = s.serving := by unfold State.latchLog; split <;> rfl
@[simp] theorem State.latchLog_job (a v : Nat) : (s.latchLog a v).job = s.job := by unfold State.latchLog; split <;> rfl
@[simp] theorem State.latchLog_regions (a v : Nat) : (s.latchLog a v).regions = s.regions := by unfold State.latchLog; split <;> rfl
@[simp] theorem State.latchLog_clock (a v : Nat) : (s.latchLog a v).clock = s.clock := by unfold State.latchLog; split <;> rfl
@[simp] theorem State.latchLog_power (a v : Nat) : (s.latchLog a v).power = s.power := by unfold State.latchLog; split <;> rfl
@[simp] theorem State.latchLog_diodes (a v : Nat) : (s.latchLog a v).diodes = s.diodes := by unfold State.latchLog; split <;> rfl
@[simp] theorem State.latchLog_stop (a v : Nat) : (s.latchLog a v).stop = s.stop := by unfold State.latchLog; split <;> rfl
@[simp] theorem State.latchLog_trip (a v : Nat) : (s.latchLog a v).trip = s.trip := by unfold State.latchLog; split <;> rfl
@[simp] theorem State.latchLog_reportOut (a v : Nat) : (s.latchLog a v).reportOut = s.reportOut := by unfold State.latchLog; split <;> rfl
@[simp] theorem State.latchLog_recov (a v : Nat) : (s.latchLog a v).recov = s.recov := by unfold State.latchLog; split <;> rfl
@[simp] theorem State.latchLog_tap (a v : Nat) : (s.latchLog a v).tap = s.tap := by unfold State.latchLog; split <;> rfl
@[simp] theorem State.latchLog_rstLow (a v : Nat) : (s.latchLog a v).rstLow = s.rstLow := by unfold State.latchLog; split <;> rfl
@[simp] theorem State.latchLog_warm (a v : Nat) : (s.latchLog a v).warm = s.warm := by unfold State.latchLog; split <;> rfl
@[simp] theorem State.latchLog_epochs (a v : Nat) : (s.latchLog a v).epochs = s.epochs := by unfold State.latchLog; split <;> rfl
@[simp] theorem State.latchLog_surgeNow (a v : Nat) : (s.latchLog a v).surgeNow = s.surgeNow := by unfold State.latchLog; split <;> rfl
@[simp] theorem State.latchLog_jobPool64 (a v : Nat) : (s.latchLog a v).jobPool64 = s.jobPool64 := by unfold State.latchLog; split <;> rfl
@[simp] theorem State.latchLog_jobPool2M (a v : Nat) : (s.latchLog a v).jobPool2M = s.jobPool2M := by unfold State.latchLog; split <;> rfl

/-! ## What an update writes -/
@[simp] theorem State.setCore_cores (n : Nat) (c : Core) : (s.setCore n c).cores = sset {} s.cores n c := rfl
@[simp] theorem State.setStk_stks (n : Nat) (k : Stack) : (s.setStk n k).stks = sset {} s.stks n k := rfl
@[simp] theorem State.setXe_xes (n : Nat) (x : Xe) : (s.setXe n x).xes = sset {} s.xes n x := rfl
@[simp] theorem State.setPager_pagers (n : Nat) (p : Pager) : (s.setPager n p).pagers = sset {} s.pagers n p := rfl
@[simp] theorem State.setChan_chans (n : Nat) (c : Chan) : (s.setChan n c).chans = sset {} s.chans n c := rfl
@[simp] theorem State.setDie_dies (c : Nat) (d : Die) : (s.setDie c d).dies = sset {} s.dies c d := rfl
@[simp] theorem State.wr_regs (a : Nat) (v : Word) : (s.wr a v).regs = sset (regReset a) s.regs a v := rfl
@[simp] theorem State.emit_out (m : Msg) : (s.emit m).out = s.out ++ [m] := rfl

end Sys2Proof.Machine
end

