-- ==== Sys2Proof/Laws/Registers.lean ====
section
/-!
SUPPORT. Sys2Proof/Laws/Registers.lean: the address map read back (R533, R534), and what a write transaction does when it is taken or refused (R234, R236, R542).
-/
namespace Sys2Proof.Machine

/-- The ranges of the page types, in the order of R534, do not overlap. -/
theorem pageInfo_before (t : PageType) : ∀ u ∈ pageTypes.takeWhile (fun u => decide (u ≠ t)),
    (pageInfo u).base + (pageInfo u).slots * 0x1000 ≤ (pageInfo t).base := by
  cases t <;> decide
theorem pageInfo_fits (t : PageType) : (pageInfo t).insts ≤ (pageInfo t).slots ∧ (pageInfo t).base % 0x1000 = 0 := by cases t <;> decide
theorem pageTypes_split (t : PageType) :
    pageTypes = pageTypes.takeWhile (fun u => decide (u ≠ t)) ++ t :: (pageTypes.dropWhile (fun u => decide (u ≠ t))).tail := by
  cases t <;> rfl

/-- The address of a register spells its page, instance and offset (R533, R534). -/
theorem decodeAddr_regAddr (t : PageType) {i off : Nat} (hi : i < (pageInfo t).insts) (ho : off < 4096) :
    decodeAddr (regAddr t i off) = some (t, i, off) := by
  have hf := pageInfo_fits t
  have hfind : pageTypes.find? (fun u => decide ((pageInfo u).base ≤ regAddr t i off ∧
      regAddr t i off < (pageInfo u).base + (pageInfo u).slots * 0x1000)) = some t := by
    refine List.find?_eq_some_iff_append.2 ⟨?_, _, _, pageTypes_split t, ?_⟩
    · refine decide_eq_true ?_
      unfold regAddr
      omega
    · intro u hu
      have := pageInfo_before t u hu
      rw [Bool.not_eq_true']
      refine decide_eq_false ?_
      unfold regAddr
      omega
  unfold decodeAddr
  rw [hfind]
  have h1 : (regAddr t i off - (pageInfo t).base) / 0x1000 = i := by
    simp only [regAddr]
    omega
  have h2 : regAddr t i off % 0x1000 = off := by
    simp only [regAddr]
    omega
  simp only [h1, h2]
  rw [if_pos hi]

/-- A write to a unit's register that no rule refuses takes effect and is answered (R234, R540, R542). -/
theorem State.busDo_taken {s : State} {ini : Initiator} {ep : Byte} {t : PageType} {i off : Nat} (f : State → State)
    (hi : i < (pageInfo t).insts) (ho : off < 4096) (he : s.writeError ini ep (regAddr t i off) false = 0)
    (hh : off < 0x040 ∨ s.holderOn t i = true) : s.busDo ini ep t i off f = (f s).answer ini 0 := by
  unfold State.busDo State.busWrite
  rw [decodeAddr_regAddr t hi ho]
  simp only [he, ne_eq, not_true_eq_false, if_false]
  rw [if_neg]
  rintro ⟨h1, h2⟩
  cases hh with
  | inl h => exact absurd h1 (by omega)
  | inr h => rw [h] at h2; exact Bool.noConfusion h2

/-- A write that a rule refuses takes no effect: it is counted and answered with its ERROR code (R234, R236). -/
theorem State.busDo_refused {s : State} {ini : Initiator} {ep : Byte} {t : PageType} {i off : Nat} (f : State → State)
    (he : s.writeError ini ep (regAddr t i off) false ≠ 0) :
    s.busDo ini ep t i off f =
      (s.countRefused (regAddr t i off) (s.writeError ini ep (regAddr t i off) false)).answer ini (s.writeError ini ep (regAddr t i off) false) := by
  unfold State.busDo State.busWrite
  simp only [ne_eq, he, not_false_eq_true, if_true]

/-! ## Reading a register after a write elsewhere -/

@[simp] theorem State.rdn_wr_ne (s : State) {a b : Nat} (v : Word) (h : b ≠ a) : (s.wr a v).rdn b = s.rdn b := by
  simp only [State.rdn, State.rd, State.wr, sget_sset_ne _ _ _ _ h]
@[simp] theorem State.fld_wr_ne (s : State) {a b : Nat} (v : Word) (lsb w : Nat) (h : b ≠ a) : (s.wr a v).fld b lsb w = s.fld b lsb w := by
  simp only [State.fld, State.rdn_wr_ne _ _ h]
@[simp] theorem State.rdn_setFld_ne (s : State) {a b : Nat} (lsb w v : Nat) (h : b ≠ a) : (s.setFld a lsb w v).rdn b = s.rdn b :=
  State.rdn_wr_ne _ _ h
@[simp] theorem State.rdn_bump_ne (s : State) {a b : Nat} (lsb w v : Nat) (h : b ≠ a) : (s.bump a lsb w v).rdn b = s.rdn b :=
  State.rdn_wr_ne _ _ h

end Sys2Proof.Machine
end

