-- ==== Sys2Proof/Laws/Engine.lean ====
section
/-!
SUPPORT. Sys2Proof/Laws/Engine.lean: what starting an engine command does (R47, R73).
-/
namespace Sys2Proof.Machine

/-- A command at the head of its queue whose work raises nothing leaves the state that its work gives (R47). -/
theorem State.startEngine_done {s t : State} {core : Nat} {x : Ctx} {eng : Engine} {op : Nat} {q : QEntry} {body : State → QEntry → Option Nat × State}
    (h : s.engineHead core x eng op = some q) (hb : body (s.takenUp core x eng q) q = (none, t)) : s.startEngine core x eng op body = t := by
  unfold State.takenUp at hb
  simp only [State.startEngine, h, hb]

/-- A command whose work raises an exception ends with it and does not signal (R73). -/
theorem State.startEngine_stopped {s t : State} {core : Nat} {x : Ctx} {eng : Engine} {op : Nat} {q : QEntry} {c : Nat}
    {body : State → QEntry → Option Nat × State} (h : s.engineHead core x eng op = some q) (hb : body (s.takenUp core x eng q) q = (some c, t)) :
    s.startEngine core x eng op body = (t.setRun core eng none).exception core x c q.pc.toNat (engSlot eng) false 0 := by
  unfold State.takenUp at hb
  simp only [State.startEngine, h, hb]

/-- No command at the head: nothing starts (R47). -/
theorem State.startEngine_none {s : State} {core : Nat} {x : Ctx} {eng : Engine} {op : Nat} {body : State → QEntry → Option Nat × State}
    (h : s.engineHead core x eng op = none) : s.startEngine core x eng op body = s := by
  simp only [State.startEngine, h]

/-- A read of good words changes nothing (R41). -/
theorem State.bufRead_clean {s : State} {core off n v : Nat} (h : s.coreBuf.get (bufKey core off / 8) n = ⟨v, [], none⟩) :
    s.bufRead core off n = (⟨v, [], none⟩, s) := by
  simp only [State.bufRead, h, if_true]

end Sys2Proof.Machine
end

