-- ==== Sys2Proof/Laws/Memories.lean ====
section
/-!
SUPPORT. Sys2Proof/Laws/Memories.lean: the canonical form of the protected memories under each operation: what leaves all four as they are, and what writes
one of them keeps the form.
-/
namespace Sys2Proof.Machine

/-- A state's canonical form looks at the four memories alone. -/
@[simp] theorem State.memsWf_mk a0 a1 a2 a3 a4 a5 a6 a7 a8 a9 a10 a11 a12 a13 a14 a15 a16 a17 a18 a19 a20 a21 a22 a23 a24 a25 a26 a27 a28 a29 a30 a31 a32 a33 a34 a35 a36 a37 a38 a39 a40 a41 a42 a43 a44 a45 a46 a47 a48 a49 a50 a51 a52 a53 a54 a55 a56 a57 a58 a59 a60 a61 a62 a63 a64 a65 a66 a67 a68 a69 a70 a71 :
    (State.mk a0 a1 a2 a3 a4 a5 a6 a7 a8 a9 a10 a11 a12 a13 a14 a15 a16 a17 a18 a19 a20 a21 a22 a23 a24 a25 a26 a27 a28 a29 a30 a31 a32 a33 a34 a35 a36 a37 a38 a39 a40 a41 a42 a43 a44 a45 a46 a47 a48 a49 a50 a51 a52 a53 a54 a55 a56 a57 a58 a59 a60 a61 a62 a63 a64 a65 a66 a67 a68 a69 a70 a71).memsWf =
      (a32.wf && a28.wf && a25.wf && a26.wf) := rfl
@[simp] theorem State.memsWf_fold (s : State) : (s.mainMem.wf && s.rowStore.wf && s.coreBuf.wf && s.instStore.wf) = s.memsWf := rfl
@[simp] theorem State.memsWf_ite (c : Prop) [Decidable c] (s t : State) : (if c then s else t).memsWf = if c then s.memsWf else t.memsWf := apply_ite _ _ _ _
theorem State.memsWf_iff (s : State) : s.memsWf = true ↔ s.mainMem.wf = true ∧ s.rowStore.wf = true ∧ s.coreBuf.wf = true ∧ s.instStore.wf = true := by
  simp only [State.memsWf, Bool.and_eq_true, and_assoc]
@[simp] theorem State.mainMem_wf {s : State} (h : s.memsWf = true) : s.mainMem.wf = true := ((State.memsWf_iff s).1 h).1
@[simp] theorem State.rowStore_wf {s : State} (h : s.memsWf = true) : s.rowStore.wf = true := ((State.memsWf_iff s).1 h).2.1
@[simp] theorem State.coreBuf_wf {s : State} (h : s.memsWf = true) : s.coreBuf.wf = true := ((State.memsWf_iff s).1 h).2.2.1
@[simp] theorem State.instStore_wf {s : State} (h : s.memsWf = true) : s.instStore.wf = true := ((State.memsWf_iff s).1 h).2.2.2
/-- A fold whose every step leaves the memories' form as it is. -/
@[simp] theorem foldl_memsWf {α : Type} (f : State → α → State) (h : ∀ t x, (f t x).memsWf = t.memsWf) (l : List α) (s : State) :
    (l.foldl f s).memsWf = s.memsWf := by
  induction l generalizing s with
  | nil => rfl
  | cons x l ih => rw [List.foldl_cons, ih, h]
/-- A fold whose every step keeps the form. -/
theorem foldl_keeps {α : Type} (f : State → α → State) (h : ∀ t x, t.memsWf = true → (f t x).memsWf = true) (l : List α) {s : State}
    (hs : s.memsWf = true) : (l.foldl f s).memsWf = true := by
  induction l generalizing s with
  | nil => exact hs
  | cons x l ih => exact ih (h s x hs)
/-- A fold over states beside other results. -/
@[simp] theorem foldl_memsWf_snd {α β : Type} (f : β × State → α → β × State) (h : ∀ t x, (f t x).2.memsWf = t.2.memsWf) (l : List α) (s : β × State) :
    (l.foldl f s).2.memsWf = s.2.memsWf := by
  induction l generalizing s with
  | nil => rfl
  | cons x l ih => rw [List.foldl_cons, ih, h]

/-! ## Ops -/

@[simp] theorem State.setCore_memsWf (s : State) (n : Nat) (c : Core) :
    (State.setCore s n c).memsWf = s.memsWf := by
  rfl
@[simp] theorem State.setCtx_memsWf (s : State) (n : Nat) (x : Ctx) (k : Context) :
    (State.setCtx s n x k).memsWf = s.memsWf := by
  rfl
@[simp] theorem State.modCtx_memsWf (s : State) (n : Nat) (x : Ctx) (f : Context → Context) :
    (State.modCtx s n x f).memsWf = s.memsWf := by
  rfl
@[simp] theorem State.setStk_memsWf (s : State) (n : Nat) (k : Stack) :
    (State.setStk s n k).memsWf = s.memsWf := by
  rfl
@[simp] theorem State.setXe_memsWf (s : State) (n : Nat) (x : Xe) :
    (State.setXe s n x).memsWf = s.memsWf := by
  rfl
@[simp] theorem State.setPager_memsWf (s : State) (n : Nat) (p : Pager) :
    (State.setPager s n p).memsWf = s.memsWf := by
  rfl
@[simp] theorem State.setChan_memsWf (s : State) (n : Nat) (c : Chan) :
    (State.setChan s n c).memsWf = s.memsWf := by
  rfl
@[simp] theorem State.setDie_memsWf (s : State) (c : Nat) (d : Die) :
    (State.setDie s c d).memsWf = s.memsWf := by
  rfl
@[simp] theorem State.wr_memsWf (s : State) (a : Nat) (v : Word) :
    (State.wr s a v).memsWf = s.memsWf := by
  rfl
@[simp] theorem State.setFld_memsWf (s : State) (a lsb w v : Nat) :
    (State.setFld s a lsb w v).memsWf = s.memsWf := by
  rfl
@[simp] theorem State.wr64_memsWf (s : State) (a : Nat) (v : Dword) :
    (State.wr64 s a v).memsWf = s.memsWf := by
  rfl
@[simp] theorem State.bump_memsWf (s : State) (a lsb w n : Nat) :
    (State.bump s a lsb w n).memsWf = s.memsWf := by
  rfl
@[simp] theorem State.raiseTo_memsWf (s : State) (a lsb w v : Nat) :
    (State.raiseTo s a lsb w v).memsWf = s.memsWf := by
  rfl
@[simp] theorem State.irq_memsWf (s : State) (t : PageType) (i bit : Nat) :
    (State.irq s t i bit).memsWf = s.memsWf := by
  rfl
@[simp] theorem State.errCount_memsWf (s : State) (t : PageType) (i cause : Nat) :
    (State.errCount s t i cause).memsWf = s.memsWf := by
  rfl
@[simp] theorem State.latchLog_memsWf (s : State) (a v : Nat) :
    (State.latchLog s a v).memsWf = s.memsWf := by
  simp [State.latchLog]
@[simp] theorem State.emit_memsWf (s : State) (m : Msg) :
    (State.emit s m).memsWf = s.memsWf := by
  rfl
@[simp] theorem State.fresh_memsWf (s : State) :
    (State.fresh s).2.memsWf = s.memsWf := by
  rfl
@[simp] theorem State.jobFault_memsWf (s : State) (cls code : Nat) (die : Nat) (inst : Nat) :
    (State.jobFault s cls code die inst).memsWf = s.memsWf := by
  rfl
@[simp] theorem State.cancelChains_memsWf (s : State) (core : Nat) (x : Ctx) :
    (State.cancelChains s core x).memsWf = s.memsWf := by
  simp [State.cancelChains]
@[simp] theorem State.excFault_memsWf (s : State) (core code status : Nat) :
    (State.excFault s core code status).memsWf = s.memsWf := by
  simp [State.excFault]
@[simp] theorem State.exception_memsWf (s : State) (core : Nat) (x : Ctx) (code pc slot : Nat) (multiple : Bool) (status : Nat) :
    (State.exception s core x code pc slot multiple status).memsWf = s.memsWf := by
  simp [State.exception]
@[simp] theorem State.exceptions_memsWf (s : State) (core : Nat) (x : Ctx) (es : List (Nat × Nat)) (pc : Nat) :
    (State.exceptions s core x es pc).memsWf = s.memsWf := by
  dsimp only [State.exceptions]; (repeat' split) <;> simp 
@[simp] theorem State.signal_memsWf (s : State) (core : Nat) (x : Ctx) (ctr : Fin 32) :
    (State.signal s core x ctr).memsWf = s.memsWf := by
  simp [State.signal]
@[simp] theorem State.numFlags_memsWf (s : State) (core : Nat) (x : Ctx) (f : BitVec 4) :
    (State.numFlags s core x f).memsWf = s.memsWf := by
  simp [State.numFlags]
@[simp] theorem State.coreEcc_memsWf (s : State) (core lsb n : Nat) :
    (State.coreEcc s core lsb n).memsWf = s.memsWf := by
  dsimp only [State.coreEcc]; split <;> simp
@[simp] theorem State.bufRead_memsWf (s : State) (core off n : Nat) (h : s.memsWf = true) :
    (State.bufRead s core off n).2.memsWf = true := by
  dsimp only [State.bufRead]
  split
  · exact h
  · simp [h]
@[simp] theorem State.bufWrite_memsWf (s : State) (core off v n : Nat) (h : s.memsWf = true) :
    (State.bufWrite s core off v n).memsWf = true := by
  simp [State.bufWrite, h]
@[simp] theorem State.kettleSend_memsWf (s : State) (k n : Nat) :
    (State.kettleSend s k n).memsWf = s.memsWf := by
  rfl

/-! ## Channel -/

@[simp] theorem State.noteCorrected_memsWf (s : State) (c : Nat) (blk pa unit : Nat) (fixed : List (Nat × Nat)) :
    (State.noteCorrected s c blk pa unit fixed).memsWf = s.memsWf := by
  simp [State.noteCorrected]
@[simp] theorem State.noteUncorrectable_memsWf (s : State) (c blk pa unit words : Nat) (scrub : Bool) :
    (State.noteUncorrectable s c blk pa unit words scrub).memsWf = s.memsWf := by
  simp [State.noteUncorrectable]
@[simp] theorem State.readUnit_memsWf (s : State) (c blk pa u : Nat) (scrub : Bool) :
    (State.readUnit s c blk pa u scrub).2.memsWf = s.memsWf := by
  dsimp only [State.readUnit]; (repeat' split) <;> simp 
@[simp] theorem State.readUnits_memsWf (s : State) (c : Nat) (r : MemReq) (y0 : List Nat) :
    (State.readUnits s c r y0).memsWf = s.memsWf := by
  induction y0 generalizing s c r with
  | nil => rfl
  | cons y ys ih =>
    simp only [State.readUnits]; (repeat' split) <;> simp [ih]
@[simp] theorem State.scrubUnits_memsWf (s : State) (c blk pa : Nat) (y0 : List Nat) :
    (State.scrubUnits s c blk pa y0).memsWf = s.memsWf := by
  induction y0 generalizing s c blk pa with
  | nil => rfl
  | cons y ys ih =>
    simp [State.scrubUnits, ih]
@[simp] theorem State.storeAt_memsWf (s : State) (c blk off v n : Nat) (h : s.memsWf = true) :
    (State.storeAt s c blk off v n).memsWf = true := by
  dsimp only [State.storeAt]; split <;> simp [h, Mem.wf_put (State.mainMem_wf h)]
@[simp] theorem State.hallUnit_memsWf (s : State) (c blk pa off kind op : Nat) (size : Bool) (operand cmp : Nat) (h : s.memsWf = true) :
    (State.hallUnit s c blk pa off kind op size operand cmp).2.memsWf = true := by
  have hx : (s.readUnit c blk pa (off / 64) false).2.memsWf = true := by simp [h]
  unfold State.hallUnit
  generalize s.readUnit c blk pa (off / 64) false = x at hx
  obtain ⟨o, t⟩ := x
  cases o with
  | none => exact hx
  | some v =>
    by_cases hk : kind = 0
    · simp only [hk, if_true]; exact hx
    · have ht : t.memsWf = true := hx
      simp [hk, ht]
@[simp] theorem State.backWrite_memsWf (s : State) (ws : List (Nat × Dword)) (h : s.memsWf = true) :
    (State.backWrite s ws).memsWf = true := by
  simp [State.backWrite, h]
@[simp] theorem State.performReq_memsWf (s : State) (c : Nat) (r : MemReq) (h : s.memsWf = true) :
    (State.performReq s c r).memsWf = true := by
  dsimp only [State.performReq]; (repeat' split) <;> simp [h]
@[simp] theorem State.runReq_memsWf (s : State) (c : Nat) (r : MemReq) (h : s.memsWf = true) :
    (State.runReq s c r).memsWf = true := by
  simp [State.runReq, h]
@[simp] theorem State.flushChan_memsWf (s : State) (c : Nat) (h : s.memsWf = true) :
    (State.flushChan s c).memsWf = true := by
  exact foldl_keeps _ (fun _ _ ht => by simp [ht]) _ (foldl_keeps _ (fun _ _ ht => by simp [ht]) _ h)
@[simp] theorem State.flushChans_memsWf (s : State) (h : s.memsWf = true) : (State.flushChans s).memsWf = true := by
  have hx : ((s.chans.map Prod.fst).foldl (fun t c => t.flushChan c) s).memsWf = true := foldl_keeps _ (fun _ _ ht => by simp [ht]) _ h
  simp [State.flushChans, hx, h]
@[simp] theorem State.acceptReq_memsWf (s : State) (c : Nat) (r : MemReq) :
    (State.acceptReq s c r).memsWf = s.memsWf := by
  rfl
@[simp] theorem State.runClashes_memsWf (s : State) (c : Nat) (r : MemReq) (y0 : List MemReq) (h : s.memsWf = true) :
    (State.runClashes s c r y0).memsWf = true := by
  induction y0 generalizing s c r with
  | nil => exact h
  | cons y ys ih =>
    simp [State.runClashes, ih, h]
@[simp] theorem State.settle_memsWf (s : State) (c : Nat) (r : MemReq) (h : s.memsWf = true) :
    (State.settle s c r).memsWf = true := by
  simp [State.settle, h]
@[simp] theorem State.readEntry_memsWf (s : State) (pa : Nat) (h : s.memsWf = true) :
    (State.readEntry s pa).2.memsWf = true := by
  simp [State.readEntry, h]
@[simp] theorem State.readBulk_memsWf (s : State) (pa : Nat) (y0 : Nat) (h : s.memsWf = true) :
    (State.readBulk s pa y0).2.memsWf = true := by
  induction y0 generalizing s pa with
  | zero => exact h
  | succ n ih =>
    simp only [State.readBulk]; (repeat' split) <;> simp [ih, h]
@[simp] theorem State.writeBulk_memsWf (s : State) (pa v : Nat) (y0 : Nat) (h : s.memsWf = true) :
    (State.writeBulk s pa v y0).memsWf = true := by
  induction y0 generalizing s pa v with
  | zero => exact h
  | succ n ih => rw [State.writeBulk]; exact ih _ _ _ (by simp [h])

/-! ## Translate -/

@[simp] theorem State.tlbInsert_memsWf (s : State) (n : Nat) (e : TlbEntry) :
    (State.tlbInsert s n e).memsWf = s.memsWf := by
  dsimp only [State.tlbInsert]; (repeat' split) <;> simp 
@[simp] theorem State.translate_memsWf (s : State) (n jva : Nat) (write : Bool) :
    (State.translate s n jva write).2.memsWf = s.memsWf := by
  dsimp only [State.translate]; (repeat' split) <;> simp 
@[simp] theorem State.placeWalk_memsWf (s : State) (n level entry : Nat) (cs : List (Client × Nat)) :
    (State.placeWalk s n level entry cs).memsWf = s.memsWf := by
  dsimp only [State.placeWalk]; (repeat' split) <;> simp
@[simp] theorem State.joinWalk_memsWf (s : State) (n : Nat) (c : Client) (jva : Nat) :
    (State.joinWalk s n c jva).memsWf = s.memsWf := by
  dsimp only [State.joinWalk]; (repeat' split) <;> simp
@[simp] theorem State.startWalk_memsWf (s : State) (n : Nat) (c : Client) (jva : Nat) :
    (State.startWalk s n c jva).memsWf = s.memsWf := by
  simp [State.startWalk]
@[simp] theorem State.sendDefer_memsWf (s : State) (n : Nat) (entryPa jva level : Nat) (e : Dword) (cs : List (Client × Nat)) :
    (State.sendDefer s n entryPa jva level e cs).memsWf = s.memsWf := by
  simp [State.sendDefer]
@[simp] theorem State.modChain_memsWf (s : State) (n seq : Nat) (f : Chain → Chain) :
    (State.modChain s n seq f).memsWf = s.memsWf := by
  rfl
@[simp] theorem State.dropChain_memsWf (s : State) (n seq : Nat) :
    (State.dropChain s n seq).memsWf = s.memsWf := by
  rfl
@[simp] theorem State.xeFatal_memsWf (s : State) (n core : Nat) (x : Ctx) (place : Option (Fin 16)) (code va sub : Nat) :
    (State.xeFatal s n core x place code va sub).memsWf = s.memsWf := by
  simp [State.xeFatal]
@[simp] theorem State.failChain_memsWf (s : State) (n seq code va sub : Nat) :
    (State.failChain s n seq code va sub).memsWf = s.memsWf := by
  dsimp only [State.failChain]; (repeat' split) <;> simp 
@[simp] theorem State.failPiece_memsWf (s : State) (n : Nat) (p : Piece) (code va sub : Nat) :
    (State.failPiece s n p code va sub).memsWf = s.memsWf := by
  dsimp only [State.failPiece]; (repeat' split) <;> simp
@[simp] theorem State.hallLog_memsWf (s : State) (status role rank addr bit : Nat) :
    (State.hallLog s status role rank addr bit).memsWf = s.memsWf := by
  simp [State.hallLog]
@[simp] theorem State.hallRefused_memsWf (s : State) (n tag : Nat) (u : TagUse) (status bit : Nat) :
    (State.hallRefused s n tag u status bit).memsWf = s.memsWf := by
  simp [State.hallRefused]
@[simp] theorem State.localHall_memsWf (s : State) (n tag : Nat) (u : TagUse) (pa : Nat) :
    (State.localHall s n tag u pa).memsWf = s.memsWf := by
  rfl
@[simp] theorem State.hallTranslate_memsWf (s : State) (n tag : Nat) :
    (State.hallTranslate s n tag).memsWf = s.memsWf := by
  dsimp only [State.hallTranslate]; (repeat' split) <;> simp 
@[simp] theorem State.modHall_memsWf (s : State) (id : Nat) (f : HallReq → HallReq) :
    (State.modHall s id f).memsWf = s.memsWf := by
  rfl
@[simp] theorem State.clientFail_memsWf (s : State) (n : Nat) (c : Client) (code jva : Nat) :
    (State.clientFail s n c code jva).memsWf = s.memsWf := by
  dsimp only [State.clientFail]; (repeat' split) <;> simp 
@[simp] theorem State.clientDefer_memsWf (s : State) (n : Nat) (c : Client) (code jva : Nat) :
    (State.clientDefer s n c code jva).memsWf = s.memsWf := by
  dsimp only [State.clientDefer]; (repeat' split) <;> simp 
@[simp] theorem State.clientGo_memsWf (s : State) (n : Nat) (c : Client) :
    (State.clientGo s n c).memsWf = s.memsWf := by
  dsimp only [State.clientGo]; (repeat' split) <;> simp 
@[simp] theorem State.eachClient_memsWf (s : State) (f : State → Client → Nat → State) (hf : ∀ t c a, (f t c a).memsWf = t.memsWf) (l : List (Client × Nat)) :
    (s.eachClient f l).memsWf = s.memsWf := by
  induction l generalizing s with
  | nil => rfl
  | cons c l ih => rw [State.eachClient, ih, hf]
@[simp] theorem State.nextWaiting_memsWf (s : State) (n : Nat) :
    (State.nextWaiting s n).memsWf = s.memsWf := by
  simp [State.nextWaiting]
@[simp] theorem State.endWalk_memsWf (s : State) (n i : Nat) (w : Walk) :
    (State.endWalk s n i w).memsWf = s.memsWf := by
  simp [State.endWalk]
@[simp] theorem State.walkOn_memsWf (s : State) (n i : Nat) (w : Walk) (e : Dword) :
    (State.walkOn s n i w e).memsWf = s.memsWf := by
  dsimp only [State.walkOn]; split <;> simp
@[simp] theorem State.walkTake_memsWf (s : State) (n i : Nat) (w : Walk) (e : Dword) :
    (State.walkTake s n i w e).memsWf = s.memsWf := by
  dsimp only [State.walkTake]; (repeat' split) <;> simp 
@[simp] theorem State.walkTakeAll_memsWf (s : State) (n : Nat) (e : Option Dword) (y0 : List (Nat × Walk)) :
    (State.walkTakeAll s n e y0).memsWf = s.memsWf := by
  induction y0 generalizing s n e with
  | nil => rfl
  | cons y ys ih =>
    simp only [State.walkTakeAll]; (repeat' split) <;> simp [ih]
@[simp] theorem State.walkStep_memsWf (s : State) (n i : Nat) (h : s.memsWf = true) :
    (State.walkStep s n i).memsWf = true := by
  unfold State.walkStep
  split
  · exact h
  · split
    · simp [h]
    · simp [h]

/-! ## Route -/

@[simp] theorem State.setPort_memsWf (s : State) (p : Nat) (x : Port) :
    (State.setPort s p x).memsWf = s.memsWf := by
  rfl
@[simp] theorem State.modPort_memsWf (s : State) (p : Nat) (f : Port → Port) :
    (State.modPort s p f).memsWf = s.memsWf := by
  rfl
@[simp] theorem State.dropCell_memsWf (s : State) (c : CellBits) (cause : Nat) :
    (State.dropCell s c cause).memsWf = s.memsWf := by
  simp [State.dropCell]
@[simp] theorem State.sendCell_memsWf (s : State) (c : CellBits) :
    (State.sendCell s c).memsWf = s.memsWf := by
  dsimp only [State.sendCell]; (repeat' split) <;> simp 
@[simp] theorem State.emits_memsWf (s : State) (y0 : List Msg) :
    (State.emits s y0).memsWf = s.memsWf := by
  induction y0 generalizing s with
  | nil => rfl
  | cons y ys ih =>
    simp [State.emits, ih]
@[simp] theorem State.sendHall_memsWf (s : State) (n tag dst cls vc : Nat) (ms : List Msg) :
    (State.sendHall s n tag dst cls vc ms).memsWf = s.memsWf := by
  unfold State.sendHall
  refine foldl_memsWf _ (fun t m => ?_) ms s
  split <;> simp

/-! ## HallIssue -/

@[simp] theorem State.hallIssue_memsWf (s : State) (core : Nat) (u : TagUse) :
    (State.hallIssue s core u).memsWf = s.memsWf := by
  dsimp only [State.hallIssue]; (repeat' split) <;> simp 

/-! ## Sequencer -/

@[simp] theorem State.xpost_memsWf (s : State) (core : Nat) (x : Ctx) (addr : Dword) :
    (State.xpost s core x addr).memsWf = s.memsWf := by
  simp [State.xpost]
@[simp] theorem State.sqEffect_memsWf (s : State) (core : Nat) (x : Ctx) (k : Context) (op : SqOp) :
    (State.sqEffect s core x k op).memsWf = s.memsWf := by
  dsimp only [State.sqEffect]; (repeat' split) <;> simp 
@[simp] theorem State.coreCycle_memsWf (s : State) (core : Nat) :
    (State.coreCycle s core).memsWf = s.memsWf := by
  rfl
@[simp] theorem State.issueNow_memsWf (s : State) (core : Nat) (x : Ctx) (sq : SqOp) (es : List (Engine × Nat)) :
    (State.issueNow s core x sq es).memsWf = s.memsWf := by
  simp [State.issueNow]
@[simp] theorem State.offer_memsWf (s : State) (core : Nat) (x : Ctx) (first : Bool) (sq : Except Nat SqOp) (es : List (Engine × Nat)) :
    (State.offer s core x first sq es).memsWf = s.memsWf := by
  dsimp only [State.offer]; (repeat' split) <;> simp 
@[simp] theorem State.fetch_memsWf (s : State) (core pc : Nat) (h : s.memsWf = true) :
    (State.fetch s core pc).2.memsWf = true := by
  simp [State.fetch, h]

/-! ## Engine -/

@[simp] theorem State.setRun_memsWf (s : State) (core : Nat) (eng : Engine) (r : Option Running) :
    (State.setRun s core eng r).memsWf = s.memsWf := by
  rfl
theorem State.startEngine_memsWf {s : State} (core : Nat) (x : Ctx) (eng : Engine) (op : Nat) {body : State → QEntry → Option Nat × State}
    (hb : ∀ t q, t.memsWf = true → (body t q).2.memsWf = true) (h : s.memsWf = true) : (s.startEngine core x eng op body).memsWf = true := by
  unfold State.startEngine
  split
  · exact h
  · rename_i q _
    have ht := hb ((s.modCtx core x (fun k => popQueue s.timebase k eng)).setRun core eng (some { ctx := x, entry := q })) q (by simp [h])
    dsimp only
    split
    · exact ht
    · simp [ht]

/-! ## Matrix -/

@[simp] theorem mcfgBody_memsWf (core : Nat) (x : Ctx) (s : State) (q : QEntry) :
    (mcfgBody core x s q).2.memsWf = s.memsWf := by
  dsimp only [mcfgBody]; (repeat' split) <;> simp 
@[simp] theorem mlcbBody_memsWf (core : Nat) (x : Ctx) (s : State) (q : QEntry) (h : s.memsWf = true) :
    (mlcbBody core x s q).2.memsWf = true := by
  dsimp only [mlcbBody]; (repeat' split) <;> simp [h]
@[simp] theorem mmaBody_memsWf (core : Nat) (x : Ctx) (s : State) (q : QEntry) (h : s.memsWf = true) :
    (mmaBody core x s q).2.memsWf = true := by
  dsimp only [mmaBody]; (repeat' split) <;> simp [h]
@[simp] theorem mstBody_memsWf (core : Nat) (x : Ctx) (s : State) (q : QEntry) (h : s.memsWf = true) :
    (mstBody core x s q).2.memsWf = true := by
  dsimp only [mstBody]; (repeat' split) <;> simp [h]
@[simp] theorem mldBody_memsWf (core : Nat) (x : Ctx) (s : State) (q : QEntry) (h : s.memsWf = true) :
    (mldBody core x s q).2.memsWf = true := by
  dsimp only [mldBody]; (repeat' split) <;> simp [h]

/-! ## Vector -/

@[simp] theorem elementBody_memsWf (core : Nat) (x : Ctx) (s : State) (q : QEntry) (h : s.memsWf = true) :
    (elementBody core x s q).2.memsWf = true := by
  unfold elementBody
  dsimp only
  split
  · exact h
  · split <;> by_cases hd : (veCmd q).op = 0x85 <;> simp (maxDischargeDepth := 8) [h, hd]
@[simp] theorem vcvtBody_memsWf (core : Nat) (x : Ctx) (s : State) (q : QEntry) (h : s.memsWf = true) :
    (vcvtBody core x s q).2.memsWf = true := by
  unfold vcvtBody
  dsimp only
  split
  · exact h
  · split <;> simp (maxDischargeDepth := 8) [h]
@[simp] theorem reduceBody_memsWf (core : Nat) (x : Ctx) (sum : Bool) (s : State) (q : QEntry) (h : s.memsWf = true) :
    (reduceBody core x sum s q).2.memsWf = true := by
  dsimp only [reduceBody]; (repeat' split) <;> simp (maxDischargeDepth := 8) [h]
@[simp] theorem vtopkBody_memsWf (core : Nat) (x : Ctx) (s : State) (q : QEntry) (h : s.memsWf = true) :
    (vtopkBody core x s q).2.memsWf = true := by
  dsimp only [vtopkBody]; (repeat' split) <;> simp (maxDischargeDepth := 8) [h]
@[simp] theorem vsampBody_memsWf (core : Nat) (x : Ctx) (s : State) (q : QEntry) (h : s.memsWf = true) :
    (vsampBody core x s q).2.memsWf = true := by
  unfold vsampBody
  dsimp only
  split
  · exact h
  · split <;> simp (maxDischargeDepth := 8) [h]
@[simp] theorem vrngBody_memsWf (core : Nat) (x : Ctx) (s : State) (q : QEntry) (h : s.memsWf = true) :
    (vrngBody core x s q).2.memsWf = true := by
  dsimp only [vrngBody]; (repeat' split) <;> simp (maxDischargeDepth := 8) [h]

/-! ## RowMover -/

@[simp] theorem State.rmPresentOne_memsWf (s : State) (core : Nat) (r : Running) (h : s.memsWf = true) :
    (State.rmPresentOne s core r).memsWf = true := by
  dsimp only [State.rmPresentOne]; (repeat' split) <;> simp (maxDischargeDepth := 8) [h]
@[simp] theorem State.rmPresent_memsWf (s : State) (core : Nat) (y0 : Nat) (h : s.memsWf = true) :
    (State.rmPresent s core y0).memsWf = true := by
  induction y0 generalizing s core with
  | zero => exact h
  | succ n ih =>
    simp only [State.rmPresent]; (repeat' split) <;> simp [ih, h]
@[simp] theorem rmBody_memsWf (core : Nat) (s : State) (q : QEntry) (h : s.memsWf = true) :
    (rmBody core s q).2.memsWf = true := by
  dsimp only [rmBody]; (repeat' split) <;> simp (maxDischargeDepth := 8) [h]
@[simp] theorem State.rmStop_memsWf (s : State) (core : Nat) (r : Running) (code : Nat) :
    (State.rmStop s core r code).memsWf = s.memsWf := by
  simp [State.rmStop]
@[simp] theorem State.rmAdvance_memsWf (s : State) (core : Nat) (y0 : Nat) (h : s.memsWf = true) :
    (State.rmAdvance s core y0).memsWf = true := by
  induction y0 generalizing s core with
  | zero => exact h
  | succ n ih =>
    simp only [State.rmAdvance]; (repeat' split) <;> simp [ih, h]
@[simp] theorem State.rmLanded_memsWf (s : State) (core : Nat) (x : Ctx) (idx : Nat) (v : Option Nat) (h : s.memsWf = true) :
    (State.rmLanded s core x idx v).memsWf = true := by
  dsimp only [State.rmLanded]; (repeat' split) <;> simp (maxDischargeDepth := 8) [h]
@[simp] theorem State.rmWrote_memsWf (s : State) (core : Nat) (x : Ctx) (idx : Nat) (h : s.memsWf = true) :
    (State.rmWrote s core x idx).memsWf = true := by
  dsimp only [State.rmWrote]; (repeat' split) <;> simp (maxDischargeDepth := 8) [h]
@[simp] theorem rmBodyStop_memsWf (core : Nat) (s : State) (q : QEntry) (h : s.memsWf = true) :
    (rmBodyStop core s q).2.memsWf = true := by
  dsimp only [rmBodyStop]; (repeat' split) <;> simp (maxDischargeDepth := 8) [h]

/-! ## Objects -/

@[simp] theorem State.amend_memsWf (s : State) (kind : Nat) (bound : Bool) (res value : Nat) :
    (State.amend s kind bound res value).memsWf = s.memsWf := by
  rfl
@[simp] theorem State.markCore_memsWf (s : State) (n p : Nat) :
    (State.markCore s n p).memsWf = s.memsWf := by
  dsimp only [State.markCore]; split <;> simp
@[simp] theorem State.eccMarks_memsWf (s : State) :
    (State.eccMarks s).memsWf = s.memsWf := by
  unfold State.eccMarks; generalize List.range 40 = R; simp
@[simp] theorem State.coreUe_memsWf (s : State) (c : Nat) :
    (State.coreUe s c).memsWf = s.memsWf := by
  dsimp only [State.coreUe]; (repeat' split) <;> simp
@[simp] theorem State.coresAnew_memsWf (s : State) :
    (State.coresAnew s).memsWf = s.memsWf := by
  rfl
@[simp] theorem State.userForce_memsWf (s : State) (vs : List (Nat × Nat)) :
    (State.userForce s vs).memsWf = s.memsWf := by
  rfl
@[simp] theorem State.userMeasured_memsWf (s : State) (vs : List (Nat × Nat)) :
    (State.userMeasured s vs).memsWf = s.memsWf := by
  simp [State.userMeasured]
@[simp] theorem State.userSet_memsWf (s : State) :
    (State.userSet s).memsWf = s.memsWf := by
  simp [State.userSet]
@[simp] theorem State.userChanged_memsWf (s : State) (items : List Nat) :
    (State.userChanged s items).memsWf = s.memsWf := by
  rfl
@[simp] theorem State.userRecord_memsWf (s : State) :
    (State.userRecord s).memsWf = s.memsWf := by
  simp [State.userRecord]

/-! ## Access -/

@[simp] theorem State.countRefused_memsWf (s : State) (a code : Nat) :
    (State.countRefused s a code).memsWf = s.memsWf := by
  dsimp only [State.countRefused]; (repeat' split) <;> simp 
@[simp] theorem State.answer_memsWf (s : State) (ini : Initiator) (code : Nat) :
    (State.answer s ini code).memsWf = s.memsWf := by
  dsimp only [State.answer]; (repeat' split) <;> simp 
theorem State.busWrite_memsWf {s : State} (ini : Initiator) (ep : Byte) (a : Nat) (own : Bool) {f : PageType → Nat → State → State}
    (hf : ∀ t i, (f t i s).memsWf = true) (h : s.memsWf = true) : (s.busWrite ini ep a own f).2.memsWf = true := by
  unfold State.busWrite
  dsimp only
  split
  · simp [h]
  · split
    · exact h
    · split
      · simp [h]
      · simp [hf]
theorem State.busDo_memsWf {s : State} (ini : Initiator) (ep : Byte) (t : PageType) (i off : Nat) {f : State → State}
    (hf : (f s).memsWf = true) (h : s.memsWf = true) : (s.busDo ini ep t i off f).memsWf = true := State.busWrite_memsWf _ _ _ _ (fun _ _ => hf) h

/-! ## Xe -/

@[simp] theorem State.sendRecord_memsWf (s : State) (n seq pa : Nat) (d : DescState) :
    (State.sendRecord s n seq pa d).memsWf = s.memsWf := by
  rfl
@[simp] theorem State.notify_memsWf (s : State) (n seq : Nat) (y0 : Nat) :
    (State.notify s n seq y0).memsWf = s.memsWf := by
  induction y0 generalizing s n seq with
  | zero => rfl
  | succ n ih =>
    simp only [State.notify]; (repeat' split) <;> simp [ih]
@[simp] theorem State.noteDone_memsWf (s : State) (n seq : Nat) :
    (State.noteDone s n seq).memsWf = s.memsWf := by
  dsimp only [State.noteDone]; (repeat' split) <;> simp
@[simp] theorem State.notifyDue_memsWf (s : State) (n seq : Nat) :
    (State.notifyDue s n seq).memsWf = s.memsWf := by
  simp [State.notifyDue]
@[simp] theorem State.notifyAll_memsWf (s : State) (n : Nat) (y0 : List Nat) :
    (State.notifyAll s n y0).memsWf = s.memsWf := by
  induction y0 generalizing s n with
  | nil => rfl
  | cons y ys ih =>
    simp [State.notifyAll, ih]
@[simp] theorem State.settleChain_memsWf (s : State) (n seq : Nat) :
    (State.settleChain s n seq).memsWf = s.memsWf := by
  dsimp only [State.settleChain]; (repeat' split) <;> simp 
@[simp] theorem State.suspendChains_memsWf (s : State) (core : Nat) :
    (State.suspendChains s core).memsWf = s.memsWf := by
  simp [State.suspendChains]
@[simp] theorem State.resumeChains_memsWf (s : State) (core : Nat) :
    (State.resumeChains s core).memsWf = s.memsWf := by
  rfl
@[simp] theorem State.operandAt_memsWf (s : State) (n : Nat) (x : Ctx) (sp : Option Space) (a len : Nat) (write : Bool) :
    (State.operandAt s n x sp a len write).2.memsWf = s.memsWf := by
  dsimp only [State.operandAt]; (repeat' split) <;> simp 
@[simp] theorem State.xeRows_memsWf (s : State) (n tag first write : Nat) (y0 : Nat) :
    (State.xeRows s n tag first write y0).memsWf = s.memsWf := by
  induction y0 generalizing s n tag first write with
  | zero => rfl
  | succ n ih =>
    simp [State.xeRows, ih]
@[simp] theorem State.modPiece_memsWf (s : State) (n tag : Nat) (f : Piece → Piece) :
    (State.modPiece s n tag f).memsWf = s.memsWf := by
  dsimp only [State.modPiece]; (repeat' split) <;> simp 
@[simp] theorem State.pieceLand_memsWf (s : State) (n tag : Nat) (h : s.memsWf = true) :
    (State.pieceLand s n tag).memsWf = true := by
  dsimp only [State.pieceLand]; (repeat' split) <;> simp (maxDischargeDepth := 8) [h]
@[simp] theorem State.pieceFetch_memsWf (s : State) (n tag : Nat) (p : Piece) (h : s.memsWf = true) :
    (State.pieceFetch s n tag p).memsWf = true := by
  dsimp only [State.pieceFetch]; (repeat' split) <;> simp (maxDischargeDepth := 8) [h]
@[simp] theorem State.sieveXlat_memsWf (s : State) (n r : Nat) (y0 : List (Nat × Nat × Bool)) :
    (State.sieveXlat s n r y0).2.memsWf = s.memsWf := by
  induction y0 generalizing s n r with
  | nil => rfl
  | cons y ys ih =>
    simp only [State.sieveXlat]; (repeat' split) <;> simp [ih]
@[simp] theorem State.forwardRecord_memsWf (s : State) (n tag unit pa rec : Nat) :
    (State.forwardRecord s n tag unit pa rec).memsWf = s.memsWf := by
  rfl
@[simp] theorem State.holdPiece_memsWf (s : State) (n tag : Nat) (c : Chain) (p : Piece) :
    (State.holdPiece s n tag c p).memsWf = s.memsWf := by
  rfl
@[simp] theorem State.issueSieve_memsWf (s : State) (n tag : Nat) (c : Chain) (d : DescState) (h : s.memsWf = true) :
    (State.issueSieve s n tag c d).memsWf = true := by
  dsimp only [State.issueSieve]; (repeat' split) <;> simp (maxDischargeDepth := 8) [h]
@[simp] theorem State.issueCopy_memsWf (s : State) (n tag : Nat) (c : Chain) (d : DescState) (h : s.memsWf = true) :
    (State.issueCopy s n tag c d).memsWf = true := by
  dsimp only [State.issueCopy]; (repeat' split) <;> simp (maxDischargeDepth := 8) [h]
@[simp] theorem State.completePiece_memsWf (s : State) (n tag : Nat) :
    (State.completePiece s n tag).memsWf = s.memsWf := by
  dsimp only [State.completePiece]; (repeat' split) <;> simp 

/-! ## CoreEvents -/

@[simp] theorem State.ctxIgnored_memsWf (s : State) (core : Nat) :
    (State.ctxIgnored s core).memsWf = s.memsWf := by
  rfl
@[simp] theorem State.resetOver_memsWf (s : State) (core : Nat) :
    (State.resetOver s core).memsWf = s.memsWf := by
  simp [State.resetOver]
@[simp] theorem State.startCtx_memsWf (s : State) (core : Nat) (x : Ctx) :
    (State.startCtx s core x).memsWf = s.memsWf := by
  simp [State.startCtx]
@[simp] theorem State.dropHall_memsWf (s : State) (core : Nat) (x : Ctx) :
    (State.dropHall s core x).memsWf = s.memsWf := by
  rfl
@[simp] theorem State.abortD_memsWf (s : State) (core : Nat) :
    (State.abortD s core).memsWf = s.memsWf := by
  simp [State.abortD]
@[simp] theorem State.drained_memsWf (s : State) (core : Nat) (x : Ctx) :
    (State.drained s core x).memsWf = s.memsWf := by
  dsimp only [State.drained]; (repeat' split) <;> simp 
@[simp] theorem State.writeAcc_memsWf (s : State) (core a : Nat) (h : s.memsWf = true) :
    (State.writeAcc s core a).memsWf = true := by
  simp [State.writeAcc, h]
@[simp] theorem State.writeSave_memsWf (s : State) (core : Nat) (h : s.memsWf = true) :
    (State.writeSave s core).memsWf = true := by
  exact foldl_keeps _ (fun _ _ ht => by simp [ht]) _ (by simp [h])
@[simp] theorem State.saveDone_memsWf (s : State) (core : Nat) (r : Running) (h : s.memsWf = true) :
    (State.saveDone s core r).memsWf = true := by
  dsimp only [State.saveDone]; (repeat' split) <;> simp [h]
@[simp] theorem State.saveException_memsWf (s : State) (core code : Nat) :
    (State.saveException s core code).memsWf = s.memsWf := by
  simp [State.saveException]
@[simp] theorem State.preemptP_memsWf (s : State) (core : Nat) (h : s.memsWf = true) :
    (State.preemptP s core).memsWf = true := by
  dsimp only [State.preemptP]; (repeat' split) <;> simp (maxDischargeDepth := 8) [h]
@[simp] theorem State.parkDone_memsWf (s : State) (core : Nat) (h : s.memsWf = true) :
    (State.parkDone s core).memsWf = true := by
  simp (maxDischargeDepth := 8) [State.parkDone, h]
@[simp] theorem State.haltParked_memsWf (s : State) (core code : Nat) :
    (State.haltParked s core code).memsWf = s.memsWf := by
  simp [State.haltParked]
@[simp] theorem State.resumeP_memsWf (s : State) (core : Nat) (h : s.memsWf = true) :
    (State.resumeP s core).memsWf = true := by
  dsimp only [State.resumeP]; (repeat' split) <;> simp (maxDischargeDepth := 8) [h]
@[simp] theorem State.clearCtrs_memsWf (s : State) (core : Nat) :
    (State.clearCtrs s core).memsWf = s.memsWf := by
  simp [State.clearCtrs]
@[simp] theorem State.setBanks_memsWf (s : State) (core d p : Nat) :
    (State.setBanks s core d p).memsWf = s.memsWf := by
  simp [State.setBanks]
@[simp] theorem State.writeG_memsWf (s : State) (core : Nat) (x : Ctx) (r : Fin 16) (v : Dword) :
    (State.writeG s core x r v).memsWf = s.memsWf := by
  simp [State.writeG]

/-! ## RowPort -/

/-- Moving a row over its bonds keeps the form of the memory it is moved from or to, and leaves the state's. -/
theorem State.carry_wf (s : State) (m : Mem) (n row : Nat) (hm : m.wf = true) : (s.carry m n row).1.wf = true ∧ (s.carry m n row).2.memsWf = s.memsWf := by
  unfold State.carry
  generalize (s.stk n).badBits (row % 32) = l
  induction l generalizing m s with
  | nil => exact ⟨hm, rfl⟩
  | cons e l ih => exact ⟨(ih _ _ (Mem.wf_setBit hm _ _ _)).1, ((ih _ _ (Mem.wf_setBit hm _ _ _)).2).trans rfl⟩
@[simp] theorem State.carry_memsWf (s : State) (m : Mem) (n row : Nat) : (State.carry s m n row).2.memsWf = s.memsWf := by
  unfold State.carry
  generalize (s.stk n).badBits (row % 32) = l
  induction l generalizing m s with
  | nil => rfl
  | cons e l ih => exact (ih _ _).trans rfl
@[simp] theorem State.noteBit_memsWf (s : State) (n row word bit : Nat) :
    (State.noteBit s n row word bit).memsWf = s.memsWf := by
  rfl
@[simp] theorem State.noteBits_memsWf (s : State) (m : Mem) (n row : Nat) (y0 : List (Nat × Nat)) :
    (State.noteBits s m n row y0).memsWf = s.memsWf := by
  induction y0 generalizing s n row with
  | nil => rfl
  | cons y ys ih =>
    simp [State.noteBits, ih]
@[simp] theorem State.latchUe_memsWf (s : State) (n row : Nat) (scrub : Bool) :
    (State.latchUe s n row scrub).memsWf = s.memsWf := by
  simp [State.latchUe]
@[simp] theorem State.readRow_memsWf (s : State) (n row : Nat) (scrub : Bool) :
    (State.readRow s n row scrub).2.memsWf = s.memsWf := by
  dsimp only [State.readRow]; (repeat' split) <;> simp 
@[simp] theorem State.dropBacks_memsWf (s : State) (n row : Nat) :
    (State.dropBacks s n row).memsWf = s.memsWf := by
  rfl
@[simp] theorem State.storeRow_memsWf (s : State) (m : Mem) (n row : Nat) (h : s.memsWf = true) (hm : m.wf = true) : (State.storeRow s m n row).memsWf = true := by
  have hc := State.carry_wf s m n row hm
  have ht : (s.carry m n row).2.memsWf = true := hc.2.trans h
  simp [State.storeRow, hc.1, State.mainMem_wf ht, State.coreBuf_wf ht, State.instStore_wf ht]
@[simp] theorem State.writeRow_memsWf (s : State) (n row v : Nat) (h : s.memsWf = true) :
    (State.writeRow s n row v).memsWf = true := by
  simp (maxDischargeDepth := 8) [State.writeRow, h, Mem.wf_putWords 64 (State.rowStore_wf h)]
@[simp] theorem State.xeRowRead_memsWf (s : State) (n tag idx : Nat) (v : Option Nat) (h : s.memsWf = true) :
    (State.xeRowRead s n tag idx v).memsWf = true := by
  dsimp only [State.xeRowRead]; (repeat' split) <;> simp (maxDischargeDepth := 8) [h]
@[simp] theorem State.xeRowWrote_memsWf (s : State) (n tag : Nat) :
    (State.xeRowWrote s n tag).memsWf = s.memsWf := by
  simp [State.xeRowWrote]
@[simp] theorem State.rowAccess_memsWf (s : State) (n : Nat) (r : RowReq) (h : s.memsWf = true) :
    (State.rowAccess s n r).memsWf = true := by
  dsimp only [State.rowAccess]; (repeat' split) <;> simp (maxDischargeDepth := 8) [h]
@[simp] theorem State.retireStack_memsWf (s : State) (n : Nat) :
    (State.retireStack s n).memsWf = s.memsWf := by
  rfl
@[simp] theorem State.retireNow_memsWf (s : State) (n : Nat) (h : s.memsWf = true) : (State.retireNow s n).memsWf = true := by
  unfold State.retireNow
  rw [State.amend_memsWf, State.memsWf_mk]
  simp [State.setStk, State.mainMem_wf h, State.coreBuf_wf h, State.instStore_wf h, Mem.wf_clear (State.rowStore_wf h)]
@[simp] theorem State.verticalFault_memsWf (s : State) (n : Nat) :
    (State.verticalFault s n).memsWf = s.memsWf := by
  simp [State.verticalFault]
@[simp] theorem State.exhaust_memsWf (s : State) (n : Nat) (b : Bond) :
    (State.exhaust s n b).memsWf = s.memsWf := by
  dsimp only [State.exhaust]; (repeat' split) <;> simp
@[simp] theorem State.repairBond_memsWf (s : State) (n : Nat) (b : Bond) :
    (State.repairBond s n b).memsWf = s.memsWf := by
  simp [State.repairBond]
@[simp] theorem State.enterHalf_memsWf (s : State) (n : Nat) :
    (State.enterHalf s n).memsWf = s.memsWf := by
  simp [State.enterHalf]
@[simp] theorem State.bondActions_memsWf (s : State) (n : Nat) :
    (State.bondActions s n).memsWf = s.memsWf := by
  simp [State.bondActions]
@[simp] theorem State.noteDemand_memsWf (s : State) :
    (State.noteDemand s).memsWf = s.memsWf := by
  rfl
@[simp] theorem State.setCaps_memsWf (s : State) (n sus surge : Nat) :
    (State.setCaps s n sus surge).memsWf = s.memsWf := by
  rfl

/-! ## Memory -/

@[simp] theorem State.takeMem_memsWf (s : State) (addr : Nat) (r : MemReq) :
    (State.takeMem s addr r).memsWf = s.memsWf := by
  simp [State.takeMem]
@[simp] theorem State.retrainFailed_memsWf (s : State) (c : Nat) :
    (State.retrainFailed s c).memsWf = s.memsWf := by
  simp [State.retrainFailed]
@[simp] theorem State.retrained_memsWf (s : State) (c : Nat) (good : Bool) :
    (State.retrained s c good).memsWf = s.memsWf := by
  simp [State.retrained]
@[simp] theorem State.pllEvent_memsWf (s : State) (cls inst cause : Nat) :
    (State.pllEvent s cls inst cause).memsWf = s.memsWf := by
  simp [State.pllEvent]
@[simp] theorem State.dropThirds_memsWf (s : State) (failed : List Nat) :
    (State.dropThirds s failed).memsWf = s.memsWf := by
  simp [State.dropThirds]
@[simp] theorem State.readSpan_memsWf (s : State) (pa n : Nat) (h : s.memsWf = true) :
    (State.readSpan s pa n).2.memsWf = true := by
  simp (maxDischargeDepth := 8) [State.readSpan, h]
@[simp] theorem State.writeSpan_memsWf (s : State) (pa v n : Nat) (h : s.memsWf = true) :
    (State.writeSpan s pa v n).2.memsWf = true := by
  dsimp only [State.writeSpan]; (repeat' split) <;> simp (maxDischargeDepth := 8) [h]
@[simp] theorem State.sieveDone_memsWf (s : State) (u : Nat) (o : SieveOp) (status : Nat) :
    (State.sieveDone s u o status).memsWf = s.memsWf := by
  simp [State.sieveDone]
@[simp] theorem State.scoreAll_memsWf (s : State) (base dh nq vecs : Nat) (y0 : Nat) (h : s.memsWf = true) :
    (State.scoreAll s base dh nq vecs y0).2.memsWf = true := by
  induction y0 generalizing s base dh nq vecs with
  | zero => exact h
  | succ n ih =>
    simp only [State.scoreAll]; (repeat' split) <;> simp [ih, h]

/-! ## Ports -/

@[simp] theorem State.portLog_memsWf (s : State) (p off dir cause : Nat) :
    (State.portLog s p off dir cause).memsWf = s.memsWf := by
  simp [State.portLog]
@[simp] theorem State.portSend_memsWf (s : State) (p : Nat) (cols : List (List LineChar)) :
    (State.portSend s p cols).memsWf = s.memsWf := by
  dsimp only [State.portSend]; split <;> rfl
@[simp] theorem State.portFill_memsWf (s : State) (p : Nat) :
    (State.portFill s p).memsWf = s.memsWf := by
  dsimp only [State.portFill]; split <;> rfl
@[simp] theorem State.sendXts_memsWf (s : State) (p : Nat) :
    (State.sendXts s p).memsWf = s.memsWf := by
  simp [State.sendXts]
@[simp] theorem State.sendOnMap_memsWf (s : State) (p : Nat) (set : List LineChar) :
    (State.sendOnMap s p set).memsWf = s.memsWf := by
  simp [State.sendOnMap]
@[simp] theorem State.passOver_memsWf (s : State) :
    (State.passOver s).memsWf = s.memsWf := by
  dsimp only [State.passOver]; split
  · rw [State.irq_memsWf, State.bump_memsWf]; rfl
  · rfl
@[simp] theorem State.discCheck_memsWf (s : State) :
    (State.discCheck s).memsWf = s.memsWf := by
  simp [State.discCheck]
@[simp] theorem State.portOut_memsWf (s : State) (p cause : Nat) :
    (State.portOut s p cause).memsWf = s.memsWf := by
  simp [State.portOut]
@[simp] theorem State.portDown_memsWf (s : State) (p : Nat) (tx : Bool) :
    (State.portDown s p tx).memsWf = s.memsWf := by
  unfold State.portDown
  simp
@[simp] theorem State.portTrain_memsWf (s : State) (p : Nat) (once : Bool) :
    (State.portTrain s p once).memsWf = s.memsWf := by
  rw [State.portTrain, State.sendXts_memsWf, State.modPort_memsWf]
@[simp] theorem State.lctl_memsWf (s : State) (p op lane off : Nat) :
    (State.lctl s p op lane off).memsWf = s.memsWf := by
  rfl
@[simp] theorem State.enterRetrain_memsWf (s : State) (p : Nat) :
    (State.enterRetrain s p).memsWf = s.memsWf := by
  simp [State.enterRetrain]
@[simp] theorem State.portSpareNext_memsWf (s : State) (p : Nat) :
    (State.portSpareNext s p).memsWf = s.memsWf := by
  dsimp only [State.portSpareNext]; (repeat' split) <;> simp
@[simp] theorem State.portSpareAsk_memsWf (s : State) (p : Nat) (lane : Fin 8) :
    (State.portSpareAsk s p lane).memsWf = s.memsWf := by
  simp [State.portSpareAsk]
@[simp] theorem State.portHard_memsWf (s : State) (p : Nat) (lane : Fin 8) :
    (State.portHard s p lane).memsWf = s.memsWf := by
  dsimp only [State.portHard]; split <;> simp
@[simp] theorem State.portLaneFail_memsWf (s : State) (p off cause : Nat) :
    (State.portLaneFail s p off cause).memsWf = s.memsWf := by
  dsimp only [State.portLaneFail]; (repeat' split) <;> simp
@[simp] theorem State.portCalStart_memsWf (s : State) (p : Nat) :
    (State.portCalStart s p).memsWf = s.memsWf := by
  dsimp only [State.portCalStart]; split <;> simp
@[simp] theorem State.portCalDone_memsWf (s : State) (p : Nat) :
    (State.portCalDone s p).memsWf = s.memsWf := by
  dsimp only [State.portCalDone]; split
  · rw [State.passOver_memsWf]; rfl
  · rfl
@[simp] theorem State.pauseReqs_memsWf (s : State) :
    (State.pauseReqs s).memsWf = s.memsWf := by
  unfold State.pauseReqs
  split
  · exact foldl_memsWf _ (fun t p => by split <;> simp) _ s
  · rfl
@[simp] theorem State.portTxFail_memsWf (s : State) (p off : Nat) :
    (State.portTxFail s p off).memsWf = s.memsWf := by
  dsimp only [State.portTxFail]; (repeat' split) <;> simp
@[simp] theorem State.portCalDue_memsWf (s : State) (p : Nat) (o : Fin 10) :
    (State.portCalDue s p o).memsWf = s.memsWf := by
  rfl

/-! ## Photonic -/

@[simp] theorem State.setGrp_memsWf (s : State) (g : Nat) (x : Group) :
    (State.setGrp s g x).memsWf = s.memsWf := by
  rfl
@[simp] theorem State.modGrp_memsWf (s : State) (g : Nat) (f : Group → Group) :
    (State.modGrp s g f).memsWf = s.memsWf := by
  rfl
@[simp] theorem State.setSite_memsWf (s : State) (n : Nat) (x : Site) :
    (State.setSite s n x).memsWf = s.memsWf := by
  rfl
@[simp] theorem State.modLane_memsWf (s : State) (g o : Nat) (f : Lane → Lane) :
    (State.modLane s g o f).memsWf = s.memsWf := by
  rfl
@[simp] theorem State.amendLater_memsWf (s : State) (kind : Nat) (bound : Bool) (res value : Nat) :
    (State.amendLater s kind bound res value).memsWf = s.memsWf := by
  simp [State.amendLater]
@[simp] theorem State.launch_memsWf (s : State) (site : Nat) (b : Burst) :
    (State.launch s site b).memsWf = s.memsWf := by
  simp [State.launch]
@[simp] theorem State.deliver_memsWf (s : State) (h : Nat) (c : CellBits) :
    (State.deliver s h c).memsWf = s.memsWf := by
  simp [State.deliver]
@[simp] theorem State.tokenError_memsWf (s : State) (site g : Nat) :
    (State.tokenError s site g).memsWf = s.memsWf := by
  dsimp only [State.tokenError]; (repeat' split) <;> simp
@[simp] theorem State.capture_memsWf (s : State) (site g asked : Nat) (cells : List CellBits) :
    (State.capture s site g asked cells).memsWf = s.memsWf := by
  dsimp only [State.capture]; (repeat' split) <;> simp
@[simp] theorem State.tokensGo_memsWf (s : State) (w : Nat) :
    (State.tokensGo s w).memsWf = s.memsWf := by
  rfl
@[simp] theorem State.cmdTimedOut_memsWf (s : State) (g : Nat) :
    (State.cmdTimedOut s g).memsWf = s.memsWf := by
  rfl
@[simp] theorem State.statusSent_memsWf (s : State) (g site id : Nat) :
    (State.statusSent s g site id).memsWf = s.memsWf := by
  unfold State.statusSent
  dsimp only
  (repeat' split) <;> simp
@[simp] theorem State.burstFailed_memsWf (s : State) (site : Nat) (b : Burst) (why start : Nat) :
    (State.burstFailed s site b why start).memsWf = s.memsWf := by
  simp [State.burstFailed]
@[simp] theorem State.cmdIgnored_memsWf (s : State) (g : Nat) :
    (State.cmdIgnored s g).memsWf = s.memsWf := by
  rfl
@[simp] theorem State.cmdTaken_memsWf (s : State) (g : Nat) (busy : Bool) :
    (State.cmdTaken s g busy).memsWf = s.memsWf := by
  rfl
@[simp] theorem State.askBlock_memsWf (s : State) (g why : Nat) :
    (State.askBlock s g why).memsWf = s.memsWf := by
  simp [State.askBlock]
@[simp] theorem State.unblock_memsWf (s : State) (g : Nat) :
    (State.unblock s g).memsWf = s.memsWf := by
  simp [State.unblock]
@[simp] theorem State.groupWakeCmd_memsWf (t : State) (grp : Nat) :
    (State.groupWakeCmd t grp).memsWf = t.memsWf := by
  simp [State.groupWakeCmd]
@[simp] theorem State.faultGroup_memsWf (s : State) (g : Nat) :
    (State.faultGroup s g).memsWf = s.memsWf := by
  rfl
@[simp] theorem State.laneLog_memsWf (s : State) (g off cause : Nat) :
    (State.laneLog s g off cause).memsWf = s.memsWf := by
  simp [State.laneLog]
@[simp] theorem State.laneTo_memsWf (s : State) (g off : Nat) (st : LaneState) :
    (State.laneTo s g off st).memsWf = s.memsWf := by
  rfl
@[simp] theorem State.startSparing_memsWf (s : State) (g : Nat) (lane : Fin 8) (new : Fin 10) :
    (State.startSparing s g lane new).memsWf = s.memsWf := by
  rfl
@[simp] theorem State.replaceLane_memsWf (s : State) (g : Nat) (lane : Fin 8) :
    (State.replaceLane s g lane).memsWf = s.memsWf := by
  dsimp only [State.replaceLane]; (repeat' split) <;> simp 
@[simp] theorem State.failLane_memsWf (s : State) (g off cause : Nat) :
    (State.failLane s g off cause).memsWf = s.memsWf := by
  dsimp only [State.failLane]; (repeat' split) <;> simp 
@[simp] theorem State.groupSpareCmd_memsWf (t : State) (grp : Nat) (lane : Fin 8) (off : Nat) :
    (State.groupSpareCmd t grp lane off).memsWf = t.memsWf := by
  simp [State.groupSpareCmd]
@[simp] theorem State.clearLimits_memsWf (s : State) (g : Nat) :
    (State.clearLimits s g).memsWf = s.memsWf := by
  rfl
@[simp] theorem State.retireGroup_memsWf (s : State) (g kind res : Nat) :
    (State.retireGroup s g kind res).memsWf = s.memsWf := by
  simp [State.retireGroup]
@[simp] theorem State.loseTx_memsWf (s : State) (n tx : Nat) :
    (State.loseTx s n tx).memsWf = s.memsWf := by
  simp [State.loseTx]
@[simp] theorem State.withdrawTx_memsWf (s : State) (n tx cause : Nat) :
    (State.withdrawTx s n tx cause).memsWf = s.memsWf := by
  simp [State.withdrawTx]
@[simp] theorem State.dieLost_memsWf (s : State) (c : Nat) :
    (State.dieLost s c).memsWf = s.memsWf := by
  simp [State.dieLost]
@[simp] theorem State.siteLost_memsWf (s : State) (site : Nat) :
    (State.siteLost s site).memsWf = s.memsWf := by
  simp [State.siteLost]
@[simp] theorem State.selfTest_memsWf (s : State) (n : Nat) (failed : BitVec 52) :
    (State.selfTest s n failed).memsWf = s.memsWf := by
  unfold State.selfTest; generalize List.range 52 = R; simp
@[simp] theorem State.dieShares_memsWf (s : State) (c b : Nat) :
    (State.dieShares s c b).memsWf = s.memsWf := by
  dsimp only [State.dieShares]; split <;> simp

/-! ## Kettle -/

@[simp] theorem State.kettleErr_memsWf (s : State) (k : Nat) :
    (State.kettleErr s k).memsWf = s.memsWf := by
  rfl
@[simp] theorem State.kettleAdd_memsWf (s : State) (k total n : Nat) :
    (State.kettleAdd s k total n).memsWf = s.memsWf := by
  simp [State.kettleAdd]
@[simp] theorem State.sendRelays_memsWf (s : State) (k gen : Nat) :
    (State.sendRelays s k gen).memsWf = s.memsWf := by
  simp [State.sendRelays]
@[simp] theorem State.kettleReleases_memsWf (s : State) (k : Nat) :
    (State.kettleReleases s k).memsWf = s.memsWf := by
  simp [State.kettleReleases]

/-! ## Light -/

@[simp] theorem State.modLine_memsWf (s : State) (f l : Nat) (g : LaserLine → LaserLine) :
    (State.modLine s f l g).memsWf = s.memsWf := by
  rfl
@[simp] theorem State.modInput_memsWf (s : State) (f : Nat) (g : Input → Input) :
    (State.modInput s f g).memsWf = s.memsWf := by
  rfl
@[simp] theorem State.modLsm_memsWf (s : State) (k : Nat) (g : Lsm → Lsm) :
    (State.modLsm s k g).memsWf = s.memsWf := by
  rfl
@[simp] theorem State.startGroups_memsWf (s : State) :
    (State.startGroups s).memsWf = s.memsWf := by
  simp [State.startGroups]
@[simp] theorem State.lsmDown_memsWf (s : State) (k : Nat) (m : LsmMode) :
    (State.lsmDown s k m).memsWf = s.memsWf := by
  simp [State.lsmDown]
@[simp] theorem State.modPair_memsWf (s : State) (f l : Nat) (g : LaserLine → LaserLine) :
    (State.modPair s f l g).memsWf = s.memsWf := by
  simp [State.modPair]
@[simp] theorem State.darkPorts_memsWf (s : State) (fs : List Nat) : (State.darkPorts s fs).memsWf = s.memsWf := by
  unfold State.darkPorts
  refine foldl_memsWf _ (fun t p => ?_) _ s
  split <;> simp
@[simp] theorem State.seedKeys_memsWf (s : State) (ks : List Nat) :
    (State.seedKeys s ks).memsWf = s.memsWf := by
  rfl
@[simp] theorem State.seedRings_memsWf (s : State) (rs : List Ring) :
    (State.seedRings s rs).memsWf = s.memsWf := by
  rfl
@[simp] theorem State.calRings_memsWf (s : State) (rs : List Ring) :
    (State.calRings s rs).memsWf = s.memsWf := by
  simp [State.calRings]
@[simp] theorem State.laneChecked_memsWf (s : State) (g : Fin 1158) (o : Fin 10) (ws : List Nat) :
    (State.laneChecked s g o ws).memsWf = s.memsWf := by
  dsimp only [State.laneChecked]; (repeat' split) <;> simp
@[simp] theorem State.darken_memsWf (s : State) (fs : List Nat) :
    (State.darken s fs).memsWf = s.memsWf := by
  unfold State.darken
  generalize List.range 1158 = R
  dsimp only
  split <;> simp
@[simp] theorem State.ringLost_memsWf (s : State) (r : Ring) :
    (State.ringLost s r).memsWf = s.memsWf := by
  unfold State.ringLost
  generalize List.range 1158 = R
  split
  · split <;> simp
  · dsimp only
    split <;> simp
  · simp
  · simp
  · simp
@[simp] theorem State.vrefCheck_memsWf (s : State) :
    (State.vrefCheck s).memsWf = s.memsWf := by
  simp [State.vrefCheck]
@[simp] theorem State.calGroupDone_memsWf (s0 : State) (g : Nat) :
    (State.calGroupDone s0 g).memsWf = s0.memsWf := by
  simp [State.calGroupDone]
@[simp] theorem State.spareFaded_memsWf (s : State) (f l : Nat) :
    (State.spareFaded s f l).memsWf = s.memsWf := by
  unfold State.spareFaded
  split
  · rfl
  · split
    · refine foldl_memsWf _ (fun t p => ?_) _ s
      dsimp only
      (repeat' split) <;> simp
    · refine foldl_memsWf _ (fun t p => ?_) _ s
      dsimp only
      (repeat' split) <;> simp
@[simp] theorem State.spareForCal_memsWf (s : State) (g : Nat) (o : Fin 10) (todo : List (Fin 10)) :
    (State.spareForCal s g o todo).memsWf = s.memsWf := by
  dsimp only [State.spareForCal]; (repeat' split) <;> simp
@[simp] theorem State.blockCalEnd_memsWf (s : State) (g : Fin 1158) (good : BitVec 10) : (State.blockCalEnd s g good).memsWf = s.memsWf := by
  unfold State.blockCalEnd
  simp
@[simp] theorem State.swapOff_memsWf (s : State) (k : Nat) (w : Option (BitVec 4 × Nat)) : (State.swapOff s k w).memsWf = s.memsWf := by
  unfold State.swapOff
  split
  · rfl
  · dsimp only
    refine (foldl_memsWf _ (fun t e => ?_) _ _).trans (by simp)
    split <;> simp
@[simp] theorem State.decideSwap_memsWf (s : State) (f l : Nat) :
    (State.decideSwap s f l).memsWf = s.memsWf := by
  dsimp only [State.decideSwap]; (repeat' split) <;> simp
@[simp] theorem State.restoreOutput_memsWf (s : State) (f : Nat) :
    (State.restoreOutput s f).memsWf = s.memsWf := by
  simp [State.restoreOutput]
@[simp] theorem State.restoreOuts_memsWf (t : State) (lsm : Nat) (outs : BitVec 4) :
    (State.restoreOuts t lsm outs).memsWf = t.memsWf := by
  simp [State.restoreOuts]
@[simp] theorem State.setLineSel_memsWf (s : State) (lsm : Nat) (v : Nat) :
    (State.setLineSel s lsm v).memsWf = s.memsWf := by
  simp [State.setLineSel]

/-! ## Links -/

@[simp] theorem State.takeCoord_memsWf (s : State) (p : Nat) (nb : Nat) :
    (State.takeCoord s p nb).memsWf = s.memsWf := by
  simp [State.takeCoord]
@[simp] theorem State.portPause_memsWf (s : State) (p : Nat) :
    (State.portPause s p).memsWf = s.memsWf := by
  simp [State.portPause]
@[simp] theorem State.xportIgnored_memsWf (s : State) (p : Nat) :
    (State.xportIgnored s p).memsWf = s.memsWf := by
  rfl
@[simp] theorem State.portRetrainDo_memsWf (t : State) (port : Nat) :
    (State.portRetrainDo t port).memsWf = t.memsWf := by
  simp [State.portRetrainDo]
@[simp] theorem State.portSpareDo_memsWf (t : State) (port : Nat) (lane : Fin 8) (off : Nat) :
    (State.portSpareDo t port lane off).memsWf = t.memsWf := by
  simp [State.portSpareDo]
@[simp] theorem State.portDisableDo_memsWf (t : State) (port : Nat) :
    (State.portDisableDo t port).memsWf = t.memsWf := by
  simp [State.portDisableDo]
@[simp] theorem State.portEnableDo_memsWf (t : State) (port : Nat) :
    (State.portEnableDo t port).memsWf = t.memsWf := by
  simp [State.portEnableDo]
@[simp] theorem State.owe_memsWf (s : State) (p vc : Nat) :
    (State.owe s p vc).memsWf = s.memsWf := by
  rfl
@[simp] theorem State.crossBase_memsWf (s : State) (p out : Nat) (c : CellBits) :
    (State.crossBase s p out c).memsWf = s.memsWf := by
  simp [State.crossBase]
@[simp] theorem State.routeCell_memsWf (s : State) (p : Nat) (c : CellBits) :
    (State.routeCell s p c).memsWf = s.memsWf := by
  dsimp only [State.routeCell]; (repeat' split) <;> simp 
@[simp] theorem State.missing_memsWf (s : State) (p : Nat) :
    (State.missing s p).memsWf = s.memsWf := by
  rfl
@[simp] theorem State.sendBurst_memsWf (s : State) (p : Nat) (c : CellBits) :
    (State.sendBurst s p c).memsWf = s.memsWf := by
  simp [State.sendBurst]
@[simp] theorem State.sendSeq_memsWf (s : State) (p : Nat) (c : CellBits) :
    (State.sendSeq s p c).memsWf = s.memsWf := by
  simp [State.sendSeq]
@[simp] theorem State.flushBase_memsWf (s : State) (p vc : Nat) :
    (State.flushBase s p vc).memsWf = s.memsWf := by
  dsimp only [State.flushBase]; (repeat' split) <;> simp 
@[simp] theorem State.takeSource_memsWf (s : State) (p vc src : Nat) :
    (State.takeSource s p vc src).memsWf = s.memsWf := by
  dsimp only [State.takeSource]; (repeat' split) <;> simp 
@[simp] theorem State.sendVc_memsWf (s : State) (p vc : Nat) :
    (State.sendVc s p vc).memsWf = s.memsWf := by
  dsimp only [State.sendVc]; (repeat' split) <;> simp 
@[simp] theorem State.linkCell_memsWf (s : State) (p ty n : Nat) :
    (State.linkCell s p ty n).memsWf = s.memsWf := by
  simp [State.linkCell]
@[simp] theorem State.sendAgain_memsWf (s : State) (p q : Nat) :
    (State.sendAgain s p q).memsWf = s.memsWf := by
  dsimp only [State.sendAgain]; (repeat' split) <;> simp 
@[simp] theorem State.resendFrom_memsWf (s : State) (p n : Nat) :
    (State.resendFrom s p n).memsWf = s.memsWf := by
  simp [State.resendFrom]

/-! ## Hall -/

@[simp] theorem State.hallAnswer_memsWf (s : State) (r : HallReq) (ty : Nat) (pay : Payload) :
    (State.hallAnswer s r ty pay).memsWf = s.memsWf := by
  simp [State.hallAnswer]
@[simp] theorem State.hallRefuse_memsWf (s : State) (r : HallReq) (status : Nat) :
    (State.hallRefuse s r status).memsWf = s.memsWf := by
  simp [State.hallRefuse]
@[simp] theorem State.hallDone_memsWf (s : State) (r : HallReq) (flags : Nat) (old : Nat) :
    (State.hallDone s r flags old).memsWf = s.memsWf := by
  simp [State.hallDone]
@[simp] theorem State.hallKettle_memsWf (s : State) (r : HallReq) :
    (State.hallKettle s r).memsWf = s.memsWf := by
  simp [State.hallKettle]
@[simp] theorem State.hallRegion_memsWf (s : State) (r : HallReq) :
    (State.hallRegion s r).memsWf = s.memsWf := by
  simp [State.hallRegion]
@[simp] theorem State.sendData_memsWf (s : State) (r : HallReq) (v : Nat) :
    (State.sendData s r v).memsWf = s.memsWf := by
  simp [State.sendData]
@[simp] theorem State.hallPerform_memsWf (s : State) (r : HallReq) (pa : Nat) (h : s.memsWf = true) :
    (State.hallPerform s r pa).memsWf = true := by
  dsimp only [State.hallPerform]; (repeat' split) <;> simp (maxDischargeDepth := 8) [h]
@[simp] theorem State.hallTry_memsWf (s : State) (r : HallReq) (h : s.memsWf = true) :
    (State.hallTry s r).memsWf = true := by
  dsimp only [State.hallTry]; (repeat' split) <;> simp (maxDischargeDepth := 8) [h]
@[simp] theorem State.hallPump_memsWf (s : State) (y0 : Nat) (h : s.memsWf = true) :
    (State.hallPump s y0).memsWf = true := by
  induction y0 generalizing s with
  | zero => exact h
  | succ n ih =>
    simp only [State.hallPump]; (repeat' split) <;> simp [ih, h]
@[simp] theorem State.hallRequest_memsWf (s : State) (r : HallReq) (h : s.memsWf = true) :
    (State.hallRequest s r).memsWf = true := by
  simp (maxDischargeDepth := 8) [State.hallRequest, h]
theorem State.hallGate_memsWf {s : State} (job : BitVec 16) (src : BitVec 12) (ty : Nat) {f : State → State} (hf : (f s).memsWf = true) (h : s.memsWf = true) :
    (s.hallGate job src ty f).memsWf = true := by
  unfold State.hallGate
  split
  · simp [h]
  · exact hf
@[simp] theorem State.stale_memsWf (s : State) :
    (State.stale s).memsWf = s.memsWf := by
  rfl
@[simp] theorem State.freeTag_memsWf (s : State) (n tag : Nat) :
    (State.freeTag s n tag).memsWf = s.memsWf := by
  rfl
theorem State.onTag_memsWf {s : State} (n tag : Nat) {f : TagUse → State} (hf : ∀ u, (f u).memsWf = true) (h : s.memsWf = true) :
    (s.onTag n tag f).memsWf = true := by
  unfold State.onTag
  split
  · simp [h]
  · split
    · simp [h]
    · exact hf _
@[simp] theorem State.remoteFail_memsWf (s : State) (n tag : Nat) (u : TagUse) (status bit : Nat) :
    (State.remoteFail s n tag u status bit).memsWf = s.memsWf := by
  dsimp only [State.remoteFail]; (repeat' split) <;> simp 
@[simp] theorem State.hallReturn_memsWf (s : State) (n tag : Nat) (u : TagUse) (flags : BitVec 4) (lo hi : Dword) :
    (State.hallReturn s n tag u flags lo hi).memsWf = s.memsWf := by
  simp [State.hallReturn]

/-! ## Pager -/

@[simp] theorem State.giveBackPage_memsWf (s : State) (n : Nat) (f : PFault) :
    (State.giveBackPage s n f).memsWf = s.memsWf := by
  dsimp only [State.giveBackPage]; (repeat' split) <;> simp
@[simp] theorem State.afterWalk_memsWf (s : State) (n : Nat) (h : s.memsWf = true) :
    (State.afterWalk s n).memsWf = true := by
  simp (maxDischargeDepth := 8) [State.afterWalk, h]
@[simp] theorem State.modFault_memsWf (s : State) (n tag : Nat) (f : PFault → PFault) :
    (State.modFault s n tag f).memsWf = s.memsWf := by
  rfl
@[simp] theorem State.dropFault_memsWf (s : State) (n tag : Nat) :
    (State.dropFault s n tag).memsWf = s.memsWf := by
  rfl
@[simp] theorem State.settleFault_memsWf (s : State) (n : Nat) (f : PFault) :
    (State.settleFault s n f).memsWf = s.memsWf := by
  rfl
@[simp] theorem State.failFault_memsWf (s : State) (n : Nat) (f : PFault) (code : Nat) (h : s.memsWf = true) :
    (State.failFault s n f code).memsWf = true := by
  simp (maxDischargeDepth := 8) [State.failFault, h]
@[simp] theorem State.readAgain_memsWf (s : State) (n : Nat) (f : PFault) (h : s.memsWf = true) :
    (State.readAgain s n f).memsWf = true := by
  dsimp only [State.readAgain]; (repeat' split) <;> simp (maxDischargeDepth := 8) [h]
@[simp] theorem State.ticketBroadcast_memsWf (s : State) (ticket : Nat) :
    (State.ticketBroadcast s ticket).memsWf = s.memsWf := by
  unfold State.ticketBroadcast
  generalize List.range 40 = R
  refine foldl_memsWf _ (fun t n => ?_) _ _
  exact foldl_memsWf _ (fun t n => by simp) _ _
@[simp] theorem State.poolPush_memsWf (s : State) (n v : Nat) :
    (State.poolPush s n v).memsWf = s.memsWf := by
  simp [State.poolPush]
@[simp] theorem State.setTableBase_memsWf (s : State) (n : Nat) (v : Dword) :
    (State.setTableBase s n v).memsWf = s.memsWf := by
  simp [State.setTableBase]
@[simp] theorem State.setTagLimit_memsWf (s : State) (n v : Nat) :
    (State.setTagLimit s n v).memsWf = s.memsWf := by
  simp [State.setTagLimit]

/-! ## Manifest -/

@[simp] theorem State.putPhys_memsWf (s : State) (pa : Nat) (l : List Byte) (y0 : Nat) (h : s.memsWf = true) :
    (State.putPhys s pa l y0).memsWf = true := by
  induction y0 generalizing s pa l with
  | zero => exact h
  | succ n ih =>
    rw [State.putPhys]
    split
    · exact h
    · refine ih _ _ _ ?_
      have hm := State.mainMem_wf (s := s.settle (s.chanOf pa) (probe (s.blkOf pa) (pa % 1024 / 64) 1)) (by simp [h])
      simp [h, hm]
@[simp] theorem State.putEntry_memsWf (s : State) (pa e : Nat) (h : s.memsWf = true) :
    (State.putEntry s pa e).memsWf = true := by
  simp (maxDischargeDepth := 8) [State.putEntry, h]
@[simp] theorem State.getPhys_memsWf (s : State) (pa n : Nat) (h : s.memsWf = true) :
    (State.getPhys s pa n).2.memsWf = true := by
  simp (maxDischargeDepth := 8) [State.getPhys, h]
@[simp] theorem State.buildTables_memsWf (s : State) (ps : List PageRec) (live : PageRec → Bool) (h : s.memsWf = true) :
    (State.buildTables s ps live).memsWf = true := by
  unfold State.buildTables
  dsimp only
  refine foldl_keeps _ (fun u p hu => by simp [hu]) _ ?_
  refine foldl_keeps _ (fun u p hu => by simp [hu]) _ ?_
  refine foldl_keeps _ (fun u p hu => by simp [hu]) _ ?_
  simp [h]
@[simp] theorem State.firmWalk_memsWf (s : State) (entry level jva : Nat) (y0 : Nat) (h : s.memsWf = true) :
    (State.firmWalk s entry level jva y0).2.memsWf = true := by
  induction y0 generalizing s entry level jva with
  | zero => exact h
  | succ n ih =>
    simp only [State.firmWalk]; (repeat' split) <;> simp [ih, h]
@[simp] theorem State.firmXlat_memsWf (s : State) (jva : Nat) (h : s.memsWf = true) :
    (State.firmXlat s jva).2.memsWf = true := by
  simp (maxDischargeDepth := 8) [State.firmXlat, h]
@[simp] theorem State.firmRead_memsWf (s : State) (jva n : Nat) (y0 : Nat) (h : s.memsWf = true) :
    (State.firmRead s jva n y0).2.memsWf = true := by
  induction y0 generalizing s jva n with
  | zero => exact h
  | succ k ih =>
    rw [State.firmRead]
    split
    · exact h
    · dsimp only
      split
      · simp [h]
      · split
        · simp (maxDischargeDepth := 8) [h]
        · simp (maxDischargeDepth := 8) [h, ih]
@[simp] theorem State.firmWrite_memsWf (s : State) (jva : Nat) (l : List Byte) (y0 : Nat) (h : s.memsWf = true) :
    (State.firmWrite s jva l y0).memsWf = true := by
  induction y0 generalizing s jva l with
  | zero => exact h
  | succ k ih =>
    rw [State.firmWrite]
    split
    · exact h
    · refine ih _ _ _ ?_
      split <;> simp (maxDischargeDepth := 8) [h]
@[simp] theorem State.jobRead_memsWf (s : State) (jva n : Nat) (h : s.memsWf = true) :
    (State.jobRead s jva n).2.memsWf = true := by
  simp (maxDischargeDepth := 8) [State.jobRead, h]
@[simp] theorem State.jobWrite_memsWf (s : State) (jva : Nat) (l : List Byte) (h : s.memsWf = true) :
    (State.jobWrite s jva l).memsWf = true := by
  simp (maxDischargeDepth := 8) [State.jobWrite, h]

/-! ## FrontDoor -/

@[simp] theorem State.fdTake_memsWf (s : State) (f : Frame) (fetch : Bool) (m : List Byte) :
    (State.fdTake s f fetch m).2.memsWf = s.memsWf := by
  dsimp only [State.fdTake]; (repeat' split) <;> simp 
@[simp] theorem State.fdSend_memsWf (s : State) (to_ : Peer) (key ty id : Nat) (body : List Byte) :
    (State.fdSend s to_ key ty id body).memsWf = s.memsWf := by
  dsimp only [State.fdSend]; (repeat' split) <;> simp 
@[simp] theorem State.modReq_memsWf (s : State) (id : Nat) (f : Request → Request) :
    (State.modReq s id f).memsWf = s.memsWf := by
  rfl
@[simp] theorem State.dropReq_memsWf (s : State) (id : Nat) :
    (State.dropReq s id).memsWf = s.memsWf := by
  rfl
@[simp] theorem State.fdAck_memsWf (s : State) (p : Peer) (h : Hdr) (status slot pos : Nat) :
    (State.fdAck s p h status slot pos).memsWf = s.memsWf := by
  simp [State.fdAck]
@[simp] theorem State.fdBusy_memsWf (s : State) (p : Peer) (h : Hdr) (reason : Nat) :
    (State.fdBusy s p h reason).memsWf = s.memsWf := by
  simp [State.fdBusy]
@[simp] theorem State.sendTokens_memsWf (s : State) (id : Nat) (body : List Byte) (final : Bool) :
    (State.sendTokens s id body final).memsWf = s.memsWf := by
  dsimp only [State.sendTokens]; (repeat' split) <;> simp 
@[simp] theorem State.endReq_memsWf (s : State) (id first : Nat) (ts : List Word) (code k : Nat) :
    (State.endReq s id first ts code k).memsWf = s.memsWf := by
  simp [State.endReq]
@[simp] theorem State.wakeFor_memsWf (s : State) (cause : Nat) :
    (State.wakeFor s cause).memsWf = s.memsWf := by
  simp [State.wakeFor]
@[simp] theorem State.keepPart_memsWf (s : State) (p : Peer) (h : Hdr) (r : Request) (b : List Byte) :
    (State.keepPart s p h r b).memsWf = s.memsWf := by
  simp [State.keepPart]
@[simp] theorem State.submit_memsWf (s : State) (p : Peer) (h : Hdr) (b : List Byte) :
    (State.submit s p h b).memsWf = s.memsWf := by
  dsimp only [State.submit]; (repeat' split) <;> simp 
theorem State.fdMessage_memsWf {s : State} (f : Frame) (ty : Nat) (m : List Byte) {g : State → Hdr → State}
    (hg : ∀ t hd, t.memsWf = true → (g t hd).memsWf = true) (h : s.memsWf = true) : (s.fdMessage f ty m g).memsWf = true := by
  have ht : (s.fdTake f false m).2.memsWf = true := by simp [h]
  unfold State.fdMessage
  split
  · rename_i t e
    rw [e] at ht
    exact ht
  · rename_i hd t e
    rw [e] at ht
    split
    · exact hg _ _ (by simpa using ht)
    · exact h
@[simp] theorem State.cancelReq_memsWf (s : State) (p : Peer) (h : Hdr) (b : List Byte) :
    (State.cancelReq s p h b).memsWf = s.memsWf := by
  dsimp only [State.cancelReq]; (repeat' split) <;> simp 
@[simp] theorem State.resendFrom__memsWf (s : State) (r : Request) (from_ : Nat) :
    (State.resendFrom_ s r from_).memsWf = s.memsWf := by
  simp [State.resendFrom_]
@[simp] theorem State.statusReq_memsWf (s : State) (p : Peer) (h : Hdr) (b : List Byte) :
    (State.statusReq s p h b).memsWf = s.memsWf := by
  dsimp only [State.statusReq]; (repeat' split) <;> simp 

/-! ## Store -/

@[simp] theorem State.regStore_memsWf (s : State) (t : PageType) (i off v : Nat) :
    (State.regStore s t i off v).memsWf = s.memsWf := by
  simp [State.regStore]
@[simp] theorem State.put_memsWf (s : State) (a v : Nat) :
    (State.put s a v).memsWf = s.memsWf := by
  dsimp only [State.put]; (repeat' split) <;> simp 
@[simp] theorem State.lockPage_memsWf (s : State) (t : PageType) (i : Nat) :
    (State.lockPage s t i).memsWf = s.memsWf := by
  rfl
@[simp] theorem State.unlockPage_memsWf (s : State) (t : PageType) (i : Nat) :
    (State.unlockPage s t i).memsWf = s.memsWf := by
  rfl
@[simp] theorem State.lockAll_memsWf (s : State) (t : PageType) (on : Bool) :
    (State.lockAll s t on).memsWf = s.memsWf := by
  simp [State.lockAll]
@[simp] theorem State.clearPages_memsWf (s : State) (p : PageType → Bool) :
    (State.clearPages s p).memsWf = s.memsWf := by
  rfl

/-! ## Domains -/

@[simp] theorem State.grantAll_memsWf (s : State) (on : Bool) :
    (State.grantAll s on).memsWf = s.memsWf := by
  unfold State.grantAll; generalize List.range 40 = R40; ((repeat' split) <;> simp )
@[simp] theorem State.surgeEnd_memsWf (s : State) (cause : Nat) :
    (State.surgeEnd s cause).memsWf = s.memsWf := by
  simp [State.surgeEnd]
@[simp] theorem State.bare_memsWf (s : State) : s.bare.memsWf = true := by
  unfold State.bare
  rw [State.memsWf_mk]
  decide
@[simp] theorem State.powerOff_memsWf (s : State) (h : s.memsWf = true) :
    (State.powerOff s).memsWf = true := by
  simp (maxDischargeDepth := 8) [State.powerOff, h]
@[simp] theorem State.ovumStart_memsWf (s : State) :
    (State.ovumStart s).memsWf = s.memsWf := by
  simp [State.ovumStart]
@[simp] theorem State.toOvum_memsWf (s0 : State) (h : s0.memsWf = true) :
    (State.toOvum s0).memsWf = true := by
  simp (maxDischargeDepth := 8) [State.toOvum, h]
@[simp] theorem State.groupsOff_memsWf (s : State) :
    (State.groupsOff s).memsWf = s.memsWf := by
  simp [State.groupsOff]
@[simp] theorem State.portsOff_memsWf (s : State) (left : Port → Bool) :
    (State.portsOff s left).memsWf = s.memsWf := by
  simp [State.portsOff]
@[simp] theorem State.discover_memsWf (s : State) :
    (State.discover s).memsWf = s.memsWf := by
  simp [State.discover]
@[simp] theorem State.flushAmends_memsWf (s : State) :
    (State.flushAmends s).memsWf = s.memsWf := by
  simp [State.flushAmends]
@[simp] theorem State.applyMargins_memsWf (s : State) :
    (State.applyMargins s).memsWf = s.memsWf := by
  unfold State.applyMargins
  generalize List.range 160 = R
  refine foldl_memsWf _ (fun t r => ?_) _ _
  dsimp only
  split <;> rfl
@[simp] theorem State.giveBack_memsWf (s : State) (kind res : Nat) :
    (State.giveBack s kind res).memsWf = s.memsWf := by
  dsimp only [State.giveBack]; (repeat' split) <;> simp 
@[simp] theorem State.release_memsWf (s : State) :
    (State.release s).memsWf = s.memsWf := by
  simp [State.release]
@[simp] theorem State.netRegs_memsWf (s : State) :
    (State.netRegs s).memsWf = s.memsWf := by
  unfold State.netRegs; generalize List.range 2 = R2; generalize List.range 4 = R4; ((repeat' split) <;> simp )
@[simp] theorem State.folioRegs_memsWf (s0 : State) :
    (State.folioRegs s0).memsWf = s0.memsWf := by
  unfold State.folioRegs; generalize List.range 4 = R4; ((repeat' split) <;> simp )
@[simp] theorem State.retirements_memsWf (s : State) (h : s.memsWf = true) : (State.retirements s).memsWf = true := by
  unfold State.retirements
  generalize List.range 40 = R40
  generalize List.range 384 = R384
  dsimp only
  have h1 : (R40.foldl (fun (t : State) n => if (t.stk n).retireDue ∧ !(t.stk n).retired then t.retireNow n else t) s).memsWf = true :=
    foldl_keeps _ (fun t n ht => by split <;> simp [ht]) _ h
  split
  · exact h1
  · exact (State.dropThirds_memsWf ..).trans h1
@[simp] theorem State.remaps_memsWf (s : State) :
    (State.remaps s).memsWf = s.memsWf := by
  simp [State.remaps]
@[simp] theorem State.homeLosses_memsWf (s : State) (h : s.memsWf = true) : (State.homeLosses s).memsWf = true := by
  unfold State.homeLosses
  refine foldl_keeps _ (fun t n ht => ?_) _ h
  dsimp only
  split <;> simp [ht]
@[simp] theorem State.folioUp_memsWf (s : State) :
    (State.folioUp s).memsWf = s.memsWf := by
  simp [State.folioUp]
@[simp] theorem State.takePending_memsWf (s : State) :
    (State.takePending s).memsWf = s.memsWf := by
  simp [State.takePending]
@[simp] theorem State.larvaGo_memsWf (s : State) (h : s.memsWf = true) : (State.larvaGo s).memsWf = true := by
  unfold State.larvaGo
  split
  · exact h
  · split
    · exact h
    · split
      · exact h
      · extract_lets c1 s1 s2
        have h1 : s1.memsWf = true := h
        have h2 : s2.memsWf = true := by
          refine (State.takePending_memsWf _).trans ((State.flushAmends_memsWf _).trans ((State.remaps_memsWf _).trans ?_))
          refine State.homeLosses_memsWf _ (State.retirements_memsWf _ ?_)
          rw [State.memsWf_mk]; simp [h1]
        split
        · rw [State.memsWf_mk, State.memsWf_fold]; exact h2
        · split
          · rw [State.memsWf_mk, State.memsWf_fold]; exact h2
          · exact (State.folioUp_memsWf _).trans h2
@[simp] theorem State.warmLarva_memsWf (s : State) (h : s.memsWf = true) :
    (State.warmLarva s).memsWf = true := by
  simp (maxDischargeDepth := 8) [State.warmLarva, h]
@[simp] theorem State.foldBack_memsWf (s : State) (h : s.memsWf = true) : (State.foldBack s).memsWf = true := by
  unfold State.foldBack
  extract_lets v
  split
  · rw [State.memsWf_mk]; simp [h]
  · rw [State.irq_memsWf]
    refine State.warmLarva_memsWf _ ?_
    rw [State.memsWf_mk]; simp [h]
@[simp] theorem State.cellActions_memsWf (s : State) : (State.cellActions s).memsWf = s.memsWf := by
  unfold State.cellActions
  refine foldl_memsWf _ (fun t n => ?_) _ s
  dsimp only
  refine (State.setStk_memsWf ..).trans (foldl_memsWf _ (fun v d => ?_) _ t)
  (repeat' split) <;> simp
@[simp] theorem State.capRegs_memsWf (s : State) : (State.capRegs s).memsWf = s.memsWf := by
  unfold State.capRegs
  refine (State.lockAll_memsWf ..).trans (foldl_memsWf _ (fun t e => ?_) _ s)
  split <;> simp
@[simp] theorem State.larvaEnd_memsWf (s : State) (h : s.memsWf = true) : (State.larvaEnd s).memsWf = true := by
  unfold State.larvaEnd
  split
  · extract_lets s1
    have h1 : s1.memsWf = true := State.homeLosses_memsWf _ ((State.cellActions_memsWf _).trans (State.retirements_memsWf _ h))
    clear_value s1
    split
    · exact h1
    · exact (State.capRegs_memsWf _).trans ((State.userSet_memsWf _).trans h1)
  · exact h
@[simp] theorem State.bootCheck_memsWf (s : State) (h : s.memsWf = true) : (State.bootCheck s).memsWf = true := by
  dsimp only [State.bootCheck]
  split
  · exact State.larvaEnd_memsWf _ ((State.discCheck_memsWf _).trans (State.larvaGo_memsWf _ h))
  · exact h

/-! ## Job -/

@[simp] theorem State.loadRanks_memsWf (s : State) :
    (State.loadRanks s).memsWf = s.memsWf := by
  unfold State.loadRanks; generalize List.range 2048 = R2048; ((repeat' split) <;> simp )
@[simp] theorem State.loadOwners_memsWf (s : State) :
    (State.loadOwners s).memsWf = s.memsWf := by
  simp [State.loadOwners]
@[simp] theorem State.loadRegions_memsWf (s : State) :
    (State.loadRegions s).memsWf = s.memsWf := by
  unfold State.loadRegions; generalize List.range 1024 = R1024; ((repeat' split) <;> simp )
@[simp] theorem State.kettleClear_memsWf (s : State) (k : Nat) :
    (State.kettleClear s k).memsWf = s.memsWf := by
  simp [State.kettleClear]
@[simp] theorem State.loadKettles_memsWf (s : State) :
    (State.loadKettles s).memsWf = s.memsWf := by
  unfold State.loadKettles; generalize List.range 8 = R8; generalize List.range 63 = R63; generalize List.range 256 = R256; ((repeat' split) <;> simp )
@[simp] theorem State.coreRegs_memsWf (s : State) :
    (State.coreRegs s).memsWf = s.memsWf := by
  simp [State.coreRegs]
@[simp] theorem State.coreSeeds_memsWf (s : State) :
    (State.coreSeeds s).memsWf = s.memsWf := by
  simp [State.coreSeeds]
@[simp] theorem State.settings_memsWf (s : State) :
    (State.settings s).memsWf = s.memsWf := by
  unfold State.settings
  refine foldl_memsWf _ (fun t e => ?_) _ _
  dsimp only
  split
  · split <;> simp
  · simp
@[simp] theorem State.zeroCores_memsWf (s : State) (h : s.memsWf = true) : (State.zeroCores s).memsWf = true := by
  unfold State.zeroCores
  rw [State.memsWf_mk]
  simp [State.mainMem_wf h, State.rowStore_wf h, State.instStore_wf h]
@[simp] theorem State.loadCores_memsWf (s : State) (h : s.memsWf = true) :
    (State.loadCores s).memsWf = true := by
  unfold State.loadCores
  extract_lets s1 o ps body
  refine foldl_keeps _ (fun t r ht => ?_) _ (State.zeroCores_memsWf s h)
  dsimp only
  split
  · exact ht
  · refine foldl_keeps _ (fun u c hu => ?_) _ ht
    simp (maxDischargeDepth := 8) [hu]
@[simp] theorem State.clearXes_memsWf (s : State) (q : Bool) :
    (State.clearXes s q).memsWf = s.memsWf := by
  unfold State.clearXes; generalize List.range 40 = R40; ((repeat' split) <;> simp )
@[simp] theorem State.loadPools_memsWf (s : State) :
    (State.loadPools s).memsWf = s.memsWf := by
  simp [State.loadPools]
@[simp] theorem State.modSeg_memsWf (s : State) (i : Nat) (f : Seg → Seg) :
    (State.modSeg s i f).memsWf = s.memsWf := by
  simp [State.modSeg]
@[simp] theorem State.sendFreq_memsWf (s : State) (i first n : Nat) :
    (State.sendFreq s i first n).memsWf = s.memsWf := by
  dsimp only [State.sendFreq]; (repeat' split) <;> simp 
@[simp] theorem State.fetchSeg_memsWf (s : State) (i : Nat) (y0 : Nat) :
    (State.fetchSeg s i y0).memsWf = s.memsWf := by
  induction y0 generalizing s i with
  | zero => rfl
  | succ n ih =>
    simp only [State.fetchSeg]; (repeat' split) <;> simp [ih]
@[simp] theorem State.fetchAll_memsWf (s : State) :
    (State.fetchAll s).memsWf = s.memsWf := by
  simp [State.fetchAll]
@[simp] theorem State.writeSegment_memsWf (s : State) (r : SegRec) (data : List Byte) (h : s.memsWf = true) :
    (State.writeSegment s r data).memsWf = true := by
  unfold State.writeSegment
  refine foldl_keeps _ (fun t p ht => ?_) _ h
  dsimp only
  split <;> simp [ht]
@[simp] theorem State.ticketPages_memsWf (s : State) (ticket : Nat) (h : s.memsWf = true) :
    (State.ticketPages s ticket).memsWf = true := by
  unfold State.ticketPages
  dsimp only
  split
  · exact foldl_keeps _ (fun t p ht => by simp [ht]) _ h
  · exact h
@[simp] theorem State.fetchNote_memsWf (s : State) (lsb bit : Nat) :
    (State.fetchNote s lsb bit).memsWf = s.memsWf := by
  simp [State.fetchNote]
@[simp] theorem State.sendNotice_memsWf (s : State) (rank kind num v : Nat) :
    (State.sendNotice s rank kind num v).memsWf = s.memsWf := by
  simp [State.sendNotice]
@[simp] theorem State.noticeAll_memsWf (s : State) (kind num v : Nat) :
    (State.noticeAll s kind num v).memsWf = s.memsWf := by
  simp [State.noticeAll]
@[simp] theorem State.tryGo_memsWf (s : State) :
    (State.tryGo s).memsWf = s.memsWf := by
  simp [State.tryGo]
@[simp] theorem State.sayReady_memsWf (s : State) :
    (State.sayReady s).memsWf = s.memsWf := by
  simp [State.sayReady]
@[simp] theorem State.preload_memsWf (s : State) (h : s.memsWf = true) :
    (State.preload s).memsWf = true := by
  unfold State.preload
  dsimp only
  refine foldl_keeps _ (fun t p ht => ?_) _ (by rw [State.memsWf_mk]; simp [h])
  generalize List.range (p.len / 512) = R
  refine foldl_keeps _ (fun u i hu => ?_) _ ht
  split <;> simp [hu]
@[simp] theorem State.fuse_memsWf (s : State) :
    (State.fuse s).memsWf = s.memsWf := by
  simp [State.fuse]
@[simp] theorem State.eclose_memsWf (s : State) (h : s.memsWf = true) :
    (State.eclose s).memsWf = true := by
  dsimp only [State.eclose]
  split <;> simp [h]
@[simp] theorem State.stopCores_memsWf (s : State) :
    (State.stopCores s).memsWf = s.memsWf := by
  simp [State.stopCores]
@[simp] theorem State.jobEnd_memsWf (s : State) :
    (State.jobEnd s).memsWf = s.memsWf := by
  unfold State.jobEnd
  dsimp only
  rw [State.memsWf_mk, State.memsWf_fold]
  simp only [State.irq_memsWf, State.flushAmends_memsWf, State.setFld_memsWf]
  rw [foldl_memsWf _ (fun t e => by split <;> simp)]
  simp
@[simp] theorem State.finishUnload_memsWf (s : State) (h : s.memsWf = true) : (State.finishUnload s).memsWf = true := by
  unfold State.finishUnload
  split <;> simp [h]
@[simp] theorem State.markRecord_memsWf (s : State) (bit : Nat) :
    (State.markRecord s bit).memsWf = s.memsWf := by
  dsimp only [State.markRecord]; (repeat' split) <;> simp 
@[simp] theorem State.abandon_memsWf (s : State) (h : s.memsWf = true) :
    (State.abandon s).memsWf = true := by
  simp (maxDischargeDepth := 8) [State.abandon, h]
@[simp] theorem State.refuseLoad_memsWf (s : State) (code sec : Nat) (h : s.memsWf = true) :
    (State.refuseLoad s code sec).memsWf = true := by
  simp (maxDischargeDepth := 8) [State.refuseLoad, h]
@[simp] theorem State.loadJob_memsWf (s : State) (o : List Word) (keys : List (List Byte)) (fetchKey : List Byte) (h : s.memsWf = true) :
    (State.loadJob s o keys fetchKey).memsWf = true := by
  unfold State.loadJob; generalize List.range 40 = R40; ((repeat' split) <;> simp (maxDischargeDepth := 8) [h])
@[simp] theorem State.quiesce_memsWf (s : State) :
    (State.quiesce s).memsWf = s.memsWf := by
  unfold State.quiesce
  generalize List.range 256 = R
  extract_lets s1 s2
  have h2 : s2.memsWf = s1.memsWf := foldl_memsWf _ (fun t k => by simp) _ _
  have h1 : s1.memsWf = s.memsWf := by simp [s1]
  rw [State.memsWf_mk, State.memsWf_fold, h2, h1]
@[simp] theorem State.groupsAtRestart_memsWf (s : State) :
    (State.groupsAtRestart s).memsWf = s.memsWf := by
  unfold State.groupsAtRestart
  generalize List.range 6 = R6
  dsimp only
  refine (foldl_memsWf _ (fun t p => ?_) _ _).trans ?_
  · split <;> simp
  · simp
@[simp] theorem State.present_memsWf (s : State) (y0 : List PageRec) (h : s.memsWf = true) :
    (State.present s y0).2.memsWf = true := by
  induction y0 generalizing s with
  | nil => exact h
  | cons y ys ih =>
    simp [State.present, ih, h]
@[simp] theorem State.durableGood_memsWf (s : State) (y0 : List (PageRec × Nat)) (h : s.memsWf = true) :
    (State.durableGood s y0).2.memsWf = true := by
  induction y0 generalizing s with
  | nil => exact h
  | cons y ys ih =>
    simp only [State.durableGood]; (repeat' split) <;> simp [ih, h]
@[simp] theorem State.rebuild_memsWf (s : State) (now_ : List (PageRec × Nat)) (w0 : Nat) (h : s.memsWf = true) :
    (State.rebuild s now_ w0).memsWf = true := by
  unfold State.rebuild
  extract_lets o ps x good keeps whole s1 t zeros s2 held failed j3 s3
  have hx : x.2.memsWf = true := by
    dsimp only [x]
    split <;> simp [h]
  have h1 : s1.memsWf = true := by simp [s1, hx]
  have h2 : s2.memsWf = true := foldl_keeps _ (fun u g hu => by simp [hu]) _ h1
  have h3 : s3.memsWf = true := by rw [State.memsWf_mk, State.memsWf_fold, h2]
  clear_value s3
  split <;> simp [h3]
@[simp] theorem State.requeue_memsWf (s : State) :
    (State.requeue s).memsWf = s.memsWf := by
  unfold State.requeue; generalize List.range 256 = R256; ((repeat' split) <;> simp )
@[simp] theorem State.restartLoad_memsWf (s : State) (h : s.memsWf = true) :
    (State.restartLoad s).memsWf = true := by
  unfold State.restartLoad
  generalize List.range 40 = R
  extract_lets s1 s2 r3 s3
  have h1 : s1.memsWf = true := by simp [s1, h]
  have h2 : s2.memsWf = true := (foldl_memsWf _ (fun t k => by simp) _ _).trans h1
  have h3 : s3.memsWf = true := by rw [State.memsWf_mk, State.memsWf_fold, h2]
  clear_value s3
  (repeat' split) <;> simp [h3]
@[simp] theorem State.restartGo_memsWf (s : State) (h : s.memsWf = true) :
    (State.restartGo s).memsWf = true := by
  simp (maxDischargeDepth := 8) [State.restartGo, h]
@[simp] theorem State.restartStop_memsWf (s : State) (h : s.memsWf = true) :
    (State.restartStop s).2.memsWf = true := by
  unfold State.restartStop
  generalize List.range 40 = R
  simp (maxDischargeDepth := 12) [h]
@[simp] theorem State.restartBuild_memsWf (s : State) (now_ : List (PageRec × Nat)) (w0 : Nat) (h : s.memsWf = true) :
    (State.restartBuild s now_ w0).memsWf = true := by
  simp (maxDischargeDepth := 8) [State.restartBuild, h]
@[simp] theorem State.restartRun_memsWf (s : State) (h : s.memsWf = true) :
    (State.restartRun s).memsWf = true := by
  dsimp only [State.restartRun]; split <;> simp [h]
@[simp] theorem State.segWhole_memsWf (s : State) (i : Nat) (data : List Byte) (h : s.memsWf = true) :
    (State.segWhole s i data).memsWf = true := by
  simp (maxDischargeDepth := 8) [State.segWhole, h]

/-! ## Wingbeat -/

@[simp] theorem State.recordFaults_memsWf (s : State) (fs : List FaultRec) :
    (State.recordFaults s fs).memsWf = s.memsWf := by
  simp [State.recordFaults]
@[simp] theorem State.restartWith_memsWf (s : State) (num : Nat) (send : Bool) (fs : List FaultRec) (h : s.memsWf = true) :
    (State.restartWith s num send fs).memsWf = true := by
  unfold State.restartWith
  dsimp only
  apply Eq.trans (State.memsWf_ite ..)
  cases send <;> split <;> simp (maxDischargeDepth := 8) [h]
@[simp] theorem State.restartZero_memsWf (s : State) (h : s.memsWf = true) :
    (State.restartZero s).memsWf = true := by
  simp (maxDischargeDepth := 8) [State.restartZero, h]
@[simp] theorem State.retainCores_memsWf (s : State) :
    (State.retainCores s).memsWf = s.memsWf := by
  unfold State.retainCores; generalize List.range 8192 = R8192; ((repeat' split) <;> simp )
@[simp] theorem State.stopNote_memsWf (s : State) (cause die : Nat) :
    (State.stopNote s cause die).memsWf = s.memsWf := by
  simp [State.stopNote]
@[simp] theorem State.stopReached_memsWf (s : State) (h : s.memsWf = true) :
    (State.stopReached s).memsWf = true := by
  unfold State.stopReached
  dsimp only
  (repeat' split) <;> first | assumption | simp (maxDischargeDepth := 8) [h]
@[simp] theorem State.enterD1_memsWf (s : State) :
    (State.enterD1 s).memsWf = s.memsWf := by
  simp [State.enterD1]
@[simp] theorem State.afterCommit_memsWf (s : State) (h : s.memsWf = true) :
    (State.afterCommit s).memsWf = true := by
  simp (maxDischargeDepth := 8) [State.afterCommit, h]
@[simp] theorem State.stopBegin_memsWf (s : State) (cause die : Nat) (h : s.memsWf = true) :
    (State.stopBegin s cause die).memsWf = true := by
  simp (maxDischargeDepth := 8) [State.stopBegin, h]
@[simp] theorem State.boundaryAbort_memsWf (s : State) (h : s.memsWf = true) :
    (State.boundaryAbort s).memsWf = true := by
  unfold State.boundaryAbort
  exact foldl_keeps _ (fun t c ht => by simp [ht]) _ h
@[simp] theorem State.overrun_memsWf (s : State) :
    (State.overrun s).memsWf = s.memsWf := by
  simp [State.overrun]
@[simp] theorem State.noteSent_memsWf (s : State) (id : Dword) (body : List Byte) :
    (State.noteSent s id body).memsWf = s.memsWf := by
  simp [State.noteSent]
@[simp] theorem State.commitSlot_memsWf (s : State) (r : Request) (h : s.memsWf = true) :
    (State.commitSlot s r).memsWf = true := by
  dsimp only [State.commitSlot]; (repeat' split) <;> simp (maxDischargeDepth := 8) [h]
@[simp] theorem State.admitNext_memsWf (s : State) (k : Nat) (h : s.memsWf = true) :
    (State.admitNext s k).memsWf = true := by
  dsimp only [State.admitNext]; (repeat' split) <;> simp (maxDischargeDepth := 8) [h]
@[simp] theorem State.writeTables_memsWf (s : State) (k : Nat) (h : s.memsWf = true) :
    (State.writeTables s k).memsWf = true := by
  simp (maxDischargeDepth := 8) [State.writeTables, h]
@[simp] theorem State.copyOut_memsWf (s : State) :
    (State.copyOut s).memsWf = s.memsWf := by
  unfold State.copyOut; generalize List.range 3 = R3; ((repeat' split) <;> simp )

/-! ## Clocks -/

@[simp] theorem State.modRegion_memsWf (s : State) (r : Nat) (f : Region → Region) :
    (State.modRegion s r f).memsWf = s.memsWf := by
  simp [State.modRegion]
@[simp] theorem State.refSwitch_memsWf (s : State) (i : Fin 2) :
    (State.refSwitch s i).memsWf = s.memsWf := by
  simp [State.refSwitch]
@[simp] theorem State.setRefCtl_memsWf (s : State) (v : Nat) :
    (State.setRefCtl s v).memsWf = s.memsWf := by
  simp [State.setRefCtl]
@[simp] theorem State.setClkSrc_memsWf (s : State) (r v : Nat) :
    (State.setClkSrc s r v).memsWf = s.memsWf := by
  simp [State.setClkSrc]
theorem goodEdge_taken {s s1 : State} (h : s1.memsWf = s.memsWf) (t : Dword) (c : Clock) :
    (({ s1 with timebase := t, clock := c } : State).irq .timebase 0 2).memsWf = s.memsWf := by
  rw [State.irq_memsWf]; exact h
theorem goodEdge_kept {s s1 : State} (h : s1.memsWf = s.memsWf) (e : Int) (c c2 : Clock) :
    (if !s.clock.aligned then { s1 with clock := c } else if 1000 < e.natAbs then ({ s1 with clock := c2 } : State).irq .timebase 0 4 else { s1 with clock := c2 }).memsWf =
      s.memsWf := by
  split
  · exact h
  · split
    · rw [State.irq_memsWf]; exact h
    · exact h
@[simp] theorem State.goodEdge_memsWf (s : State) : s.goodEdge.memsWf = s.memsWf := by
  unfold State.goodEdge
  extract_lets e s1
  have h1 : s1.memsWf = s.memsWf := by simp [s1]
  clear_value s1 e
  cases s.clock.armed with
  | some n => exact goodEdge_taken h1 _ _
  | none => exact goodEdge_kept h1 e _ _
@[simp] theorem State.armSec_memsWf (t : State) (n : Dword) :
    (State.armSec t n).memsWf = t.memsWf := by
  simp [State.armSec]

/-! ## Power -/

@[simp] theorem State.cmdRefused_memsWf (s : State) :
    (State.cmdRefused s).memsWf = s.memsWf := by
  simp [State.cmdRefused]
@[simp] theorem State.stateCmd_memsWf (s : State) (ini : Initiator) (ep : Byte) (f : State → State) (hf : ∀ t : State, t.memsWf = true → (f t).memsWf = true) (h : s.memsWf = true) : (s.stateCmd ini ep f).memsWf = true := by
  exact State.busDo_memsWf _ _ _ _ _ (hf _ h) h
@[simp] theorem State.cmdD0_memsWf (t : State) (ini : Initiator) :
    (State.cmdD0 t ini).memsWf = t.memsWf := by
  simp [State.cmdD0]
@[simp] theorem State.cmdD1_memsWf (t : State) (ini : Initiator) :
    (State.cmdD1 t ini).memsWf = t.memsWf := by
  simp [State.cmdD1]
@[simp] theorem State.groupsUp_memsWf (s : State) :
    (State.groupsUp s).memsWf = s.memsWf := by
  unfold State.groupsUp; generalize List.range 1158 = R1158; ((repeat' split) <;> simp )
@[simp] theorem State.enterD2_memsWf (s : State) (h : s.memsWf = true) :
    (State.enterD2 s).memsWf = true := by
  simp (maxDischargeDepth := 8) [State.enterD2, h]
@[simp] theorem State.cmdD2_memsWf (t : State) (h : t.memsWf = true) :
    (State.cmdD2 t).memsWf = true := by
  simp (maxDischargeDepth := 8) [State.cmdD2, h]
@[simp] theorem State.cmdD3_memsWf (t : State) (h : t.memsWf = true) :
    (State.cmdD3 t).memsWf = true := by
  simp (maxDischargeDepth := 8) [State.cmdD3, h]
@[simp] theorem State.regionsUp_memsWf (s : State) :
    (State.regionsUp s).memsWf = s.memsWf := by
  unfold State.regionsUp
  generalize List.range 160 = R
  exact foldl_memsWf _ (fun t r => by split <;> simp) _ _
@[simp] theorem State.woken_memsWf (s : State) (c : Nat) :
    (State.woken s c).memsWf = s.memsWf := by
  simp [State.woken]
@[simp] theorem State.d2Up_memsWf (s : State) (i : Fin 2) :
    (State.d2Up s i).memsWf = s.memsWf := by
  unfold State.d2Up; generalize List.range 6 = R6; ((repeat' split) <;> simp )
@[simp] theorem State.d2Restart_memsWf (s : State) (h : s.memsWf = true) :
    (State.d2Restart s).memsWf = true := by
  unfold State.d2Restart
  split <;> simp [h]
@[simp] theorem State.trimStep_memsWf (s : State) :
    (State.trimStep s).memsWf = s.memsWf := by
  simp [State.trimStep]
@[simp] theorem State.trimStart_memsWf (s : State) :
    (State.trimStart s).memsWf = s.memsWf := by
  simp [State.trimStart]
@[simp] theorem State.setInhibit_memsWf (s : State) (v : Nat) :
    (State.setInhibit s v).memsWf = s.memsWf := by
  simp [State.setInhibit]
@[simp] theorem State.wearCheck_memsWf (s : State) :
    (State.wearCheck s).memsWf = s.memsWf := by
  simp [State.wearCheck]

/-! ## Heat -/

@[simp] theorem State.setDiode_memsWf (s : State) (c : Nat) (d : Diode) :
    (State.setDiode s c d).memsWf = s.memsWf := by
  simp [State.setDiode]
@[simp] theorem State.noteDiode_memsWf (s : State) (c : Nat) :
    (State.noteDiode s c).memsWf = s.memsWf := by
  simp [State.noteDiode]
@[simp] theorem State.judge_memsWf (s : State) (c : Nat) :
    (State.judge s c).memsWf = s.memsWf := by
  simp [State.judge]
@[simp] theorem State.keeperCool_memsWf (s : State) (c : Nat) :
    (State.keeperCool s c).memsWf = s.memsWf := by
  dsimp only [State.keeperCool]; (repeat' split) <;> simp 
@[simp] theorem State.tripDevice_memsWf (s : State) (c : Nat) (predicted : Bool) (h : s.memsWf = true) :
    (State.tripDevice s c predicted).memsWf = true := by
  simp (maxDischargeDepth := 8) [State.tripDevice, h]
@[simp] theorem State.calCmd_memsWf (t : State) (v : Nat) :
    (State.calCmd t v).memsWf = t.memsWf := by
  simp [State.calCmd]
@[simp] theorem State.planRegion_memsWf (s : State) (r slow : Nat) :
    (State.planRegion s r slow).memsWf = s.memsWf := by
  unfold State.planRegion
  extract_lets o v s1
  split <;> simp [s1]
@[simp] theorem State.noteAge_memsWf (s : State) (m : AgeFigures) :
    (State.noteAge s m).memsWf = s.memsWf := by
  simp [State.noteAge]

/-! ## Keepers -/

@[simp] theorem State.modKeeper_memsWf (s : State) (k : Nat) (f : Keeper → Keeper) :
    (State.modKeeper s k f).memsWf = s.memsWf := by
  simp [State.modKeeper]
@[simp] theorem State.setRole_memsWf (s : State) (k : Nat) (r : Role) :
    (State.setRole s k r).memsWf = s.memsWf := by
  simp [State.setRole]
@[simp] theorem State.keeperFail_memsWf (s : State) (k : Nat) :
    (State.keeperFail s k).memsWf = s.memsWf := by
  simp [State.keeperFail]
@[simp] theorem State.assignRoles_memsWf (s : State) (a : Fin 3) (h : s.memsWf = true) : (State.assignRoles s a).memsWf = true := by
  unfold State.assignRoles
  generalize List.range 3 = R3
  simp [h]
@[simp] theorem State.enterRecovery_memsWf (s : State) :
    (State.enterRecovery s).memsWf = s.memsWf := by
  simp [State.enterRecovery]
@[simp] theorem State.sendRstat_memsWf (s : State) (to_ : Peer) :
    (State.sendRstat s to_).memsWf = s.memsWf := by
  simp [State.sendRstat]
@[simp] theorem State.dissent_memsWf (s : State) (v : Nat) :
    (State.dissent s v).memsWf = s.memsWf := by
  simp [State.dissent]
@[simp] theorem State.epochBump_memsWf (s : State) (d : Demotion) :
    (State.epochBump s d).memsWf = s.memsWf := by
  simp [State.epochBump]
@[simp] theorem State.setPromote_memsWf (s : State) (v : Nat) :
    (State.setPromote s v).memsWf = s.memsWf := by
  dsimp only [State.setPromote]; (repeat' split) <;> simp 

/-! ## RegRead -/

@[simp] theorem State.rcClear_memsWf (s : State) (t : PageType) (i off : Nat) :
    (State.rcClear s t i off).memsWf = s.memsWf := by
  simp [State.rcClear]
@[simp] theorem State.objNext_memsWf (s : State) :
    (State.objNext s).2.memsWf = s.memsWf := by
  dsimp only [State.objNext]; (repeat' split) <;> simp 
@[simp] theorem State.lookPair_memsWf (s : State) (t : PageType) (i off : Nat) : (State.lookPair s t i off).2.memsWf = s.memsWf := by
  dsimp only [State.lookPair]; split <;> simp
@[simp] theorem State.readReg_memsWf (s : State) (ini : Initiator) (t : PageType) (i off : Nat) :
    (State.readReg s ini t i off).2.memsWf = s.memsWf := by
  dsimp only [State.readReg]; (repeat' split) <;> simp 
@[simp] theorem State.busRead_memsWf (s : State) (ini : Initiator) (a : Nat) :
    (State.busRead s ini a).2.2.memsWf = s.memsWf := by
  dsimp only [State.busRead]; (repeat' split) <;> simp 
@[simp] theorem State.fmgmtAnswer_memsWf (s : State) (src tag a code data : Nat) :
    (State.fmgmtAnswer s src tag a code data).memsWf = s.memsWf := by
  simp [State.fmgmtAnswer]
@[simp] theorem State.spineRead_memsWf (s : State) (ini : Initiator) (a : Nat) (via : Option (Nat × Nat)) :
    (State.spineRead s ini a via).memsWf = s.memsWf := by
  dsimp only [State.spineRead]; (repeat' split) <;> simp 
@[simp] theorem State.answerLate_memsWf (s : State) :
    (State.answerLate s).memsWf = s.memsWf := by
  simp [State.answerLate]
@[simp] theorem State.queueIbi_memsWf (s : State) (p : Nat) (w : Word) :
    (State.queueIbi s p w).memsWf = s.memsWf := by
  simp [State.queueIbi]
@[simp] theorem State.sendIrq_memsWf (s : State) (t : PageType) (i : Nat) :
    (State.sendIrq s t i).memsWf = s.memsWf := by
  simp [State.sendIrq]

/-! ## Report -/

@[simp] theorem State.readAll_memsWf (s : State) (t : PageType) (off : Nat) :
    (State.readAll s t off).2.memsWf = s.memsWf := by
  simp [State.readAll]
@[simp] theorem State.readTotals_memsWf (s : State) :
    (State.readTotals s).2.memsWf = s.memsWf := by
  simp [State.readTotals]
@[simp] theorem State.formHealth_memsWf (s : State) :
    (State.formHealth s).memsWf = s.memsWf := by
  unfold State.formHealth
  generalize List.range 32 = R
  extract_lets x
  have hx : x.2.memsWf = s.memsWf := by simp [x]
  clear_value x
  rw [State.memsWf_mk, State.memsWf_fold, State.memsWf_mk, State.memsWf_fold, hx]

/-! ## Folio -/

@[simp] theorem State.objRefuse_memsWf (s : State) (code sec reason : Nat) :
    (State.objRefuse s code sec reason).memsWf = s.memsWf := by
  simp [State.objRefuse]
@[simp] theorem State.objAccept_memsWf (s : State) :
    (State.objAccept s).memsWf = s.memsWf := by
  simp [State.objAccept]
@[simp] theorem State.objBegin_memsWf (s : State) (ini : Initiator) (kind : Nat) :
    (State.objBegin s ini kind).memsWf = s.memsWf := by
  simp [State.objBegin]
@[simp] theorem State.objData_memsWf (s : State) (ini : Initiator) (v : Word) :
    (State.objData s ini v).memsWf = s.memsWf := by
  simp [State.objData]
@[simp] theorem State.objAbort_memsWf (s : State) (ini : Initiator) :
    (State.objAbort s ini).memsWf = s.memsWf := by
  simp [State.objAbort]
@[simp] theorem State.takeImage_memsWf (s : State) (o : List Word) :
    (State.takeImage s o).memsWf = s.memsWf := by
  simp [State.takeImage]
@[simp] theorem State.takeFolio_memsWf (s : State) (o : List Word) (h : s.memsWf = true) : (State.takeFolio s o).memsWf = true := by
  unfold State.takeFolio
  extract_lets v s1
  have h1 : s1.memsWf = true := (State.amend_memsWf ..).trans (by rw [State.memsWf_mk]; simp [h])
  clear_value s1
  split <;> simp [h1]
@[simp] theorem State.takeManifest_memsWf (s : State) (o : List Word) (h : s.memsWf = true) :
    (State.takeManifest s o).memsWf = true := by
  simp (maxDischargeDepth := 8) [State.takeManifest, h]
@[simp] theorem State.takeEnrolment_memsWf (s : State) (o : List Word) :
    (State.takeEnrolment s o).memsWf = s.memsWf := by
  simp [State.takeEnrolment]
@[simp] theorem State.takeObject_memsWf (s : State) (kind : Nat) (o : List Word) (h : s.memsWf = true) :
    (State.takeObject s kind o).memsWf = true := by
  dsimp only [State.takeObject]; (repeat' split) <;> simp (maxDischargeDepth := 8) [h]
@[simp] theorem State.prepare_memsWf (s : State) (ini : Initiator) (kind : Nat) (o : List Word) :
    (State.prepare s ini kind o).memsWf = s.memsWf := by
  simp [State.prepare]
@[simp] theorem State.objCommit_memsWf (s : State) (ini : Initiator) (h : s.memsWf = true) :
    (State.objCommit s ini).memsWf = true := by
  dsimp only [State.objCommit]; (repeat' split) <;> simp (maxDischargeDepth := 8) [h]
@[simp] theorem State.objCmd_memsWf (s : State) (ini : Initiator) (v : Nat) (h : s.memsWf = true) :
    (State.objCmd s ini v).memsWf = true := by
  dsimp only [State.objCmd]; (repeat' split) <;> simp (maxDischargeDepth := 8) [h]
@[simp] theorem State.askFoldBack_memsWf (s : State) :
    (State.askFoldBack s).memsWf = s.memsWf := by
  simp [State.askFoldBack]
@[simp] theorem State.askUnload_memsWf (s : State) (h : s.memsWf = true) :
    (State.askUnload s).memsWf = true := by
  simp (maxDischargeDepth := 8) [State.askUnload, h]
@[simp] theorem State.askReset_memsWf (s : State) (h : s.memsWf = true) :
    (State.askReset s).memsWf = true := by
  simp (maxDischargeDepth := 8) [State.askReset, h]
@[simp] theorem State.folioCmd_memsWf (s : State) (v : Nat) (h : s.memsWf = true) :
    (State.folioCmd s v).memsWf = true := by
  simp (maxDischargeDepth := 8) [State.folioCmd, h]

/-! ## Registers -/

@[simp] theorem State.ctxCmd_memsWf (s : State) (core v : Nat) (h : s.memsWf = true) :
    (State.ctxCmd s core v).memsWf = true := by
  simp (maxDischargeDepth := 8) [State.ctxCmd, h]
@[simp] theorem State.groupCmd_memsWf (s : State) (home v : Nat) :
    (State.groupCmd s home v).memsWf = s.memsWf := by
  dsimp only [State.groupCmd]; (repeat' split) <;> simp 
@[simp] theorem State.portCmd_memsWf (s : State) (p v : Nat) :
    (State.portCmd s p v).memsWf = s.memsWf := by
  dsimp only [State.portCmd]; (repeat' split) <;> simp 
@[simp] theorem State.stateCmdWord_memsWf (s : State) (ini : Initiator) (v : Nat) (h : s.memsWf = true) :
    (State.stateCmdWord s ini v).memsWf = true := by
  dsimp only [State.stateCmdWord]; (repeat' split) <;> simp (maxDischargeDepth := 8) [h]
@[simp] theorem State.softClear_memsWf (s : State) (t : PageType) (i : Nat) :
    (State.softClear s t i).memsWf = s.memsWf := by
  simp [State.softClear]
@[simp] theorem State.stopCtx_memsWf (s : State) (core : Nat) (x : Ctx) :
    (State.stopCtx s core x).memsWf = s.memsWf := by
  simp [State.stopCtx]
@[simp] theorem State.resetAction_memsWf (s : State) (t : PageType) (i : Nat) :
    (State.resetAction s t i).memsWf = s.memsWf := by
  dsimp only [State.resetAction]; (repeat' split) <;> simp 
@[simp] theorem State.softResetPage_memsWf (s : State) (t : PageType) (i : Nat) :
    (State.softResetPage s t i).memsWf = s.memsWf := by
  simp [State.softResetPage]
@[simp] theorem State.forceIrq_memsWf (s : State) (t : PageType) (i v : Nat) :
    (State.forceIrq s t i v).memsWf = s.memsWf := by
  simp [State.forceIrq]
@[simp] theorem State.unlockBy_memsWf (s : State) (ini : Initiator) (t : PageType) (i : Nat) :
    (State.unlockBy s ini t i).memsWf = s.memsWf := by
  simp [State.unlockBy]
@[simp] theorem State.pageCtl_memsWf (s : State) (ini : Initiator) (t : PageType) (i v : Nat) :
    (State.pageCtl s ini t i v).memsWf = s.memsWf := by
  simp [State.pageCtl]
@[simp] theorem State.writeHeader_memsWf (s : State) (ini : Initiator) (t : PageType) (i off v : Nat) :
    (State.writeHeader s ini t i off v).memsWf = s.memsWf := by
  dsimp only [State.writeHeader]; (repeat' split) <;> simp 
@[simp] theorem State.noteWrite_memsWf (s : State) (ini : Initiator) (a v : Nat) :
    (State.noteWrite s ini a v).memsWf = s.memsWf := by
  rfl
@[simp] theorem State.storeRanked_memsWf (s : State) (ini : Initiator) (t : PageType) (i off v : Nat) :
    (State.storeRanked s ini t i off v).memsWf = s.memsWf := by
  simp [State.storeRanked]
@[simp] theorem State.write64_memsWf (s : State) (t : PageType) (i off v : Nat) :
    (State.write64 s t i off v).memsWf = s.memsWf := by
  dsimp only [State.write64]; (repeat' split) <;> simp 
@[simp] theorem State.write32_memsWf (s : State) (ini : Initiator) (t : PageType) (i off v : Nat) (h : s.memsWf = true) :
    (State.write32 s ini t i off v).memsWf = true := by
  dsimp only [State.write32]; (repeat' split) <;> simp (maxDischargeDepth := 8) [h]
@[simp] theorem State.writeReg_memsWf (s : State) (ini : Initiator) (t : PageType) (i off v : Nat) (h : s.memsWf = true) :
    (State.writeReg s ini t i off v).memsWf = true := by
  simp (maxDischargeDepth := 8) [State.writeReg, h]
@[simp] theorem State.writeAt_memsWf (s : State) (ini : Initiator) (ep : Byte) (a v : Nat) (h : s.memsWf = true) :
    (State.writeAt s ini ep a v).2.memsWf = true := by
  unfold State.writeAt
  dsimp only
  split
  · simp [h]
  · exact State.busWrite_memsWf _ _ _ _ (fun t i => by simp [h]) h
@[simp] theorem State.pageWrite_memsWf (s : State) (ini : Initiator) (ep : Byte) (page : BitVec 16) (off v : Nat) (h : s.memsWf = true) :
    (State.pageWrite s ini ep page off v).memsWf = true := by
  simp (maxDischargeDepth := 8) [State.pageWrite, h]
@[simp] theorem State.i3cWords_memsWf (s : State) (a : Nat) (y0 : List Word) (h : s.memsWf = true) :
    (State.i3cWords s a y0).2.memsWf = true := by
  induction y0 generalizing s a with
  | nil => exact h
  | cons y ys ih =>
    simp only [State.i3cWords]; (repeat' split) <;> simp [ih, h]
@[simp] theorem State.i3cRead_memsWf (s : State) (ws : Nat) (y0 : Nat) :
    (State.i3cRead s ws y0).2.memsWf = s.memsWf := by
  induction y0 generalizing s ws with
  | zero => rfl
  | succ n ih =>
    simp only [State.i3cRead]; (repeat' split) <;> simp [ih]

/-! ## Tick -/

@[simp] theorem State.tick_memsWf (s : State) (h : s.memsWf = true) : (State.tick s).memsWf = true := by
  unfold State.tick
  extract_lets d
  refine State.bootCheck_memsWf _ ?_
  rw [State.memsWf_mk]; simp [h]

end Sys2Proof.Machine
end

