-- ==== Sys2Proof/Laws/Meanings.lean ====
section
/-!
SUPPORT. Sys2Proof/Laws/Meanings.lean: each command's meaning keeps the canonical form of the protected memories.
-/
namespace Sys2Proof.Machine
/-- The memories' form in what an outcome leaves. -/
def outcomeWf (o : Host.Outcome State Fault Refusal) : Bool :=
  match o with
  | .next t => t.memsWf
  | _ => true
@[simp] theorem outcomeWf_next (t : State) : outcomeWf (.next t) = t.memsWf := rfl
@[simp] theorem outcomeWf_ite (c : Prop) [Decidable c] (x y : Host.Outcome State Fault Refusal) :
    outcomeWf (if c then x else y) = if c then outcomeWf x else outcomeWf y := apply_ite _ _ _ _

/-! ## Sequencer -/

theorem execBundleIssue_keeps (core : Fin 2000) (x : Ctx) (s : State) (h : s.memsWf = true) :
    outcomeWf (execBundleIssue core x s) = true := by
  dsimp only [execBundleIssue]; (repeat' split) <;> simp (maxDischargeDepth := 8) [h]
theorem offerSq_keeps (core : Fin 2000) (x : Ctx) (op : SqOp) (s : State) (h : s.memsWf = true) :
    outcomeWf (offerSq core x op s) = true := by
  simp (maxDischargeDepth := 8) [offerSq, h]
theorem execNop_keeps (core : Fin 2000) (x : Ctx) (slot : BundleSlot) (low : BitVec 56) (s : State) (h : s.memsWf = true) :
    outcomeWf (execNop core x slot low s) = true := by
  dsimp only [execNop]; (repeat' split) <;> simp (maxDischargeDepth := 8) [h]
theorem execEndCmd_keeps (core : Fin 2000) (x : Ctx) (s : State) (h : s.memsWf = true) :
    outcomeWf (execEndCmd core x s) = true := (State.offer_memsWf ..).trans h
theorem execFence_keeps (core : Fin 2000) (x : Ctx) (s : State) (h : s.memsWf = true) :
    outcomeWf (execFence core x s) = true := (State.offer_memsWf ..).trans h
theorem execWait_keeps (core : Fin 2000) (x : Ctx) (ra : Fin 16) (ctr : Fin 32) (s : State) (h : s.memsWf = true) :
    outcomeWf (execWait core x ra ctr s) = true := (State.offer_memsWf ..).trans h
theorem execSig_keeps (core : Fin 2000) (x : Ctx) (ctr : Fin 32) (s : State) (h : s.memsWf = true) :
    outcomeWf (execSig core x ctr s) = true := (State.offer_memsWf ..).trans h
theorem execRdctr_keeps (core : Fin 2000) (x : Ctx) (rd : Fin 16) (ctr : Fin 32) (s : State) (h : s.memsWf = true) :
    outcomeWf (execRdctr core x rd ctr s) = true := (State.offer_memsWf ..).trans h
theorem execCwait_keeps (core : Fin 2000) (x : Ctx) (n : Word) (s : State) (h : s.memsWf = true) :
    outcomeWf (execCwait core x n s) = true := (State.offer_memsWf ..).trans h
theorem execTwait_keeps (core : Fin 2000) (x : Ctx) (ra : Fin 16) (s : State) (h : s.memsWf = true) :
    outcomeWf (execTwait core x ra s) = true := (State.offer_memsWf ..).trans h
theorem execRdtb_keeps (core : Fin 2000) (x : Ctx) (rd : Fin 16) (s : State) (h : s.memsWf = true) :
    outcomeWf (execRdtb core x rd s) = true := (State.offer_memsWf ..).trans h
theorem execLdi_keeps (core : Fin 2000) (x : Ctx) (rd : Fin 16) (imm : BitVec 48) (s : State) (h : s.memsWf = true) :
    outcomeWf (execLdi core x rd imm s) = true := (State.offer_memsWf ..).trans h
theorem execAddi_keeps (core : Fin 2000) (x : Ctx) (rd ra : Fin 16) (imm : BitVec 48) (s : State) (h : s.memsWf = true) :
    outcomeWf (execAddi core x rd ra imm s) = true := (State.offer_memsWf ..).trans h
theorem execAdd_keeps (core : Fin 2000) (x : Ctx) (rd ra rb : Fin 16) (s : State) (h : s.memsWf = true) :
    outcomeWf (execAdd core x rd ra rb s) = true := (State.offer_memsWf ..).trans h
theorem execSub_keeps (core : Fin 2000) (x : Ctx) (rd ra rb : Fin 16) (s : State) (h : s.memsWf = true) :
    outcomeWf (execSub core x rd ra rb s) = true := (State.offer_memsWf ..).trans h
theorem execAnd_keeps (core : Fin 2000) (x : Ctx) (rd ra rb : Fin 16) (s : State) (h : s.memsWf = true) :
    outcomeWf (execAnd core x rd ra rb s) = true := (State.offer_memsWf ..).trans h
theorem execOr_keeps (core : Fin 2000) (x : Ctx) (rd ra rb : Fin 16) (s : State) (h : s.memsWf = true) :
    outcomeWf (execOr core x rd ra rb s) = true := (State.offer_memsWf ..).trans h
theorem execXor_keeps (core : Fin 2000) (x : Ctx) (rd ra rb : Fin 16) (s : State) (h : s.memsWf = true) :
    outcomeWf (execXor core x rd ra rb s) = true := (State.offer_memsWf ..).trans h
theorem execShl_keeps (core : Fin 2000) (x : Ctx) (rd ra rb : Fin 16) (s : State) (h : s.memsWf = true) :
    outcomeWf (execShl core x rd ra rb s) = true := (State.offer_memsWf ..).trans h
theorem execShr_keeps (core : Fin 2000) (x : Ctx) (rd ra rb : Fin 16) (s : State) (h : s.memsWf = true) :
    outcomeWf (execShr core x rd ra rb s) = true := (State.offer_memsWf ..).trans h
theorem execMul_keeps (core : Fin 2000) (x : Ctx) (rd ra rb : Fin 16) (s : State) (h : s.memsWf = true) :
    outcomeWf (execMul core x rd ra rb s) = true := (State.offer_memsWf ..).trans h
theorem execJmp_keeps (core : Fin 2000) (x : Ctx) (target : BitVec 12) (s : State) (h : s.memsWf = true) :
    outcomeWf (execJmp core x target s) = true := (State.offer_memsWf ..).trans h
theorem execBr_keeps (core : Fin 2000) (x : Ctx) (ra rb : Fin 16) (cond : BitVec 4) (target : BitVec 12) (s : State) (h : s.memsWf = true) :
    outcomeWf (execBr core x ra rb cond target s) = true := (State.offer_memsWf ..).trans h
theorem execDbnz_keeps (core : Fin 2000) (x : Ctx) (ra : Fin 16) (target : BitVec 12) (s : State) (h : s.memsWf = true) :
    outcomeWf (execDbnz core x ra target s) = true := (State.offer_memsWf ..).trans h
theorem execHld_keeps (core : Fin 2000) (x : Ctx) (rd ra : Fin 16) (size : Bool) (s : State) (h : s.memsWf = true) :
    outcomeWf (execHld core x rd ra size s) = true := (State.offer_memsWf ..).trans h
theorem execHst_keeps (core : Fin 2000) (x : Ctx) (rs ra : Fin 16) (size : Bool) (s : State) (h : s.memsWf = true) :
    outcomeWf (execHst core x rs ra size s) = true := (State.offer_memsWf ..).trans h
theorem execHatAdd_keeps (core : Fin 2000) (x : Ctx) (rd ra rb : Fin 16) (size : Bool) (s : State) (h : s.memsWf = true) :
    outcomeWf (execHatAdd core x rd ra rb size s) = true := (State.offer_memsWf ..).trans h
theorem execHatMin_keeps (core : Fin 2000) (x : Ctx) (rd ra rb : Fin 16) (size : Bool) (s : State) (h : s.memsWf = true) :
    outcomeWf (execHatMin core x rd ra rb size s) = true := (State.offer_memsWf ..).trans h
theorem execHatMax_keeps (core : Fin 2000) (x : Ctx) (rd ra rb : Fin 16) (size : Bool) (s : State) (h : s.memsWf = true) :
    outcomeWf (execHatMax core x rd ra rb size s) = true := (State.offer_memsWf ..).trans h
theorem execHatSwap_keeps (core : Fin 2000) (x : Ctx) (rd ra rb : Fin 16) (size : Bool) (s : State) (h : s.memsWf = true) :
    outcomeWf (execHatSwap core x rd ra rb size s) = true := (State.offer_memsWf ..).trans h
theorem execHatCas_keeps (core : Fin 2000) (x : Ctx) (rd ra rb : Fin 16) (size : Bool) (s : State) (h : s.memsWf = true) :
    outcomeWf (execHatCas core x rd ra rb size s) = true := (State.offer_memsWf ..).trans h
theorem execHatFadd_keeps (core : Fin 2000) (x : Ctx) (rd ra rb : Fin 16) (size : Bool) (s : State) (h : s.memsWf = true) :
    outcomeWf (execHatFadd core x rd ra rb size s) = true := (State.offer_memsWf ..).trans h
theorem execXpost_keeps (core : Fin 2000) (x : Ctx) (ra : Fin 16) (s : State) (h : s.memsWf = true) :
    outcomeWf (execXpost core x ra s) = true := (State.offer_memsWf ..).trans h
theorem execKinc_keeps (core : Fin 2000) (x : Ctx) (kettle : BitVec 8) (s : State) (h : s.memsWf = true) :
    outcomeWf (execKinc core x kettle s) = true := (State.offer_memsWf ..).trans h

/-! ## Matrix -/

theorem execMcfg_keeps (core : Fin 2000) (x : Ctx) (s : State) (h : s.memsWf = true) :
    outcomeWf (execMcfg core x s) = true := State.startEngine_memsWf _ _ _ _ (fun t q ht => by simp [ht]) h
theorem execMlcb_keeps (core : Fin 2000) (x : Ctx) (s : State) (h : s.memsWf = true) :
    outcomeWf (execMlcb core x s) = true := State.startEngine_memsWf _ _ _ _ (fun t q ht => by simp [ht]) h
theorem execMma_keeps (core : Fin 2000) (x : Ctx) (s : State) (h : s.memsWf = true) :
    outcomeWf (execMma core x s) = true := State.startEngine_memsWf _ _ _ _ (fun t q ht => by simp [ht]) h
theorem execMst_keeps (core : Fin 2000) (x : Ctx) (s : State) (h : s.memsWf = true) :
    outcomeWf (execMst core x s) = true := State.startEngine_memsWf _ _ _ _ (fun t q ht => by simp [ht]) h
theorem execMld_keeps (core : Fin 2000) (x : Ctx) (s : State) (h : s.memsWf = true) :
    outcomeWf (execMld core x s) = true := State.startEngine_memsWf _ _ _ _ (fun t q ht => by simp [ht]) h

/-! ## Vector -/

theorem execVadd_keeps (core : Fin 2000) (x : Ctx) (s : State) (h : s.memsWf = true) :
    outcomeWf (execVadd core x s) = true := State.startEngine_memsWf _ _ _ _ (fun t q ht => by simp [ht]) h
theorem execVsub_keeps (core : Fin 2000) (x : Ctx) (s : State) (h : s.memsWf = true) :
    outcomeWf (execVsub core x s) = true := State.startEngine_memsWf _ _ _ _ (fun t q ht => by simp [ht]) h
theorem execVmul_keeps (core : Fin 2000) (x : Ctx) (s : State) (h : s.memsWf = true) :
    outcomeWf (execVmul core x s) = true := State.startEngine_memsWf _ _ _ _ (fun t q ht => by simp [ht]) h
theorem execVmax_keeps (core : Fin 2000) (x : Ctx) (s : State) (h : s.memsWf = true) :
    outcomeWf (execVmax core x s) = true := State.startEngine_memsWf _ _ _ _ (fun t q ht => by simp [ht]) h
theorem execVmin_keeps (core : Fin 2000) (x : Ctx) (s : State) (h : s.memsWf = true) :
    outcomeWf (execVmin core x s) = true := State.startEngine_memsWf _ _ _ _ (fun t q ht => by simp [ht]) h
theorem execVfma_keeps (core : Fin 2000) (x : Ctx) (s : State) (h : s.memsWf = true) :
    outcomeWf (execVfma core x s) = true := State.startEngine_memsWf _ _ _ _ (fun t q ht => by simp [ht]) h
theorem execVsmul_keeps (core : Fin 2000) (x : Ctx) (s : State) (h : s.memsWf = true) :
    outcomeWf (execVsmul core x s) = true := State.startEngine_memsWf _ _ _ _ (fun t q ht => by simp [ht]) h
theorem execVsadd_keeps (core : Fin 2000) (x : Ctx) (s : State) (h : s.memsWf = true) :
    outcomeWf (execVsadd core x s) = true := State.startEngine_memsWf _ _ _ _ (fun t q ht => by simp [ht]) h
theorem execVexp2_keeps (core : Fin 2000) (x : Ctx) (s : State) (h : s.memsWf = true) :
    outcomeWf (execVexp2 core x s) = true := State.startEngine_memsWf _ _ _ _ (fun t q ht => by simp [ht]) h
theorem execVlog2_keeps (core : Fin 2000) (x : Ctx) (s : State) (h : s.memsWf = true) :
    outcomeWf (execVlog2 core x s) = true := State.startEngine_memsWf _ _ _ _ (fun t q ht => by simp [ht]) h
theorem execVrcp_keeps (core : Fin 2000) (x : Ctx) (s : State) (h : s.memsWf = true) :
    outcomeWf (execVrcp core x s) = true := State.startEngine_memsWf _ _ _ _ (fun t q ht => by simp [ht]) h
theorem execVrsqrt_keeps (core : Fin 2000) (x : Ctx) (s : State) (h : s.memsWf = true) :
    outcomeWf (execVrsqrt core x s) = true := State.startEngine_memsWf _ _ _ _ (fun t q ht => by simp [ht]) h
theorem execVabs_keeps (core : Fin 2000) (x : Ctx) (s : State) (h : s.memsWf = true) :
    outcomeWf (execVabs core x s) = true := State.startEngine_memsWf _ _ _ _ (fun t q ht => by simp [ht]) h
theorem execVneg_keeps (core : Fin 2000) (x : Ctx) (s : State) (h : s.memsWf = true) :
    outcomeWf (execVneg core x s) = true := State.startEngine_memsWf _ _ _ _ (fun t q ht => by simp [ht]) h
theorem execVmov_keeps (core : Fin 2000) (x : Ctx) (s : State) (h : s.memsWf = true) :
    outcomeWf (execVmov core x s) = true := State.startEngine_memsWf _ _ _ _ (fun t q ht => by simp [ht]) h
theorem execVcvt_keeps (core : Fin 2000) (x : Ctx) (s : State) (h : s.memsWf = true) :
    outcomeWf (execVcvt core x s) = true := State.startEngine_memsWf _ _ _ _ (fun t q ht => by simp [ht]) h
theorem execVrsum_keeps (core : Fin 2000) (x : Ctx) (s : State) (h : s.memsWf = true) :
    outcomeWf (execVrsum core x s) = true := State.startEngine_memsWf _ _ _ _ (fun t q ht => by simp [ht]) h
theorem execVrmax_keeps (core : Fin 2000) (x : Ctx) (s : State) (h : s.memsWf = true) :
    outcomeWf (execVrmax core x s) = true := State.startEngine_memsWf _ _ _ _ (fun t q ht => by simp [ht]) h
theorem execVtopk_keeps (core : Fin 2000) (x : Ctx) (s : State) (h : s.memsWf = true) :
    outcomeWf (execVtopk core x s) = true := State.startEngine_memsWf _ _ _ _ (fun t q ht => by simp [ht]) h
theorem execVsamp_keeps (core : Fin 2000) (x : Ctx) (s : State) (h : s.memsWf = true) :
    outcomeWf (execVsamp core x s) = true := State.startEngine_memsWf _ _ _ _ (fun t q ht => by simp [ht]) h
theorem execVrng_keeps (core : Fin 2000) (x : Ctx) (s : State) (h : s.memsWf = true) :
    outcomeWf (execVrng core x s) = true := State.startEngine_memsWf _ _ _ _ (fun t q ht => by simp [ht]) h

/-! ## RowMover -/

theorem execRmld_keeps (core : Fin 2000) (x : Ctx) (s : State) (h : s.memsWf = true) :
    outcomeWf (execRmld core x s) = true := State.startEngine_memsWf _ _ _ _ (fun t q ht => by simp [ht]) h
theorem execRmst_keeps (core : Fin 2000) (x : Ctx) (s : State) (h : s.memsWf = true) :
    outcomeWf (execRmst core x s) = true := State.startEngine_memsWf _ _ _ _ (fun t q ht => by simp [ht]) h
theorem execRmx_keeps (core : Fin 2000) (x : Ctx) (s : State) (h : s.memsWf = true) :
    outcomeWf (execRmx core x s) = true := State.startEngine_memsWf _ _ _ _ (fun t q ht => by simp [ht]) h

/-! ## Xe -/

theorem execChainActivate_keeps (stack : Fin 40) (s : State) (h : s.memsWf = true) :
    outcomeWf (execChainActivate stack s) = true := by
  dsimp only [execChainActivate]; (repeat' split) <;> simp (maxDischargeDepth := 8) [h]
theorem execDescriptorFetched_keeps (stack : Fin 40) (place : Fin 16) (s : State) (h : s.memsWf = true) :
    outcomeWf (execDescriptorFetched stack place s) = true := by
  dsimp only [execDescriptorFetched]; (repeat' split) <;> simp (maxDischargeDepth := 8) [h]
theorem execPieceIssue_keeps (stack : Fin 40) (s : State) (h : s.memsWf = true) :
    outcomeWf (execPieceIssue stack s) = true := by
  dsimp only [execPieceIssue]; (repeat' split) <;> simp (maxDischargeDepth := 8) [h]
theorem execPieceComplete_keeps (stack : Fin 40) (tag : BitVec 16) (s : State) (h : s.memsWf = true) :
    outcomeWf (execPieceComplete stack tag s) = true := by
  dsimp only [execPieceComplete]; (repeat' split) <;> simp (maxDischargeDepth := 8) [h]
theorem execRecordWriteComplete_keeps (stack : Fin 40) (seq : Nat) (s : State) (h : s.memsWf = true) :
    outcomeWf (execRecordWriteComplete stack seq s) = true := by
  dsimp only [execRecordWriteComplete]; (repeat' split) <;> simp (maxDischargeDepth := 8) [h]

/-! ## CoreEvents -/

theorem execEngineCommandComplete_keeps (core : Fin 2000) (eng : Engine) (s : State) (h : s.memsWf = true) :
    outcomeWf (execEngineCommandComplete core eng s) = true := by
  dsimp only [execEngineCommandComplete]; (repeat' split) <;> simp (maxDischargeDepth := 8) [h]
theorem execWaitTmo_keeps (core : Fin 2000) (x : Ctx) (slot : BundleSlot) (s : State) (h : s.memsWf = true) :
    outcomeWf (execWaitTmo core x slot s) = true := by
  dsimp only [execWaitTmo]; (repeat' split) <;> simp (maxDischargeDepth := 8) [h]
theorem execDStart_keeps (ini : Initiator) (ep : Byte) (core : Fin 2000) (s : State) (h : s.memsWf = true) :
    outcomeWf (execDStart ini ep core s) = true := by
  unfold execDStart; refine State.busDo_memsWf _ _ _ _ _ ?_ h; simp (maxDischargeDepth := 8) [h]
theorem execPStart_keeps (ini : Initiator) (ep : Byte) (core : Fin 2000) (s : State) (h : s.memsWf = true) :
    outcomeWf (execPStart ini ep core s) = true := by
  unfold execPStart; refine State.busDo_memsWf _ _ _ _ _ ?_ h; simp (maxDischargeDepth := 8) [h]
theorem execDAbort_keeps (ini : Initiator) (ep : Byte) (core : Fin 2000) (s : State) (h : s.memsWf = true) :
    outcomeWf (execDAbort ini ep core s) = true := by
  unfold execDAbort; refine State.busDo_memsWf _ _ _ _ _ ?_ h; simp (maxDischargeDepth := 8) [h]
theorem execPPreempt_keeps (ini : Initiator) (ep : Byte) (core : Fin 2000) (s : State) (h : s.memsWf = true) :
    outcomeWf (execPPreempt ini ep core s) = true := by
  unfold execPPreempt; refine State.busDo_memsWf _ _ _ _ _ ?_ h; simp (maxDischargeDepth := 8) [h]
theorem execPResume_keeps (ini : Initiator) (ep : Byte) (core : Fin 2000) (s : State) (h : s.memsWf = true) :
    outcomeWf (execPResume ini ep core s) = true := by
  unfold execPResume; refine State.busDo_memsWf _ _ _ _ _ ?_ h; simp (maxDischargeDepth := 8) [h]
theorem execClearCtr_keeps (ini : Initiator) (ep : Byte) (core : Fin 2000) (s : State) (h : s.memsWf = true) :
    outcomeWf (execClearCtr ini ep core s) = true := by
  unfold execClearCtr; refine State.busDo_memsWf _ _ _ _ _ ?_ h; simp (maxDischargeDepth := 8) [h]
theorem execCtxBanksWrite_keeps (ini : Initiator) (ep : Byte) (core : Fin 2000) (d p : Byte) (s : State) (h : s.memsWf = true) :
    outcomeWf (execCtxBanksWrite ini ep core d p s) = true := by
  unfold execCtxBanksWrite; refine State.busDo_memsWf _ _ _ _ _ ?_ h; simp (maxDischargeDepth := 8) [h]
theorem execGRegisterWrite_keeps (ini : Initiator) (ep : Byte) (core : Fin 2000) (x : Ctx) (r : Fin 16) (v : Dword) (s : State) (h : s.memsWf = true) :
    outcomeWf (execGRegisterWrite ini ep core x r v s) = true := by
  unfold execGRegisterWrite; refine State.busDo_memsWf _ _ _ _ _ ?_ h; simp (maxDischargeDepth := 8) [h]

/-! ## RowPort -/

theorem execRowGrant_keeps (stack : Fin 40) (bank : Fin 32) (s : State) (h : s.memsWf = true) :
    outcomeWf (execRowGrant stack bank s) = true := by
  dsimp only [execRowGrant]; (repeat' split) <;> simp (maxDischargeDepth := 8) [h]
theorem execRowScrub_keeps (stack : Fin 40) (s : State) (h : s.memsWf = true) :
    outcomeWf (execRowScrub stack s) = true := by
  simp (maxDischargeDepth := 8) [execRowScrub, h]
theorem execSpareRowRemap_keeps (stack : Fin 40) (bank : Fin 32) (row : BitVec 16) (s : State) (h : s.memsWf = true) :
    outcomeWf (execSpareRowRemap stack bank row s) = true := by
  simp (maxDischargeDepth := 8) [execSpareRowRemap, h]
theorem execBondFailDeclare_keeps (stack : Fin 40) (kind : BondClass × Bool) (grp pos : Nat) (s : State) (h : s.memsWf = true) : outcomeWf (execBondFailDeclare stack kind grp pos s) = true := by
  simp (maxDischargeDepth := 8) [execBondFailDeclare, h]
theorem execBondRepair_keeps (stack : Fin 40) (kind : BondClass × Bool) (place : Nat × Nat) (s : State) (h : s.memsWf = true) : outcomeWf (execBondRepair stack kind place s) = true := by
  dsimp only [execBondRepair]; (repeat' split) <;> simp (maxDischargeDepth := 8) [h]
theorem execHalfRowEntry_keeps (stack : Fin 40) (s : State) (h : s.memsWf = true) :
    outcomeWf (execHalfRowEntry stack s) = true := by
  simp (maxDischargeDepth := 8) [execHalfRowEntry, h]
theorem execGovernorTick_keeps (stack : Fin 40) (s : State) (h : s.memsWf = true) :
    outcomeWf (execGovernorTick stack s) = true := by
  simp (maxDischargeDepth := 8) [execGovernorTick, h]
theorem execPowerSample_keeps (stack : Fin 40) (compute rowStore base : BitVec 10) (s : State) (h : s.memsWf = true) :
    outcomeWf (execPowerSample stack compute rowStore base s) = true := by
  simp (maxDischargeDepth := 8) [execPowerSample, h]
theorem execCapLimitWrite_keeps (ini : Initiator) (ep : Byte) (stack : Fin 40) (sus surge : Byte) (s : State) (h : s.memsWf = true) :
    outcomeWf (execCapLimitWrite ini ep stack sus surge s) = true := by
  unfold execCapLimitWrite; refine State.busDo_memsWf _ _ _ _ _ ?_ h; simp (maxDischargeDepth := 8) [h]
theorem execSurgeGrantWrite_keeps (ini : Initiator) (ep : Byte) (stack : Fin 40) (grant : Bool) (s : State) (h : s.memsWf = true) :
    outcomeWf (execSurgeGrantWrite ini ep stack grant s) = true := by
  unfold execSurgeGrantWrite; refine State.busDo_memsWf _ _ _ _ _ ?_ h; simp (maxDischargeDepth := 8) [h]

/-! ## Memory -/

theorem execMrd_keeps (src : Byte) (tag : BitVec 16) (grp : BitVec 5) (blk : BitVec 32) (first count : BitVec 4) (s : State) (h : s.memsWf = true) :
    outcomeWf (execMrd src tag grp blk first count s) = true := by
  simp (maxDischargeDepth := 8) [execMrd, h]
theorem execMwr_keeps (src : Byte) (tag : BitVec 16) (grp : BitVec 5) (blk : BitVec 32) (chunk : BitVec 5) (data : Payload) (s : State) (h : s.memsWf = true) :
    outcomeWf (execMwr src tag grp blk chunk data s) = true := by
  simp (maxDischargeDepth := 8) [execMwr, h]
theorem execMwrp_keeps (src : Byte) (tag : BitVec 16) (grp : BitVec 5) (addr : Dword) (len : BitVec 8) (data : BitVec 128) (s : State) (h : s.memsWf = true) :
    outcomeWf (execMwrp src tag grp addr len data s) = true := by
  simp (maxDischargeDepth := 8) [execMwrp, h]
theorem execMcas_keeps (src : Byte) (tag : BitVec 16) (addr expected new : Dword) (s : State) (h : s.memsWf = true) :
    outcomeWf (execMcas src tag addr expected new s) = true := by
  dsimp only [execMcas]; (repeat' split) <;> simp (maxDischargeDepth := 8) [h]
theorem execMemCommandIssue_keeps (chan : Fin 384) (s : State) (h : s.memsWf = true) :
    outcomeWf (execMemCommandIssue chan s) = true := by
  dsimp only [execMemCommandIssue]; (repeat' split) <;> simp (maxDischargeDepth := 8) [h]
theorem execMemScrub_keeps (chan : Fin 384) (s : State) (h : s.memsWf = true) :
    outcomeWf (execMemScrub chan s) = true := by
  simp (maxDischargeDepth := 8) [execMemScrub, h]
theorem execRefreshDue_keeps (chan : Fin 384) (bank : Fin 16) (s : State) (h : s.memsWf = true) :
    outcomeWf (execRefreshDue chan bank s) = true := by
  simp (maxDischargeDepth := 8) [execRefreshDue, h]
theorem execRefreshRateChange_keeps (chan : Fin 384) (rate : Fin 3) (s : State) (h : s.memsWf = true) :
    outcomeWf (execRefreshRateChange chan rate s) = true := by
  simp (maxDischargeDepth := 8) [execRefreshRateChange, h]
theorem execChannelRetrain_keeps (chan : Fin 384) (good : Bool) (s : State) (h : s.memsWf = true) :
    outcomeWf (execChannelRetrain chan good s) = true := by
  simp (maxDischargeDepth := 8) [execChannelRetrain, h]
theorem execRetrainDeadline_keeps (chan : Fin 384) (good : Bool) (s : State) (h : s.memsWf = true) :
    outcomeWf (execRetrainDeadline chan good s) = true := by
  dsimp only [execRetrainDeadline]; (repeat' split) <;> simp (maxDischargeDepth := 8) [h]
theorem execPhyPllAlarm_keeps (phy : Fin 32) (persists : Bool) (s : State) (h : s.memsWf = true) :
    outcomeWf (execPhyPllAlarm phy persists s) = true := by
  unfold execPhyPllAlarm; generalize List.range 12 = R12; ((repeat' split) <;> simp (maxDischargeDepth := 8) [h])
theorem execMemoryTraining_keeps (tries : List (Fin 384 × Fin 4)) (s : State) (h : s.memsWf = true) : outcomeWf (execMemoryTraining tries s) = true := by
  unfold execMemoryTraining; generalize List.range 384 = R384; ((repeat' split) <;> simp (maxDischargeDepth := 8) [h])
theorem execMrsp_keeps (dst : Byte) (tag : BitVec 16) (chunk : BitVec 5) (data : Payload) (s : State) (h : s.memsWf = true) :
    outcomeWf (execMrsp dst tag chunk data s) = true := by
  dsimp only [execMrsp]; (repeat' split) <;> simp (maxDischargeDepth := 8) [h]
theorem execMwack_keeps (dst : Byte) (tag : BitVec 16) (chunk : BitVec 5) (s : State) (h : s.memsWf = true) :
    outcomeWf (execMwack dst tag chunk s) = true := by
  dsimp only [execMwack]; (repeat' split) <;> simp (maxDischargeDepth := 8) [h]
theorem execSvop_keeps (unit : Fin 64) (src : Byte) (tag : BitVec 16) (blk : BitVec 32) (chunk : BitVec 5) (data : Payload) (s : State) (h : s.memsWf = true) :
    outcomeWf (execSvop unit src tag blk chunk data s) = true := by
  simp (maxDischargeDepth := 8) [execSvop, h]
theorem execSieveSeal_keeps (unit : Fin 64) (s : State) (h : s.memsWf = true) :
    outcomeWf (execSieveSeal unit s) = true := by
  dsimp only [execSieveSeal]; (repeat' split) <;> simp (maxDischargeDepth := 8) [h]
theorem execSieveQuery_keeps (unit : Fin 64) (s : State) (h : s.memsWf = true) :
    outcomeWf (execSieveQuery unit s) = true := by
  dsimp only [execSieveQuery]; (repeat' split) <;> simp (maxDischargeDepth := 8) [h]
theorem execSvdone_keeps (stack : Fin 40) (tag : BitVec 16) (status : Byte) (s : State) (h : s.memsWf = true) :
    outcomeWf (execSvdone stack tag status s) = true := by
  dsimp only [execSvdone]; (repeat' split) <;> simp (maxDischargeDepth := 8) [h]

/-! ## Photonic -/

theorem execTokenCapture_keeps (site : Fin 59) (grp : Fin 1158) (seen : TokenSeen) (cells : List CellBits) (s : State) (h : s.memsWf = true) : outcomeWf (execTokenCapture site grp seen cells s) = true := by
  dsimp only [execTokenCapture]; (repeat' split) <;> simp (maxDischargeDepth := 8) [h]
theorem execTokenRelease_keeps (site : Fin 59) (ended : BurstEnd) (s : State) (h : s.memsWf = true) : outcomeWf (execTokenRelease site ended s) = true := by
  simp (maxDischargeDepth := 8) [execTokenRelease, h]
theorem execBurstReceive_keeps (grp : Fin 1158) (site : Fin 59) (lower upper : List (List (BitVec 10))) (s : State) (h : s.memsWf = true) : outcomeWf (execBurstReceive grp site lower upper s) = true := by
  dsimp only [execBurstReceive]; (repeat' split) <;> simp (maxDischargeDepth := 8) [h]
theorem execBurstAck_keeps (site : Fin 59) (grp : Fin 1158) (id : BitVec 4) (s : State) (h : s.memsWf = true) :
    outcomeWf (execBurstAck site grp id s) = true := by
  dsimp only [execBurstAck]; (repeat' split) <;> simp (maxDischargeDepth := 8) [h]
theorem execBurstNak_keeps (site : Fin 59) (grp : Fin 1158) (id idx : BitVec 4) (s : State) (h : s.memsWf = true) :
    outcomeWf (execBurstNak site grp id idx s) = true := by
  dsimp only [execBurstNak]; (repeat' split) <;> simp (maxDischargeDepth := 8) [h]
theorem execStatusTimeout_keeps (site : Fin 59) (grp : Fin 1158) (s : State) (h : s.memsWf = true) :
    outcomeWf (execStatusTimeout site grp s) = true := by
  dsimp only [execStatusTimeout]; (repeat' split) <;> simp (maxDischargeDepth := 8) [h]
theorem execRetryLimitExpiry_keeps (site : Fin 59) (grp : Fin 1158) (s : State) (h : s.memsWf = true) :
    outcomeWf (execRetryLimitExpiry site grp s) = true := by
  dsimp only [execRetryLimitExpiry]; (repeat' split) <;> simp (maxDischargeDepth := 8) [h]
theorem execGroupBlock_keeps (ini : Initiator) (ep : Byte) (grp : Fin 1158) (s : State) (h : s.memsWf = true) :
    outcomeWf (execGroupBlock ini ep grp s) = true := by
  unfold execGroupBlock; refine State.busDo_memsWf _ _ _ _ _ ?_ h; simp (maxDischargeDepth := 8) [h]
theorem execGroupBlocked_keeps (grp : Fin 1158) (s : State) (h : s.memsWf = true) :
    outcomeWf (execGroupBlocked grp s) = true := by
  simp (maxDischargeDepth := 8) [execGroupBlocked, h]
theorem execGroupUnblock_keeps (ini : Initiator) (ep : Byte) (grp : Fin 1158) (s : State) (h : s.memsWf = true) :
    outcomeWf (execGroupUnblock ini ep grp s) = true := by
  unfold execGroupUnblock; refine State.busDo_memsWf _ _ _ _ _ ?_ h; simp (maxDischargeDepth := 8) [h]
theorem execGroupSleep_keeps (ini : Initiator) (ep : Byte) (grp : Fin 1158) (s : State) (h : s.memsWf = true) :
    outcomeWf (execGroupSleep ini ep grp s) = true := by
  unfold execGroupSleep; refine State.busDo_memsWf _ _ _ _ _ ?_ h; simp (maxDischargeDepth := 8) [h]
theorem execGroupSleepEntry_keeps (grp : Fin 1158) (s : State) (h : s.memsWf = true) :
    outcomeWf (execGroupSleepEntry grp s) = true := by
  simp (maxDischargeDepth := 8) [execGroupSleepEntry, h]
theorem execGroupWake_keeps (ini : Initiator) (ep : Byte) (grp : Fin 1158) (s : State) (h : s.memsWf = true) :
    outcomeWf (execGroupWake ini ep grp s) = true := by
  unfold execGroupWake; refine State.busDo_memsWf _ _ _ _ _ ?_ h; simp (maxDischargeDepth := 8) [h]
theorem execWake_keeps (grp : Fin 1158) (s : State) (h : s.memsWf = true) :
    outcomeWf (execWake grp s) = true := by
  dsimp only [execWake]; (repeat' split) <;> simp (maxDischargeDepth := 8) [h]
theorem execReady_keeps (grp : Fin 1158) (s : State) (h : s.memsWf = true) :
    outcomeWf (execReady grp s) = true := by
  dsimp only [execReady]; (repeat' split) <;> simp (maxDischargeDepth := 8) [h]
theorem execWakeFailure_keeps (grp : Fin 1158) (s : State) (h : s.memsWf = true) :
    outcomeWf (execWakeFailure grp s) = true := by
  simp (maxDischargeDepth := 8) [execWakeFailure, h]
theorem execTokenRegenerate_keeps (grp : Fin 1158) (s : State) (h : s.memsWf = true) :
    outcomeWf (execTokenRegenerate grp s) = true := by
  simp (maxDischargeDepth := 8) [execTokenRegenerate, h]
theorem execLaneLockAchieved_keeps (grp : Fin 1158) (off : Fin 10) (s : State) (h : s.memsWf = true) :
    outcomeWf (execLaneLockAchieved grp off s) = true := by
  simp (maxDischargeDepth := 8) [execLaneLockAchieved, h]
theorem execTsMatch_keeps (grp : Fin 1158) (seen : TsSeen) (s : State) (h : s.memsWf = true) : outcomeWf (execTsMatch grp seen s) = true := by
  simp (maxDischargeDepth := 8) [execTsMatch, h]
theorem execTsWrongSlot_keeps (grp : Fin 1158) (seen : TsSeen) (s : State) (h : s.memsWf = true) : outcomeWf (execTsWrongSlot grp seen s) = true := by
  simp (maxDischargeDepth := 8) [execTsWrongSlot, h]
theorem execTrainingTimeout_keeps (grp : Fin 1158) (off : Fin 10) (s : State) (h : s.memsWf = true) :
    outcomeWf (execTrainingTimeout grp off s) = true := by
  simp (maxDischargeDepth := 8) [execTrainingTimeout, h]
theorem execGroupStart_keeps (grp : Fin 1158) (s : State) (h : s.memsWf = true) :
    outcomeWf (execGroupStart grp s) = true := by
  simp (maxDischargeDepth := 8) [execGroupStart, h]
theorem execGroupSpare_keeps (ini : Initiator) (ep : Byte) (grp : Fin 1158) (lane : Fin 8) (off : BitVec 4) (s : State) (h : s.memsWf = true) :
    outcomeWf (execGroupSpare ini ep grp lane off s) = true := by
  unfold execGroupSpare; refine State.busDo_memsWf _ _ _ _ _ ?_ h; simp (maxDischargeDepth := 8) [h]
theorem execSparingSwitch_keeps (grp : Fin 1158) (s : State) (h : s.memsWf = true) :
    outcomeWf (execSparingSwitch grp s) = true := by
  dsimp only [execSparingSwitch]; (repeat' split) <;> simp (maxDischargeDepth := 8) [h]
theorem execSparingEnd_keeps (grp : Fin 1158) (s : State) (h : s.memsWf = true) :
    outcomeWf (execSparingEnd grp s) = true := by
  dsimp only [execSparingEnd]; (repeat' split) <;> simp (maxDischargeDepth := 8) [h]
theorem execTransmitterWithdraw_keeps (site : Fin 59) (tx : BitVec 7) (cause : BitVec 2) (s : State) (h : s.memsWf = true) :
    outcomeWf (execTransmitterWithdraw site tx cause s) = true := by
  simp (maxDischargeDepth := 8) [execTransmitterWithdraw, h]
theorem execSpineHopRetry_keeps (ini : Initiator) (site : Fin 59) (word : Dword) (got : List (Dword × Byte)) (s : State) (h : s.memsWf = true) : outcomeWf (execSpineHopRetry ini site word got s) = true := by
  simp (maxDischargeDepth := 8) [execSpineHopRetry, h]
theorem execIdent_keeps (ask : IdentAsk) (s : State) (h : s.memsWf = true) : outcomeWf (execIdent ask s) = true := by
  unfold execIdent
  split
  · exact h
  · refine foldl_keeps _ (fun t c ht => ?_) _ ?_
    · dsimp only
      (repeat' split) <;> simp [ht]
    · split <;> simp [h]
theorem execIdentTimeout_keeps (die : Byte) (s : State) (h : s.memsWf = true) :
    outcomeWf (execIdentTimeout die s) = true := by
  dsimp only [execIdentTimeout]; (repeat' split) <;> simp (maxDischargeDepth := 8) [h]

/-! ## Kettle -/

theorem execKettleIncrement_keeps (kettle : BitVec 8) (s : State) (h : s.memsWf = true) :
    outcomeWf (execKettleIncrement kettle s) = true := by
  dsimp only [execKettleIncrement]; (repeat' split) <;> simp (maxDischargeDepth := 8) [h]
theorem execKettleRelease_keeps (kettle : BitVec 8) (s : State) (h : s.memsWf = true) :
    outcomeWf (execKettleRelease kettle s) = true := by
  simp (maxDischargeDepth := 8) [execKettleRelease, h]
theorem execKrel_keeps (kettle : BitVec 8) (s : State) (h : s.memsWf = true) :
    outcomeWf (execKrel kettle s) = true := by
  dsimp only [execKrel]; (repeat' split) <;> simp (maxDischargeDepth := 8) [h]

/-! ## Light -/

theorem execLsmIdentify_keeps (lsm : Fin 7) (present : Bool) (names : BitVec 256) (read : LsmRead) (probes : BitVec 4) (s : State) (h : s.memsWf = true) : outcomeWf (execLsmIdentify lsm present names read probes s) = true := by
  simp (maxDischargeDepth := 8) [execLsmIdentify, h]
theorem execCmisFail_keeps (lsm : Fin 7) (retries : Fin 4) (good : Bool) (s : State) (h : s.memsWf = true) :
    outcomeWf (execCmisFail lsm retries good s) = true := by
  simp (maxDischargeDepth := 8) [execCmisFail, h]
theorem execLsmRemoval_keeps (lsm : Fin 7) (s : State) (h : s.memsWf = true) :
    outcomeWf (execLsmRemoval lsm s) = true := by
  simp (maxDischargeDepth := 8) [execLsmRemoval, h]
theorem execRefLightLoss_keeps (s : State) (h : s.memsWf = true) :
    outcomeWf (execRefLightLoss s) = true := by
  unfold execRefLightLoss; generalize List.range 7 = R7; ((repeat' split) <;> simp (maxDischargeDepth := 8) [h])
theorem execRefLightRestored_keeps (s : State) (h : s.memsWf = true) :
    outcomeWf (execRefLightRestored s) = true := by
  simp (maxDischargeDepth := 8) [execRefLightRestored, h]
theorem execHoldoverExpiry_keeps (s : State) (h : s.memsWf = true) :
    outcomeWf (execHoldoverExpiry s) = true := by
  dsimp only [execHoldoverExpiry]; (repeat' split) <;> simp (maxDischargeDepth := 8) [h]
theorem execLockLoopUpdate_keeps (ring : Ring) (err : Int) (s : State) (h : s.memsWf = true) :
    outcomeWf (execLockLoopUpdate ring err s) = true := by
  dsimp only [execLockLoopUpdate]; (repeat' split) <;> simp (maxDischargeDepth := 8) [h]
theorem execMarkSweep_keeps (grp : Fin 1158) (off : Fin 10) (heard : SweepHeard) (s : State) (h : s.memsWf = true) : outcomeWf (execMarkSweep grp off heard s) = true := by
  simp (maxDischargeDepth := 8) [execMarkSweep, h]
theorem execSweepOutcome_keeps (grp : Fin 1158) (off : Fin 10) (s : State) (h : s.memsWf = true) :
    outcomeWf (execSweepOutcome grp off s) = true := by
  simp (maxDischargeDepth := 8) [execSweepOutcome, h]
theorem execCalPassStart_keeps (s : State) (h : s.memsWf = true) :
    outcomeWf (execCalPassStart s) = true := by
  unfold execCalPassStart; generalize List.range 1158 = R1158; ((repeat' split) <;> simp (maxDischargeDepth := 8) [h])
theorem execLaneCal_keeps (grp : Fin 1158) (s : State) (h : s.memsWf = true) :
    outcomeWf (execLaneCal grp s) = true := by
  dsimp only [execLaneCal]; (repeat' split) <;> simp (maxDischargeDepth := 8) [h]
theorem execBlockingCal_keeps (grp : Fin 1158) (good : BitVec 10) (s : State) (h : s.memsWf = true) :
    outcomeWf (execBlockingCal grp good s) = true := by
  dsimp only [execBlockingCal]; (repeat' split) <;> simp (maxDischargeDepth := 8) [h]
theorem execLineMonitorVisit_keeps (fibre : Fin 26) (line : Fin 41) (power offset : Int) (s : State) (h : s.memsWf = true) :
    outcomeWf (execLineMonitorVisit fibre line power offset s) = true := by
  simp (maxDischargeDepth := 8) [execLineMonitorVisit, h]
theorem execCommissioning_keeps (fibre : Fin 26) (line : Fin 41) (power : Int) (s : State) (h : s.memsWf = true) :
    outcomeWf (execCommissioning fibre line power s) = true := by
  simp (maxDischargeDepth := 8) [execCommissioning, h]
theorem execFadeCrossing_keeps (fibre : Fin 26) (line : Fin 41) (s : State) (h : s.memsWf = true) :
    outcomeWf (execFadeCrossing fibre line s) = true := by
  simp (maxDischargeDepth := 8) [execFadeCrossing, h]
theorem execFadeRecovery_keeps (fibre : Fin 26) (line : Fin 41) (s : State) (h : s.memsWf = true) :
    outcomeWf (execFadeRecovery fibre line s) = true := by
  dsimp only [execFadeRecovery]; (repeat' split) <;> simp (maxDischargeDepth := 8) [h]
theorem execRapidFade_keeps (lsm : Fin 7) (out : Fin 4) (line : Fin 41) (s : State) (h : s.memsWf = true) : outcomeWf (execRapidFade lsm out line s) = true := by
  simp (maxDischargeDepth := 8) [execRapidFade, h]
theorem execSwapTrigger_keeps (lsm : Fin 7) (outs : BitVec 4) (line : Fin 41) (s : State) (h : s.memsWf = true) :
    outcomeWf (execSwapTrigger lsm outs line s) = true := by
  simp (maxDischargeDepth := 8) [execSwapTrigger, h]
theorem execSwapPauseStart_keeps (lsm : Fin 7) (outs : BitVec 4) (line : Fin 41) (s : State) (h : s.memsWf = true) :
    outcomeWf (execSwapPauseStart lsm outs line s) = true := by
  dsimp only [execSwapPauseStart]; (repeat' split) <;> simp (maxDischargeDepth := 8) [h]
theorem execSwapPauseEnd_keeps (lsm : Fin 7) (outs : BitVec 4) (line : Fin 41) (s : State) (h : s.memsWf = true) :
    outcomeWf (execSwapPauseEnd lsm outs line s) = true := by
  dsimp only [execSwapPauseEnd]; (repeat' split) <;> simp (maxDischargeDepth := 8) [h]
theorem execSwapCheck_keeps (lsm : Fin 7) (outs : BitVec 4) (line : Fin 41) (power offset : Int) (s : State) (h : s.memsWf = true) :
    outcomeWf (execSwapCheck lsm outs line power offset s) = true := by
  dsimp only [execSwapCheck]; (repeat' split) <;> simp (maxDischargeDepth := 8) [h]
theorem execInterlockUnmated_keeps (fibre : Fin 26) (tap : Int) (disabled : Bool) (s : State) (h : s.memsWf = true) :
    outcomeWf (execInterlockUnmated fibre tap disabled s) = true := by
  simp (maxDischargeDepth := 8) [execInterlockUnmated, h]
theorem execInterlockEnableDrop_keeps (fibre : Fin 26) (s : State) (h : s.memsWf = true) :
    outcomeWf (execInterlockEnableDrop fibre s) = true := by
  dsimp only [execInterlockEnableDrop]; (repeat' split) <;> simp (maxDischargeDepth := 8) [h]
theorem execProbe_keeps (fibre : Fin 26) (tap : Int) (s : State) (h : s.memsWf = true) :
    outcomeWf (execProbe fibre tap s) = true := by
  simp (maxDischargeDepth := 8) [execProbe, h]
theorem execSafetyRestore_keeps (ini : Initiator) (ep : Byte) (lsm : Fin 7) (outs : BitVec 4) (s : State) (h : s.memsWf = true) :
    outcomeWf (execSafetyRestore ini ep lsm outs s) = true := by
  unfold execSafetyRestore; refine State.busDo_memsWf _ _ _ _ _ ?_ h; simp (maxDischargeDepth := 8) [h]
theorem execLineSelWrite_keeps (ini : Initiator) (ep : Byte) (lsm : Fin 7) (v : Word) (s : State) (h : s.memsWf = true) :
    outcomeWf (execLineSelWrite ini ep lsm v s) = true := by
  unfold execLineSelWrite; refine State.busDo_memsWf _ _ _ _ _ ?_ h; simp (maxDischargeDepth := 8) [h]

/-! ## Links -/

theorem execCodewordDecode_keeps (port : Fin 6) (off : Fin 10) (chars : List Byte) (bad disp : BitVec 136) (s : State) (h : s.memsWf = true) :
    outcomeWf (execCodewordDecode port off chars bad disp s) = true := by
  dsimp only [execCodewordDecode]; (repeat' split) <;> simp (maxDischargeDepth := 8) [h]
theorem execAlignmentLoss_keeps (port : Fin 6) (off : Fin 10) (s : State) (h : s.memsWf = true) :
    outcomeWf (execAlignmentLoss port off s) = true := by
  simp (maxDischargeDepth := 8) [execAlignmentLoss, h]
theorem execPortTrainStart_keeps (port : Fin 6) (s : State) (h : s.memsWf = true) :
    outcomeWf (execPortTrainStart port s) = true := by
  simp (maxDischargeDepth := 8) [execPortTrainStart, h]
theorem execXtsReceive_keeps (port : Fin 6) (lane : PortLine) (slot role sender flags : Byte) (coord dims : BitVec 12) (serial : Dword) (expect : BitVec 12) (s : State) (h : s.memsWf = true) : outcomeWf (execXtsReceive port lane slot role sender flags coord dims serial expect s) = true := by
  simp (maxDischargeDepth := 8) [execXtsReceive, h]
theorem execXstart_keeps (port : Fin 6) (s : State) (h : s.memsWf = true) :
    outcomeWf (execXstart port s) = true := by
  dsimp only [execXstart]; (repeat' split) <;> simp (maxDischargeDepth := 8) [h]
theorem execTrainAttemptTimeout_keeps (port : Fin 6) (s : State) (h : s.memsWf = true) :
    outcomeWf (execTrainAttemptTimeout port s) = true := by
  simp (maxDischargeDepth := 8) [execTrainAttemptTimeout, h]
theorem execXtsAtBoundary_keeps (port : Fin 6) (lanes : BitVec 8) (s : State) (h : s.memsWf = true) :
    outcomeWf (execXtsAtBoundary port lanes s) = true := by
  simp (maxDischargeDepth := 8) [execXtsAtBoundary, h]
theorem execDiscoveryTimeout_keeps (s : State) (h : s.memsWf = true) :
    outcomeWf (execDiscoveryTimeout s) = true := by
  unfold execDiscoveryTimeout; generalize List.range 6 = R6; ((repeat' split) <;> simp (maxDischargeDepth := 8) [h])
theorem execPortSleep_keeps (port : Fin 6) (s : State) (h : s.memsWf = true) :
    outcomeWf (execPortSleep port s) = true := by
  simp (maxDischargeDepth := 8) [execPortSleep, h]
theorem execSleep_keeps (port : Fin 6) (s : State) (h : s.memsWf = true) :
    outcomeWf (execSleep port s) = true := by
  dsimp only [execSleep]; (repeat' split) <;> simp (maxDischargeDepth := 8) [h]
theorem execPortWake_keeps (port : Fin 6) (s : State) (h : s.memsWf = true) :
    outcomeWf (execPortWake port s) = true := by
  simp (maxDischargeDepth := 8) [execPortWake, h]
theorem execPortRetrain_keeps (port : Fin 6) (s : State) (h : s.memsWf = true) :
    outcomeWf (execPortRetrain port s) = true := by
  simp (maxDischargeDepth := 8) [execPortRetrain, h]
theorem execRetrainReq_keeps (port : Fin 6) (s : State) (h : s.memsWf = true) :
    outcomeWf (execRetrainReq port s) = true := by
  simp (maxDischargeDepth := 8) [execRetrainReq, h]
theorem execRetrainTimeout_keeps (port : Fin 6) (s : State) (h : s.memsWf = true) :
    outcomeWf (execRetrainTimeout port s) = true := by
  simp (maxDischargeDepth := 8) [execRetrainTimeout, h]
theorem execPausedEntry_keeps (port : Fin 6) (s : State) (h : s.memsWf = true) :
    outcomeWf (execPausedEntry port s) = true := by
  simp (maxDischargeDepth := 8) [execPausedEntry, h]
theorem execPauseReq_keeps (port : Fin 6) (s : State) (h : s.memsWf = true) :
    outcomeWf (execPauseReq port s) = true := by
  simp (maxDischargeDepth := 8) [execPauseReq, h]
theorem execPausedEnd_keeps (port : Fin 6) (s : State) (h : s.memsWf = true) :
    outcomeWf (execPausedEnd port s) = true := by
  simp (maxDischargeDepth := 8) [execPausedEnd, h]
theorem execSpareReq_keeps (port : Fin 6) (lane : Fin 8) (s : State) (h : s.memsWf = true) :
    outcomeWf (execSpareReq port lane s) = true := by
  simp (maxDischargeDepth := 8) [execSpareReq, h]
theorem execSpareBegin_keeps (port : Fin 6) (lane : Fin 8) (off : Fin 10) (s : State) (h : s.memsWf = true) :
    outcomeWf (execSpareBegin port lane off s) = true := by
  simp (maxDischargeDepth := 8) [execSpareBegin, h]
theorem execSpareSwitch_keeps (port : Fin 6) (same : Bool) (s : State) (h : s.memsWf = true) :
    outcomeWf (execSpareSwitch port same s) = true := by
  dsimp only [execSpareSwitch]; (repeat' split) <;> simp (maxDischargeDepth := 8) [h]
theorem execSpareDone_keeps (port : Fin 6) (lane : Fin 8) (s : State) (h : s.memsWf = true) :
    outcomeWf (execSpareDone port lane s) = true := by
  dsimp only [execSpareDone]; (repeat' split) <;> simp (maxDischargeDepth := 8) [h]
theorem execSpareShadowTimeout_keeps (port : Fin 6) (s : State) (h : s.memsWf = true) :
    outcomeWf (execSpareShadowTimeout port s) = true := by
  dsimp only [execSpareShadowTimeout]; (repeat' split) <;> simp (maxDischargeDepth := 8) [h]
theorem execCalReq_keeps (port : Fin 6) (s : State) (h : s.memsWf = true) :
    outcomeWf (execCalReq port s) = true := by
  simp (maxDischargeDepth := 8) [execCalReq, h]
theorem execCalTimeout_keeps (ring : Ring) (s : State) (h : s.memsWf = true) :
    outcomeWf (execCalTimeout ring s) = true := by
  dsimp only [execCalTimeout]; (repeat' split) <;> simp (maxDischargeDepth := 8) [h]
theorem execLaneHardFail_keeps (ring : Ring) (loss : LaneLoss) (s : State) (h : s.memsWf = true) : outcomeWf (execLaneHardFail ring loss s) = true := by
  dsimp only [execLaneHardFail]; (repeat' split) <;> simp (maxDischargeDepth := 8) [h]
theorem execPortRetrainCmd_keeps (ini : Initiator) (ep : Byte) (port : Fin 6) (s : State) (h : s.memsWf = true) :
    outcomeWf (execPortRetrainCmd ini ep port s) = true := by
  unfold execPortRetrainCmd; refine State.busDo_memsWf _ _ _ _ _ ?_ h; simp (maxDischargeDepth := 8) [h]
theorem execPortSpareCmd_keeps (ini : Initiator) (ep : Byte) (port : Fin 6) (lane : Fin 8) (off : BitVec 4) (s : State) (h : s.memsWf = true) :
    outcomeWf (execPortSpareCmd ini ep port lane off s) = true := by
  unfold execPortSpareCmd; refine State.busDo_memsWf _ _ _ _ _ ?_ h; simp (maxDischargeDepth := 8) [h]
theorem execPortDisable_keeps (ini : Initiator) (ep : Byte) (port : Fin 6) (s : State) (h : s.memsWf = true) :
    outcomeWf (execPortDisable ini ep port s) = true := by
  unfold execPortDisable; refine State.busDo_memsWf _ _ _ _ _ ?_ h; simp (maxDischargeDepth := 8) [h]
theorem execPortEnable_keeps (ini : Initiator) (ep : Byte) (port : Fin 6) (s : State) (h : s.memsWf = true) :
    outcomeWf (execPortEnable ini ep port s) = true := by
  unfold execPortEnable; refine State.busDo_memsWf _ _ _ _ _ ?_ h; simp (maxDischargeDepth := 8) [h]
theorem execRankmapWrite_keeps (ini : Initiator) (ep : Byte) (page : Fin 4) (reg : Fin 512) (v : Word) (s : State) (h : s.memsWf = true) :
    outcomeWf (execRankmapWrite ini ep page reg v s) = true := by
  unfold execRankmapWrite; refine State.busDo_memsWf _ _ _ _ _ ?_ h; simp (maxDischargeDepth := 8) [h]
theorem execRankmapMismatch_keeps (page : Fin 4) (s : State) (h : s.memsWf = true) :
    outcomeWf (execRankmapMismatch page s) = true := by
  simp (maxDischargeDepth := 8) [execRankmapMismatch, h]
theorem execLinkCellReceive_keeps (port : Fin 6) (cell : CellBits) (whole : Bool) (s : State) (h : s.memsWf = true) :
    outcomeWf (execLinkCellReceive port cell whole s) = true := by
  simp (maxDischargeDepth := 8) [execLinkCellReceive, h]
theorem execXtrh_keeps (out : Fin 6) (vc : Fin 5) (data : Payload) (s : State) (h : s.memsWf = true) :
    outcomeWf (execXtrh out vc data s) = true := by
  simp (maxDischargeDepth := 8) [execXtrh, h]
theorem execXtrt_keeps (out : Fin 6) (vc : Fin 5) (data : BitVec 96) (s : State) (h : s.memsWf = true) :
    outcomeWf (execXtrt out vc data s) = true := by
  dsimp only [execXtrt]; (repeat' split) <;> simp (maxDischargeDepth := 8) [h]
theorem execCellSend_keeps (port : Fin 6) (s : State) (h : s.memsWf = true) :
    outcomeWf (execCellSend port s) = true := by
  dsimp only [execCellSend]; (repeat' split) <;> simp (maxDischargeDepth := 8) [h]
theorem execLack_keeps (port : Fin 6) (seq : BitVec 12) (s : State) (h : s.memsWf = true) :
    outcomeWf (execLack port seq s) = true := by
  simp (maxDischargeDepth := 8) [execLack, h]
theorem execLnak_keeps (port : Fin 6) (seq : BitVec 12) (s : State) (h : s.memsWf = true) :
    outcomeWf (execLnak port seq s) = true := by
  simp (maxDischargeDepth := 8) [execLnak, h]
theorem execLcredit_keeps (port : Fin 6) (counts : BitVec 40) (s : State) (h : s.memsWf = true) :
    outcomeWf (execLcredit port counts s) = true := by
  simp (maxDischargeDepth := 8) [execLcredit, h]
theorem execLackDue_keeps (port : Fin 6) (s : State) (h : s.memsWf = true) :
    outcomeWf (execLackDue port s) = true := by
  dsimp only [execLackDue]; (repeat' split) <;> simp (maxDischargeDepth := 8) [h]
theorem execLcreditDue_keeps (port : Fin 6) (s : State) (h : s.memsWf = true) :
    outcomeWf (execLcreditDue port s) = true := by
  dsimp only [execLcreditDue]; (repeat' split) <;> simp (maxDischargeDepth := 8) [h]
theorem execLnakRepeat_keeps (port : Fin 6) (s : State) (h : s.memsWf = true) :
    outcomeWf (execLnakRepeat port s) = true := by
  dsimp only [execLnakRepeat]; (repeat' split) <;> simp (maxDischargeDepth := 8) [h]
theorem execReplayTimeout_keeps (port : Fin 6) (s : State) (h : s.memsWf = true) :
    outcomeWf (execReplayTimeout port s) = true := by
  dsimp only [execReplayTimeout]; (repeat' split) <;> simp (maxDischargeDepth := 8) [h]

/-! ## Hall -/

theorem execHrd_keeps (m15 : Bool) (job : BitVec 16) (src : BitVec 12) (cls : BitVec 2) (tag : BitVec 17) (addr : Dword) (size : Bool) (s : State) (h : s.memsWf = true) :
    outcomeWf (execHrd m15 job src cls tag addr size s) = true := by
  refine State.hallGate_memsWf _ _ _ ?_ h; simp (maxDischargeDepth := 8) [h]
theorem execHwr_keeps (m15 : Bool) (job : BitVec 16) (src : BitVec 12) (cls : BitVec 2) (tag : BitVec 17) (addr : Dword) (size : Bool) (lo hi : Dword) (s : State) (h : s.memsWf = true) :
    outcomeWf (execHwr m15 job src cls tag addr size lo hi s) = true := by
  refine State.hallGate_memsWf _ _ _ ?_ h; simp (maxDischargeDepth := 8) [h]
theorem execHatm_keeps (m15 : Bool) (job : BitVec 16) (src : BitVec 12) (cls : BitVec 2) (tag : BitVec 17) (addr : Dword) (size : Bool) (op : Byte) (lo hi : Dword) (s : State) (h : s.memsWf = true) :
    outcomeWf (execHatm m15 job src cls tag addr size op lo hi s) = true := by
  refine State.hallGate_memsWf _ _ _ ?_ h; simp (maxDischargeDepth := 8) [h]
theorem execHatx_keeps (m15 : Bool) (job : BitVec 16) (src : BitVec 12) (tag : BitVec 17) (lo hi : Dword) (s : State) (h : s.memsWf = true) :
    outcomeWf (execHatx m15 job src tag lo hi s) = true := by
  refine State.hallGate_memsWf _ _ _ ?_ h
  split <;> simp [h]
theorem execHbrd_keeps (m15 : Bool) (job : BitVec 16) (src : BitVec 12) (cls : BitVec 2) (tag : BitVec 17) (addr : Dword) (units : BitVec 4) (s : State) (h : s.memsWf = true) :
    outcomeWf (execHbrd m15 job src cls tag addr units s) = true := by
  refine State.hallGate_memsWf _ _ _ ?_ h; simp (maxDischargeDepth := 8) [h]
theorem execHbwr_keeps (m15 : Bool) (job : BitVec 16) (src : BitVec 12) (cls : BitVec 2) (tag : BitVec 17) (addr : Dword) (units : BitVec 4) (s : State) (h : s.memsWf = true) :
    outcomeWf (execHbwr m15 job src cls tag addr units s) = true := by
  refine State.hallGate_memsWf _ _ _ ?_ h; simp (maxDischargeDepth := 8) [h]
theorem execHrsp_keeps (stack : Fin 40) (tag : BitVec 11) (status : Byte) (flags : BitVec 4) (lo hi : Dword) (s : State) (h : s.memsWf = true) :
    outcomeWf (execHrsp stack tag status flags lo hi s) = true := by
  refine State.onTag_memsWf _ _ (fun u => ?_) h; simp (maxDischargeDepth := 8) [h]
theorem execHwack_keeps (stack : Fin 40) (tag : BitVec 11) (status : Byte) (s : State) (h : s.memsWf = true) :
    outcomeWf (execHwack stack tag status s) = true := by
  refine State.onTag_memsWf _ _ (fun u => ?_) h
  (repeat' split) <;> simp [h]
theorem execHbrsp_keeps (stack : Fin 40) (tag : BitVec 11) (status : Byte) (_units : BitVec 4) (s : State) (h : s.memsWf = true) :
    outcomeWf (execHbrsp stack tag status _units s) = true := by
  refine State.onTag_memsWf _ _ (fun u => ?_) h; simp (maxDischargeDepth := 8) [h]
theorem execHbdat_keeps (die : Byte) (job : BitVec 16) (src : BitVec 12) (tag : BitVec 17) (data : Payload) (s : State) (h : s.memsWf = true) :
    outcomeWf (execHbdat die job src tag data s) = true := by
  unfold execHbdat
  split
  · dsimp only
    (repeat' split) <;> simp [h]
  · refine State.hallGate_memsWf _ _ _ ?_ h
    dsimp only
    (repeat' split) <;> simp [h]
theorem execHangWatchdogExpiry_keeps (stack : Fin 40) (tag : BitVec 11) (s : State) (h : s.memsWf = true) :
    outcomeWf (execHangWatchdogExpiry stack tag s) = true := by
  dsimp only [execHangWatchdogExpiry]; (repeat' split) <;> simp (maxDischargeDepth := 8) [h]
theorem execQuarantineRelease_keeps (stack : Fin 40) (tag : BitVec 11) (s : State) (h : s.memsWf = true) :
    outcomeWf (execQuarantineRelease stack tag s) = true := by
  dsimp only [execQuarantineRelease]; (repeat' split) <;> simp (maxDischargeDepth := 8) [h]
theorem execKrelay_keeps (job : BitVec 16) (kettle : BitVec 8) (_gen : Word) (s : State) (h : s.memsWf = true) :
    outcomeWf (execKrelay job kettle _gen s) = true := by
  refine State.hallGate_memsWf _ _ _ ?_ h
  (repeat' split) <;> simp [h]

/-! ## Pager -/

theorem execWalkStep_keeps (unit : Fin 42) (walk : Fin 8) (s : State) (h : s.memsWf = true) :
    outcomeWf (execWalkStep unit walk s) = true := by
  simp (maxDischargeDepth := 8) [execWalkStep, h]
theorem execPagerFaultReceive_keeps (stack : Fin 40) (s : State) (h : s.memsWf = true) :
    outcomeWf (execPagerFaultReceive stack s) = true := by
  dsimp only [execPagerFaultReceive]; (repeat' split) <;> simp (maxDischargeDepth := 8) [h]
theorem execZeroFill_keeps (stack : Fin 40) (s : State) (h : s.memsWf = true) :
    outcomeWf (execZeroFill stack s) = true := by
  dsimp only [execZeroFill]; (repeat' split) <;> simp (maxDischargeDepth := 8) [h]
theorem execMcasr_keeps (dst : Byte) (tag : BitVec 16) (_found : Dword) (success : Bool) (s : State) (h : s.memsWf = true) :
    outcomeWf (execMcasr dst tag _found success s) = true := by
  dsimp only [execMcasr]; (repeat' split) <;> simp (maxDischargeDepth := 8) [h]
theorem execMpoison_keeps (dst : Byte) (tag : BitVec 16) (_chunk : BitVec 5) (s : State) (h : s.memsWf = true) :
    outcomeWf (execMpoison dst tag _chunk s) = true := by
  dsimp only [execMpoison]; (repeat' split) <;> simp (maxDischargeDepth := 8) [h]
theorem execResume_keeps (stack : Fin 40) (entry : BitVec 42) (s : State) (h : s.memsWf = true) :
    outcomeWf (execResume stack entry s) = true := by
  dsimp only [execResume]; (repeat' split) <;> simp (maxDischargeDepth := 8) [h]
theorem execLoadTmo_keeps (stack : Fin 40) (s : State) (h : s.memsWf = true) :
    outcomeWf (execLoadTmo stack s) = true := by
  dsimp only [execLoadTmo]; (repeat' split) <;> simp (maxDischargeDepth := 8) [h]
theorem execPoolPush_keeps (ini : Initiator) (ep : Byte) (stack : Fin 40) (page : Dword) (s : State) (h : s.memsWf = true) :
    outcomeWf (execPoolPush ini ep stack page s) = true := by
  unfold execPoolPush; refine State.busDo_memsWf _ _ _ _ _ ?_ h; simp (maxDischargeDepth := 8) [h]
theorem execTableBaseWrite_keeps (ini : Initiator) (ep : Byte) (stack : Fin 40) (v : Dword) (s : State) (h : s.memsWf = true) :
    outcomeWf (execTableBaseWrite ini ep stack v s) = true := by
  unfold execTableBaseWrite; refine State.busDo_memsWf _ _ _ _ _ ?_ h; simp (maxDischargeDepth := 8) [h]
theorem execTagLimitWrite_keeps (ini : Initiator) (ep : Byte) (stack : Fin 40) (v : BitVec 12) (s : State) (h : s.memsWf = true) :
    outcomeWf (execTagLimitWrite ini ep stack v s) = true := by
  unfold execTagLimitWrite; refine State.busDo_memsWf _ _ _ _ _ ?_ h; simp (maxDischargeDepth := 8) [h]

/-! ## FrontDoor -/

theorem execArpRequest_keeps (f : Frame) (target : BitVec 32) (_mac : BitVec 48) (s : State) (h : s.memsWf = true) :
    outcomeWf (execArpRequest f target _mac s) = true := by
  simp (maxDischargeDepth := 8) [execArpRequest, h]
theorem execNeighbourSolicitation_keeps (f : Frame) (target : BitVec 128) (_mac : BitVec 48) (s : State) (h : s.memsWf = true) :
    outcomeWf (execNeighbourSolicitation f target _mac s) = true := by
  simp (maxDischargeDepth := 8) [execNeighbourSolicitation, h]
theorem execEchoRequest_keeps (f : Frame) (dst : BitVec 128) (data : List Byte) (s : State) (h : s.memsWf = true) :
    outcomeWf (execEchoRequest f dst data s) = true := by
  simp (maxDischargeDepth := 8) [execEchoRequest, h]
theorem execSubmit_keeps (f : Frame) (msg : List Byte) (s : State) (h : s.memsWf = true) :
    outcomeWf (execSubmit f msg s) = true := by
  refine State.fdMessage_memsWf _ _ _ (fun t hd ht => ?_) h; simp (maxDischargeDepth := 8) [h, ht]
theorem execCancel_keeps (f : Frame) (msg : List Byte) (s : State) (h : s.memsWf = true) :
    outcomeWf (execCancel f msg s) = true := by
  refine State.fdMessage_memsWf _ _ _ (fun t hd ht => ?_) h; simp (maxDischargeDepth := 8) [h, ht]
theorem execStatus_keeps (f : Frame) (msg : List Byte) (s : State) (h : s.memsWf = true) :
    outcomeWf (execStatus f msg s) = true := by
  refine State.fdMessage_memsWf _ _ _ (fun t hd ht => ?_) h; simp (maxDischargeDepth := 8) [h, ht]
theorem execAck_keeps (f : Frame) (msg : List Byte) (s : State) (h : s.memsWf = true) :
    outcomeWf (execAck f msg s) = true := by
  refine State.fdMessage_memsWf _ _ _ (fun t hd ht => ?_) h; dsimp only; (repeat' split) <;> simp (maxDischargeDepth := 8) [h, ht]
theorem execAssemblyTimeout_keeps (id : Dword) (s : State) (h : s.memsWf = true) :
    outcomeWf (execAssemblyTimeout id s) = true := by
  dsimp only [execAssemblyTimeout]; (repeat' split) <;> simp (maxDischargeDepth := 8) [h]
theorem execTokensResend_keeps (id : Dword) (s : State) (h : s.memsWf = true) :
    outcomeWf (execTokensResend id s) = true := by
  dsimp only [execTokensResend]; (repeat' split) <;> simp (maxDischargeDepth := 8) [h]
theorem execLingerExpiry_keeps (id : Dword) (s : State) (h : s.memsWf = true) :
    outcomeWf (execLingerExpiry id s) = true := by
  dsimp only [execLingerExpiry]; (repeat' split) <;> simp (maxDischargeDepth := 8) [h]
theorem execFrontDoorLinkDown_keeps (port : Fin 2) (pll : Bool) (s : State) (h : s.memsWf = true) :
    outcomeWf (execFrontDoorLinkDown port pll s) = true := by
  simp (maxDischargeDepth := 8) [execFrontDoorLinkDown, h]
theorem execFrontDoorLinkUp_keeps (port : Fin 2) (s : State) (h : s.memsWf = true) :
    outcomeWf (execFrontDoorLinkUp port s) = true := by
  simp (maxDischargeDepth := 8) [execFrontDoorLinkUp, h]

/-! ## Job -/

theorem execEclosion_keeps (s : State) (h : s.memsWf = true) :
    outcomeWf (execEclosion s) = true := by
  simp (maxDischargeDepth := 8) [execEclosion, h]
theorem execTicketDone_keeps (ticket : BitVec 16) (data : List Byte) (s : State) (h : s.memsWf = true) :
    outcomeWf (execTicketDone ticket data s) = true := by
  dsimp only [execTicketDone]; (repeat' split) <;> simp (maxDischargeDepth := 8) [h]
theorem execFdata_keeps (f : Frame) (msg : List Byte) (s : State) (h : s.memsWf = true) :
    outcomeWf (execFdata f msg s) = true := by
  have ht := State.fdTake_memsWf s f true msg
  unfold execFdata
  split
  · rename_i t e
    rw [e] at ht
    exact ht.trans h
  · rename_i m t e
    rw [e] at ht
    have hk : t.memsWf = true := ht.trans h
    clear ht e
    dsimp only
    (repeat' split) <;> simp (maxDischargeDepth := 8) [hk]
theorem execFetchChunkTimeout_keeps (seg : Word) (chunk : Nat) (s : State) (h : s.memsWf = true) :
    outcomeWf (execFetchChunkTimeout seg chunk s) = true := by
  dsimp only [execFetchChunkTimeout]; (repeat' split) <;> simp (maxDischargeDepth := 8) [h]

/-! ## Wingbeat -/

theorem execJobRestart_keeps (s : State) (h : s.memsWf = true) :
    outcomeWf (execJobRestart s) = true := by
  simp (maxDischargeDepth := 8) [execJobRestart, h]
theorem execRestartNotice_keeps (job : BitVec 16) (rank : BitVec 16) (num : Word) (cls code : Byte) (s : State) (h : s.memsWf = true) :
    outcomeWf (execRestartNotice job rank num cls code s) = true := by
  simp (maxDischargeDepth := 8) [execRestartNotice, h]
theorem execReadyNotice_keeps (job : BitVec 16) (rank : BitVec 16) (num : Word) (s : State) (h : s.memsWf = true) :
    outcomeWf (execReadyNotice job rank num s) = true := by
  dsimp only [execReadyNotice]; (repeat' split) <;> simp (maxDischargeDepth := 8) [h]
theorem execGoNotice_keeps (job : BitVec 16) (_rank : BitVec 16) (num : Word) (k : Word) (s : State) (h : s.memsWf = true) :
    outcomeWf (execGoNotice job _rank num k s) = true := by
  simp (maxDischargeDepth := 8) [execGoNotice, h]
theorem execAbandonNotice_keeps (job : BitVec 16) (_rank : BitVec 16) (num : Word) (s : State) (h : s.memsWf = true) :
    outcomeWf (execAbandonNotice job _rank num s) = true := by
  simp (maxDischargeDepth := 8) [execAbandonNotice, h]
theorem execReadyRepeat_keeps (s : State) (h : s.memsWf = true) :
    outcomeWf (execReadyRepeat s) = true := by
  simp (maxDischargeDepth := 8) [execReadyRepeat, h]
theorem execRejoinTimeout_keeps (s : State) (h : s.memsWf = true) :
    outcomeWf (execRejoinTimeout s) = true := by
  simp (maxDischargeDepth := 8) [execRejoinTimeout, h]
theorem execGoWaitTimeout_keeps (s : State) (h : s.memsWf = true) :
    outcomeWf (execGoWaitTimeout s) = true := by
  simp (maxDischargeDepth := 8) [execGoWaitTimeout, h]
theorem execWingbeatBoundary_keeps (s : State) (h : s.memsWf = true) :
    outcomeWf (execWingbeatBoundary s) = true := by
  dsimp only [execWingbeatBoundary]; (repeat' split) <;> simp (maxDischargeDepth := 8) [h]
theorem execOrderlyStopDeadline_keeps (s : State) (h : s.memsWf = true) :
    outcomeWf (execOrderlyStopDeadline s) = true := by
  simp (maxDischargeDepth := 8) [execOrderlyStopDeadline, h]
theorem execBoundaryCommit_keeps (s : State) (h : s.memsWf = true) :
    outcomeWf (execBoundaryCommit s) = true := by
  unfold execBoundaryCommit
  split
  · exact h
  · generalize List.range s.jobSlots = R
    extract_lets st k sv s0 s1 s2 s3 empty runs lim d1 s4 sv4 st4 s5
    have h0 : s0.memsWf = true := h
    have h1 : s1.memsWf = true := foldl_keeps _ (fun t i ht => by split <;> simp [ht]) _ h0
    have h2 : s2.memsWf = true := by
      dsimp only [s2]
      split
      · exact h1
      · exact foldl_keeps _ (fun t i ht => by simp [ht]) _ h1
    have h3 : s3.memsWf = true := by simp [s3, h2]
    clear_value s3
    have h4 : s4.memsWf = true := by
      dsimp only [s4]
      split <;> simp [h3]
    clear_value s4
    have h5 : s5.memsWf = true := by rw [State.memsWf_mk, State.memsWf_fold, h4]
    clear_value s5
    simp [h5]
theorem execParkComplete_keeps (core : Fin 2000) (s : State) (h : s.memsWf = true) :
    outcomeWf (execParkComplete core s) = true := by
  simp (maxDischargeDepth := 8) [execParkComplete, h]
theorem execIdleIntervalEnd_keeps (s : State) (h : s.memsWf = true) :
    outcomeWf (execIdleIntervalEnd s) = true := by
  unfold execIdleIntervalEnd
  split
  · exact h
  · split
    · exact h
    · extract_lets late pre s0 sv s1 s2
      have h1 : s1.memsWf = true := by
        rw [State.memsWf_mk]
        dsimp only [s0]
        split <;> simp [h]
      clear_value s1
      have h2 : s2.memsWf = true := by
        dsimp only [s2]
        split
        · exact h1
        · exact foldl_keeps _ (fun t i ht => by simp [ht]) _ h1
      refine foldl_keeps _ (fun t i ht => ?_) _ h2
      (repeat' split) <;> simp [ht]
theorem execOrderlyStop_keeps (s : State) (h : s.memsWf = true) :
    outcomeWf (execOrderlyStop s) = true := by
  dsimp only [execOrderlyStop]; (repeat' split) <;> simp (maxDischargeDepth := 8) [h]
theorem execParkDeadline_keeps (s : State) (h : s.memsWf = true) :
    outcomeWf (execParkDeadline s) = true := by
  unfold execParkDeadline
  split
  · exact h
  · refine State.stopReached_memsWf _ (foldl_keeps _ (fun t c ht => ?_) _ h)
    split <;> simp [ht]
theorem execOrderlyStopReturn_keeps (s : State) (h : s.memsWf = true) :
    outcomeWf (execOrderlyStopReturn s) = true := by
  dsimp only [execOrderlyStopReturn]
  repeat' split
  all_goals simp [h]

/-! ## Clocks -/

theorem execRefclkInvalid_keeps (inp : Fin 2) (s : State) (h : s.memsWf = true) :
    outcomeWf (execRefclkInvalid inp s) = true := by
  simp (maxDischargeDepth := 8) [execRefclkInvalid, h]
theorem execRefclkValid_keeps (inp : Fin 2) (s : State) (h : s.memsWf = true) :
    outcomeWf (execRefclkValid inp s) = true := by
  simp (maxDischargeDepth := 8) [execRefclkValid, h]
theorem execRefHoldoverStop_keeps (s : State) (h : s.memsWf = true) :
    outcomeWf (execRefHoldoverStop s) = true := by
  dsimp only [execRefHoldoverStop]; (repeat' split) <;> simp (maxDischargeDepth := 8) [h]
theorem execRefCtlWrite_keeps (ini : Initiator) (ep : BitVec 8) (v : Word) (s : State) (h : s.memsWf = true) :
    outcomeWf (execRefCtlWrite ini ep v s) = true := by
  unfold execRefCtlWrite; refine State.busDo_memsWf _ _ _ _ _ ?_ h; simp (maxDischargeDepth := 8) [h]
theorem execBasePllUnlock_keeps (s : State) (h : s.memsWf = true) :
    outcomeWf (execBasePllUnlock s) = true := by
  simp (maxDischargeDepth := 8) [execBasePllUnlock, h]
theorem execSerialiserAlarm_keeps (site : Fin 60) (tx : BitVec 7) (cause : BitVec 3) (s : State) (h : s.memsWf = true) :
    outcomeWf (execSerialiserAlarm site tx cause s) = true := by
  simp (maxDischargeDepth := 8) [execSerialiserAlarm, h]
theorem execRowstorePllFailover_keeps (stack : Fin 40) (s : State) (h : s.memsWf = true) :
    outcomeWf (execRowstorePllFailover stack s) = true := by
  simp (maxDischargeDepth := 8) [execRowstorePllFailover, h]
theorem execFSetChange_keeps (region : Fin 160) (s : State) (h : s.memsWf = true) :
    outcomeWf (execFSetChange region s) = true := by
  simp (maxDischargeDepth := 8) [execFSetChange, h]
theorem execRegionGenFail_keeps (region : Fin 160) (ref : Bool) (s : State) (h : s.memsWf = true) :
    outcomeWf (execRegionGenFail region ref s) = true := by
  simp (maxDischargeDepth := 8) [execRegionGenFail, h]
theorem execClkSrcWrite_keeps (ini : Initiator) (ep : BitVec 8) (region : Fin 160) (v : Word) (s : State) (h : s.memsWf = true) :
    outcomeWf (execClkSrcWrite ini ep region v s) = true := by
  unfold execClkSrcWrite; refine State.busDo_memsWf _ _ _ _ _ ?_ h; simp (maxDischargeDepth := 8) [h]
theorem execStretch_keeps (region : Fin 160) (noticed : Bool) (added : Nat) (s : State) (h : s.memsWf = true) :
    outcomeWf (execStretch region noticed added s) = true := by
  simp (maxDischargeDepth := 8) [execStretch, h]
theorem execDroopLimitLower_keeps (region : Fin 160) (s : State) (h : s.memsWf = true) :
    outcomeWf (execDroopLimitLower region s) = true := by
  simp (maxDischargeDepth := 8) [execDroopLimitLower, h]
theorem execDroopLimitRaise_keeps (region : Fin 160) (s : State) (h : s.memsWf = true) :
    outcomeWf (execDroopLimitRaise region s) = true := by
  simp (maxDischargeDepth := 8) [execDroopLimitRaise, h]
theorem execCrossingError_keeps (region : Fin 160) (s : State) (h : s.memsWf = true) :
    outcomeWf (execCrossingError region s) = true := by
  simp (maxDischargeDepth := 8) [execCrossingError, h]
theorem execSyncEdge_keeps (s : State) (h : s.memsWf = true) :
    outcomeWf (execSyncEdge s) = true := by
  simp (maxDischargeDepth := 8) [execSyncEdge, h]
theorem execSecSet_keeps (ini : Initiator) (ep : BitVec 8) (n : Dword) (s : State) (h : s.memsWf = true) :
    outcomeWf (execSecSet ini ep n s) = true := by
  unfold execSecSet; refine State.busDo_memsWf _ _ _ _ _ ?_ h; simp (maxDischargeDepth := 8) [h]
theorem execSyncHoldover_keeps (s : State) (h : s.memsWf = true) :
    outcomeWf (execSyncHoldover s) = true := by
  simp (maxDischargeDepth := 8) [execSyncHoldover, h]
theorem execSyncHoldoverExpiry_keeps (s : State) (h : s.memsWf = true) :
    outcomeWf (execSyncHoldoverExpiry s) = true := by
  simp (maxDischargeDepth := 8) [execSyncHoldoverExpiry, h]

/-! ## Power -/

theorem execStateCmdD0_keeps (ini : Initiator) (ep : Byte) (s : State) (h : s.memsWf = true) :
    outcomeWf (execStateCmdD0 ini ep s) = true := by
  simp (maxDischargeDepth := 8) [execStateCmdD0, h]
theorem execStateCmdD1_keeps (ini : Initiator) (ep : Byte) (s : State) (h : s.memsWf = true) :
    outcomeWf (execStateCmdD1 ini ep s) = true := by
  simp (maxDischargeDepth := 8) [execStateCmdD1, h]
theorem execStateCmdD2_keeps (ini : Initiator) (ep : Byte) (s : State) (h : s.memsWf = true) :
    outcomeWf (execStateCmdD2 ini ep s) = true := by
  unfold execStateCmdD2; refine State.busDo_memsWf _ _ _ _ _ ?_ h; simp (maxDischargeDepth := 8) [h]
theorem execStateCmdD3_keeps (ini : Initiator) (ep : Byte) (s : State) (h : s.memsWf = true) :
    outcomeWf (execStateCmdD3 ini ep s) = true := by
  unfold execStateCmdD3; refine State.busDo_memsWf _ _ _ _ _ ?_ h; simp (maxDischargeDepth := 8) [h]
theorem execD2IdleExpiry_keeps (s : State) (h : s.memsWf = true) :
    outcomeWf (execD2IdleExpiry s) = true := by
  simp (maxDischargeDepth := 8) [execD2IdleExpiry, h]
theorem execD1Wake_keeps (s : State) (h : s.memsWf = true) :
    outcomeWf (execD1Wake s) = true := by
  dsimp only [execD1Wake]; (repeat' split) <;> simp (maxDischargeDepth := 8) [h]
theorem execPortLightWake_keeps (port : Fin 6) (s : State) (h : s.memsWf = true) :
    outcomeWf (execPortLightWake port s) = true := by
  simp (maxDischargeDepth := 8) [execPortLightWake, h]
theorem execWakeAtReached_keeps (s : State) (h : s.memsWf = true) :
    outcomeWf (execWakeAtReached s) = true := by
  simp (maxDischargeDepth := 8) [execWakeAtReached, h]
theorem execD2Wake_keeps (s : State) (h : s.memsWf = true) : outcomeWf (execD2Wake s) = true := by
  have hc (s1 : State) (h1 : s1.memsWf = true) (b : Prop) [Decidable b] (d1 d2 : DevState) (v1 v2 : Serving) (r : Restart) (c : Nat) :
      ((if b then { s1 with dst := d1, serving := v1 } else { s1 with dst := d2, serving := v2, restart := r }).woken c).memsWf = true := by
    split <;> simp [h1]
  have hd (s1 : State) (h1 : s1.memsWf = true) (v : Serving) (p : CalPass) : ({ s1 with dst := .d1, serving := v, calPass := p } : State).memsWf = true := h1
  have h1 (i : Fin 2) : ((s.d2Up i).d2Restart).memsWf = true := by simp [h]
  unfold execD2Wake
  split
  · split
    · exact h
    · dsimp only
      split
      · exact hd _ (h1 _) _ _
      · exact hc _ (h1 _) _ _ _ _ _ _ _
  · exact h
theorem execInputUndervolt_keeps (mv : Nat) (s : State) (h : s.memsWf = true) :
    outcomeWf (execInputUndervolt mv s) = true := by
  simp (maxDischargeDepth := 8) [execInputUndervolt, h]
theorem execInputFault_keeps (mv : Nat) (s : State) (h : s.memsWf = true) :
    outcomeWf (execInputFault mv s) = true := by
  simp (maxDischargeDepth := 8) [execInputFault, h]
theorem execInputTrim_keeps (window : Nat) (s0 : State) (h : s0.memsWf = true) :
    outcomeWf (execInputTrim window s0) = true := by
  simp (maxDischargeDepth := 8) [execInputTrim, h]
theorem execSurgeEntry_keeps (mv : Nat) (s : State) (h : s.memsWf = true) :
    outcomeWf (execSurgeEntry mv s) = true := by
  simp (maxDischargeDepth := 8) [execSurgeEntry, h]
theorem execSurgeEnd_keeps (s : State) (h : s.memsWf = true) :
    outcomeWf (execSurgeEnd s) = true := by
  dsimp only [execSurgeEnd]; (repeat' split) <;> simp (maxDischargeDepth := 8) [h]
theorem execSurgeAllowanceExpiry_keeps (s : State) (h : s.memsWf = true) :
    outcomeWf (execSurgeAllowanceExpiry s) = true := by
  simp (maxDischargeDepth := 8) [execSurgeAllowanceExpiry, h]
theorem execWearBudgetExhaust_keeps (s : State) (h : s.memsWf = true) :
    outcomeWf (execWearBudgetExhaust s) = true := by
  simp (maxDischargeDepth := 8) [execWearBudgetExhaust, h]
theorem execSurgeInhibitWrite_keeps (ini : Initiator) (ep : Byte) (v : Word) (s : State) (h : s.memsWf = true) :
    outcomeWf (execSurgeInhibitWrite ini ep v s) = true := by
  unfold execSurgeInhibitWrite; refine State.busDo_memsWf _ _ _ _ _ ?_ h; simp (maxDischargeDepth := 8) [h]
theorem execGrantWithdraw_keeps (stack : Fin 40) (s : State) (h : s.memsWf = true) :
    outcomeWf (execGrantWithdraw stack s) = true := by
  simp (maxDischargeDepth := 8) [execGrantWithdraw, h]
theorem execCapFloorFault_keeps (stack : Fin 40) (s : State) (h : s.memsWf = true) :
    outcomeWf (execCapFloorFault stack s) = true := by
  simp (maxDischargeDepth := 8) [execCapFloorFault, h]
theorem execPowerTelemetry_keeps (p : PowerFigures) (s : State) (h : s.memsWf = true) :
    outcomeWf (execPowerTelemetry p s) = true := by
  unfold execPowerTelemetry; generalize List.range 16 = R16; ((repeat' split) <;> simp (maxDischargeDepth := 8) [h])

/-! ## Heat -/

theorem execDiodeSample_keeps (die : Byte) (raw : Int) (check : Bool) (s : State) (h : s.memsWf = true) :
    outcomeWf (execDiodeSample die raw check s) = true := by
  simp (maxDischargeDepth := 8) [execDiodeSample, h]
theorem execThrottleStep_keeps (s : State) (h : s.memsWf = true) :
    outcomeWf (execThrottleStep s) = true := by
  simp (maxDischargeDepth := 8) [execThrottleStep, h]
theorem execPredictedTrip_keeps (die : Byte) (s : State) (h : s.memsWf = true) :
    outcomeWf (execPredictedTrip die s) = true := by
  simp (maxDischargeDepth := 8) [execPredictedTrip, h]
theorem execThermalTrip_keeps (die : Byte) (s : State) (h : s.memsWf = true) :
    outcomeWf (execThermalTrip die s) = true := by
  dsimp only [execThermalTrip]; (repeat' split) <;> simp (maxDischargeDepth := 8) [h]
theorem execMiddleModelUpdate_keeps (stack : Fin 40) (s : State) (h : s.memsWf = true) :
    outcomeWf (execMiddleModelUpdate stack s) = true := by
  simp (maxDischargeDepth := 8) [execMiddleModelUpdate, h]
theorem execDiodeBroken_keeps (die : Byte) (s : State) (h : s.memsWf = true) :
    outcomeWf (execDiodeBroken die s) = true := by
  simp (maxDischargeDepth := 8) [execDiodeBroken, h]
theorem execRegionRecal_keeps (die : Fin 40) (s : State) (h : s.memsWf = true) :
    outcomeWf (execRegionRecal die s) = true := by
  unfold execRegionRecal; generalize List.range 4 = R4; ((repeat' split) <;> simp (maxDischargeDepth := 8) [h])
theorem execCalStart_keeps (ini : Initiator) (ep : Byte) (v : Word) (s : State) (h : s.memsWf = true) :
    outcomeWf (execCalStart ini ep v s) = true := by
  unfold execCalStart; refine State.busDo_memsWf _ _ _ _ _ ?_ h; simp (maxDischargeDepth := 8) [h]
theorem execHourCount_keeps (s : State) (h : s.memsWf = true) :
    outcomeWf (execHourCount s) = true := by
  simp (maxDischargeDepth := 8) [execHourCount, h]
theorem execAgeingEpoch_keeps (m : AgeFigures) (s : State) (h : s.memsWf = true) :
    outcomeWf (execAgeingEpoch m s) = true := by
  unfold execAgeingEpoch; generalize List.range 59 = R59; generalize List.range 160 = R160; ((repeat' split) <;> simp (maxDischargeDepth := 8) [h])

/-! ## Keepers -/

theorem execResetRelease_keeps (s : State) (h : s.memsWf = true) :
    outcomeWf (execResetRelease s) = true := by
  simp (maxDischargeDepth := 8) [execResetRelease, h]
theorem execImageVerify_keeps (k : Fin 3) (s : State) (h : s.memsWf = true) :
    outcomeWf (execImageVerify k s) = true := by
  simp (maxDischargeDepth := 8) [execImageVerify, h]
theorem execRoleAssign_keeps (s : State) (h : s.memsWf = true) :
    outcomeWf (execRoleAssign s) = true := by
  unfold execRoleAssign; generalize List.range 3 = R3; ((repeat' split) <;> simp (maxDischargeDepth := 8) [h])
theorem execRchunk_keeps (f : Frame) (msg : List Byte) (s : State) (h : s.memsWf = true) :
    outcomeWf (execRchunk f msg s) = true := by
  simp (maxDischargeDepth := 8) [execRchunk, h]
theorem execRcommit_keeps (f : Frame) (msg : List Byte) (s : State) (h : s.memsWf = true) :
    outcomeWf (execRcommit f msg s) = true := by
  simp (maxDischargeDepth := 8) [execRcommit, h]
theorem execRstat_keeps (f : Frame) (msg : List Byte) (s : State) (h : s.memsWf = true) :
    outcomeWf (execRstat f msg s) = true := by
  simp (maxDischargeDepth := 8) [execRstat, h]
theorem execRecoveryWriteComplete_keeps (s : State) (h : s.memsWf = true) :
    outcomeWf (execRecoveryWriteComplete s) = true := by
  simp (maxDischargeDepth := 8) [execRecoveryWriteComplete, h]
theorem execImageFlashWrite_keeps (s : State) (h : s.memsWf = true) :
    outcomeWf (execImageFlashWrite s) = true := by
  simp (maxDischargeDepth := 8) [execImageFlashWrite, h]
theorem execHeartbeat_keeps (k : Fin 3) (ep : Byte) (window : Word) (s : State) (h : s.memsWf = true) :
    outcomeWf (execHeartbeat k ep window s) = true := by
  dsimp only [execHeartbeat]; (repeat' split) <;> simp (maxDischargeDepth := 8) [h]
theorem execHeartbeatWindowEnd_keeps (s : State) (h : s.memsWf = true) :
    outcomeWf (execHeartbeatWindowEnd s) = true := by
  simp (maxDischargeDepth := 8) [execHeartbeatWindowEnd, h]
theorem execDigest_keeps (k : Fin 3) (round : Word) (d : Dword) (s : State) (h : s.memsWf = true) :
    outcomeWf (execDigest k round d s) = true := by
  simp (maxDischargeDepth := 8) [execDigest, h]
theorem execDecisionRoundCompare_keeps (s : State) (h : s.memsWf = true) :
    outcomeWf (execDecisionRoundCompare s) = true := by
  dsimp only [execDecisionRoundCompare]; (repeat' split) <;> simp (maxDischargeDepth := 8) [h]
theorem execHealth_keeps (k : Fin 3) (word : Dword) (s : State) (h : s.memsWf = true) :
    outcomeWf (execHealth k word s) = true := by
  simp (maxDischargeDepth := 8) [execHealth, h]
theorem execHealthTimeout_keeps (k : Fin 3) (s : State) (h : s.memsWf = true) :
    outcomeWf (execHealthTimeout k s) = true := by
  simp (maxDischargeDepth := 8) [execHealthTimeout, h]
theorem execDemotion_keeps (s : State) (h : s.memsWf = true) :
    outcomeWf (execDemotion s) = true := by
  dsimp only [execDemotion]; (repeat' split) <;> simp (maxDischargeDepth := 8) [h]
theorem execRole_keeps (k : Fin 3) (s : State) (h : s.memsWf = true) :
    outcomeWf (execRole k s) = true := by
  dsimp only [execRole]; (repeat' split) <;> simp (maxDischargeDepth := 8) [h]
theorem execHold_keeps (k : Fin 3) (s : State) (h : s.memsWf = true) :
    outcomeWf (execHold k s) = true := by
  dsimp only [execHold]; (repeat' split) <;> simp (maxDischargeDepth := 8) [h]
theorem execEpochBump_keeps (s : State) (h : s.memsWf = true) :
    outcomeWf (execEpochBump s) = true := by
  dsimp only [execEpochBump]; (repeat' split) <;> simp (maxDischargeDepth := 8) [h]
theorem execSuccessorRewrite_keeps (s : State) (h : s.memsWf = true) :
    outcomeWf (execSuccessorRewrite s) = true := by
  simp (maxDischargeDepth := 8) [execSuccessorRewrite, h]
theorem execPromote_keeps (ini : Initiator) (ep : Byte) (v : Word) (s : State) (h : s.memsWf = true) :
    outcomeWf (execPromote ini ep v s) = true := by
  unfold execPromote; refine State.busDo_memsWf _ _ _ _ _ ?_ h; simp (maxDischargeDepth := 8) [h]
theorem execKeeperSelfTest_keeps (k : Fin 3) (pass : Bool) (s : State) (h : s.memsWf = true) :
    outcomeWf (execKeeperSelfTest k pass s) = true := by
  simp (maxDischargeDepth := 8) [execKeeperSelfTest, h]
theorem execKeeperRestart_keeps (k : Fin 3) (good : Bool) (s : State) (h : s.memsWf = true) :
    outcomeWf (execKeeperRestart k good s) = true := by
  simp (maxDischargeDepth := 8) [execKeeperRestart, h]

/-! ## RegRead -/

theorem execAbortDrainComplete_keeps (core : Fin 2000) (s : State) (h : s.memsWf = true) :
    outcomeWf (execAbortDrainComplete core s) = true := by
  simp (maxDischargeDepth := 8) [execAbortDrainComplete, h]
theorem execRcRead_keeps (ini : Initiator) (addr : Word) (s : State) (h : s.memsWf = true) :
    outcomeWf (execRcRead ini addr s) = true := by
  simp (maxDischargeDepth := 8) [execRcRead, h]
theorem execLowHalfRead_keeps (ini : Initiator) (addr : Word) (s : State) (h : s.memsWf = true) :
    outcomeWf (execLowHalfRead ini addr s) = true := by
  simp (maxDischargeDepth := 8) [execLowHalfRead, h]
theorem execHighHalfRead_keeps (ini : Initiator) (addr : Word) (s : State) (h : s.memsWf = true) :
    outcomeWf (execHighHalfRead ini addr s) = true := by
  simp (maxDischargeDepth := 8) [execHighHalfRead, h]
theorem execObjDataRead_keeps (ini : Initiator) (s : State) (h : s.memsWf = true) :
    outcomeWf (execObjDataRead ini s) = true := by
  simp (maxDischargeDepth := 8) [execObjDataRead, h]
theorem execIrqTelemetry_keeps (page : BitVec 16) (s : State) (h : s.memsWf = true) :
    outcomeWf (execIrqTelemetry page s) = true := by
  dsimp only [execIrqTelemetry]; (repeat' split) <;> simp (maxDischargeDepth := 8) [h]
theorem execIrqPeriodicMessage_keeps (page : BitVec 16) (s : State) (h : s.memsWf = true) :
    outcomeWf (execIrqPeriodicMessage page s) = true := by
  dsimp only [execIrqPeriodicMessage]; (repeat' split) <;> simp (maxDischargeDepth := 8) [h]

/-! ## Report -/

theorem execHealthReportForm_keeps (s : State) (h : s.memsWf = true) :
    outcomeWf (execHealthReportForm s) = true := by
  simp (maxDischargeDepth := 8) [execHealthReportForm, h]

/-! ## Folio -/

theorem execObjBegin_keeps (ini : Initiator) (ep : Byte) (kind : BitVec 3) (s : State) (h : s.memsWf = true) :
    outcomeWf (execObjBegin ini ep kind s) = true := by
  unfold execObjBegin; refine State.busDo_memsWf _ _ _ _ _ ?_ h; simp (maxDischargeDepth := 8) [h]
theorem execObjDataWrite_keeps (ini : Initiator) (ep : Byte) (v : Word) (s : State) (h : s.memsWf = true) :
    outcomeWf (execObjDataWrite ini ep v s) = true := by
  unfold execObjDataWrite; refine State.busDo_memsWf _ _ _ _ _ ?_ h; simp (maxDischargeDepth := 8) [h]
theorem execObjCommit_keeps (ini : Initiator) (ep : Byte) (s : State) (h : s.memsWf = true) :
    outcomeWf (execObjCommit ini ep s) = true := by
  unfold execObjCommit; refine State.busDo_memsWf _ _ _ _ _ ?_ h; simp (maxDischargeDepth := 8) [h]
theorem execObjAbort_keeps (ini : Initiator) (ep : Byte) (s : State) (h : s.memsWf = true) :
    outcomeWf (execObjAbort ini ep s) = true := by
  unfold execObjAbort; refine State.busDo_memsWf _ _ _ _ _ ?_ h; simp (maxDischargeDepth := 8) [h]
theorem execFolioApply_keeps (s : State) (h : s.memsWf = true) :
    outcomeWf (execFolioApply s) = true := by
  simp (maxDischargeDepth := 8) [execFolioApply, h]
theorem execFoldBack_keeps (s : State) (h : s.memsWf = true) :
    outcomeWf (execFoldBack s) = true := by
  simp (maxDischargeDepth := 8) [execFoldBack, h]
theorem execFoldBackCmd_keeps (ini : Initiator) (ep : Byte) (s : State) (h : s.memsWf = true) :
    outcomeWf (execFoldBackCmd ini ep s) = true := by
  unfold execFoldBackCmd; refine State.busDo_memsWf _ _ _ _ _ ?_ h; simp (maxDischargeDepth := 8) [h]
theorem execUnload_keeps (ini : Initiator) (ep : Byte) (s : State) (h : s.memsWf = true) :
    outcomeWf (execUnload ini ep s) = true := by
  unfold execUnload; refine State.busDo_memsWf _ _ _ _ _ ?_ h; simp (maxDischargeDepth := 8) [h]
theorem execResetToOvum_keeps (ini : Initiator) (ep : Byte) (s : State) (h : s.memsWf = true) :
    outcomeWf (execResetToOvum ini ep s) = true := by
  unfold execResetToOvum; refine State.busDo_memsWf _ _ _ _ _ ?_ h; simp (maxDischargeDepth := 8) [h]

/-! ## Registers -/

theorem execRegisterWrite_keeps (ini : Initiator) (ep : BitVec 8) (addr data : Word) (s : State) (h : s.memsWf = true) :
    outcomeWf (execRegisterWrite ini ep addr data s) = true := by
  simp (maxDischargeDepth := 8) [execRegisterWrite, h]
theorem execHighHalfWrite_keeps (ini : Initiator) (ep : BitVec 8) (addr data : Word) (s : State) (h : s.memsWf = true) :
    outcomeWf (execHighHalfWrite ini ep addr data s) = true := by
  simp (maxDischargeDepth := 8) [execHighHalfWrite, h]
theorem execLowHalfWrite_keeps (ini : Initiator) (ep : BitVec 8) (addr data : Word) (s : State) (h : s.memsWf = true) :
    outcomeWf (execLowHalfWrite ini ep addr data s) = true := by
  simp (maxDischargeDepth := 8) [execLowHalfWrite, h]
theorem execSoftReset_keeps (ini : Initiator) (ep : BitVec 8) (page : BitVec 16) (s : State) (h : s.memsWf = true) :
    outcomeWf (execSoftReset ini ep page s) = true := by
  simp (maxDischargeDepth := 8) [execSoftReset, h]
theorem execPageLock_keeps (ini : Initiator) (ep : BitVec 8) (page : BitVec 16) (s : State) (h : s.memsWf = true) :
    outcomeWf (execPageLock ini ep page s) = true := by
  simp (maxDischargeDepth := 8) [execPageLock, h]
theorem execPageUnlock_keeps (ini : Initiator) (ep : BitVec 8) (page : BitVec 16) (s : State) (h : s.memsWf = true) :
    outcomeWf (execPageUnlock ini ep page s) = true := by
  simp (maxDischargeDepth := 8) [execPageUnlock, h]
theorem execPageIrqForce_keeps (ini : Initiator) (ep : BitVec 8) (page : BitVec 16) (bits : Word) (s : State) (h : s.memsWf = true) :
    outcomeWf (execPageIrqForce ini ep page bits s) = true := by
  simp (maxDischargeDepth := 8) [execPageIrqForce, h]
theorem execBcastWrite_keeps (ini : Initiator) (ep : BitVec 8) (addr data : Word) (s : State) (h : s.memsWf = true) :
    outcomeWf (execBcastWrite ini ep addr data s) = true := by
  unfold execBcastWrite
  dsimp only
  split
  · simp [h]
  · (repeat' split) <;> try simp [h]
    all_goals
      refine foldl_keeps _ (fun u i hu => ?_) _ h
      split <;> simp [hu]
theorem execFmgmtRead_keeps (m15 : Bool) (src : BitVec 12) (tag : BitVec 17) (addr : BitVec 28) (s : State) (h : s.memsWf = true) :
    outcomeWf (execFmgmtRead m15 src tag addr s) = true := by
  simp (maxDischargeDepth := 8) [execFmgmtRead, h]
theorem execFmgmtWrite_keeps (m15 : Bool) (src : BitVec 12) (tag : BitVec 17) (addr : BitVec 28) (data : Word) (s : State) (h : s.memsWf = true) :
    outcomeWf (execFmgmtWrite m15 src tag addr data s) = true := by
  simp (maxDischargeDepth := 8) [execFmgmtWrite, h]
theorem execFmgmtReply_keeps (tag : BitVec 17) (addr : BitVec 28) (data : Word) (s : State) (h : s.memsWf = true) :
    outcomeWf (execFmgmtReply tag addr data s) = true := by
  simp (maxDischargeDepth := 8) [execFmgmtReply, h]
theorem execFmgmtError_keeps (tag : BitVec 17) (addr : BitVec 28) (code : Byte) (s : State) (h : s.memsWf = true) :
    outcomeWf (execFmgmtError tag addr code s) = true := by
  simp (maxDischargeDepth := 8) [execFmgmtError, h]
theorem execI3cPointerWrite_keeps (addr : Word) (s : State) (h : s.memsWf = true) :
    outcomeWf (execI3cPointerWrite addr s) = true := by
  simp (maxDischargeDepth := 8) [execI3cPointerWrite, h]
theorem execI3cWordWrite_keeps (addr : Word) (words : List Word) (s : State) (h : s.memsWf = true) :
    outcomeWf (execI3cWordWrite addr words s) = true := by
  simp (maxDischargeDepth := 8) [execI3cWordWrite, h]
theorem execI3cPrivateRead_keeps (n : Nat) (s : State) (h : s.memsWf = true) :
    outcomeWf (execI3cPrivateRead n s) = true := by
  simp (maxDischargeDepth := 8) [execI3cPrivateRead, h]
theorem execEntdaa_keeps (dyn : BitVec 7) (s : State) (h : s.memsWf = true) :
    outcomeWf (execEntdaa dyn s) = true := by
  simp (maxDischargeDepth := 8) [execEntdaa, h]
theorem execSetdasa_keeps (dyn : BitVec 7) (s : State) (h : s.memsWf = true) :
    outcomeWf (execSetdasa dyn s) = true := by
  simp (maxDischargeDepth := 8) [execSetdasa, h]
theorem execIbiDelivery_keeps (s : State) (h : s.memsWf = true) :
    outcomeWf (execIbiDelivery s) = true := by
  dsimp only [execIbiDelivery]; (repeat' split) <;> simp (maxDischargeDepth := 8) [h]

/-! ## Pins -/

theorem execInputRise_keeps (s : State) (h : s.memsWf = true) :
    outcomeWf (execInputRise s) = true := by
  simp (maxDischargeDepth := 8) [execInputRise, h]
theorem execAlwaysOnStart_keeps (s : State) (h : s.memsWf = true) :
    outcomeWf (execAlwaysOnStart s) = true := by
  simp (maxDischargeDepth := 8) [execAlwaysOnStart, h]
theorem execResetAssert_keeps (s : State) (h : s.memsWf = true) :
    outcomeWf (execResetAssert s) = true := by
  simp (maxDischargeDepth := 8) [execResetAssert, h]
theorem execTapBypass_keeps (s : State) (h : s.memsWf = true) :
    outcomeWf (execTapBypass s) = true := by
  simp (maxDischargeDepth := 8) [execTapBypass, h]
theorem execTapIdcode_keeps (s : State) (h : s.memsWf = true) :
    outcomeWf (execTapIdcode s) = true := by
  simp (maxDischargeDepth := 8) [execTapIdcode, h]
theorem execTapSamplePreload_keeps (pins load : BitVec 80) (s : State) (h : s.memsWf = true) :
    outcomeWf (execTapSamplePreload pins load s) = true := by
  simp (maxDischargeDepth := 8) [execTapSamplePreload, h]
theorem execTapExtest_keeps (s : State) (h : s.memsWf = true) :
    outcomeWf (execTapExtest s) = true := by
  simp (maxDischargeDepth := 8) [execTapExtest, h]
theorem execTestLogicReset_keeps (s : State) (h : s.memsWf = true) :
    outcomeWf (execTestLogicReset s) = true := by
  simp (maxDischargeDepth := 8) [execTestLogicReset, h]
theorem execLsmStandbyReady_keeps (lsm : Fin 7) (outs : BitVec 4) (line : Fin 41) (s : State) (h : s.memsWf = true) :
    outcomeWf (execLsmStandbyReady lsm outs line s) = true := by
  simp (maxDischargeDepth := 8) [execLsmStandbyReady, h]

end Sys2Proof.Machine
end

