-- ==== Sys2Proof/Laws/PerInstr.lean ====
section
/-!
SUPPORT. Sys2Proof/Laws/PerInstr.lean: the family OwnWrite, one lemma per command: the register that a register's own command writes is a block register of an
existing page (R533, R534).
-/
namespace Sys2Proof.Laws.OwnWrite
open Sys2Proof.Machine

/-- The write that a command makes by its own row, where it makes one, is to a block register of an existing page. -/
def Statement (c : Instr) : Prop :=
  ∀ ini ep t i off, ownWrite c = some (ini, ep, t, i, off) → i < (pageInfo t).insts ∧ 0x040 ≤ off ∧ off < 4096

/-- A command whose write is to a known register. -/
theorem of_some {c : Instr} {ini₀ : Initiator} {ep₀ : Byte} {t₀ : PageType} {i₀ off₀ : Nat} (h : ownWrite c = some (ini₀, ep₀, t₀, i₀, off₀))
    (hi : i₀ < (pageInfo t₀).insts) (ho : 0x040 ≤ off₀ ∧ off₀ < 4096) : Statement c := by
  intro ini ep t i off he
  rw [h] at he
  cases he
  exact ⟨hi, ho⟩
/-- A command without a register of its own. -/
theorem of_none {c : Instr} (h : ownWrite c = none) : Statement c := by
  intro ini ep t i off he
  rw [h] at he
  cases he
/-- The home of a group is one of the 59 home channels. -/
theorem grpHome_lt (g : Fin 1158) : grpHome g < 59 := by
  have := g.isLt
  unfold grpHome
  split <;> [omega; split <;> omega]

theorem registerWrite (ini : Initiator) (ep : BitVec 8) (addr data : Word) : Statement (.registerWrite ini ep addr data) := of_none rfl
theorem rcRead (ini : Initiator) (addr : Word) : Statement (.rcRead ini addr) := of_none rfl
theorem lowHalfRead (ini : Initiator) (addr : Word) : Statement (.lowHalfRead ini addr) := of_none rfl
theorem highHalfRead (ini : Initiator) (addr : Word) : Statement (.highHalfRead ini addr) := of_none rfl
theorem highHalfWrite (ini : Initiator) (ep : BitVec 8) (addr data : Word) : Statement (.highHalfWrite ini ep addr data) := of_none rfl
theorem lowHalfWrite (ini : Initiator) (ep : BitVec 8) (addr data : Word) : Statement (.lowHalfWrite ini ep addr data) := of_none rfl
theorem softReset (ini : Initiator) (ep : BitVec 8) (page : BitVec 16) : Statement (.softReset ini ep page) := of_none rfl
theorem pageLock (ini : Initiator) (ep : BitVec 8) (page : BitVec 16) : Statement (.pageLock ini ep page) := of_none rfl
theorem pageUnlock (ini : Initiator) (ep : BitVec 8) (page : BitVec 16) : Statement (.pageUnlock ini ep page) := of_none rfl
theorem pageIrqForce (ini : Initiator) (ep : BitVec 8) (page : BitVec 16) (bits : Word) : Statement (.pageIrqForce ini ep page bits) := of_none rfl
theorem bcastWrite (ini : Initiator) (ep : BitVec 8) (addr data : Word) : Statement (.bcastWrite ini ep addr data) := of_none rfl
theorem irqTelemetry (page : BitVec 16) : Statement (.irqTelemetry page) := of_none rfl
theorem irqPeriodicMessage (page : BitVec 16) : Statement (.irqPeriodicMessage page) := of_none rfl
theorem i3cPointerWrite (addr : Word) : Statement (.i3cPointerWrite addr) := of_none rfl
theorem i3cWordWrite (addr : Word) (words : List Word) : Statement (.i3cWordWrite addr words) := of_none rfl
theorem i3cPrivateRead (n : Nat) : Statement (.i3cPrivateRead n) := of_none rfl
theorem entdaa (dyn : BitVec 7) : Statement (.entdaa dyn) := of_none rfl
theorem setdasa (dyn : BitVec 7) : Statement (.setdasa dyn) := of_none rfl
theorem bundleIssue (core : Fin 2000) (ctx : Ctx) : Statement (.bundleIssue core ctx) := of_none rfl
theorem nop (core : Fin 2000) (ctx : Ctx) (slot : BundleSlot) (low : BitVec 56) : Statement (.nop core ctx slot low) := of_none rfl
theorem endCmd (core : Fin 2000) (ctx : Ctx) : Statement (.endCmd core ctx) := of_none rfl
theorem fence (core : Fin 2000) (ctx : Ctx) : Statement (.fence core ctx) := of_none rfl
theorem wait (core : Fin 2000) (ctx : Ctx) (ra : Fin 16) (ctr : Fin 32) : Statement (.wait core ctx ra ctr) := of_none rfl
theorem sig (core : Fin 2000) (ctx : Ctx) (ctr : Fin 32) : Statement (.sig core ctx ctr) := of_none rfl
theorem rdctr (core : Fin 2000) (ctx : Ctx) (rd : Fin 16) (ctr : Fin 32) : Statement (.rdctr core ctx rd ctr) := of_none rfl
theorem cwait (core : Fin 2000) (ctx : Ctx) (n : Word) : Statement (.cwait core ctx n) := of_none rfl
theorem twait (core : Fin 2000) (ctx : Ctx) (ra : Fin 16) : Statement (.twait core ctx ra) := of_none rfl
theorem rdtb (core : Fin 2000) (ctx : Ctx) (rd : Fin 16) : Statement (.rdtb core ctx rd) := of_none rfl
theorem ldi (core : Fin 2000) (ctx : Ctx) (rd : Fin 16) (imm : BitVec 48) : Statement (.ldi core ctx rd imm) := of_none rfl
theorem addi (core : Fin 2000) (ctx : Ctx) (rd ra : Fin 16) (imm : BitVec 48) : Statement (.addi core ctx rd ra imm) := of_none rfl
theorem add (core : Fin 2000) (ctx : Ctx) (rd ra rb : Fin 16) : Statement (.add core ctx rd ra rb) := of_none rfl
theorem sub (core : Fin 2000) (ctx : Ctx) (rd ra rb : Fin 16) : Statement (.sub core ctx rd ra rb) := of_none rfl
theorem and (core : Fin 2000) (ctx : Ctx) (rd ra rb : Fin 16) : Statement (.and core ctx rd ra rb) := of_none rfl
theorem or (core : Fin 2000) (ctx : Ctx) (rd ra rb : Fin 16) : Statement (.or core ctx rd ra rb) := of_none rfl
theorem xor (core : Fin 2000) (ctx : Ctx) (rd ra rb : Fin 16) : Statement (.xor core ctx rd ra rb) := of_none rfl
theorem shl (core : Fin 2000) (ctx : Ctx) (rd ra rb : Fin 16) : Statement (.shl core ctx rd ra rb) := of_none rfl
theorem shr (core : Fin 2000) (ctx : Ctx) (rd ra rb : Fin 16) : Statement (.shr core ctx rd ra rb) := of_none rfl
theorem mul (core : Fin 2000) (ctx : Ctx) (rd ra rb : Fin 16) : Statement (.mul core ctx rd ra rb) := of_none rfl
theorem jmp (core : Fin 2000) (ctx : Ctx) (target : BitVec 12) : Statement (.jmp core ctx target) := of_none rfl
theorem br (core : Fin 2000) (ctx : Ctx) (ra rb : Fin 16) (cond : BitVec 4) (target : BitVec 12) : Statement (.br core ctx ra rb cond target) := of_none rfl
theorem dbnz (core : Fin 2000) (ctx : Ctx) (ra : Fin 16) (target : BitVec 12) : Statement (.dbnz core ctx ra target) := of_none rfl
theorem hld (core : Fin 2000) (ctx : Ctx) (rd ra : Fin 16) (size : Bool) : Statement (.hld core ctx rd ra size) := of_none rfl
theorem hst (core : Fin 2000) (ctx : Ctx) (rs ra : Fin 16) (size : Bool) : Statement (.hst core ctx rs ra size) := of_none rfl
theorem hatAdd (core : Fin 2000) (ctx : Ctx) (rd ra rb : Fin 16) (size : Bool) : Statement (.hatAdd core ctx rd ra rb size) := of_none rfl
theorem hatMin (core : Fin 2000) (ctx : Ctx) (rd ra rb : Fin 16) (size : Bool) : Statement (.hatMin core ctx rd ra rb size) := of_none rfl
theorem hatMax (core : Fin 2000) (ctx : Ctx) (rd ra rb : Fin 16) (size : Bool) : Statement (.hatMax core ctx rd ra rb size) := of_none rfl
theorem hatSwap (core : Fin 2000) (ctx : Ctx) (rd ra rb : Fin 16) (size : Bool) : Statement (.hatSwap core ctx rd ra rb size) := of_none rfl
theorem hatCas (core : Fin 2000) (ctx : Ctx) (rd ra rb : Fin 16) (size : Bool) : Statement (.hatCas core ctx rd ra rb size) := of_none rfl
theorem hatFadd (core : Fin 2000) (ctx : Ctx) (rd ra rb : Fin 16) (size : Bool) : Statement (.hatFadd core ctx rd ra rb size) := of_none rfl
theorem xpost (core : Fin 2000) (ctx : Ctx) (ra : Fin 16) : Statement (.xpost core ctx ra) := of_none rfl
theorem kinc (core : Fin 2000) (ctx : Ctx) (kettle : BitVec 8) : Statement (.kinc core ctx kettle) := of_none rfl
theorem mcfg (core : Fin 2000) (ctx : Ctx) : Statement (.mcfg core ctx) := of_none rfl
theorem mlcb (core : Fin 2000) (ctx : Ctx) : Statement (.mlcb core ctx) := of_none rfl
theorem mma (core : Fin 2000) (ctx : Ctx) : Statement (.mma core ctx) := of_none rfl
theorem mst (core : Fin 2000) (ctx : Ctx) : Statement (.mst core ctx) := of_none rfl
theorem mld (core : Fin 2000) (ctx : Ctx) : Statement (.mld core ctx) := of_none rfl
theorem rmld (core : Fin 2000) (ctx : Ctx) : Statement (.rmld core ctx) := of_none rfl
theorem rmst (core : Fin 2000) (ctx : Ctx) : Statement (.rmst core ctx) := of_none rfl
theorem rmx (core : Fin 2000) (ctx : Ctx) : Statement (.rmx core ctx) := of_none rfl
theorem vadd (core : Fin 2000) (ctx : Ctx) : Statement (.vadd core ctx) := of_none rfl
theorem vsub (core : Fin 2000) (ctx : Ctx) : Statement (.vsub core ctx) := of_none rfl
theorem vmul (core : Fin 2000) (ctx : Ctx) : Statement (.vmul core ctx) := of_none rfl
theorem vmax (core : Fin 2000) (ctx : Ctx) : Statement (.vmax core ctx) := of_none rfl
theorem vmin (core : Fin 2000) (ctx : Ctx) : Statement (.vmin core ctx) := of_none rfl
theorem vfma (core : Fin 2000) (ctx : Ctx) : Statement (.vfma core ctx) := of_none rfl
theorem vsmul (core : Fin 2000) (ctx : Ctx) : Statement (.vsmul core ctx) := of_none rfl
theorem vsadd (core : Fin 2000) (ctx : Ctx) : Statement (.vsadd core ctx) := of_none rfl
theorem vexp2 (core : Fin 2000) (ctx : Ctx) : Statement (.vexp2 core ctx) := of_none rfl
theorem vlog2 (core : Fin 2000) (ctx : Ctx) : Statement (.vlog2 core ctx) := of_none rfl
theorem vrcp (core : Fin 2000) (ctx : Ctx) : Statement (.vrcp core ctx) := of_none rfl
theorem vrsqrt (core : Fin 2000) (ctx : Ctx) : Statement (.vrsqrt core ctx) := of_none rfl
theorem vabs (core : Fin 2000) (ctx : Ctx) : Statement (.vabs core ctx) := of_none rfl
theorem vneg (core : Fin 2000) (ctx : Ctx) : Statement (.vneg core ctx) := of_none rfl
theorem vmov (core : Fin 2000) (ctx : Ctx) : Statement (.vmov core ctx) := of_none rfl
theorem vcvt (core : Fin 2000) (ctx : Ctx) : Statement (.vcvt core ctx) := of_none rfl
theorem vrsum (core : Fin 2000) (ctx : Ctx) : Statement (.vrsum core ctx) := of_none rfl
theorem vrmax (core : Fin 2000) (ctx : Ctx) : Statement (.vrmax core ctx) := of_none rfl
theorem vtopk (core : Fin 2000) (ctx : Ctx) : Statement (.vtopk core ctx) := of_none rfl
theorem vsamp (core : Fin 2000) (ctx : Ctx) : Statement (.vsamp core ctx) := of_none rfl
theorem vrng (core : Fin 2000) (ctx : Ctx) : Statement (.vrng core ctx) := of_none rfl
theorem engineCommandComplete (core : Fin 2000) (eng : Engine) : Statement (.engineCommandComplete core eng) := of_none rfl
theorem waitTmo (core : Fin 2000) (ctx : Ctx) (slot : BundleSlot) : Statement (.waitTmo core ctx slot) := of_none rfl
theorem dStart (ini : Initiator) (ep : BitVec 8) (core : Fin 2000) : Statement (.dStart ini ep core) := of_some rfl core.isLt (by omega)
theorem pStart (ini : Initiator) (ep : BitVec 8) (core : Fin 2000) : Statement (.pStart ini ep core) := of_some rfl core.isLt (by omega)
theorem dAbort (ini : Initiator) (ep : BitVec 8) (core : Fin 2000) : Statement (.dAbort ini ep core) := of_some rfl core.isLt (by omega)
theorem pPreempt (ini : Initiator) (ep : BitVec 8) (core : Fin 2000) : Statement (.pPreempt ini ep core) := of_some rfl core.isLt (by omega)
theorem pResume (ini : Initiator) (ep : BitVec 8) (core : Fin 2000) : Statement (.pResume ini ep core) := of_some rfl core.isLt (by omega)
theorem clearCtr (ini : Initiator) (ep : BitVec 8) (core : Fin 2000) : Statement (.clearCtr ini ep core) := of_some rfl core.isLt (by omega)
theorem abortDrainComplete (core : Fin 2000) : Statement (.abortDrainComplete core) := of_none rfl
theorem parkComplete (core : Fin 2000) : Statement (.parkComplete core) := of_none rfl
theorem ctxBanksWrite (ini : Initiator) (ep : BitVec 8) (core : Fin 2000) (dBanks pBanks : Byte) : Statement (.ctxBanksWrite ini ep core dBanks pBanks) := of_some rfl core.isLt (by omega)
theorem gRegisterWrite (ini : Initiator) (ep : BitVec 8) (core : Fin 2000) (ctx : Ctx) (reg : Fin 16) (v : Dword) : Statement (.gRegisterWrite ini ep core ctx reg v) := of_some rfl core.isLt (by cases ctx <;> simp only <;> omega)
theorem rowGrant (stack : Fin 40) (bank : Fin 32) : Statement (.rowGrant stack bank) := of_none rfl
theorem rowScrub (stack : Fin 40) : Statement (.rowScrub stack) := of_none rfl
theorem spareRowRemap (stack : Fin 40) (bank : Fin 32) (row : BitVec 16) : Statement (.spareRowRemap stack bank row) := of_none rfl
theorem bondFailDeclare (stack : Fin 40) (kind : BondClass × Bool) (grp pos : Nat) : Statement (.bondFailDeclare stack kind grp pos) := of_none rfl
theorem bondRepair (stack : Fin 40) (kind : BondClass × Bool) (place : Nat × Nat) : Statement (.bondRepair stack kind place) := of_none rfl
theorem halfRowEntry (stack : Fin 40) : Statement (.halfRowEntry stack) := of_none rfl
theorem governorTick (stack : Fin 40) : Statement (.governorTick stack) := of_none rfl
theorem powerSample (stack : Fin 40) (compute rowStore base : BitVec 10) : Statement (.powerSample stack compute rowStore base) := of_none rfl
theorem capLimitWrite (ini : Initiator) (ep : BitVec 8) (stack : Fin 40) (sustained surge : Byte) : Statement (.capLimitWrite ini ep stack sustained surge) := of_some rfl stack.isLt (by omega)
theorem surgeGrantWrite (ini : Initiator) (ep : BitVec 8) (stack : Fin 40) (grant : Bool) : Statement (.surgeGrantWrite ini ep stack grant) := of_some rfl stack.isLt (by omega)
theorem mrd (src : Byte) (tag : BitVec 16) (grp : BitVec 5) (blk : BitVec 32) (first : BitVec 4) (count : BitVec 4) : Statement (.mrd src tag grp blk first count) := of_none rfl
theorem mwr (src : Byte) (tag : BitVec 16) (grp : BitVec 5) (blk : BitVec 32) (chunk : BitVec 5) (data : Payload) : Statement (.mwr src tag grp blk chunk data) := of_none rfl
theorem mwrp (src : Byte) (tag : BitVec 16) (grp : BitVec 5) (addr : Dword) (len : BitVec 8) (data : BitVec 128) : Statement (.mwrp src tag grp addr len data) := of_none rfl
theorem mcas (src : Byte) (tag : BitVec 16) (addr expected new : Dword) : Statement (.mcas src tag addr expected new) := of_none rfl
theorem memCommandIssue (chan : Fin 384) : Statement (.memCommandIssue chan) := of_none rfl
theorem mrsp (dst : Byte) (tag : BitVec 16) (chunk : BitVec 5) (data : Payload) : Statement (.mrsp dst tag chunk data) := of_none rfl
theorem mwack (dst : Byte) (tag : BitVec 16) (chunk : BitVec 5) : Statement (.mwack dst tag chunk) := of_none rfl
theorem mpoison (dst : Byte) (tag : BitVec 16) (chunk : BitVec 5) : Statement (.mpoison dst tag chunk) := of_none rfl
theorem mcasr (dst : Byte) (tag : BitVec 16) (found : Dword) (success : Bool) : Statement (.mcasr dst tag found success) := of_none rfl
theorem memScrub (chan : Fin 384) : Statement (.memScrub chan) := of_none rfl
theorem refreshDue (chan : Fin 384) (bank : Fin 16) : Statement (.refreshDue chan bank) := of_none rfl
theorem refreshRateChange (chan : Fin 384) (rate : Fin 3) : Statement (.refreshRateChange chan rate) := of_none rfl
theorem channelRetrain (chan : Fin 384) (good : Bool) : Statement (.channelRetrain chan good) := of_none rfl
theorem retrainDeadline (chan : Fin 384) (good : Bool) : Statement (.retrainDeadline chan good) := of_none rfl
theorem memoryTraining (tries : List (Fin 384 × Fin 4)) : Statement (.memoryTraining tries) := of_none rfl
theorem phyPllAlarm (phy : Fin 32) (persists : Bool) : Statement (.phyPllAlarm phy persists) := of_none rfl
theorem sieveSeal (unit : Fin 64) : Statement (.sieveSeal unit) := of_none rfl
theorem sieveQuery (unit : Fin 64) : Statement (.sieveQuery unit) := of_none rfl
theorem svop (unit : Fin 64) (src : Byte) (tag : BitVec 16) (blk : BitVec 32) (chunk : BitVec 5) (data : Payload) : Statement (.svop unit src tag blk chunk data) := of_none rfl
theorem svdone (stack : Fin 40) (tag : BitVec 16) (status : Byte) : Statement (.svdone stack tag status) := of_none rfl
theorem chainActivate (stack : Fin 40) : Statement (.chainActivate stack) := of_none rfl
theorem descriptorFetched (stack : Fin 40) (place : Fin 16) : Statement (.descriptorFetched stack place) := of_none rfl
theorem pieceIssue (stack : Fin 40) : Statement (.pieceIssue stack) := of_none rfl
theorem walkStep (unit : Fin 42) (walk : Fin 8) : Statement (.walkStep unit walk) := of_none rfl
theorem pagerFaultReceive (stack : Fin 40) : Statement (.pagerFaultReceive stack) := of_none rfl
theorem zeroFill (stack : Fin 40) : Statement (.zeroFill stack) := of_none rfl
theorem ticketDone (ticket : BitVec 16) (data : List Byte) : Statement (.ticketDone ticket data) := of_none rfl
theorem resume (stack : Fin 40) (entry : BitVec 42) : Statement (.resume stack entry) := of_none rfl
theorem loadTmo (stack : Fin 40) : Statement (.loadTmo stack) := of_none rfl
theorem poolPush (ini : Initiator) (ep : BitVec 8) (stack : Fin 40) (page : Dword) : Statement (.poolPush ini ep stack page) := of_some rfl stack.isLt (by omega)
theorem pieceComplete (stack : Fin 40) (tag : BitVec 16) : Statement (.pieceComplete stack tag) := of_none rfl
theorem recordWriteComplete (stack : Fin 40) (seq : Nat) : Statement (.recordWriteComplete stack seq) := of_none rfl
theorem tableBaseWrite (ini : Initiator) (ep : BitVec 8) (stack : Fin 40) (v : Dword) : Statement (.tableBaseWrite ini ep stack v) := of_some rfl stack.isLt (by omega)
theorem tagLimitWrite (ini : Initiator) (ep : BitVec 8) (stack : Fin 40) (v : BitVec 12) : Statement (.tagLimitWrite ini ep stack v) := of_some rfl stack.isLt (by omega)
theorem tokenCapture (site : Fin 59) (grp : Fin 1158) (seen : TokenSeen) (cells : List CellBits) : Statement (.tokenCapture site grp seen cells) := of_none rfl
theorem tokenRelease (site : Fin 59) (ended : BurstEnd) : Statement (.tokenRelease site ended) := of_none rfl
theorem burstReceive (grp : Fin 1158) (site : Fin 59) (lower upper : List (List (BitVec 10))) : Statement (.burstReceive grp site lower upper) := of_none rfl
theorem burstAck (site : Fin 59) (grp : Fin 1158) (id : BitVec 4) : Statement (.burstAck site grp id) := of_none rfl
theorem burstNak (site : Fin 59) (grp : Fin 1158) (id idx : BitVec 4) : Statement (.burstNak site grp id idx) := of_none rfl
theorem statusTimeout (site : Fin 59) (grp : Fin 1158) : Statement (.statusTimeout site grp) := of_none rfl
theorem retryLimitExpiry (site : Fin 59) (grp : Fin 1158) : Statement (.retryLimitExpiry site grp) := of_none rfl
theorem groupBlock (ini : Initiator) (ep : BitVec 8) (grp : Fin 1158) : Statement (.groupBlock ini ep grp) := of_some rfl (grpHome_lt grp) (by omega)
theorem groupBlocked (grp : Fin 1158) : Statement (.groupBlocked grp) := of_none rfl
theorem groupUnblock (ini : Initiator) (ep : BitVec 8) (grp : Fin 1158) : Statement (.groupUnblock ini ep grp) := of_some rfl (grpHome_lt grp) (by omega)
theorem groupSleep (ini : Initiator) (ep : BitVec 8) (grp : Fin 1158) : Statement (.groupSleep ini ep grp) := of_some rfl (grpHome_lt grp) (by omega)
theorem groupWake (ini : Initiator) (ep : BitVec 8) (grp : Fin 1158) : Statement (.groupWake ini ep grp) := of_some rfl (grpHome_lt grp) (by omega)
theorem groupSpare (ini : Initiator) (ep : BitVec 8) (grp : Fin 1158) (lane : Fin 8) (off : BitVec 4) : Statement (.groupSpare ini ep grp lane off) := of_some rfl (grpHome_lt grp) (by omega)
theorem tokenRegenerate (grp : Fin 1158) : Statement (.tokenRegenerate grp) := of_none rfl
theorem groupSleepEntry (grp : Fin 1158) : Statement (.groupSleepEntry grp) := of_none rfl
theorem wake (grp : Fin 1158) : Statement (.wake grp) := of_none rfl
theorem ready (grp : Fin 1158) : Statement (.ready grp) := of_none rfl
theorem wakeFailure (grp : Fin 1158) : Statement (.wakeFailure grp) := of_none rfl
theorem laneLockAchieved (grp : Fin 1158) (off : Fin 10) : Statement (.laneLockAchieved grp off) := of_none rfl
theorem tsMatch (grp : Fin 1158) (seen : TsSeen) : Statement (.tsMatch grp seen) := of_none rfl
theorem tsWrongSlot (grp : Fin 1158) (seen : TsSeen) : Statement (.tsWrongSlot grp seen) := of_none rfl
theorem trainingTimeout (grp : Fin 1158) (off : Fin 10) : Statement (.trainingTimeout grp off) := of_none rfl
theorem laneHardFail (ring : Ring) (loss : LaneLoss) : Statement (.laneHardFail ring loss) := of_none rfl
theorem groupStart (grp : Fin 1158) : Statement (.groupStart grp) := of_none rfl
theorem sparingSwitch (grp : Fin 1158) : Statement (.sparingSwitch grp) := of_none rfl
theorem sparingEnd (grp : Fin 1158) : Statement (.sparingEnd grp) := of_none rfl
theorem transmitterWithdraw (site : Fin 59) (tx : BitVec 7) (cause : BitVec 2) : Statement (.transmitterWithdraw site tx cause) := of_none rfl
theorem spineHopRetry (ini : Initiator) (site : Fin 59) (word : Dword) (got : List (Dword × Byte)) : Statement (.spineHopRetry ini site word got) := of_none rfl
theorem ident (ask : IdentAsk) : Statement (.ident ask) := of_none rfl
theorem identTimeout (die : Byte) : Statement (.identTimeout die) := of_none rfl
theorem kettleIncrement (kettle : BitVec 8) : Statement (.kettleIncrement kettle) := of_none rfl
theorem kettleRelease (kettle : BitVec 8) : Statement (.kettleRelease kettle) := of_none rfl
theorem krel (kettle : BitVec 8) : Statement (.krel kettle) := of_none rfl
theorem lsmIdentify (lsm : Fin 7) (present : Bool) (names : BitVec 256) (read : LsmRead) (probes : BitVec 4) :
    Statement (.lsmIdentify lsm present names read probes) := of_none rfl
theorem cmisFail (lsm : Fin 7) (retries : Fin 4) (good : Bool) : Statement (.cmisFail lsm retries good) := of_none rfl
theorem lineMonitorVisit (fibre : Fin 26) (line : Fin 41) (power offset : Int) : Statement (.lineMonitorVisit fibre line power offset) := of_none rfl
theorem refLightLoss : Statement (.refLightLoss) := of_none rfl
theorem refLightRestored : Statement (.refLightRestored) := of_none rfl
theorem holdoverExpiry : Statement (.holdoverExpiry) := of_none rfl
theorem lockLoopUpdate (ring : Ring) (err : Int) : Statement (.lockLoopUpdate ring err) := of_none rfl
theorem calPassStart : Statement (.calPassStart) := of_none rfl
theorem laneCal (grp : Fin 1158) : Statement (.laneCal grp) := of_none rfl
theorem calTimeout (ring : Ring) : Statement (.calTimeout ring) := of_none rfl
theorem blockingCal (grp : Fin 1158) (good : BitVec 10) : Statement (.blockingCal grp good) := of_none rfl
theorem markSweep (grp : Fin 1158) (off : Fin 10) (heard : SweepHeard) : Statement (.markSweep grp off heard) := of_none rfl
theorem sweepOutcome (grp : Fin 1158) (off : Fin 10) : Statement (.sweepOutcome grp off) := of_none rfl
theorem commissioning (fibre : Fin 26) (line : Fin 41) (power : Int) : Statement (.commissioning fibre line power) := of_none rfl
theorem fadeCrossing (fibre : Fin 26) (line : Fin 41) : Statement (.fadeCrossing fibre line) := of_none rfl
theorem fadeRecovery (fibre : Fin 26) (line : Fin 41) : Statement (.fadeRecovery fibre line) := of_none rfl
theorem rapidFade (lsm : Fin 7) (out : Fin 4) (line : Fin 41) : Statement (.rapidFade lsm out line) := of_none rfl
theorem swapTrigger (lsm : Fin 7) (outs : BitVec 4) (line : Fin 41) : Statement (.swapTrigger lsm outs line) := of_none rfl
theorem swapPauseStart (lsm : Fin 7) (outs : BitVec 4) (line : Fin 41) : Statement (.swapPauseStart lsm outs line) := of_none rfl
theorem swapPauseEnd (lsm : Fin 7) (outs : BitVec 4) (line : Fin 41) : Statement (.swapPauseEnd lsm outs line) := of_none rfl
theorem swapCheck (lsm : Fin 7) (outs : BitVec 4) (line : Fin 41) (power offset : Int) : Statement (.swapCheck lsm outs line power offset) := of_none rfl
theorem interlockUnmated (fibre : Fin 26) (tap : Int) (disabled : Bool) : Statement (.interlockUnmated fibre tap disabled) := of_none rfl
theorem interlockEnableDrop (fibre : Fin 26) : Statement (.interlockEnableDrop fibre) := of_none rfl
theorem probe (fibre : Fin 26) (tap : Int) : Statement (.probe fibre tap) := of_none rfl
theorem safetyRestore (ini : Initiator) (ep : BitVec 8) (lsm : Fin 7) (outs : BitVec 4) : Statement (.safetyRestore ini ep lsm outs) := of_some rfl lsm.isLt (by omega)
theorem lsmRemoval (lsm : Fin 7) : Statement (.lsmRemoval lsm) := of_none rfl
theorem lineSelWrite (ini : Initiator) (ep : BitVec 8) (lsm : Fin 7) (v : Word) : Statement (.lineSelWrite ini ep lsm v) := of_some rfl lsm.isLt (by omega)
theorem codewordDecode (port : Fin 6) (off : Fin 10) (chars : List Byte) (bad disp : BitVec 136) : Statement (.codewordDecode port off chars bad disp) := of_none rfl
theorem alignmentLoss (port : Fin 6) (off : Fin 10) : Statement (.alignmentLoss port off) := of_none rfl
theorem portTrainStart (port : Fin 6) : Statement (.portTrainStart port) := of_none rfl
theorem xtsReceive (port : Fin 6) (lane : PortLine) (slot role sender flags : Byte) (coord dims : BitVec 12) (serial : Dword) (expect : BitVec 12) :
    Statement (.xtsReceive port lane slot role sender flags coord dims serial expect) := of_none rfl
theorem xstart (port : Fin 6) : Statement (.xstart port) := of_none rfl
theorem trainAttemptTimeout (port : Fin 6) : Statement (.trainAttemptTimeout port) := of_none rfl
theorem xtsAtBoundary (port : Fin 6) (lanes : BitVec 8) : Statement (.xtsAtBoundary port lanes) := of_none rfl
theorem discoveryTimeout : Statement (.discoveryTimeout) := of_none rfl
theorem portSleep (port : Fin 6) : Statement (.portSleep port) := of_none rfl
theorem sleep (port : Fin 6) : Statement (.sleep port) := of_none rfl
theorem portWake (port : Fin 6) : Statement (.portWake port) := of_none rfl
theorem portRetrain (port : Fin 6) : Statement (.portRetrain port) := of_none rfl
theorem retrainTimeout (port : Fin 6) : Statement (.retrainTimeout port) := of_none rfl
theorem pausedEntry (port : Fin 6) : Statement (.pausedEntry port) := of_none rfl
theorem pausedEnd (port : Fin 6) : Statement (.pausedEnd port) := of_none rfl
theorem spareReq (port : Fin 6) (lane : Fin 8) : Statement (.spareReq port lane) := of_none rfl
theorem spareBegin (port : Fin 6) (lane : Fin 8) (off : Fin 10) : Statement (.spareBegin port lane off) := of_none rfl
theorem spareSwitch (port : Fin 6) (same : Bool) : Statement (.spareSwitch port same) := of_none rfl
theorem spareDone (port : Fin 6) (lane : Fin 8) : Statement (.spareDone port lane) := of_none rfl
theorem spareShadowTimeout (port : Fin 6) : Statement (.spareShadowTimeout port) := of_none rfl
theorem calReq (port : Fin 6) : Statement (.calReq port) := of_none rfl
theorem pauseReq (port : Fin 6) : Statement (.pauseReq port) := of_none rfl
theorem retrainReq (port : Fin 6) : Statement (.retrainReq port) := of_none rfl
theorem linkCellReceive (port : Fin 6) (cell : CellBits) (whole : Bool) : Statement (.linkCellReceive port cell whole) := of_none rfl
theorem xtrh (out : Fin 6) (vc : Fin 5) (data : Payload) : Statement (.xtrh out vc data) := of_none rfl
theorem xtrt (out : Fin 6) (vc : Fin 5) (data : BitVec 96) : Statement (.xtrt out vc data) := of_none rfl
theorem cellSend (port : Fin 6) : Statement (.cellSend port) := of_none rfl
theorem lack (port : Fin 6) (seq : BitVec 12) : Statement (.lack port seq) := of_none rfl
theorem lnak (port : Fin 6) (seq : BitVec 12) : Statement (.lnak port seq) := of_none rfl
theorem lcredit (port : Fin 6) (counts : BitVec 40) : Statement (.lcredit port counts) := of_none rfl
theorem lackDue (port : Fin 6) : Statement (.lackDue port) := of_none rfl
theorem lcreditDue (port : Fin 6) : Statement (.lcreditDue port) := of_none rfl
theorem lnakRepeat (port : Fin 6) : Statement (.lnakRepeat port) := of_none rfl
theorem replayTimeout (port : Fin 6) : Statement (.replayTimeout port) := of_none rfl
theorem fmgmtRead (m15 : Bool) (src : BitVec 12) (tag : BitVec 17) (addr : BitVec 28) : Statement (.fmgmtRead m15 src tag addr) := of_none rfl
theorem fmgmtWrite (m15 : Bool) (src : BitVec 12) (tag : BitVec 17) (addr : BitVec 28) (data : Word) : Statement (.fmgmtWrite m15 src tag addr data) := of_none rfl
theorem fmgmtReply (tag : BitVec 17) (addr : BitVec 28) (data : Word) : Statement (.fmgmtReply tag addr data) := of_none rfl
theorem fmgmtError (tag : BitVec 17) (addr : BitVec 28) (code : Byte) : Statement (.fmgmtError tag addr code) := of_none rfl
theorem portRetrainCmd (ini : Initiator) (ep : BitVec 8) (port : Fin 6) : Statement (.portRetrainCmd ini ep port) := of_some rfl port.isLt (by omega)
theorem portSpareCmd (ini : Initiator) (ep : BitVec 8) (port : Fin 6) (lane : Fin 8) (off : BitVec 4) : Statement (.portSpareCmd ini ep port lane off) := of_some rfl port.isLt (by omega)
theorem portDisable (ini : Initiator) (ep : BitVec 8) (port : Fin 6) : Statement (.portDisable ini ep port) := of_some rfl port.isLt (by omega)
theorem portEnable (ini : Initiator) (ep : BitVec 8) (port : Fin 6) : Statement (.portEnable ini ep port) := of_some rfl port.isLt (by omega)
theorem rankmapWrite (ini : Initiator) (ep : BitVec 8) (page : Fin 4) (reg : Fin 512) (v : Word) : Statement (.rankmapWrite ini ep page reg v) := of_some rfl page.isLt (by omega)
theorem rankmapMismatch (page : Fin 4) : Statement (.rankmapMismatch page) := of_none rfl
theorem hrd (m15 : Bool) (job : BitVec 16) (src : BitVec 12) (cls : BitVec 2) (tag : BitVec 17) (addr : Dword) (size : Bool) : Statement (.hrd m15 job src cls tag addr size) := of_none rfl
theorem hwr (m15 : Bool) (job : BitVec 16) (src : BitVec 12) (cls : BitVec 2) (tag : BitVec 17) (addr : Dword) (size : Bool) (lo hi : Dword) : Statement (.hwr m15 job src cls tag addr size lo hi) := of_none rfl
theorem hatm (m15 : Bool) (job : BitVec 16) (src : BitVec 12) (cls : BitVec 2) (tag : BitVec 17) (addr : Dword) (size : Bool) (op : Byte) (lo hi : Dword) : Statement (.hatm m15 job src cls tag addr size op lo hi) := of_none rfl
theorem hatx (m15 : Bool) (job : BitVec 16) (src : BitVec 12) (tag : BitVec 17) (lo hi : Dword) : Statement (.hatx m15 job src tag lo hi) := of_none rfl
theorem hbrd (m15 : Bool) (job : BitVec 16) (src : BitVec 12) (cls : BitVec 2) (tag : BitVec 17) (addr : Dword) (units : BitVec 4) : Statement (.hbrd m15 job src cls tag addr units) := of_none rfl
theorem hbwr (m15 : Bool) (job : BitVec 16) (src : BitVec 12) (cls : BitVec 2) (tag : BitVec 17) (addr : Dword) (units : BitVec 4) : Statement (.hbwr m15 job src cls tag addr units) := of_none rfl
theorem hbdat (die : Byte) (job : BitVec 16) (src : BitVec 12) (tag : BitVec 17) (data : Payload) : Statement (.hbdat die job src tag data) := of_none rfl
theorem hrsp (stack : Fin 40) (tag : BitVec 11) (status : Byte) (flags : BitVec 4) (lo hi : Dword) : Statement (.hrsp stack tag status flags lo hi) := of_none rfl
theorem hwack (stack : Fin 40) (tag : BitVec 11) (status : Byte) : Statement (.hwack stack tag status) := of_none rfl
theorem hbrsp (stack : Fin 40) (tag : BitVec 11) (status : Byte) (units : BitVec 4) : Statement (.hbrsp stack tag status units) := of_none rfl
theorem hangWatchdogExpiry (stack : Fin 40) (tag : BitVec 11) : Statement (.hangWatchdogExpiry stack tag) := of_none rfl
theorem krelay (job : BitVec 16) (kettle : BitVec 8) (gen : Word) : Statement (.krelay job kettle gen) := of_none rfl
theorem quarantineRelease (stack : Fin 40) (tag : BitVec 11) : Statement (.quarantineRelease stack tag) := of_none rfl
theorem arpRequest (f : Frame) (target : BitVec 32) (mac : BitVec 48) : Statement (.arpRequest f target mac) := of_none rfl
theorem neighbourSolicitation (f : Frame) (target : BitVec 128) (mac : BitVec 48) : Statement (.neighbourSolicitation f target mac) := of_none rfl
theorem echoRequest (f : Frame) (dst : BitVec 128) (data : List Byte) : Statement (.echoRequest f dst data) := of_none rfl
theorem submit (f : Frame) (msg : List Byte) : Statement (.submit f msg) := of_none rfl
theorem cancel (f : Frame) (msg : List Byte) : Statement (.cancel f msg) := of_none rfl
theorem status (f : Frame) (msg : List Byte) : Statement (.status f msg) := of_none rfl
theorem ack (f : Frame) (msg : List Byte) : Statement (.ack f msg) := of_none rfl
theorem assemblyTimeout (id : Dword) : Statement (.assemblyTimeout id) := of_none rfl
theorem tokensResend (id : Dword) : Statement (.tokensResend id) := of_none rfl
theorem lingerExpiry (id : Dword) : Statement (.lingerExpiry id) := of_none rfl
theorem wingbeatBoundary : Statement (.wingbeatBoundary) := of_none rfl
theorem boundaryCommit : Statement (.boundaryCommit) := of_none rfl
theorem idleIntervalEnd : Statement (.idleIntervalEnd) := of_none rfl
theorem fdata (f : Frame) (msg : List Byte) : Statement (.fdata f msg) := of_none rfl
theorem fetchChunkTimeout (seg : Word) (chunk : Nat) : Statement (.fetchChunkTimeout seg chunk) := of_none rfl
theorem refclkInvalid (inp : Fin 2) : Statement (.refclkInvalid inp) := of_none rfl
theorem refclkValid (inp : Fin 2) : Statement (.refclkValid inp) := of_none rfl
theorem refHoldoverStop : Statement (.refHoldoverStop) := of_none rfl
theorem refCtlWrite (ini : Initiator) (ep : BitVec 8) (v : Word) : Statement (.refCtlWrite ini ep v) := of_some rfl (by decide) (by omega)
theorem basePllUnlock : Statement (.basePllUnlock) := of_none rfl
theorem serialiserAlarm (site : Fin 60) (tx : BitVec 7) (cause : BitVec 3) : Statement (.serialiserAlarm site tx cause) := of_none rfl
theorem rowstorePllFailover (stack : Fin 40) : Statement (.rowstorePllFailover stack) := of_none rfl
theorem regionGenFail (region : Fin 160) (ref : Bool) : Statement (.regionGenFail region ref) := of_none rfl
theorem fSetChange (region : Fin 160) : Statement (.fSetChange region) := of_none rfl
theorem droopLimitLower (region : Fin 160) : Statement (.droopLimitLower region) := of_none rfl
theorem droopLimitRaise (region : Fin 160) : Statement (.droopLimitRaise region) := of_none rfl
theorem crossingError (region : Fin 160) : Statement (.crossingError region) := of_none rfl
theorem syncEdge : Statement (.syncEdge) := of_none rfl
theorem secSet (ini : Initiator) (ep : BitVec 8) (n : Dword) : Statement (.secSet ini ep n) := of_some rfl (by decide) (by omega)
theorem syncHoldover : Statement (.syncHoldover) := of_none rfl
theorem syncHoldoverExpiry : Statement (.syncHoldoverExpiry) := of_none rfl
theorem clkSrcWrite (ini : Initiator) (ep : BitVec 8) (region : Fin 160) (v : Word) : Statement (.clkSrcWrite ini ep region v) := of_some rfl region.isLt (by omega)
theorem stateCmdD0 (ini : Initiator) (ep : BitVec 8) : Statement (.stateCmdD0 ini ep) := of_some rfl (by decide) (by omega)
theorem stateCmdD1 (ini : Initiator) (ep : BitVec 8) : Statement (.stateCmdD1 ini ep) := of_some rfl (by decide) (by omega)
theorem stateCmdD2 (ini : Initiator) (ep : BitVec 8) : Statement (.stateCmdD2 ini ep) := of_some rfl (by decide) (by omega)
theorem stateCmdD3 (ini : Initiator) (ep : BitVec 8) : Statement (.stateCmdD3 ini ep) := of_some rfl (by decide) (by omega)
theorem d1Wake : Statement (.d1Wake) := of_none rfl
theorem d2IdleExpiry : Statement (.d2IdleExpiry) := of_none rfl
theorem portLightWake (port : Fin 6) : Statement (.portLightWake port) := of_none rfl
theorem wakeAtReached : Statement (.wakeAtReached) := of_none rfl
theorem d2Wake : Statement (.d2Wake) := of_none rfl
theorem inputUndervolt (mv : Nat) : Statement (.inputUndervolt mv) := of_none rfl
theorem inputFault (mv : Nat) : Statement (.inputFault mv) := of_none rfl
theorem inputTrim (window : Nat) : Statement (.inputTrim window) := of_none rfl
theorem surgeEntry (mv : Nat) : Statement (.surgeEntry mv) := of_none rfl
theorem surgeEnd : Statement (.surgeEnd) := of_none rfl
theorem surgeAllowanceExpiry : Statement (.surgeAllowanceExpiry) := of_none rfl
theorem wearBudgetExhaust : Statement (.wearBudgetExhaust) := of_none rfl
theorem surgeInhibitWrite (ini : Initiator) (ep : BitVec 8) (v : Word) : Statement (.surgeInhibitWrite ini ep v) := of_some rfl (by decide) (by omega)
theorem grantWithdraw (stack : Fin 40) : Statement (.grantWithdraw stack) := of_none rfl
theorem capFloorFault (stack : Fin 40) : Statement (.capFloorFault stack) := of_none rfl
theorem powerTelemetry (p : PowerFigures) : Statement (.powerTelemetry p) := of_none rfl
theorem diodeSample (die : Byte) (raw : Int) (check : Bool) : Statement (.diodeSample die raw check) := of_none rfl
theorem throttleStep : Statement (.throttleStep) := of_none rfl
theorem orderlyStop : Statement (.orderlyStop) := of_none rfl
theorem parkDeadline : Statement (.parkDeadline) := of_none rfl
theorem orderlyStopReturn : Statement (.orderlyStopReturn) := of_none rfl
theorem predictedTrip (die : Byte) : Statement (.predictedTrip die) := of_none rfl
theorem thermalTrip (die : Byte) : Statement (.thermalTrip die) := of_none rfl
theorem middleModelUpdate (stack : Fin 40) : Statement (.middleModelUpdate stack) := of_none rfl
theorem diodeBroken (die : Byte) : Statement (.diodeBroken die) := of_none rfl
theorem regionRecal (die : Fin 40) : Statement (.regionRecal die) := of_none rfl
theorem calStart (ini : Initiator) (ep : BitVec 8) (v : Word) : Statement (.calStart ini ep v) := of_some rfl (by decide) (by omega)
theorem hourCount : Statement (.hourCount) := of_none rfl
theorem ageingEpoch (m : AgeFigures) : Statement (.ageingEpoch m) := of_none rfl
theorem resetRelease : Statement (.resetRelease) := of_none rfl
theorem imageVerify (k : Fin 3) : Statement (.imageVerify k) := of_none rfl
theorem roleAssign : Statement (.roleAssign) := of_none rfl
theorem eclosion : Statement (.eclosion) := of_none rfl
theorem goWaitTimeout : Statement (.goWaitTimeout) := of_none rfl
theorem rchunk (f : Frame) (msg : List Byte) : Statement (.rchunk f msg) := of_none rfl
theorem rcommit (f : Frame) (msg : List Byte) : Statement (.rcommit f msg) := of_none rfl
theorem rstat (f : Frame) (msg : List Byte) : Statement (.rstat f msg) := of_none rfl
theorem recoveryWriteComplete : Statement (.recoveryWriteComplete) := of_none rfl
theorem imageFlashWrite : Statement (.imageFlashWrite) := of_none rfl
theorem heartbeat (k : Fin 3) (ep : BitVec 8) (window : Word) : Statement (.heartbeat k ep window) := of_none rfl
theorem heartbeatWindowEnd : Statement (.heartbeatWindowEnd) := of_none rfl
theorem digest (k : Fin 3) (round : Word) (d : Dword) : Statement (.digest k round d) := of_none rfl
theorem decisionRoundCompare : Statement (.decisionRoundCompare) := of_none rfl
theorem health (k : Fin 3) (word : Dword) : Statement (.health k word) := of_none rfl
theorem healthTimeout (k : Fin 3) : Statement (.healthTimeout k) := of_none rfl
theorem demotion : Statement (.demotion) := of_none rfl
theorem role (k : Fin 3) : Statement (.role k) := of_none rfl
theorem hold (k : Fin 3) : Statement (.hold k) := of_none rfl
theorem epochBump : Statement (.epochBump) := of_none rfl
theorem successorRewrite : Statement (.successorRewrite) := of_none rfl
theorem promote (ini : Initiator) (ep : BitVec 8) (v : Word) : Statement (.promote ini ep v) := of_some rfl (by decide) (by omega)
theorem keeperSelfTest (k : Fin 3) (pass : Bool) : Statement (.keeperSelfTest k pass) := of_none rfl
theorem keeperRestart (k : Fin 3) (good : Bool) : Statement (.keeperRestart k good) := of_none rfl
theorem objBegin (ini : Initiator) (ep : BitVec 8) (kind : BitVec 3) : Statement (.objBegin ini ep kind) := of_some rfl (by decide) (by omega)
theorem objDataWrite (ini : Initiator) (ep : BitVec 8) (v : Word) : Statement (.objDataWrite ini ep v) := of_some rfl (by decide) (by omega)
theorem objDataRead (ini : Initiator) : Statement (.objDataRead ini) := of_none rfl
theorem objCommit (ini : Initiator) (ep : BitVec 8) : Statement (.objCommit ini ep) := of_some rfl (by decide) (by omega)
theorem objAbort (ini : Initiator) (ep : BitVec 8) : Statement (.objAbort ini ep) := of_some rfl (by decide) (by omega)
theorem folioApply : Statement (.folioApply) := of_none rfl
theorem foldBack : Statement (.foldBack) := of_none rfl
theorem foldBackCmd (ini : Initiator) (ep : BitVec 8) : Statement (.foldBackCmd ini ep) := of_some rfl (by decide) (by omega)
theorem unload (ini : Initiator) (ep : BitVec 8) : Statement (.unload ini ep) := of_some rfl (by decide) (by omega)
theorem resetToOvum (ini : Initiator) (ep : BitVec 8) : Statement (.resetToOvum ini ep) := of_some rfl (by decide) (by omega)
theorem jobRestart : Statement (.jobRestart) := of_none rfl
theorem restartNotice (job : BitVec 16) (rank : BitVec 16) (num : Word) (cls code : Byte) : Statement (.restartNotice job rank num cls code) := of_none rfl
theorem readyNotice (job : BitVec 16) (rank : BitVec 16) (num : Word) : Statement (.readyNotice job rank num) := of_none rfl
theorem goNotice (job : BitVec 16) (rank : BitVec 16) (num : Word) (k : Word) : Statement (.goNotice job rank num k) := of_none rfl
theorem abandonNotice (job : BitVec 16) (rank : BitVec 16) (num : Word) : Statement (.abandonNotice job rank num) := of_none rfl
theorem readyRepeat : Statement (.readyRepeat) := of_none rfl
theorem rejoinTimeout : Statement (.rejoinTimeout) := of_none rfl
theorem healthReportForm : Statement (.healthReportForm) := of_none rfl
theorem inputRise : Statement (.inputRise) := of_none rfl
theorem alwaysOnStart : Statement (.alwaysOnStart) := of_none rfl
theorem resetAssert : Statement (.resetAssert) := of_none rfl
theorem tapBypass : Statement (.tapBypass) := of_none rfl
theorem tapIdcode : Statement (.tapIdcode) := of_none rfl
theorem tapSamplePreload (pins load : BitVec 80) : Statement (.tapSamplePreload pins load) := of_none rfl
theorem tapExtest : Statement (.tapExtest) := of_none rfl
theorem frontDoorLinkDown (port : Fin 2) (pll : Bool) : Statement (.frontDoorLinkDown port pll) := of_none rfl
theorem frontDoorLinkUp (port : Fin 2) : Statement (.frontDoorLinkUp port) := of_none rfl
theorem ibiDelivery : Statement (.ibiDelivery) := of_none rfl
theorem lsmStandbyReady (lsm : Fin 7) (outs : BitVec 4) (line : Fin 41) : Statement (.lsmStandbyReady lsm outs line) := of_none rfl
theorem stretch (region : Fin 160) (noticed : Bool) (added : Nat) : Statement (.stretch region noticed added) := of_none rfl
theorem orderlyStopDeadline : Statement (.orderlyStopDeadline) := of_none rfl
theorem testLogicReset : Statement (.testLogicReset) := of_none rfl

end Sys2Proof.Laws.OwnWrite
end

