-- ==== Sys2Proof/Laws/Sequencer.lean ====
section
/-!
SUPPORT. Sys2Proof/Laws/Sequencer.lean: reading a core after it is replaced, and what offering a bundle does when it can issue (R44).
-/
namespace Sys2Proof.Machine

@[simp] theorem Core.ctx_setCtx (c : Core) (x : Ctx) (k : Context) : (c.setCtx x k).ctx x = k := by cases x <;> rfl
@[simp] theorem Core.setCtx_setCtx (c : Core) (x : Ctx) (k l : Context) : (c.setCtx x k).setCtx x l = c.setCtx x l := by cases x <;> rfl
@[simp] theorem Core.cycles_setCtx (c : Core) (x : Ctx) (k : Context) : (c.setCtx x k).cycles = c.cycles := by cases x <;> rfl
@[simp] theorem Core.ctx_cycles (c : Core) (x : Ctx) (n : Nat) : ({ c with cycles := n }).ctx x = c.ctx x := by cases x <;> rfl

/-- A core other than the one replaced is as it was. -/
@[simp] theorem State.core_setCore_ne (s : State) {n m : Nat} (c : Core) (h : m ≠ n) : (s.setCore n c).core m = s.core m := by
  simp [State.core, State.setCore, h]

/-- A core that is not the reset core reads back. -/
theorem State.core_setCore (s : State) (n : Nat) {c : Core} (h : c ≠ {}) : (s.setCore n c).core n = c :=
  sget_sset_same_ne _ _ _ h

/-- A core that has counted a cycle is not the reset core. -/
theorem Core.ne_reset {c : Core} (h : c.cycles ≠ 0) : c ≠ {} := by
  intro e
  rw [e] at h
  exact h rfl

/-- The core after its sequencer has counted a cycle. -/
@[simp] theorem State.core_coreCycle (s : State) (n : Nat) :
    (s.coreCycle n).core n = { s.core n with cycles := (s.core n).cycles + 1 } :=
  s.core_setCore n (Core.ne_reset (Nat.succ_ne_zero _))

@[simp] theorem State.core_coreCycle_ne (s : State) {n m : Nat} (h : m ≠ n) : (s.coreCycle n).core m = s.core m :=
  s.core_setCore_ne _ h

@[simp] theorem State.ctx_coreCycle (s : State) (n : Nat) (x : Ctx) : (s.coreCycle n).ctx n x = s.ctx n x := by
  simp [State.ctx]

/-- Replacing a context of a core that has counted a cycle. -/
theorem State.core_setCtx (s : State) (n : Nat) (x : Ctx) (k : Context) (h : (s.core n).cycles ≠ 0) :
    (s.setCtx n x k).core n = (s.core n).setCtx x k :=
  s.core_setCore n (Core.ne_reset (by rw [Core.cycles_setCtx]; exact h))

@[simp] theorem State.core_setCtx_ne (s : State) {n m : Nat} (x : Ctx) (k : Context) (h : m ≠ n) : (s.setCtx n x k).core m = s.core m :=
  s.core_setCore_ne _ h

/-- With the context's own condition met, a bundle of one SQ command that can issue does (R44). -/
theorem State.offer_issues {s : State} {core : Nat} {x : Ctx} {rs : List (Fin 16)} (h : s.issues core x rs) (op : SqOp)
    (hr : s.sqReady core x op = true) (ht : isHall op = true → s.tagFree (core / 50) = true)
    (hs : ∀ r ∈ sqReads op ++ sqWrites op, r ∈ rs) :
    s.offer core x (s.givesWay core x) (.ok op) [] = (s.coreCycle core).issueNow core x op [] := by
  obtain ⟨hon, hm, hpc, hp, hn, hpend⟩ := h
  have hw : s.givesWay core x = false := by
    cases x with
    | d => rfl
    | p => exact hp rfl
  have hf : ∀ l : List (Fin 16), (∀ r ∈ l, r ∈ sqReads op ++ sqWrites op) → (s.ctx core x).pending l = false := by
    intro l hl
    rw [Context.pending, Bool.eq_false_iff]
    intro e
    obtain ⟨r, hrl, hr⟩ := List.any_eq_true.1 e
    exact Bool.noConfusion ((hpend r (hs r (hl r hrl))).symm.trans hr)
  have h1 := hf (sqReads op) (fun r hr => List.mem_append_left _ hr)
  have h2 := hf (sqWrites op) (fun r hr => List.mem_append_right _ hr)
  have ht' : (!isHall op || s.tagFree (core / 50)) = true := by
    cases hh : isHall op with
    | false => rfl
    | true => simp [ht hh]
  have hi : s.canIssue core x op [] = true := by
    simp [State.canIssue, hn, hr, h1, h2, liveSlots, ht']
  have hpc' : ¬ 4096 ≤ (s.ctx core x).pc.toNat := by omega
  have hn' : ¬ (s.core core).cycles < (s.ctx core x).notBefore := by omega
  simp [State.offer, hon, hm, hpc', hw, hn', bundleFaults, hi]

/-- What a core holds once a command's bundle has issued with the PC moved on. -/
theorem State.core_issued (s : State) (core : Nat) (x : Ctx) (k : Context) :
    ((s.coreCycle core).setCtx core x k).core core = ({ s.core core with cycles := (s.core core).cycles + 1 }).setCtx x k := by
  rw [State.core_setCtx _ _ _ _ (by simp)]
  simp

/-- Issuing a bundle without engine commands moves the PC on and takes the SQ command's effect (R45). -/
theorem State.issueNow_nil (s : State) (core : Nat) (x : Ctx) (op : SqOp) :
    s.issueNow core x op [] =
      (s.setCtx core x { s.ctx core x with pc := (s.ctx core x).pc + 1, sqSince := s.timebase }).sqEffect core x (s.ctx core x) op := rfl

/-- What an SQ command's row does when its bundle can issue (R44, R45). -/
theorem offerSq_issues {s : State} {core : Fin 2000} {x : Ctx} {rs : List (Fin 16)} (h : s.issues core x rs) (op : SqOp)
    (hres : sqReserved op = false) (hr : s.sqReady core x op = true) (ht : isHall op = true → s.tagFree (core / 50) = true)
    (hs : ∀ r ∈ sqReads op ++ sqWrites op, r ∈ rs) :
    offerSq core x op s = .next (((s.coreCycle core).setCtx core x
      { s.ctx core x with pc := (s.ctx core x).pc + 1, sqSince := s.timebase }).sqEffect core x (s.ctx core x) op) := by
  unfold offerSq
  rw [hres]
  simp only [Bool.false_eq_true, if_false]
  rw [State.offer_issues h op hr ht hs, State.issueNow_nil]
  simp only [State.ctx_coreCycle]
  rfl

/-- A bundle whose SQ command is a reserved encoding raises RESERVED in place of issuing (R42, R72). -/
theorem offerSq_reserved {s : State} {core : Fin 2000} {x : Ctx} {rs : List (Fin 16)} (h : s.issues core x rs) (op : SqOp)
    (hres : sqReserved op = true) :
    offerSq core x op s = .next ((s.coreCycle core).exception core x 2 (s.ctx core x).pc.toNat 0 false 0) := by
  obtain ⟨hon, hm, hpc, hp, hn, hpend⟩ := h
  have hw : s.givesWay core x = false := by
    cases x with
    | d => rfl
    | p => exact hp rfl
  have hn' : ¬ (s.core core).cycles < (s.ctx core x).notBefore := by omega
  simp [offerSq, hres, State.offer, hon, hm, hw, hn', bundleFaults, State.exceptions, minBy, Nat.not_le.mpr hpc]

end Sys2Proof.Machine
end

