-- ==== Sys2Proof/Tests/Slice0.lean ====
section
/-!
SUPPORT. Sys2Proof/Tests/Slice0.lean: the model's own tests: each check of well-formedness refuses an ill-formed command; the spec's own figures; and, for
each statement, states and operands that meet its hypotheses (`witness_…`, named after the statement).
-/
namespace Sys2Proof.Tests
open Sys2Proof Sys2Proof.Machine
set_option Elab.async false

/-! ## States to test on -/

/-- A device in Imago and D0 that serves a job. -/
def up : State := { State.reset with stage := .imago, spineUp := true, rstLow := false, jobPhase := 3, timebase := 0x4000000000000000 }
/-- The same with other core, stack, channel, group, port, site or register contents. -/
def withCtx (x : Ctx) (k : Context) : State := up.setCtx 0 x k
def running (k : Context) : Context := { k with mode := .run }
def k0 : Initiator := .keeper 0
def aFrame : Frame := { peer := { port := 0, v6 := true, ip := 1, udp := 40000 }, length := 1000, unsupported := false, options := false, badSum := false }
def aByte (n : Nat) : List Byte := List.replicate n 0

theorem sget_beyond {α : Type} (d : α) : ∀ (l : Sparse α) (k : Nat), (∀ e ∈ l, e.1 < k) → sget d l k = d
  | [], _, _ => rfl
  | (j, v) :: t, k, h => by
    have hj : j ≠ k := by have := h (j, v) (by simp); simp only at this; omega
    simp [sget, hj, sget_beyond d t k (fun e he => h e (by simp [he]))]
theorem raw_beyond (m : Mem) : ∀ (n a : Nat), (∀ e ∈ m.data, e.1 < a) → m.raw a n = 0
  | 0, _, _ => rfl
  | n + 1, a, h => by
    simp [Mem.raw, Mem.byte, sget_beyond _ _ _ h, raw_beyond m n (a + 1) (fun e he => Nat.lt_succ_of_lt (h e he))]
/-- Words above every cell that a memory lists read as zero, and as good (the contents that nothing has written). -/
theorem get_beyond (m : Mem) : ∀ (n w : Nat), (∀ e ∈ m.data, e.1 < 8 * w) → (∀ e ∈ m.check, e.1 < w) → m.get w n = ⟨0, [], none⟩
  | 0, _, _, _ => rfl
  | n + 1, w, h, g => by
    have hr := raw_beyond m 8 (8 * w) h
    have hc : m.chk w = 0 := by simp [Mem.chk, sget_beyond _ _ _ g]
    have hi := get_beyond m n (w + 1) (fun e he => by have := h e he; omega) (fun e he => Nat.lt_succ_of_lt (g e he))
    have he : eccDecode 0 0 = .clean := by decide +kernel
    simp [Mem.get, hr, hc, hi, he]
theorem get_empty (w n : Nat) : ({} : Mem).get w n = ⟨0, [], none⟩ := get_beyond _ n w (by simp) (by simp)

theorem test_reset_mems : State.reset.memsWf = true := by decide +kernel

/-! ## Well-formedness refuses what the spec cannot send -/

theorem test_wf_i3cWordWrite : (Instr.i3cWordWrite 0 []).wellFormed = false ∧ (Instr.i3cWordWrite 0 (List.replicate 17 0)).wellFormed = false ∧
    (Instr.i3cWordWrite 0 (List.replicate 16 0)).wellFormed = true := by decide +kernel
theorem test_wf_i3cPrivateRead : (Instr.i3cPrivateRead 0).wellFormed = false ∧ (Instr.i3cPrivateRead 1).wellFormed = true := by decide +kernel
theorem test_wf_mrd : (Instr.mrd 0 0 0 0 8 8).wellFormed = false ∧ (Instr.mrd 0 0 0 0 8 7).wellFormed = true := by decide +kernel
theorem test_wf_mwrp : (Instr.mwrp 0 0 0 0 0 0).wellFormed = false ∧ (Instr.mwrp 0 0 0 0 17 0).wellFormed = false ∧ (Instr.mwrp 0 0 0 60 5 0).wellFormed = false ∧
    (Instr.mwrp 0 0 0 48 16 0).wellFormed = true := by decide +kernel
theorem test_wf_mcas : (Instr.mcas 0 0 12 0 0).wellFormed = false ∧ (Instr.mcas 0 0 16 0 0).wellFormed = true := by decide +kernel
theorem test_wf_memoryTraining : (Instr.memoryTraining [(5, 1), (5, 3)]).wellFormed = false ∧ (Instr.memoryTraining [(5, 1), (6, 3)]).wellFormed = true := by decide +kernel
/-- Positions that R119 gives a stack, and positions that it does not: a data group of the base–S interface, the 33rd bank-control group, the 65th place of a group. -/
theorem test_wf_bonds : (Instr.bondFailDeclare 0 (.data, false) 2303 63).wellFormed = true ∧ (Instr.bondRepair 0 (.cell, true) (191, 63)).wellFormed = true ∧
    (Instr.bondFailDeclare 0 (.data, true) 0 0).wellFormed = false ∧ (Instr.bondRepair 0 (.control, false) (32, 0)).wellFormed = false ∧
    (Instr.bondFailDeclare 0 (.clock, true) 7 64).wellFormed = false := by decide +kernel
theorem test_wf_tokenCapture : (Instr.tokenCapture 0 0 ⟨some 0x5A, 0⟩ []).wellFormed = false ∧ (Instr.tokenCapture 0 0 ⟨none, 0⟩ [0]).wellFormed = true := by decide +kernel
theorem test_wf_burstReceive : (Instr.burstReceive 0 0 (List.replicate 4 []) (List.replicate 3 [])).wellFormed = false ∧ (Instr.burstReceive 0 0 (List.replicate 4 (List.replicate 100 0)) (List.replicate 4 [])).wellFormed = false ∧
    (Instr.burstReceive 0 0 (List.replicate 4 (List.replicate 99 0)) (List.replicate 4 [])).wellFormed = true := by decide +kernel
theorem test_wf_spineHopRetry : (Instr.spineHopRetry k0 0 0 []).wellFormed = false ∧ (Instr.spineHopRetry k0 0 0 (List.replicate 5 (0, 0))).wellFormed = false ∧
    (Instr.spineHopRetry k0 0 0 (List.replicate 4 (0, 0))).wellFormed = true := by decide +kernel
theorem test_wf_rapidFade : (Instr.rapidFade 6 1 0).wellFormed = true ∧ (Instr.rapidFade 6 2 0).wellFormed = false := by decide +kernel
theorem test_wf_markSweep : (Instr.markSweep 0 0 ⟨0, [⟨1, [], 5, 0, 0⟩, ⟨1, [], 6, 0, 0⟩]⟩).wellFormed = false ∧
    (Instr.markSweep 0 0 ⟨0, [⟨1, [], 5, 0, 0⟩, ⟨2, [], 6, 0, 0⟩]⟩).wellFormed = true := by decide +kernel
theorem test_wf_codewordDecode : (Instr.codewordDecode 0 0 (aByte 135) 0 0).wellFormed = false ∧ (Instr.codewordDecode 0 0 (aByte 136) 0 0).wellFormed = true := by decide +kernel
theorem test_wf_frames : (Instr.submit aFrame (aByte 1001)).wellFormed = false ∧ (Instr.cancel aFrame (aByte 1001)).wellFormed = false ∧
    (Instr.status aFrame (aByte 1001)).wellFormed = false ∧ (Instr.ack aFrame (aByte 1001)).wellFormed = false ∧ (Instr.fdata aFrame (aByte 1001)).wellFormed = false ∧
    (Instr.rchunk aFrame (aByte 1001)).wellFormed = false ∧ (Instr.rcommit aFrame (aByte 1001)).wellFormed = false ∧ (Instr.rstat aFrame (aByte 1001)).wellFormed = false ∧
    (Instr.echoRequest aFrame 0 (aByte 1001)).wellFormed = false ∧ (Instr.submit aFrame (aByte 1000)).wellFormed = true := by decide +kernel
theorem test_wf_powerTelemetry : (Instr.powerTelemetry ⟨4800, 0, 0, 0, [], List.replicate 15 0⟩).wellFormed = false ∧
    (Instr.powerTelemetry ⟨4800, 0, 0, 0, [(1, 5), (1, 6)], List.replicate 16 0⟩).wellFormed = false ∧
    (Instr.powerTelemetry ⟨4800, 0, 0, 0, [(1, 5), (2, 6)], List.replicate 16 0⟩).wellFormed = true := by decide +kernel
theorem test_wf_ageingEpoch : (Instr.ageingEpoch ⟨List.replicate 159 0, List.replicate 59 0, List.replicate 59 0⟩).wellFormed = false ∧
    (Instr.ageingEpoch ⟨List.replicate 160 0, List.replicate 58 0, List.replicate 59 0⟩).wellFormed = false ∧
    (Instr.ageingEpoch ⟨List.replicate 160 0, List.replicate 59 0, List.replicate 60 0⟩).wellFormed = false ∧
    (Instr.ageingEpoch ⟨List.replicate 160 0, List.replicate 59 0, List.replicate 59 0⟩).wellFormed = true := by decide +kernel

/-! ## The whole device -/

theorem witness_StepRunsFront : ({ State.reset with pending := [.entdaa 5, .tapIdcode] } : State).pending = .entdaa 5 :: [.tapIdcode] := by decide +kernel
theorem witness_ResetAndIdle : up.pending = [] ∧ up.stage ≠ .larva ∧ up.dst ≠ .d3 ∧ up.clock.locked = false ∧
    ({ up with dst := .d3 } : State).dst = .d3 ∧ ({ up with clock := { up.clock with locked := true } } : State).clock.locked = true := by decide +kernel
theorem witness_MemoriesKeepForm : ({ up with pending := [.tapIdcode] } : State).memsWf = true ∧
    step { up with pending := [.tapIdcode] } = .next { up with tap := { up.tap with ir := .idcode } } := ⟨by decide +kernel, rfl⟩
/-- R143: the syndromes of the four cases, for the word 1 with its first data bit, its first check bit, two data bits, and nothing in error. -/
theorem witness_SecdedCode : eccDecode 1 (eccEncode 1) = .clean ∧ eccDecode 0 (eccEncode 1) = .corrected 1 ∧ eccDecode 1 (eccEncode 1 ^^^ 128) = .corrected 1 ∧
    eccDecode (1 ^^^ 1 ^^^ 2 ^ 63) (eccEncode 1) = .bad := by decide +kernel
theorem witness_ProtectedMemory : (({} : Mem).putWords 5 (2 ^ 64 - 1) 1).wf = true ∧ eccDecode ((({} : Mem).putWords 5 7 1).raw (8 * 5) 8) ((({} : Mem).putWords 5 7 1).chk 5) = .clean ∧
    47 / 8 = 5 ∧ 47 % 8 + 1 ≤ 8 ∧ 39 < 8 * 5 ∧ 8 * (5 + 1) ≤ 48 := by decide +kernel

/-! ## The register space -/

theorem witness_AddressMap : 3 < (pageInfo .rankmap).insts ∧ 0xFFC < 4096 ∧ decodeAddr (regAddr .rankmap 3 0xFFC) = some (.rankmap, 3, 0xFFC) ∧
    decodeAddr 0x0FFFFFFC = none := by decide +kernel
theorem witness_RegisterWrites_plain : (3 < (pageInfo .rankmap).insts ∧ up.takes k0 0 .rankmap 3 0x040) ∧ lowHalf .rankmap 0x040 = false ∧ highHalf .rankmap 0x040 = false ∧
    (PageType.rankmap, 0x040) ∉ actionRegs ∧ up.takes k0 0 .rankmap 3 0xFFC ∧ lowHalf .rankmap 0xFFC = false ∧ highHalf .rankmap 0xFFC = false ∧
    (PageType.rankmap, 0xFFC) ∉ actionRegs ∧ up.laterWrites k0 (keptAddr .rankmap 3 0x040) = [] ∧
    (let w : SpineWrite := ⟨up.now, up.spineRank k0 + 1, keptAddr .rankmap 3 0x040, 7⟩; ({ up with clock := { up.clock with wrote := [w] } } : State).laterWrites k0 (keptAddr .rankmap 3 0x040) = [w]) := by
  unfold State.takes; decide +kernel
theorem witness_RegisterWrites_irq : up.takes k0 0 .rows 0 0x010 ∧ up.takes k0 0 .rows 0 0x014 ∧ up.takes k0 0 .rows 0 0x018 ∧ up.powered .rows 0 = true ∧
    (BitVec.ofNat 16 (regAddr .rows 0 0 / 4096)).toNat * 4096 = regAddr .rows 0 0 := by unfold State.takes; decide +kernel
theorem witness_RegisterWrites_halves : up.takes k0 0 .xe 0 0x048 ∧ highHalf .xe 0x048 = true ∧ up.takes k0 0 .xe 0 0x044 ∧ lowHalf .xe 0x044 = true ∧
    highHalf .xe 0x044 = false ∧ sfind ({ up with highHeld := [(latchKey k0 (regAddr .xe 0 0x044), 1)] } : State).highHeld (latchKey k0 (regAddr .xe 0 0x044)) = some 1 := by
  unfold State.takes; decide +kernel
/-- A device whose Keeper 0 is active and which serves no job. -/
def led : State := { up with tally := { up.tally with active := some 0, epoch := 1 }, keepers := up.keepers.set 0 { role := .active, inSync := true, healthy := true }, jobPhase := 0, stage := .pupa }
theorem witness_PageControl : 0 < (pageInfo .xe).insts ∧ (BitVec.ofNat 16 (regAddr .xe 0 0 / 4096)).toNat * 4096 = regAddr .xe 0 0 ∧ swf regReset led.regs = true ∧
    led.writeError k0 1 (regAddr .xe 0 0x008) true = 0 ∧ led.tally.active = some 0 ∧ led.jobState = 0 ∧ up.jobState = 3 ∧ up.tally.active ≠ some 0 ∧ up.writeError k0 0 (regAddr .xe 0 0x008) true = 0 ∧
    isKeeper .fabM7 = false ∧ led.writeError .fabM7 0 (regAddr .xe 0 0x008) true = 0 := by decide +kernel
/-- The same with the row-store page 39 locked. -/
def ledLocked : State := led.setFld (hdr .rows 39 0x008) 2 1 1
theorem witness_PageControl_bcast : led.writeError k0 1 (regAddr .rows 0 0x060) false = 0 ∧ touchesRwl .rows 0x060 = true ∧ (∀ j : Fin 40, led.locked .rows j = false) ∧
    ledLocked.writeError k0 1 (regAddr .rows 0 0x060) false = 0 ∧ ledLocked.locked .rows 39 = true ∧ 39 ∈ ledLocked.bcastInsts .rows ∧
    touchesRwl .rows 0x05C = false ∧ ledLocked.writeError k0 1 (regAddr .rows 39 0x05C) false = 0 := by decide +kernel
theorem witness_RegisterReads : up.pageAnswers .rows 39 = true ∧ up.holderOn .rows 39 = true ∧ up.resetBusy .rows 39 = false ∧ swf regReset up.regs = true ∧
    unmeasured .rows 0x050 = false ∧ lowHalf .rows 0x050 = false ∧ highHalf .rows 0x050 = false ∧ rcBits .rows 0x050 ≠ 0 ∧ unmeasured .rows 0x010 = false ∧
    lowHalf .xe 0x044 = true ∧ highHalf .xe 0x044 = false ∧ up.holderOn .xe 0 = true ∧ up.resetBusy .xe 0 = false ∧ unmeasured .xe 0x044 = false ∧
    highHalf .xe 0x048 = true ∧ lowHalf .xe 0x048 = false ∧ unmeasured .xe 0x048 = false ∧ ({ up with dst := .d3 } : State).pageAnswers .rows 39 = false := by decide +kernel
/-- A core page under a soft reset while its D context runs. -/
def busy : State := (up.setCtx 0 .d (running {})).setFld (hdr .core 0 0x00C) 1 1 1
theorem witness_RegisterReads_waits : busy.pageAnswers .core 0 = true ∧ busy.resetBusy .core 0 = true ∧ unmeasured .core 0x040 = false ∧ swf regReset busy.regs = true ∧
    sfind ({ up with latched := [(latchKey k0 (regAddr .xe 0 0x044), 9)] } : State).latched (latchKey k0 (regAddr .xe 0 0x048 - 4)) = some 9 ∧
    sfind up.latched (latchKey k0 (regAddr .xe 0 0x048 - 4)) = none ∧ decodeAddr 0xFFFFFFC = none ∧ up.pageAnswers .clkreg 159 = true ∧ up.holderOn .clkreg 159 = true ∧
    sfind ({ up with latched := [(latchKey k0 (regAddr .clkreg 159 0x054), 9)] } : State).latched (latchKey k0 (regAddr .clkreg 159 0x058 - 4)) = some 9 := by decide +kernel
/-- A refusal of each code: of the stage, of the role epoch, of the window, of the lock. -/
theorem witness_RefusedWrites : ({ up with dst := .d3 } : State).writeError k0 0 (regAddr .rows 0 0x060) false = 5 ∧ up.writeError k0 7 (regAddr .rows 0 0x060) false = 2 ∧
    up.writeError .fabM7 0 (regAddr .rows 0 0x060) false = 3 ∧ ledLocked.writeError k0 1 (regAddr .rows 39 0x060) false = 4 ∧
    ownWrite (.capLimitWrite k0 1 39 55 68) = some (k0, 1, .rows, 39, 0x060) := by decide +kernel
/-- An interrupt of the page of stack 0 that is set and enabled. -/
def raised : State := (up.wr (regAddr .rows 0 0x010) 1).wr (regAddr .rows 0 0x014) 1
theorem witness_ManagementPorts : up.readError (regAddr .rows 0 0x010) = 0 ∧ up.readWaits (regAddr .rows 0 0x010) = false ∧
    pageOf (BitVec.ofNat 16 (regAddr .rows 0 0 / 4096)).toNat = some (.rows, 0) ∧ up.leafRuns .rows 0 = true ∧ (sget (0, 0) up.irqSent (pageNo .rows 0)).1 = up.irqWord .rows 0 ∧
    (sget (0, 0) raised.irqSent (pageNo .rows 0)).1 ≠ raised.irqWord .rows 0 ∧ 2 ^ 32 ≤ raised.irqWord .rows 0 ∧ 0 + 1000000 ≤ raised.now ∧
    2 ^ 32 ≤ (sget (0, 0) ({ raised with irqSent := [(pageNo .rows 0, (2 ^ 32 + 1, 0))] } : State).irqSent (pageNo .rows 0)).1 ∧
    up.mgmtUp = true ∧ malformedAddr 0x0FFFFFFC = false ∧ malformedAddr 0x10000000 = true ∧ malformedAddr up.mgmt.ptr = false ∧ up.readError up.mgmt.ptr = 0 ∧
    ({ up with dst := .d3 } : State).mgmtUp = false := by decide +kernel

/-! ## The cores -/

/-- Core 0 with four banks for each context and a save area of its P context. -/
def cup : State := (up.wr (coreReg 0 0x044) 0xF00F).wr (coreReg 0 0x078) 6144
def run (k : Context) : State := cup.setCtx 0 .d { k with mode := .run }
def r1 (v : Dword) : Context := { g := (Vector.replicate 16 0).set 1 v }
/-- Core 0 with one command at the head of an engine's queue. -/
def headed (eng : Engine) (k : Context) (cmd a b c : Dword) : State :=
  let q : QEntry := { cmd := cmd, a := a, b := b, c := c }
  run (match eng with | .me => { k with qMe := [q] } | .ve => { k with qVe := [q] } | .rm => { k with qRm := [q] })
theorem headed_reads (eng : Engine) (k : Context) (cmd a b c : Dword) (w n : Nat) : (headed eng k cmd a b c).coreBuf.get w n = ⟨0, [], none⟩ := by
  cases eng <;> exact get_empty w n
theorem witness_SequencerResults : (run {}).issues 0 .d [0, 1, 15] ∧ (cup.setCtx 0 .p (running {})).issues 0 .p [0, 1, 15] ∧ (run {}).issues 0 .d [0, 1] := by
  unfold State.issues; decide +kernel
theorem witness_SequencerWaits : (run (r1 5)).issues 0 .d [1, 0] ∧ (run (r1 5)).ctxBusy 0 .d = false ∧ (5 : Dword).toNat ≤ up.timebase.toNat ∧
    ((run { ctr := Vector.replicate 32 5 }).ctx 0 .d).ctr.get 31 = 5 ∧ (0 : Dword).toNat < (((run (r1 5)).ctx 0 .d).g.get 1).toNat ∧
    (run (r1 (2 ^ 64 - 1))).issues 0 .d [1] ∧ (run (r1 (2 ^ 64 - 1))).timebase.toNat < (((run (r1 (2 ^ 64 - 1))).ctx 0 .d).g.get 1).toNat ∧
    (headed .me {} 0 0 0 0).issues 0 .d [1] ∧ (headed .me {} 0 0 0 0).ctxBusy 0 .d = true := by unfold State.issues; decide +kernel
theorem witness_HallAndPostCommands : (run {}).issues 0 .d (List.finRange 16) ∧ sfree ((run {}).xe 0).tags 2048 = some 0 ∧ haGlobal 0 = false ∧
    (run {}).issueStatus 0 0 0 false = 0 ∧ (run {}).issueStatus 0 1 0 true = 0 ∧ (run {}).issueStatus 0 2 5 false = 0 ∧ (run {}).issueStatus 0 2 4 true = 0 ∧
    (∀ code, (((run {}).wr64 (xeReg 0 0x044) 1).translate 0 0 true).1 ≠ .fault code) ∧
    ((run {}).xe 0).chains.length < 8 := by
  unfold State.issues; refine ⟨?_, ?_, ?_, ?_, ?_, ?_, ?_, fun code => ?_, ?_⟩
  case refine_8 => rw [show (((run {}).wr64 (xeReg 0 0x044) 1).translate 0 0 true).1 = .miss from rfl]; exact fun h => nomatch h
  all_goals decide +kernel
/-- The bundle at 0 of core 0, written as its four words. -/
def withBundle (b : Nat) : State := { run {} with instStore := ({} : Mem).putWords (instKey 0 0 / 8) b 4 }
theorem witness_BundlesIssueWhole : (withBundle 0).issues 0 .d [] ∧ (withBundle (0x84 * 2 ^ 184)).instStore.get 0 4 = ⟨0x84 * 2 ^ 184, [], none⟩ ∧
    bits (0x84 * 2 ^ 184) 0 64 = 0 ∧ bundleFaults .d none (.ok .nop) (bundleEngines (0xA2 * 2 ^ 184 + 15 * 2 ^ 140)) = [] ∧
    (run {}).canIssue 0 .d .nop (bundleEngines (0xA2 * 2 ^ 184 + 15 * 2 ^ 140)) = true ∧ ((run {}).xe 0).chains = [] ∧ (15 : Fin 16).val % 2 = 1 ∧ 5 < (6 : BitVec 4).toNat := by
  unfold State.issues; decide +kernel
def cInt : MeCfg := ⟨5, 5, 0⟩
theorem witness_MatrixStorage : ((headed .me {} (0xC0 * 2 ^ 56 + 5 * 2 ^ 36 + 5 * 2 ^ 32) 0 0 0).engineHead 0 .d .me 0xC0).isSome = true ∧
    (pairCycles 5 5).isSome = true ∧ ((headed .me {} (0xC1 * 2 ^ 56 + 6143 * 2 ^ 26) 0 0 0).engineHead 0 .d .me 0xC1).isSome = true ∧ cup.lineCheck 0 .d false [(6143, 1)] [] = none ∧
    ((headed .me { cfg := some cInt } (0xC4 * 2 ^ 56) 0 0 0).engineHead 0 .d .me 0xC4).isSome = true ∧
    cup.lineCheck 0 .d false [(0, 128)] [] = none ∧
    ((headed .me { tag := Vector.replicate 4 .int32 } (0xC3 * 2 ^ 56 + 15 * 2 ^ 20) 0 0 0).engineHead 0 .d .me 0xC3).isSome = true ∧
    ((headed .me { tag := Vector.replicate 4 .fp32 } (0xC3 * 2 ^ 56 + 7 * 2 ^ 20) 0 0 0).engineHead 0 .d .me 0xC3).isSome = true ∧
    cup.lineCheck 0 .d false [(6144 - 128, 128)] [] = none := by decide +kernel
theorem witness_MatrixMultiply : ((headed .me { cfg := some cInt } (0xC2 * 2 ^ 56 + 64 * 2 ^ 12 + 2) 0 0 0).engineHead 0 .d .me 0xC2).isSome = true ∧
    bitOf (0xC2 * 2 ^ 56 + 64 * 2 ^ 12 + 2) 1 = true ∧ cup.lineCheck 0 .d false [(0, blockLines 5 32), (64, blockLines 5 64)] [] = none ∧
    (List.range 1).Perm (List.range 1) := by decide +kernel
/-- A vector command of one beat: its format, then the lines that it writes and reads. -/
def vector (op fmt aux : Nat) (d a b : Dword) : State := headed .ve {} (BitVec.ofNat 64 (op * 2 ^ 56 + fmt * 2 ^ 12 + aux)) d a b
theorem witness_VectorElementwise : (∀ op ∈ List.range' 0x80 15, ((vector op 15 0 0 4 8).engineHead 0 .d .ve op).isSome = true ∧ ((vector op 7 0 0 4 8).engineHead 0 .d .ve op).isSome = true) ∧
    cup.lineCheck 0 .d true [(4, 4), (8, 4), (0, 4)] [] = none := by decide +kernel
theorem witness_VectorConvertReduce : ((vector 0x90 15 7 0 4 8).engineHead 0 .d .ve 0x90).isSome = true ∧ isMx 7 = false ∧ isMx 1 = true ∧ isMx 5 = true ∧
    cup.lineCheck 0 .d true [(4, 4), (0, linesFor (targetBytes 7 64))] [] = none ∧ cup.lineCheck 0 .d true [(4, 4), (0, linesFor (targetBytes 1 64)), (8, linesFor 2)] [] = none ∧
    ((vector 0x98 15 0 0 4 8).engineHead 0 .d .ve 0x98).isSome = true ∧ ((vector 0x99 7 0 0 4 8).engineHead 0 .d .ve 0x99).isSome = true ∧
    cup.lineCheck 0 .d true [(4, 4), (0, linesFor 4)] [] = none := by decide +kernel
theorem witness_VectorSelect : ((vector 0xA0 15 255 0 4 8).engineHead 0 .d .ve 0xA0).isSome = true ∧ cup.lineCheck 0 .d true [(4, 4), (0, linesFor (8 * 256))] [] = none ∧
    ((vector 0xA1 15 7 0 4 8).engineHead 0 .d .ve 0xA1).isSome = true ∧ cup.lineCheck 0 .d true [(4, linesFor (8 * 8)), (8, 1), (0, 1)] [] = none ∧
    ((vector 0xA2 15 0 0 4 8).engineHead 0 .d .ve 0xA2).isSome = true ∧ cup.lineCheck 0 .d true [(0, 4)] [] = none := by decide +kernel
def cupP (m : CtxMode) : State := cup.setCtx 0 .p { mode := m }
def rmDone (cmd : Dword) : State := cup.setRun 0 .rm (some { ctx := .d, entry := { cmd := cmd }, total := 1, moved := 1 })
theorem witness_RowMoverAndEngines : (∀ op ∈ [0x40, 0x41, 0x42], ((headed .rm {} (BitVec.ofNat 64 (op * 2 ^ 56 + 63)) 2097088 0 0).engineHead 0 .d .rm op).isSome = true) ∧
    cup.lineCheck 0 .d true [(0, rmLines { cmd := 0x40 * 2 ^ 56 + 63, a := 2097088 })] [] = none ∧ rmRow { cmd := 0x40 * 2 ^ 56 + 63, a := 2097088 } + 64 ≤ 2097152 ∧
    rmCount { cmd := 0x40 * 2 ^ 56 + 63, a := 2097088 } = 64 ∧
    (let s := (cupP .drainPark).setRun 0 .me (some { ctx := .p, entry := { cmd := 0xC2 * 2 ^ 56 }, total := 1, moved := 1 });
      (s.core 0).running .me = some { ctx := .p, entry := { cmd := 0xC2 * 2 ^ 56 }, total := 1, moved := 1 } ∧ (s.ctx 0 .p).mode = .drainPark) ∧
    ((rmDone 0).core 0).running .rm = some { ctx := .d, entry := { cmd := 0 }, total := 1, moved := 1 } ∧ sigEn 0 = false ∧
    sigEn (2 ^ 45) = true ∧ ((rmDone 0).ctx 0 .d).ctr.get 0 ≠ BitVec.allOnes 64 := by decide +kernel
def cupD (m : CtxMode) : State := cup.setCtx 0 .d { mode := m }
/-- A save area with a good header. -/
def saved : State := { cupP .parked with coreBuf := ({} : Mem).putWords (bufKey 0 (64 * 6144) / 8) 1 1 }
/-- A context that waits at its ME queue for counter 0, with the time-out of R53 set. -/
def waiting : State := ((run { qMe := [{ cmd := 0xC2 * 2 ^ 56 + 2 ^ 55, target := 1 }], meSince := up.timebase - 100 }).wr64 (coreReg 0 0x060) 100)
theorem witness_ContextActions : cup.takes k0 0 .core 0 0x048 ∧ (cup.ctx 0 .d).mode = .idle ∧ (cup.ctx 0 .p).mode = .idle ∧ cup.coreOn 0 = true ∧
    ((cupD .run).ctx 0 .d).mode = .run ∧ (cupD .run).takes k0 0 .core 0 0x048 ∧ cup.takes k0 0 .core 0 0x044 ∧ (0x0F : Byte) &&& 0xF0 = 0 ∧
    cup.takes k0 0 .core 0 (0x300 + 8 * 15) ∧ cup.takes k0 0 .core 0 (0x380 + 8 * 15) ∧ (cupP .run).saveFault 0 = none ∧ (cupP .run).takes k0 0 .core 0 0x048 ∧
    (((cupP .run).setCtx 0 .p { mode := .drainPark }).suspendChains 0).saveFault 0 = none ∧ saved.takes k0 0 .core 0 0x048 ∧ saved.saveFault 0 = none ∧
    saved.coreBuf.get (bufKey 0 (64 * 6144) / 8) 128 = ⟨1, [], none⟩ ∧ badHeader 1 = false := by
  unfold State.takes; decide +kernel
theorem witness_ContextActions_area : saved.coreBuf.get (bufKey 0 (64 * 6144 + 1024) / 8) 4096 = ⟨0, [], none⟩ := get_beyond _ _ _ (by decide +kernel) (by decide +kernel)
theorem witness_ContextActions_ends : (waiting.ctx 0 .d).mode = .run ∧ (waiting.rd64 (coreReg 0 0x060)).toNat = 100 ∧ waiting.openWait 0 .d .me = some (up.now - 100, 0) ∧
    (let s := (cupD .drainAbort).setCtx 0 .p { mode := .run }; (s.ctx 0 .d).mode = .drainAbort ∧ s.engineBusy 0 .d = false ∧ (s.ctx 0 .p).mode = .run ∧ s.lateReads = []) ∧
    ((cupP .drainPark).ctx 0 .p).mode = .drainPark ∧ (cupP .drainPark).engineBusy 0 .p = false ∧ (cupP .drainPark).hallOps 0 .p = [] := by decide +kernel

/-! ## The stacks -/

/-- Stack 0 with these contents. -/
def stacked (k : Stack) : State := up.setStk 0 k
def dReq : RowReq := { use := .rm 0 .d 0, row := 32, write := false, born := 0 }
def xReq : RowReq := { use := .xe 0 0, row := 64, write := false, born := 0 }
theorem witness_RowPortGrants : (stacked {}).stackOn 0 = true ∧ (stacked { reqs := [dReq] }).rowPick 0 0 = some dReq ∧ (∀ q ∈ ((stacked { reqs := [dReq] }).stk 0).reqs, q.row % 32 ≠ 31) ∧
    dReq ∈ [xReq, dReq] ∧ (∀ q ∈ [xReq, dReq], up.rowClass 0 q = .s → 1 < q.born + 4096) ∧ 1 % 4 ≠ 0 ∧ up.rowClass 0 dReq = .d ∧ up.rowClass 0 xReq = .xe ∧
    ((stacked { reqs := [xReq, dReq], bankCycle := Vector.replicate 32 1 }).stk 0).bankCycle.get 0 = 1 ∧ (stacked {}).landed 0 0 < 2 ∧
    2 ≤ ((stacked {}).setCore 0 { rm := some { ctx := .d, entry := { cmd := 0x40 * 2 ^ 56 }, total := 33, moved := 0, buf := [(0, 0), (32, 0)] } }).landed 0 0 := by decide +kernel
/-- A bond of data group 71, the last of bank 0, and a device in Larva. -/
def aBond : Bond := ⟨.data, false, 71, 0⟩
def larvaDevice : State := { up with stage := .larva }
theorem witness_RowMaintenance : up.stackOn 39 = true ∧ (up.wr (rowsReg 39 0x05C) 1).fld (rowsReg 39 0x05C) 0 1 = 1 ∧ ({ up with jobPhase := 0 } : State).jobPhase = 0 ∧
    31 + 32 * 65535 ∈ [31 + 32 * 65535] ∧ (stacked { remapDue := [31 + 32 * 65535] }).sparesUsed 0 31 < 64 ∧ 64 ≤ (stacked { spareRows := [(31, 64)] }).sparesUsed 0 31 ∧
    aBond.fitted = true ∧ aBond ∉ ({} : Stack).bondFailed ∧ (List.replicate 16 up.now).length = 16 ∧ (List.replicate 16 up.now).getLast?.getD 0 ≤ (List.replicate 16 up.now).headD 0 + 1000000 ∧
    (stacked {}).spareTaken 0 aBond = false ∧ (stacked { repaired := [{ aBond with pos := 63 }] }).spareTaken 0 aBond = true ∧ ({ exhausted := [71] } : Stack).lostGroups 0 ≤ 36 ∧
    36 < ({ exhausted := List.range 37 } : Stack).lostGroups 0 ∧ swf (fun _ => ({} : Stack)) (stacked {}).stks = true ∧ (⟨.cell, true, 191, 63⟩ : Bond).cls ≠ .data ∧
    ({ up with idleInterval := true } : State).idleInterval = true ∧ larvaDevice.stage = .larva ∧ aBond ∈ ({ bondFailed := [aBond] } : Stack).bondFailed ∧
    (∀ r ∈ (up.die 0x80).fusedBonds ++ ({} : Stack).repaired, bondMate aBond r = false) ∧ ({ halfDue := true } : Stack).halfDue = true ∧ ({} : Stack).half = false := by decide +kernel
theorem witness_StackGovernor : up.stackOn 0 = true ∧ 32 ≤ ({} : Stack).ceiling ∧ ({} : Stack).ceiling ≤ 80 ∧ up.cap 0 < ({ samples := [551] } : Stack).window ∧ 32 < ({} : Stack).ceiling ∧
    ({ ceiling := 32, duty := 4 } : Stack).duty ≤ 4 ∧ swf (fun _ => ({} : Stack)) up.stks = true ∧ ({ samples := [529] } : Stack).window + 200 < up.cap 0 ∧
    (decide (720 < 720) && !({} : Stack).brake) = false ∧ (decide (720 < 721) && !({ brake := true } : Stack).brake) = false ∧
    up.takes k0 0 .rows 39 0x060 ∧ up.takes k0 0 .rows 39 0x064 := by unfold State.takes; decide +kernel

/-! ## Main memory and the sieve -/

/-- Main memory in service, with one channel's contents. -/
def mem : State := { up with thirds := [0, 1, 2] }
/-- The same, trained. -/
def serves : State := { mem with chans := [(0, { mode := .service }), (128, { mode := .service }), (256, { mode := .service })] }
def channel (c : Chan) : State := mem.setChan 383 c
def aWrite : MemReq := { op := .write 31 [0], src := 0x40, tag := 0, blk := 0, pa := 0, born := up.now, grp := 0 }
theorem witness_ChannelRequests : mem.memOn = true ∧ mem.inCapacity (3 * 2 ^ 40 - 1) = true ∧ mem.inCapacity (3 * 2 ^ 40) = false ∧ 3 + 12 ≤ 15 ∧ 47 % 64 + 16 ≤ 64 ∧
    40 % 8 = 0 ∧ serves.memServes = true ∧ serves.inCapacity 40 = true ∧ (serves.readEntry 40).1 = some 0 := by decide +kernel
theorem witness_ChannelRequests_issue : (channel { mode := .service, queue := [aWrite] }).memOn = true ∧ ((channel { mode := .service, queue := [aWrite] }).chan 383).mode = .service ∧
    (∀ k : Fin 16, ({} : Chan).refresh.get k = 0) ∧ ({ mode := .service, queue := [aWrite] } : Chan).pick up.now false = some aWrite ∧ aWrite.op = .write 31 [0] := by decide +kernel
theorem witness_ChannelRequests_refresh : max 1 Config.refreshLimit ≤ ({ refresh := (Vector.replicate 16 0).set 0 (max 1 Config.refreshLimit) } : Chan).refresh.get 0 ∧ (∀ k : Fin 16, ¬ k < 0) :=
  ⟨Nat.le_refl _, by decide⟩
theorem witness_ChannelUpkeep : mem.memOn = true ∧ ((channel { mode := .service }).chan 383).mode = .service ∧ (mem.wr (chanReg 383 0x054) 1).fld (chanReg 383 0x054) 0 1 = 1 ∧
    ({} : Chan).rate ≠ 2 ∧ ({ mem with idleInterval := true } : State).idleInterval = true ∧ ({ retrainDue := some (up.now - 10000000000) } : Chan).retrainDue = some (up.now - 10000000000) ∧
    up.now - 10000000000 + 10000000000 ≤ up.now ∧ ({} : Chan).retrainFails = 0 ∧
    (let s : State := { mem with stage := .larva, bootWait := 1, jobPhase := 0 }; s.stage = .larva ∧ s.spineUp = true ∧ s.bootWait ≠ 7 ∧ s.jobPhase = 0) ∧ mem.jobPhase ≠ 0 := by decide +kernel
/-- The sieve unit 0 with one record, which names these values. -/
def sealRec : Nat := 1 + 2 * 2 ^ 8 + 64 * 2 ^ 16 + 64 * 2 ^ 32
def queryRec : Nat := 2 + 2 ^ 8 + 64 * 2 ^ 16 + 2 ^ 32 + 2 ^ 128
def sieve (r : Nat) : State := { serves.wr (sieveReg 0 0x044) 1 with sieves := [(0, [{ src := 0x40, tag := 0x8000, pa := 0, chunk0 := BitVec.ofNat 256 r, full := true }])] }
/-- Main memory with an uncorrectable word at address 0. -/
def spoilt : State := { mem with mainMem := { check := [(memKey (mem.chanOf 0) (mem.blkOf 0) 0 / 8, 3)] } }
theorem witness_SieveAndAnswers : (sieve 0).memOn = true ∧ (sget [] mem.sieves 0).any (fun o => decide (o.src = 0x40) && !o.full) = false ∧
    (([{ src := 0x40, tag := 0x8000, pa := 0 }] : List SieveOp).any (fun o => decide (o.src = 0x40) && decide (o.tag = 0x8000) && !o.full)) = true ∧
    ((sieve sealRec).sieveHead 0).map Prod.snd = some sealRec ∧ bits sealRec 0 8 = 1 ∧ (sieve sealRec).fld (sieveReg 0 0x044) 0 1 = 1 ∧ sieveStatus sealRec = 0 ∧
    ((sieve queryRec).sieveHead 0).map Prod.snd = some queryRec ∧ bits queryRec 0 8 = 2 ∧ sieveStatus queryRec = 0 ∧
    ((sieve queryRec).readSpan 64 (2 * 64 * 1)).1.isSome = true ∧ ((sieve queryRec).scoreAll 0 64 1 0 1).1.length = 1 ∧ rangeMarked sealRec = false ∧ rangeMarked queryRec = false ∧
    serves.memServes = true ∧ rangeMarked (sealRec + 2 ^ 127) = true ∧ sieveStatus (sealRec + 2 ^ 127) = 0 ∧ ((sieve (sealRec + 2 ^ 127)).sieveHead 0).map Prod.snd = some (sealRec + 2 ^ 127) ∧
    (spoilt.readSpan 0 64).1 = none ∧ (spoilt.scoreAll 0 64 1 0 1).1.length = 0 := by decide +kernel
theorem witness_SieveAndAnswers_seal : ((sieve sealRec).readSpan 0 (64 * 64)).1.isSome = true := by decide +kernel
/-- Stack 39 with one piece and one fault of its Pager. -/
def aPiece : Piece := { seq := 0, idx := 0, rep := 0, off := 0, src := 1024 - 64, dst := 1024 - 64, srcSpace := 0, dstSpace := 0, len := 64 }
def withPiece (t : Nat) (p : Piece) : State := mem.setXe 39 { pieces := [(t, p)] }
def aFault : PFault := { tag := 64, entryPa := 8, jva := 0, level := 3, entry := 0x13, born := 0, zero := true }
theorem witness_SieveAndAnswers_cells : sfind ((withPiece 5 aPiece).xe 39).pieces 5 = some aPiece ∧ aPiece.sieve = false ∧ aPiece.finished = false ∧ aPiece.full = false ∧
    aPiece.src % 1024 / 32 ≤ 30 ∧ 31 < aPiece.src % 1024 / 32 + aPiece.len / 32 ∧ (aPiece.fill 0 7 1).full = false ∧ ((aPiece.fill 0 7 1).fill 32 7 1).full = true ∧
    sfind ((withPiece 0x7FFF aPiece).xe 39).pieces 0x7FFF = some aPiece ∧ aPiece.dst % 1024 / 32 ≤ 30 ∧ sfind ((withPiece 0x3FFF aPiece).xe 39).pieces 0x3FFF = some aPiece ∧
    sfind ((withPiece 5 { aPiece with sieve := true }).xe 39).pieces 5 = some { aPiece with sieve := true } ∧ (0x67 : Byte).toNat = 0x40 + 39 ∧
    [{ aFault with page := some 65536 }].find? (fun q => decide (swapTag q.tag = 0x4040) && q.page.isSome && !q.settled) = some { aFault with page := some 65536 } := by decide +kernel

/-! ## Translation and transfer -/

/-- A copy of one row from main memory, the last of its chain, with record and kettle; its TLB holds page 0. -/
def aDesc : Nat := 1 + 2 ^ 8 + 2 ^ 10 + 2 ^ 11 + 2 ^ 24 + 512 * 2 ^ 64
def aChain : Chain := { core := 49, ctx := .p, seq := 7, state := .active, place := some 15 }
def chained (l : List Chain) : State := mem.setXe 39 { chains := l, tlb := [(0, { vpn := 0, level := 3, entry := 7 })] }
theorem witness_DescriptorChains : (let k : Chain := { core := 49, ctx := .d, seq := 3 }; k ∈ [aChain, k] ∧ k.state = .queued ∧ (mem.ctx (50 * 39 + 49) .d).mode ≠ .drainPark ∧
      (mem.ctx (50 * 39 + 49) .d).mode ≠ .parked ∧ aChain.state ≠ .queued ∧ (∀ c ∈ [aChain, k], c.place ≠ some 0) ∧ (∀ j : Fin 16, ¬ j < 0)) ∧
    (let k : Chain := { core := 0, ctx := .p, seq := 3 }; ∀ c ∈ [aChain, k], ¬ (c.state = .queued ∧ c.ctx = .d)) ∧
    (chained [{ aChain with fetch := some 0 }]).stackOn 39 = true ∧
    ((chained [{ aChain with fetch := some 0 }]).xe 39).chains.find? (fun k => decide (k.place = some 15)) = some { aChain with fetch := some 0 } ∧ aChain.walking = false ∧
    (∀ d ∈ aChain.descs, d.issued = true) ∧ ((chained [aChain]).translate 39 64 false).1 = .hit 64 ∧ ((chained [aChain]).readBulk 64 1).1 = some 0 ∧
    descFault (up.enabledCores 39).length .d 0 = none ∧ descFault (up.enabledCores 39).length .p 0 = some 0x09 ∧ descFault (up.enabledCores 39).length .p (aDesc + 2 ^ 32) = none := by decide +kernel
theorem witness_DescriptorChains_rules : descFault 50 .d 3 = some 0x09 ∧ descFault 50 .d (2 ^ 12) = some 0x09 ∧ descFault 50 .d (2 ^ 11 + 2 ^ 448) = some 0x09 ∧ bits (2 ^ 8) 12 4 = 0 ∧
    descFault 50 .d (1 + 2 * 2 ^ 16 + 2 * 2 ^ 24) = some 0x09 ∧ descFault 50 .d (1 + 4 * 2 ^ 16 + 3 * 2 ^ 24) = some 0x09 ∧ descFault 50 .d (1 + 63 * 2 ^ 64) = some 0x09 ∧
    descFault 50 .d (1 + 2 ^ 24 + 512 * 2 ^ 64 + 2 ^ 222) = some 0x06 ∧ descFault 50 .d (1 + 2 ^ 24 + 2 ^ 94) = none := by decide +kernel
def dState : DescState := { idx := 0, jva := 0, raw := BitVec.ofNat 512 (aDesc + 2 ^ 32) }
def ready : Chain := { aChain with descs := [dState] }
theorem witness_PieceCommands : (chained [ready]).stackOn 39 = true ∧ (chained [ready]).nextIssuer 39 = some ready ∧ ((chained [ready]).xe 39).nextDesc ready = some dState ∧
    (chained [ready]).pieceTag 39 dState.raw.toNat = some 0 ∧ dOp dState.raw.toNat = 1 ∧ isRemote dState.raw.toNat = false ∧
    ((chained [ready]).operandAt 39 .p (spaceOf 0) 0 512 false).1 = .hit 0 ∧ ((chained [ready]).operandAt 39 .p (spaceOf 1) 0 512 true).1 = .hit 0 ∧
    sfind ((withPiece 255 { aPiece with finished := true }).xe 39).pieces 255 = some { aPiece with finished := true } ∧
    (let d := { dState with issued := true, recSent := true }; let s := chained [{ aChain with descs := [d] }]; s.chain 39 7 = some { aChain with descs := [d] } ∧
      dRecordFlag d.raw.toNat = true ∧ dKettleFlag d.raw.toNat = true ∧ dLast d.raw.toNat = true ∧ (s.xe 39).complete 7 d = true) := by decide +kernel
def aWalk : Walk := { jva := 0, level := 1, entry := 8, born := 0, clients := [(.chain 7, 0), (.chain 9, 64)] }
theorem witness_TableWalks : (let s := mem.setXe 41 { walks := [(7, aWalk)] }; s.memOn = true ∧ sfind (s.xe 41).walks 7 = some aWalk ∧ s.inCapacity aWalk.entry = true ∧
      (∀ k ∈ [((.chain 9, 64) : Client × Nat)], entryAddr 1 + 8 * tableIndex 2 k.2 = entryAddr 1 + 8 * tableIndex 2 0) ∧ (s.xe 41).walkWait = [] ∧ swf (fun _ => ({} : Xe)) s.xes = true ∧
      (∀ k ∈ (s.xe 41).walks, ¬(k.1 ≠ 7 ∧ k.2.level = 2)) ∧ (s.readEntry aWalk.entry).1 = some 0 ∧ (s.readEntry aWalk.entry).2.w = s.w ∧ (s.xe 41).walks.filter (fun k => decide (k.2.entry = aWalk.entry)) = [(7, aWalk)]) ∧
    entryKind (3 * 2 ^ 40) 1 (1 + 2 ^ 12) = .pointer ∧ entryKind (3 * 2 ^ 40) 3 7 = .leaf ∧ entryKind (3 * 2 ^ 40) 3 0x12 = .deferZero ∧ entryKind (3 * 2 ^ 40) 3 0x22 = .deferLoad ∧
    entryKind (3 * 2 ^ 40) 1 0 = .unmapped ∧ entryKind (3 * 2 ^ 40) 1 0x40 = .malformed ∧ entryKind (3 * 2 ^ 40) 3 (3 + 3 * 2 ^ 40) = .range := by decide +kernel
def paging (p : Pager) : State := (mem.setPager 39 p).wr (pagerReg 39 0x044) 1
theorem witness_PagerFaults : ((paging { inbox := [aFault] }).pager 39).inbox = [aFault] ∧ (paging {}).fld (pagerReg 39 0x044) 0 1 ≠ 0 ∧
    [aFault].find? (fun q => decide (q.entryPa = aFault.entryPa) && !q.settled) = some aFault ∧ ({} : Pager).faults.length < 64 ∧
    (paging { faults := [aFault] }).memOn = true ∧ [aFault].find? (fun q => q.zero && q.page.isNone && !q.settled) = some aFault ∧
    ([aFault].filter (fun q => q.page.isSome && !q.settled)).length < 4 ∧ aFault.level ≠ 2 ∧ ({ pool64K := [65536] } : Pager).pool64K = 65536 :: [] ∧
    [{ aFault with settled := true }].find? (fun q => q.settled && decide (q.entryPa = (8 : BitVec 42).toNat)) = some { aFault with settled := true } ∧
    (let f := { aFault with zero := false }; [f].find? (fun q => !q.zero && !q.settled && decide (q.born + 1000000 * (paging {}).fld (pagerReg 39 0x048) 0 16 < (paging {}).now)) = some f) ∧
    (paging {}).fld (pagerReg 39 0x044) 0 1 = 1 ∧ [{ aFault with noted := true }].find? (fun q => (q.settled || q.noted) && decide (q.entryPa = (8 : BitVec 42).toNat)) = some { aFault with noted := true } ∧
    (let s : State := { mem with job := { segs := [{ idx := 0, delivered := true }] } }; s.job.segs.filter (fun x => decide ((segRec s.job.manifest x.idx).ticket = 0)) ≠ [] ∧ s.jobPhase ≠ 0) := by decide +kernel
theorem witness_PagerFaults_writes : mem.takes k0 0 .pager 39 0x060 ∧ bitOf (2 ^ 41) 0 = false ∧ ({} : Pager).pool64K.length < 64 ∧ bitOf (1 + 2 ^ 21) 0 = true ∧
    bits (1 + 2 ^ 21) 16 26 * 65536 % 2 ^ 21 = 0 ∧ bits (1 + 2 ^ 16) 16 26 * 65536 % 2 ^ 21 ≠ 0 ∧ (chained []).takes k0 0 .xe 39 0x044 ∧ (∀ c ∈ ((chained []).xe 39).chains, c.state ≠ .active) ∧
    (chained [aChain]).takes k0 0 .xe 39 0x04C ∧ aChain ∈ ((chained [aChain]).xe 39).chains ∧ aChain.state = .active := by unfold State.takes; decide +kernel

/-! ## A cell's check sum, which the kernel evaluates fast when each byte's value is computed before the next -/

def crcStep (c : Nat) : Nat := (c / 2) ^^^ (0x82F63B78 * (c % 2))
theorem crcBit_step (c : Nat) : crcBit c = crcStep c := by
  rcases Nat.mod_two_eq_zero_or_one c with h | h <;> simp [crcBit, crcStep, h]
def crcByte (x : Nat) : Nat := crcStep (crcStep (crcStep (crcStep (crcStep (crcStep (crcStep (crcStep x)))))))
theorem crcByte_eq (x : Nat) : crcBit (crcBit (crcBit (crcBit (crcBit (crcBit (crcBit (crcBit x))))))) = crcByte x := by simp only [crcBit_step, crcByte]
def crcFast : Nat → Nat → Nat → Nat
  | 0, c, _ => c
  | n + 1, c, v =>
    Nat.casesOn (crcByte (c ^^^ (v % 256)))
      (crcFast n 0 (v / 256)) (fun k => crcFast n (k + 1) (v / 256))

theorem crcBytes_succ (c v n : Nat) : crcBytes c v (n + 1) = crcBytes (crcByte (c ^^^ (v % 256))) (v / 256) n := by
  conv => lhs; unfold crcBytes
  simp only [crcByte_eq]
theorem crcFast_succ (c v n : Nat) : crcFast (n + 1) c v = crcFast n (crcByte (c ^^^ (v % 256))) (v / 256) := by
  rw [crcFast]; generalize crcByte (c ^^^ (v % 256)) = x; cases x <;> rfl
theorem crcBytes_fast (n : Nat) : ∀ c v, crcBytes c v n = crcFast n c v := by
  induction n with
  | zero => intro c v; rfl
  | succ n ih => intro c v; rw [crcBytes_succ, crcFast_succ, ih]
theorem cellGood_of (c : CellBits) (h : crcFast 44 0xFFFFFFFF c.toNat ^^^ 0xFFFFFFFF = bits c.toNat 352 32) : cellGood c = true := by
  rw [cellGood, crc32c, crcBytes_fast]; exact decide_eq_true h

/-! ## The photonic base and its light -/

/-- Group 0 with these contents, and site 40, which reaches it. -/
def grouped (x : Group) : State := up.setGrp 0 x
def aGroup : Group := { state := .service, token := .free }
/-- Two cells of type 1, of burst 5 and with indices 0 and 1, and their check sums. -/
def cells : List CellBits := [BitVec.ofNat 384 14456215940717907624255083306977085433511775694153186646654953037800314654713806854326810000832744107074352651960321,
  BitVec.ofNat 384 34807404768839082003397506121984946460942572885858437461002994305220979743499963075999741447071011309138078278352897]
def aBurst : Burst := { grp := 0, id := 5, cells := [0], tx := 0 }
def bursting (b : Burst) : State := up.setSite 40 { bursts := [b] }
theorem witness_BurstProtocol : (grouped aGroup).mayCapture 40 0 = true ∧ ((grouped aGroup).freeTx 40).isSome = true ∧ (∀ b ∈ ((grouped aGroup).site 40).bursts, b.grp ≠ 0) ∧
    (grouped aGroup).orderKept 40 0 [0] = true ∧ ((grouped aGroup).grp 0).passOnce = [] ∧ ((grouped { aGroup with token := .held 40 }).grp 0).token = .held 40 ∧
    cells.length = 2 ∧ (∀ i, i < 2 → bits (cells.getD i 0).toNat 24 4 = 5 ∧ bits (cells.getD i 0).toNat 28 4 = i) ∧ (cells.all fun c => !typeReserved (bits c.toNat 0 8)) = true ∧
    up.backlog (grpWave 0) < 31 ∧ sfind ((grouped aGroup).grp 0).seen 40 = none ∧ 0 < up.now ∧ (40 :: passed (grpHome 0) aGroup.tokenAt (upstream (grpHome 0) 40)).any (fun n => (grouped aGroup).relayDark n (grpWave 0)) = false ∧
    (grouped aGroup).masterHolds 40 0 = false ∧ (grouped aGroup).bypassed 40 = false ∧ 40 ∉ aGroup.stillPass (grpHome 0) (upstream (grpHome 0) 40) ∧
    (let x := { aGroup with passOnce := [40] }; (grouped x).mayCapture 40 0 = true ∧ 40 ∈ x.stillPass (grpHome 0) (upstream (grpHome 0) 40)) ∧
    (let x := { aGroup with state := .asleep, token := .sleep }; (grouped x).mayCapture 40 0 = true ∧ (grouped x).masterHolds 40 0 = false ∧ ((grouped x).grp 0).token = .sleep) ∧
    (0x5B : Byte) ≠ 0x5A ∧ readBurst [] = none ∧ (0 : BitVec 4).toNat < aBurst.cells.length ∧ aBurst.expired = false ∧ ((bursting aBurst).site 40).awaiting 0 5 = some aBurst ∧ aBurst.tries < 4 ∧
    4 ≤ ({ aBurst with tries := 4 } : Burst).tries ∧ aBurst.limitAt = none ∧ ((bursting aBurst).site 40).bursts.find? (fun k => decide (k.grp = 0) && decide (k.due = 0)) = some aBurst ∧
    aBurst.sentAt + up.fld (siteReg 40 0x050) 0 16 ≤ up.now ∧ ({ aBurst with limitAt := some 0 } : Burst).limitAt = some 0 ∧ 0 + 1000000 ≤ up.now := by decide +kernel
theorem witness_BurstProtocol_cells : ∀ c ∈ cells, cellGood c = true := by
  have h : (cells.all fun c => crcFast 44 0xFFFFFFFF c.toNat ^^^ 0xFFFFFFFF == bits c.toNat 352 32) = true := by decide +kernel
  exact fun c hc => cellGood_of c (by simpa using List.all_eq_true.1 h c hc)
theorem witness_BurstProtocol_lanes : readBurst (burstLanes 0x5A cells).1 = some (cells.map (fun c => (c, 0))) ∧
    readBurst (burstLanes 0 (cells ++ [0])).1 = some (cells.map (fun c => (c, 0)) ++ (0, 0) :: []) := by decide +kernel
theorem witness_GroupStates : (grouped aGroup).takes k0 0 .phoHome (grpHome 0) 0x048 ∧ ((grouped aGroup).grp 0).state = .service ∧ ((grouped { state := .blocked }).grp 0).state = .blocked ∧
    ((grouped { state := .asleep, token := .sleep }).grp 0).token = .sleep ∧ ({ aGroup with blockFor := 1 } : Group).blockFor = 1 ∧ (grouped aGroup).dst = .d0 ∧
    (let s := (grouped aGroup).wr (homeReg 0 0x050) 1000; s.fld (homeReg 0 0x050) 0 32 ≠ 0 ∧ aGroup.lastBurst + s.fld (homeReg 0 0x050) 0 32 ≤ s.now) ∧
    ({ state := .asleep, token := .held 40 } : Group).state = .asleep ∧ ((bursting { aBurst with due := 1 }).site 40).bursts.find? (fun b => decide (b.grp = 0) && decide (b.due ≠ 0)) = some { aBurst with due := 1 } ∧
    ({ state := .waking, wakeAt := 0 } : Group).wakeAt + 2000 ≤ up.now ∧ ({ state := .waking, wakeFails := 2 } : Group).wakeFails = 2 ∧ ({ state := .waking, token := .kept } : Group).token = .kept ∧ ({ state := .waking } : Group).token ≠ .kept ∧
    ({ aGroup with token := .held 40 } : Group).paused = false ∧ aGroup.tokenSeen + up.fld (homeReg 0 0x054) 0 16 ≤ up.now ∧ aGroup.lastBurst + 200 ≤ up.now := by
  unfold State.takes; decide +kernel
/-- Ten lanes: eight ACTIVE and two in this state. -/
def lanesOf (k : LaneState) : Vector Lane 10 := Vector.ofFn (fun o : Fin 10 => { state := if o < 8 then .active else k })
def lostLane (k : LaneState) : State := ((grouped { aGroup with lanes := lanesOf k }).laneTo 0 0 .failed)
theorem witness_LanesAndStart : ({ state := .locking, confirmed := true } : Lane).confirmed = true ∧ ({ state := .locking, confirmed := true } : Lane).check = [] ∧
    (up.trainer 0).isSome = true ∧ (9 : Byte).toNat = grpSlot 0 (9 : Fin 10) ∧ (8 : Byte).toNat ≠ grpSlot 0 (9 : Fin 10) ∧ ({ state := .training } : Lane).since + 1000 ≤ up.now ∧
    8 ≤ onesIn ({ hist := 0xFF } : Lane).hist.toNat 32 ∧ (∀ k : Fin 8, (grouped aGroup).lineFaded 0 (aGroup.map.get k) = false) ∧ ({ state := .training, tries := 2 } : Lane).since + 10000 ≤ up.now ∧
    ((grouped { aGroup with lanes := lanesOf .dark }).grp 0 |>.lane 0).state = .active ∧ ((lostLane .standby).grp 0).laneOf 0 = some 0 ∧ ((lostLane .standby).grp 0).sparing = none ∧
    ((lostLane .standby).grp 0).spare = some 8 ∧ ((lostLane .dark).grp 0).spare = none ∧ ((lostLane .dark).grp 0).state = .service ∧ (grouped aGroup).takes k0 0 .phoHome (grpHome 0) 0x048 ∧
    (let x := { aGroup with lanes := lanesOf .shadow, sparing := some ⟨0, 0, 8, 0, false⟩ }; x.sparing = some ⟨0, 0, 8, 0, false⟩ ∧ 0 + 40 ≤ up.now ∧ (x.lane 8).state = .shadow) ∧
    (∀ k : Fin 8, ((lanesOf .standby).get (aGroup.map.get k)).state ≠ .failed) ∧
    (let x : Group := { state := .training, lanes := Vector.replicate 10 { state := .standby } };
      8 ≤ ((List.finRange 10).filter (fun o => decide ((x.lanes.get o).state = .standby))).length) := by unfold State.takes; decide +kernel
def larva : State := { up with stage := .larva, jobPhase := 0, bootWait := 0 }
def kettled : State := (up.wr (kettleReg 255 0x040) 1).wr (kettleReg 255 0x044) 3
theorem witness_SitesAndKettles : 40 ≤ 58 ∧ 1 < txFitted 58 ∧ 1 ∉ (up.site 58).gone ∧ larva.stage = .larva ∧ larva.spineUp = true ∧ (diesAt 39).filter (fun c => (larva.die c).fitted) = [0x67, 0xA7] ∧
    parityOf 1 ≠ 0 ∧ parityOf 1 = 1 ∧ [((1 : Dword), (0 : Byte)), (1, 0), (1, 0)].length ≤ 3 ∧ 4 ≤ [((1 : Dword), (0 : Byte)), (1, 0), (1, 0), (1, 0)].length ∧
    (diesAt 0x3F).filter (fun c => (larva.die c).fitted) = [0] ∧ (({ larva with identAt := sput larva.identAt 0x3F larva.now } : State).die 0).claimed = none ∧ dieClass 0x67 = 3 ∧
    (let s := { larva.setDie 0x67 { fitted := false } with identAt := [(0x27, 0)] }; (s.die 0x67).fitted = false ∧ sfind s.identAt (0x67 % 64) = some 0 ∧ 0 + 10000 ≤ s.now) ∧
    kettled.kettleMode 255 = 1 ∧ kettled.kettleCount 255 + [1, 2].sum < 2 ^ 32 ∧ 2 ^ 32 ≤ (kettled.wr (kettleReg 255 0x048) (2 ^ 32 - 1)).kettleCount 255 + [1].sum ∧ up.kettleMode 255 ≠ 1 ∧
    sget [] ({ kettled with kettleIn := [(255, [1, 2])] } : State).kettleIn 255 = [1, 2] ∧ kettled.rdn (kettleReg 255 0x044) ≤ (kettled.wr (kettleReg 255 0x048) 3).kettleCount 255 ∧
    [(255, (7 : Word))].find? (fun e => decide (e.1 = 255)) = some (255, 7) := by decide +kernel
/-- A folio whose section 0x04 approves the name 0, and LSM 6 with its two fibres. -/
def approving : List Word := (List.replicate 32 0).set 3 80 ++ [4, 68] ++ List.replicate 18 0
def lasers (x : Lsm) : State := (up.modInput 25 (fun _ => { lowSince := some 0 })).modLsm 6 (fun _ => x)
theorem witness_LightSources : ({ larva with vault := { larva.vault with folio := approving } } : State).modelApproved 0 = true ∧ ((lasers { cmisRow := 2 }).lsm 6).cmisRow = 2 ∧
    up.dst = .d0 ∧ ({ up with dst := .d2 } : State).dst ≠ .d0 ∧ up.stage = .imago ∧ ({ up.refLight with holdover := some 0 } : RefLight).expired = false ∧ 0 + 3600000000000 ≤ up.now ∧
    ({ larva with vault := { larva.vault with folio := approving } } : State).stage = .larva ∧ (larva.lsm 6).mode ≠ .probe ∧ ((larva.modLsm 6 (fun x => { x with mode := .probe })).lsm 6).mode = .probe ∧
    (3 : BitVec 4) &&& ~~~(0xF : BitVec 4) = 0 ∧ ({ valid := true, since := 0 } : RefLight).since + 10000000000 ≤ up.now ∧ ({} : RefLight).valid = false ∧ ((lasers { shut := 3 }).lsm 6).enabled.getLsbD 1 = false ∧
    (-1001 : Int) < -1000 ∧ fibreLsm 25 = (6, 1) ∧ ((lasers { enabled := 3 }).lsm 6).enabled.getLsbD 1 = true ∧ ((lasers { shut := 3 }).input 25).lowSince = some 0 ∧
    ((lasers { shut := 3 }).input 25).confirmed = false ∧ ((lasers { shut := 3 }).lsm 6).shut.getLsbD 1 = true ∧ 0 + 900000 ≤ up.now ∧
    ((lasers { shut := 3 }).wr (lsmReg 6 0x06C) 1).fld (lsmReg 6 0x06C) 0 1 = 1 ∧ ((lasers { shut := 3 }).input 25).probeAt + 1000000000 ≤ up.now ∧ up.takes k0 0 .lsm 6 0x070 := by
  unfold State.takes; decide +kernel
def aLine (m : LineMode) (loss : Int) : LaserLine := { mode := m, power := loss, base := some 0, lit := true }
/-- Offsets that a visit of line 0 may measure: the one that leaves the line on the grid, and one 1 GHz above it. -/
theorem witness_LaserLines_offsets : -10 ≤ (0 - Config.residual 0) + Config.residual 0 ∧ (0 - Config.residual 0) + Config.residual 0 ≤ 10 ∧
    10 < ((100 - Config.residual 0) + Config.residual 0).natAbs ∧ ((0 : Int) - ((100 - Config.residual 0) + Config.residual 0)).natAbs ≤ 500 := by
  rw [Int.sub_add_cancel, Int.sub_add_cancel]; decide
/-- A line whose loss falls by 1 dB in 100 ms. -/
def sinking : LaserLine := { aLine .normal (-100) with hist := [(up.now, -150), (up.now - 100000000, -50)] }
theorem witness_LaserLines : 40 < fibreLines 0 ∧ 9 < fibreLines 25 ∧ ({} : LaserLine).mode = .normal ∧ ({ lit := true } : LaserLine).base = none ∧ (aLine .normal (-150)).loss ≤ -150 ∧ -250 < (aLine .normal (-249)).loss ∧
    (aLine .warning (-250)).loss ≤ -250 ∧ -300 < (aLine .warning (-299)).loss ∧ (aLine .standbyLit (-300)).loss ≤ -300 ∧ (aLine .standbyLit (-300)).swap = none ∧
    ({ aLine .warning 0 with recoverAt := some 0 } : LaserLine).recoverAt = some 0 ∧ 0 + 60000000000 ≤ up.now ∧ (aLine .normal (-50)).loss ≤ -50 ∧ (aLine .normal (-50)).standbyGone = false ∧
    (up.input 25).visit = 0 ∧ (sinking.falling = true ∧ sinking.loss ≤ -50) ∧ (∀ k ∈ up.pairFibres 25, (up.line k 9).swap = none) ∧ ({} : LaserLine).steered = none ∧
    up.takes k0 0 .lsm 6 0x060 ∧ bits 0x141 0 2 < 2 ∧ bits 0x109 0 6 < 10 ∧ up.takes k0 0 .lsm 5 0x060 ∧ bits 0x128 0 6 < 41 := by unfold State.takes; decide +kernel
/-- The pair of LSM 6 outputs 0 and 1 on line 9, in a swap. -/
def swapping (w : Swap) : State := [24, 25].foldl (fun t f => t.modLine f 9 (fun y => { y with mode := .swapping, ready := true, base := some 0, swap := some w })) (up.modLsm 6 (fun _ => { enabled := 3, pairs := [3] }))
def swapped (w : Swap) : State := (swapping w).modLsm 6 (fun _ => { enabled := 3, swapping := some (3, 9) })
theorem witness_LaserLines_swap : ((swapping { decided := 0 }).lsm 6).swapping = none ∧ lsmFibres 6 3 = [24, 25] ∧ (swapping { decided := 0 }).pairReady [24, 25] 9 = true ∧ pairGroups [24, 25] 9 = [] ∧
    (∀ f ∈ [24, 25], ∀ p ∈ fibrePorts f, (up.port p).spare = none) ∧ (∀ f ∈ [24, 25], (swapping { decided := 0 }).pairOuts f = 3) ∧ (swapping { decided := 0 }).swapBefore 6 0 = false ∧ 50 < (51 : Int).natAbs ∧ (swapped ⟨0, some 0, false, false, false⟩).swapAt 6 3 9 = some ⟨0, some 0, false, false, false⟩ ∧
    (swapped ⟨0, some 0, true, false, false⟩).swapAt 6 3 9 = some ⟨0, some 0, true, false, false⟩ ∧ 0 + 9500 ≤ up.now ∧ (swapped ⟨0, some 0, true, true, true⟩).swapAt 6 3 9 = some ⟨0, some 0, true, true, true⟩ ∧
    (swapped ⟨0, some 0, true, true, false⟩).swapAt 6 3 9 = some ⟨0, some 0, true, true, false⟩ ∧ (∀ f ∈ [24, 25], ((swapped ⟨0, some 0, true, true, false⟩).line f 9).base = some 0) ∧ (0 : Int) - 300 ≤ -300 := by decide +kernel
theorem witness_RingsAndCalibration : (sget {} up.rings (ringKey (.receive 0 0))).shift ≤ ringSpan (.receive 0 0) ∧
    (let n := (sget {} up.rings (ringKey (.receive 0 0))).update 6000 (31 - up.ringBias (.receive 0 0)) up.now; 500 < n.shift ∧ n.shift + 500 < ringSpan (.receive 0 0) ∧ n.lost = false) ∧
    ({ shift := 6000, endSince := some 0, lost := false } : RingSt).update 6000 1 up.now = { shift := 6000, endSince := some 0, lost := true } ∧
    (({ shift := 3000, errSince := some 0 } : RingSt).update 6000 31 up.now).lost = true ∧ up.ringBias (.modulator 0 0 0) = 1200 ∧
    (let x := { aGroup with lanes := lanesOf .cal }; x.marking 9 = true ∧ 0 + 1250 * (turns 0 (x.lane 9).check).length ≤ up.now) ∧
    ({ sweepAt := some 0 } : Lane).sweepAt.isSome = true ∧ (sweepers 0).filter (fun n => !((grouped aGroup).grp 0).isAway n) = sweepers 0 ∧ ({ sweepAt := some 0, check := [40] } : Lane).check ≠ [] ∧
    (40, 16) ∈ ({ marks := [(40, 16)] } : Lane).marks ∧ sweepers 0 ≠ [] ∧ (∀ n ∈ sweepers 0, (n, 16) ∈ (sweepers 0).map (fun n => (n, 16))) ∧
    (∀ n ∈ sweepers 0, ¬ ∃ m ∈ (sweepers 0).map (fun n => (n, 15)), m.1 = n ∧ 16 ≤ m.2) := by decide +kernel
def passing (x : Group) : State := { grouped x with calPass := { running := true, groups := [0] }, idleInterval := true }
theorem witness_RingsAndCalibration_pass : ({ running := false, pending := true } : CalPass).pending = true ∧ (grouped aGroup).calPass.running = false ∧ (grouped aGroup).mayPass = true ∧
    ({ grouped aGroup with dst := .d2 } : State).mayPass = false ∧ (let s : State := { up with stage := .pupa, restart := { busy := true }, calPass := { running := true, groups := [0], awaited := true } };
      s.jobPhase = 3 ∧ s.stop.cause = 0 ∧ s.calPass.ports = [] ∧ s.calPass.pending = false) ∧ (let s := up.setPort 5 { tx := .service, rx := .service }; s.portIn 5 = true ∧ (s.port 5).tx = .service) ∧
    (let y : Port := { inPlace := [9], calSince := [(9, 0)], txLanes := Vector.replicate 10 .standby }; y.txLane 9 = .standby ∧ 9 ∈ y.inPlace) ∧ ((grouped aGroup).grp 0).inService = true ∧
    ((0 : Nat) : Int) < ((({ use := 10 } : Diode).use - up.calPass.baseTemp).natAbs : Int) ∧ (passing aGroup).calPass.running = true ∧ 0 ∈ (passing aGroup).calPass.groups ∧
    (let x := { aGroup with lanes := lanesOf .standby, calTodo := [7], calFresh := some 9 }; (passing x).swapArmed 0 = false ∧ x.calOut = false ∧ x.sparing = none ∧
      x.calOnto = some 9 ∧ x.laneOf 7 = some 7 ∧ x.urgent = none ∧ (∀ e ∈ (passing x).groups, e.2.urgent = none) ∧ (passing x).calBusy < 64) ∧
    (let x := { aGroup with lanes := (lanesOf .standby).set 7 { state := .active, calDue := true }, calFresh := some 9 }; x.urgent = some 7 ∧ x.calOnto = some 9 ∧ x.laneOf 7 = some 7) ∧
    (let x := { aGroup with lanes := lanesOf .standby }; x.calTodo = [] ∧ x.inPlace = [] ∧ x.spare.isSome = true) ∧
    (let x := { aGroup with lanes := lanesOf .dark }; (passing x).mayBlockCal 0 = true ∧ (∀ i : Fin 10, (x.lanes.get i).state = .active → (0xFF : BitVec 10).getLsbD i = true)) ∧
    ({ state := .blocked, blockFor := 3 } : Group).blockFor = 3 ∧ ({ state := .cal, since := 0 } : Lane).since + 199000 ≤ up.now ∧
    (let y : Port := { txLanes := Vector.replicate 10 .cal, calSince := [(9, 0)] }; y.txLane 9 = .cal ∧ sfind y.calSince 9 = some 0) := by decide +kernel

/-! ## The hall fabric -/

/-- Port 5 with these contents, on a device of two ranks along each axis and with LSM 6 lit. -/
def hall : State := (up.wr (fabReg 0x040) 0x111).modLsm 6 (fun x => { x with mode := .lit })
def ported (x : Port) : State := hall.setPort 5 x
theorem witness_Codewords : (aByte 136).length = 136 ∧ ({ rx := .waking } : Port).rx = .waking ∧ ({ rx := .retrain, receiving := true } : Port).receiving = true ∧ (∀ j, j < 8 → rsSyndrome ((aByte 136).map BitVec.toNat) j = 0) ∧
    rsDecode ((aByte 136).map BitVec.toNat) (rsErased 0x1FF 0) = none ∧ 128 ≤ (({ rx := .service, rxLanes := Vector.replicate 10 { bad := 128 } } : Port).rxLane 7).bad ∧
    (7 : Fin 10) ∈ ({} : Port).rxMap.toList := by decide +kernel
theorem witness_PortTraining : ({} : Port).tx = .off ∧ ({} : Port).disabled = false ∧ (ported {}).portUsed 5 = true ∧ (ported {}).stage = .imago ∧ (ported {}).spineUp = true ∧ (ported {}).dst = .d0 ∧
    ((ported {}).lsm 6).mode = .lit ∧ (0xFF : Byte).toNat ≠ 9 ∧ sixteenXts 9 255 4 0 0 0x111 1 0 7 = sixteenXts (9 : Byte).toNat (255 : Byte).toNat 4 0 0 0x111 (1 : Dword).toNat 0 7 ∧
    (∀ i, i < 8 → [] ≠ sixteenXts 9 255 4 0 0 0x111 1 0 i) ∧ (9 : Byte).toNat = (9 : Fin 10).val ∧ (ported {}).discFault 5 4 0 0 0x111 = 0 ∧ (ported {}).discFault 5 5 0 0 0x111 = 1 ∧
    (let s := ((ported { tx := .training, receiving := true, bothSince := some 0 }).wr (fabReg 0x044) 0x10000).wr (xportReg 5 0x048) 0x8000;
      (s.port 5).tx = .training ∧ (s.port 5).receiving = true ∧ (s.port 5).bothSince = some 0 ∧ 0 + 1000 ≤ s.now ∧ s.coordValid = true ∧ s.fld (xportReg 5 0x048) 15 1 = 1) ∧
    ({ tx := .waking, since := 0 } : Port).since + 200 ≤ up.now ∧ ({ tx := .training, attempts := 1 } : Port).t0 + 10000000 ≤ up.now ∧ ({ attempts := 2 } : Port).oneTry = false ∧
    6 ≤ popCount (0x3F : Byte).toNat 8 ∧ up.coordValid = false ∧ up.fld (fabReg 0x044) 18 2 = 0 ∧ up.discStart + 1000000 * up.fld (fabReg 0x048) 0 16 ≤ up.now := by decide +kernel
theorem witness_PortStates : ({ tx := .service } : Port).replay = [] ∧ ({ rx := .service, rxItems := [.sleep] } : Port).rxItems = .sleep :: [] ∧ (ported { tx := .service }).portSwap 5 false = false ∧
    (9 : Fin 10) ∉ ({ tx := .service } : Port).inPlace ∧ (let x : Port := { tx := .paused }; x.tx = .paused ∧ .standby ∉ x.txLanes.toList) ∧
    (List.finRange 10).filter (fun o => decide (({ tx := .service, txLanes := Vector.replicate 10 .standby } : Port).txLanes.get o = .standby)) ≠ [] ∧ (∀ v ∈ ({} : Port).owed.toList, v = 0) ∧ ({ up with dst := .d1 } : State).dst = .d1 ∧ ({ tx := .asleep, unacked := 1 } : Port).unacked ≠ 0 ∧
    ({ tx := .retrain, since := 0, retrains := 2 } : Port).since + 1000000 ≤ up.now ∧ .standby ∉ ({ tx := .service } : Port).txLanes.toList ∧ ({ tx := .paused, peerRecv := true } : Port).peerRecv = true ∧
    (passing aGroup).calPass.running = true ∧ (passing aGroup).idleInterval = true ∧ (ported {}).takes k0 0 .xport 5 0x05C ∧
    (({ tx := .service, txLanes := Vector.replicate 10 .standby } : Port).txLane 9) = .standby ∧ ({ disabled := true } : Port).tx ≠ .out ∧ ({ tx := .out } : Port).tx = .out ∧
    (let k : PortSpare := ⟨7, 7, 9, 0⟩; let x : Port := { rxSpare := some k, spare := some k, rxLanes := Vector.replicate 10 { state := .active, good := 16 } };
      x.rxSpare = some k ∧ 16 ≤ (x.rxLane 9).good ∧ (x.rxLane 7).state = .active ∧ k.lane = 7 ∧ k.t1 + 10000 ≤ up.now) ∧ up.takes k0 0 .rankmap 3 (0x800 + 4 * 511) := by unfold State.takes; decide +kernel
/-- A good cell of type 1 with link sequence number 0. -/
def linkCell : CellBits := BitVec.ofNat 384 14456215940717907624255083306977085433511775694153186646654953037800314654713806854326810000832744107074352651960321
theorem witness_LinkCells : ({ rx := .service } : Port).rx = .service ∧ ({ rxItems := [.cell linkCell] } : Port).rxItems = .cell linkCell :: [] ∧ ({ rxItems := [.lost] } : Port).rxItems = .lost :: [] ∧ hf linkCell 0 8 = 1 ∧ hf linkCell 72 12 = 0 ∧ (({} : Port).inBuf.filter (fun e => decide (hf e.2.2 48 3 = hf linkCell 48 3))).length < vcRoom (hf linkCell 48 3) ∧
    (1 + 4096 - 0) % 4096 = 1 ∧ (2048 + 4096 - 0) % 4096 ≤ 2048 ∧ 2048 < (2049 + 4096 - 0) % 4096 ∧ sfind ({ halves := [(4, 7)] } : Port).halves 4 = some 7 ∧
    (({} : Port).egress.filter (fun e => decide (e.1 = 4))).length < 32 ∧ (∃ e ∈ ({ replay := [(4095, 0)] } : Port).replay, e.1 = 4095) ∧ ({ replay := [(4095, 0)] } : Port).resend = none ∧
    (∀ e ∈ ({ replay := [(4095, 0)] } : Port).replay, e.1 ≠ 0) ∧ 0 + 100 ≤ up.now ∧ 0 + 1000 ≤ up.now ∧ ({ unacked := 32, unackedSince := some 0 } : Port).unackedSince = some 0 ∧
    ({ owed := #v[32, 0, 0, 0, 0], owedSince := some 0 } : Port).owed.toList.sum = 32 ∧ ({ tx := .service, replay := [(4095, 0)] } : Port).advanced + up.fld (xportReg 5 0x078) 0 16 ≤ up.now ∧
    ({ timeouts := 7 } : Port).timeouts = 7 := by decide +kernel
theorem witness_LinkCells_good : cellGood linkCell = true := cellGood_of _ (by decide +kernel)
theorem witness_LinkCells_bad : cellGood 0 = false := by rw [cellGood, crc32c, crcBytes_fast]; decide +kernel
theorem witness_LinkCells_send : (ported { tx := .service }).portSwap 5 true = false ∧ (∀ v : Fin 2, ({ tx := .service } : Port).starve.get v < 16) ∧ ({ ackDue := true } : Port).ackDue = true ∧
    ({ inject := [(4, 0)] } : Port).ackDue = false ∧ ({} : Port).nakDue = false ∧ ({} : Port).resend = none ∧ ({} : Port).creditDue = false ∧ ({} : Port).replay.length < 255 ∧
    (∀ q, q < 6 → ((ported { tx := .service, inject := [(4, 0)], credits := #v[1, 1, 1, 1, 1] }).port q).inBuf = []) ∧ ({} : Port).egress = [] ∧ (#v[1, 1, 1, 1, 1] : Vector Nat 5).get 4 ≠ 0 := by decide +kernel
/-- A device under job tag 1 whose region 0 is the first 2 MiB, and whose translator of M15 holds the page at 0. -/
def served : State := (((up.wr (fabReg 0x050) 1).wr (entryReg 0 0) 1).wr (entryReg 0 8) 21).setXe 41 { tlb := [(0, { vpn := 0, level := 3, entry := 7 })] }
def inHall : State := { served with thirds := [0, 1, 2] }
def aReq (k : Nat) : HallReq := { m15 := true, kind := k, src := 0, cls := 0, tag := 0, addr := 2 ^ 63, units := 1, op := 4, size := decide (k = 2) }
theorem witness_HallRequests : (1 : BitVec 16) ≠ 0 ∧ (1 : BitVec 16).toNat = inHall.jobTag ∧ inHall.restart.busy = false ∧ inHall.hallWait = [] ∧ (aReq 2).fail = 0 ∧ (aReq 2).waits = false ∧
    haSpace (2 ^ 63) = 0 ∧ haGlobal (2 ^ 63) = true ∧ (∀ k < 3, haBad (2 ^ 63) k 5 true = false) ∧ (inHall.translate 41 0 false).1 = .hit 0 ∧ (inHall.translate 41 0 true).1 = .hit 0 ∧
    inHall.regionCheck (aReq 0) = 0 ∧ (inHall.setFld (entryReg 0 8) 20 1 1).regionCheck (aReq 2) = 0 ∧ inHall.inCapacity 0 = true ∧ 0 % 1024 + 64 * 16 ≤ 1024 ∧
    [aReq 2].find? (fun q => decide (q.kind = 2) && asmOf true 0 0 q) = some (aReq 2) ∧ [aReq 4].find? (fun q => decide (q.kind = 4) && asmOf true 0 0 q) = some (aReq 4) ∧
    stackOfDie 0x1F = none ∧ (aReq 4).bulk.length + 1 < 2 * (aReq 4).units ∧ ({ aReq 4 with bulk := [0] } : HallReq).bulk.length + 1 = 2 * (aReq 4).units ∧
    (2 : BitVec 16).toNat ≠ inHall.jobTag ∧ ({ inHall with restart := { busy := true } } : State).restart.busy = true := by decide +kernel
theorem witness_HallRequests_owned : ((inHall.wr (regAddr .rankmap 0 0x800) 0x8000).regionCheck (aReq 4)) = 0 := by decide +kernel
def kettles : State := served.wr (kettleReg 255 0x040) 1
def regions : State := ((served.wr (entryReg 1023 0) 1).wr (entryReg 1023 8) 21).wr (regAddr .rankmap 0 0x800) 0x8005
theorem witness_HallOperations : haGlobal (2 ^ 63 + 2 ^ 48 + 255) = true ∧ haSpace (2 ^ 63 + 2 ^ 48 + 255) = 1 ∧ haLocal (2 ^ 63 + 2 ^ 48 + 255) = 255 ∧ haBad (2 ^ 63 + 2 ^ 48 + 255) 0 0 false = false ∧
    haBad (2 ^ 63 + 2 ^ 48 + 255) 2 0 false = false ∧ kettles.kettleMode 255 = 1 ∧ kettles.kettleCount 255 + 65535 < 2 ^ 32 ∧ served.kettleMode 255 ≠ 1 ∧
    haSpace (2 ^ 63 + 2 ^ 49 + 1023) = 2 ∧ haBad (2 ^ 63 + 2 ^ 49 + 1023) 2 4 false = false ∧ regions.regionValid 1023 = true ∧ bitOf (2 ^ 13) 13 = true ∧ regions.ownsRegion 1023 5 = true ∧
    0 % 2 ^ 13 = regions.regionWord 1023 % 2 ^ 13 ∧ regions.ownsRegion 1023 6 = false ∧ 1 = served.jobTag ∧ served.restart.busy = false := by decide +kernel
def tagged (u : TagUse) : State := up.setXe 39 { tags := [(2047, u)], pieces := [(256 + 2047, { aPiece with srcSpace := 3 })] }
theorem witness_HallOperations_replies : sfind ((tagged { xe := false }).xe 39).tags 2047 = some { xe := false } ∧ ({ xe := false } : TagUse).quarantined = false ∧ ({ xe := false } : TagUse).kind = 0 ∧
    ({ xe := false } : TagUse).drop = false ∧ ({ xe := false, kind := 1 } : TagUse).size = false ∧ sfind ((tagged { xe := true }).xe 39).tags 2047 = some { xe := true } ∧
    ({ xe := true } : TagUse).born + 1000000 * up.fld (regAddr .region 0 0x044) 0 16 ≤ up.now ∧ ({ xe := true, quarantined := true } : TagUse).quarantined = true ∧
    sfind ((tagged { xe := true }).xe 39).tags 0 = none ∧ sfind ((tagged { xe := true }).xe 39).pieces (256 + 2047) = some { aPiece with srcSpace := 3 } ∧ (0x67 : Byte).toNat = 0x40 + 39 := by decide +kernel

/-! ## Serving and restarts -/

/-- A manifest of two ranks and one slot, of context length 4096 and epoch 0, with one segment of 1,025 bytes. -/
def manifest : List Word := (List.replicate 32 0).set 3 256 ++ [0x20, 48, 0, 0x10002, 4096] ++ List.replicate 9 0 ++ [0x28, 192, 0, 0, 1025] ++ List.replicate 45 0
def aSeg : Seg := { idx := 0, asked := [(0, 0)] }
/-- A device that serves a job of that manifest, its front door up with the address 5. -/
def serving (v : Serving) : State :=
  { ((((up.wr (fdReg 0 0x048) 1).wr (fdReg 0 0x044) 5).wr (fdReg 0 0x080) 1000).wr (fdReg 0 0x054) 5).wr (fdReg 0 0x058) 0x100 with
    tally := { up.tally with active := some 0, epoch := 1 }, job := { up.job with keys := [[1]], fetchKey := [1], manifest := manifest, segs := [aSeg] }, serving := v }
def fd : State := serving {}
def unsigned (ty key len : Nat) (body : List Byte) : List Byte :=
  [0xAE, 0x77, 1, BitVec.ofNat 8 ty] ++ beBytes 2 len ++ beBytes 2 key ++ beBytes 2 0 ++ aByte 6 ++ beBytes 8 1 ++ beBytes 8 7 ++ body
def signed (ty : Nat) (body : List Byte) : List Byte := unsigned ty 0 body.length body ++ (hmac256 [1] (unsigned ty 0 body.length body)).take 16
theorem witness_RequestProtocol : fd.frameOk { aFrame with badSum := true } = false ∧ fd.frameOk aFrame = true ∧ malformed false (unsigned 4 0 8 (aByte 23)) = true ∧ malformed false (unsigned 4 0 8 (aByte 24)) = false ∧
    fd.job.keys.length ≤ (hdrOf (unsigned 4 1 8 (aByte 24))).key ∧ fd.job.keys[(hdrOf (unsigned 4 0 8 (aByte 24))).key]? = some [1] ∧
    (hmac256 [1] ((unsigned 4 0 8 (aByte 24)).take 40)).take 16 ≠ aByte 16 ∧ malformed false (signed 4 (aByte 8)) = false ∧
    (let m := signed 4 (aByte 8); (hmac256 [1] (m.take (m.length - 16))).take 16 = m.drop (m.length - 16)) ∧ seqFresh (1, 0) (hdrOf (signed 4 (aByte 8))).seq = false := by decide +kernel
/-- Part 0 of a request of one token, and the request 7 in a state. -/
def aPart : List Byte := beBytes 2 0 ++ beBytes 2 1 ++ beBytes 4 1 ++ beBytes 2 1 ++ aByte 54 ++ beBytes 4 9
def request (x : ReqState) : Request := { id := 7, state := x, key := 0, peer := aFrame.peer, born := 0, head := [], seqs := [(0, 1)] }
def asked (x : ReqState) : State := serving { reqs := [request x] }
theorem witness_RequestProtocol_taken : ((fd.fdTake aFrame false (signed 1 aPart)).1.map (fun h => (h.ty, h.id))) = some (1, 7) ∧ bodyOf (signed 1 aPart) = aPart ∧ (fd.wakeFor 1).req 7 = none ∧
    (fd.wakeFor 1).restart.busy = false ∧ (fd.wakeFor 1).stage = .imago ∧ (fd.wakeFor 1).stopping = false ∧ (fd.wakeFor 1).partFault aPart = 0 ∧
    ((fd.wakeFor 1).reqsIn (fun x => decide (x = .assembling))).length < 64 ∧ (asked .queued).req 7 = some (request .queued) ∧ ({ fd with restart := { busy := true } } : State).restart.busy = true := by decide +kernel
theorem witness_RequestProtocol_kinds : (((asked .queued).fdTake aFrame false (signed 3 [])).1.map (fun h => h.ty)) = some 3 ∧ bodyOf (signed 3 []) = [] ∧ (asked .decode).req 7 = some (request .decode) ∧
    ((fd.fdTake aFrame false (signed 4 (aByte 8))).1.map (fun h => h.ty)) = some 4 ∧ bodyOf (signed 4 (aByte 8)) = 0 :: aByte 7 ∧
    (((asked .ended).fdTake aFrame false (signed 6 (aByte 15 ++ [1]))).1.map (fun h => (h.ty, h.key))) = some (6, 0) ∧ beNat (slice (aByte 15 ++ [1]) 0 1) = 0 ∧
    (0, beNat (slice (aByte 15 ++ [1]) 8 8)) ∈ (request .ended).seqs := by decide +kernel
/-- A chunk of the segment 0 at an offset. -/
def chunk (off : Nat) (d : List Byte) : List Byte := signed 17 (beBytes 4 0 ++ beBytes 8 off ++ beBytes 4 0 ++ d)
theorem witness_FrontDoorEvents : fd.ip4 0 = some 5 ∧ ({ aFrame with peer := { aFrame.peer with v6 := false } } : Frame).peer.v6 = false ∧ fd.frameOk aFrame = true ∧ fd.ip6 0 = 0 ∧ fd.ownAddr aFrame 0 = true ∧
    (asked .assembling).req 7 = some (request .assembling) ∧ (request .assembling).born + 1000000000 ≤ fd.now ∧ (asked .ended).req 7 = some (request .ended) ∧ (request .ended).acked = false ∧
    (request .ended).resends < 10 ∧ (request .ended).sentAt + 100000000 ≤ fd.now ∧ (request .ended).finalAt + 1000000000 * fd.fld (fdReg 0 0x0A8) 0 10 ≤ fd.now ∧
    ((fd.fdTake aFrame true (chunk 1024 [1])).1.map (fun h => h.ty)) = some 17 ∧ (fd.fdTake aFrame true (chunk 1024 [1])).2.job = fd.job ∧ (segRec manifest 0).len = 1025 ∧ (segRec manifest 0).chunks = 2 ∧
    fd.job.segs.find? (fun y => decide ((segRec fd.job.manifest y.idx).id = 0)) = some aSeg ∧ aSeg.delivered = false ∧ [(1 : Byte)].length = min 1024 (1025 - 1024) ∧
    (sput aSeg.got 1 [1]).length ≠ 2 ∧ (sput [(0, aByte 1024)] 1 [1]).length = 2 ∧ (∃ a ∈ aSeg.asked, a.1 = 0 ∧ a.2 + 20000000 ≤ fd.now) ∧ aSeg.silent < 9 ∧ ({ aSeg with silent := 9 } : Seg).silent = 9 ∧
    fd.dst ≠ .d3 ∧ fd.rstLow = false := by decide +kernel
theorem witness_FinalTokensRepeat : (asked .ended).req (7 : Dword).toNat = some (request .ended) ∧ (request .ended).state = .ended ∧ (request .ended).acked = false ∧ 9 < 10 ∧
    (request .ended).sentAt + 100000000 ≤ (asked .ended).now ∧ 10 ≤ ({ request .ended with resends := 10 } : Request).resends := by decide +kernel
theorem witness_CommitTokens : (commitToks 4096 { request .decode with head := aByte 62 } [9]).2.2 ≠ 0 ∧ (commitToks 4096 (request .decode) []).2.2 = 0 ∧
    (let r : Request := { request .decode with head := beBytes 2 1 ++ beBytes 4 1 ++ beBytes 2 2 ++ [1, 0] ++ beBytes 4 9 ++ aByte 48 };
      (commitToks 4096 r [9]).2.2 = 1 ∧ (commitToks 4096 r [8, 7]).2.2 = 2 ∧ (commitToks 1 r [8]).2.2 = 4 ∧ r.toks.length < r.maxNew ∧ r.pos < 4096) := by decide +kernel
def beat (v : Serving) : State := { serving v with idleInterval := true }
theorem witness_WingbeatAndStops : (beat { first := some 0 }).stage = .imago ∧ 3 ≤ (beat {}).jobPhase ∧ (beat {}).dst = .d0 ∧ (beat {}).jobE ≤ (beat {}).now ∧
    (beat { first := some 0 }).serving.last ≠ some ((beat {}).beatAt (beat {}).now) ∧ (beat {}).stop.begun = false ∧ (beat {}).stop.cause = 0 ∧ (beat {}).restart.busy = false ∧
    (beat { phase := 1, last := some 0 }).dStill = true ∧ (beat { idleSince := some 0, last := some (2 ^ 50) }).serving.idleSince = some 0 ∧
    0 + 1000 * (beat {}).fld (fdReg 0 0x084) 0 11 ≤ (beat {}).now ∧ (beat {}).now + 100000 ≤ (beat {}).bnd (2 ^ 50 + 1) := by decide +kernel
/-- At a commit with no slot in use, a request that waits stays queued. -/
def waits : State := serving { phase := 1, last := some 0, reqs := [request .queued], queue := [7] }
theorem witness_WingbeatAndStops_commit :
    let s : State := { waits with job := { waits.job with manifest := [] } }
    (let c := (List.range s.jobSlots).foldl (fun u i => match u.inSlotNo i with | some r => u.commitSlot r | none => u) ({ s with serving := { s.serving with sent := [] } } : State);
      (((List.range s.jobSlots).foldl (fun u i => u.admitNext i) c).writeTables (s.serving.last.getD 0)).serving.queue ≠ []) ∧ s.serving.phase = 1 ∧ s.dStill = true ∧ 3 ≤ s.jobPhase ∧
    (((List.range s.jobSlots).foldl (fun u i => u.admitNext i) s).writeTables 0).serving.d1Asked = false := by decide +kernel
def stopped (x : Stop) : State := { fd with stop := x }
theorem witness_WingbeatAndStops_stops : ({ fd with diodes := [(0, { stop := true })] } : State).stopDie = some 0 ∧ (stopped { cause := 1 }).stop.t0 + 100000000 ≤ (stopped {}).now ∧
    (stopped { cause := 1 }).stop.t0 + 500000000 ≤ (stopped {}).now ∧ (stopped { cause := 1, stopped := true, coolSince := some 0 }).stop.coolSince = some 0 ∧ (stopped {}).calPass.running = false ∧ (stopped {}).calPass.pending = false ∧
    ({ stopped {} with calPass := { pending := true } } : State).calPass.pending = true ∧
    0 + 10000000000 ≤ (stopped {}).now ∧ (stopped {}).jobPhase = 3 ∧ ({ stopped {} with jobPhase := 0 } : State).jobPhase = 0 := by decide +kernel
def job1 (v : Serving) : State := (serving v).wr (fabReg 0x050) 1
theorem witness_JobRestarts : (job1 {}).jobTag ≠ 0 ∧ (1 : BitVec 16).toNat = (job1 {}).jobTag ∧ (job1 {}).mayRestart = true ∧ ({ job1 {} with faultsDue := [⟨7, 2, 0, 0, 1, 0, 0⟩] } : State).faultsDue ≠ [] ∧
    2 ≤ (job1 {}).jobPhase ∧ (job1 {}).restart.num < (1 : Word).toNat ∧ (job1 {}).jobRank = 0 ∧ (0 : Word).toNat = (job1 {}).restart.num ∧ ({ busy := true } : Restart).resume = none ∧
    1 ∉ ({ busy := true } : Restart).ready ∧ (job1 {}).serving.first = none ∧ (job1 {}).jobPhase = 3 ∧
    (let s := job1 {}; let k := s.beatAt s.now + 1; s.now ≤ s.bnd (s.goNamed (BitVec.ofNat 32 k).toNat)) ∧ 2 ≤ (job1 {}).jobRanks ∧ (job1 {}).restart.sentAt + 100000000 ≤ (job1 {}).now ∧
    ({ busy := true, t5 := 1 } : Restart).t5 + 10000000000 ≤ (job1 {}).now ∧ (job1 {}).serving.eclosed + 10000000000 ≤ (job1 {}).now := by decide +kernel

/-! ## Clocks, power and heat -/

def clocked (c : Clock) : State := { up with clock := { c with locked := true } }
theorem witness_ClocksAndTime : (clocked { valid := #v[true, true] }).clock.valid.get 0 = true ∧ (clocked { valid := #v[true, true] }).clock.inUse = 0 ∧ (clocked { valid := #v[true, false] }).clock.valid.get (1 - 0) = false ∧
    (clocked {}).clock.valid.get 1 = false ∧ (clocked {}).clock.holdover = none ∧ up.stage ≠ .larva ∧ 0 + 100000000 ≤ up.now ∧ up.stop.cause = 0 ∧ up.takes k0 0 .timebase 0 0x048 ∧ (clocked {}).jobPhase = 3 ∧
    up.spineUp = true ∧ 63 < txFitted 55 ∧ 63 ∉ (up.site 55).gone ∧ (4 : BitVec 3).toNat ≤ 4 ∧ (59 : Fin 60).val = 59 ∧ up.stackOn 39 = true ∧ sget 0 up.clock.rowPll 39 = 0 ∧ up.regionOn 159 = true ∧
    ((clocked { armed := some 5 }).wr (tbReg 0x050) 1).fld (tbReg 0x050) 0 1 ≠ 0 ∧ ((clocked { armed := some 5 }).wr (tbReg 0x050) 1).edgeValid = true ∧
    (let s : State := { clocked { aligned := true } with timebase := 5000000000 }; s.edgeValid = true ∧ s.clock.armed = none ∧ s.clock.aligned = true) ∧
    (clocked { lastEdge := some up.now }).edgeValid = false ∧ up.takes k0 0 .timebase 0 0x054 ∧ up.jobPhase ≠ 0 ∧ led.jobPhase = 0 ∧ led.takes k0 1 .timebase 0 0x054 ∧
    1500000000 ≤ up.sinceEdge ∧ 1000000000 * up.fld (tbReg 0x050) 8 8 ≤ up.sinceEdge ∧ ({ syncLost := true, aligned := true } : Clock).syncLost = true := by unfold State.takes; decide +kernel
def clockRegion (x : Region) : State := { up with regions := sset {} up.regions 159 x }
theorem witness_ClocksAndTime_regions : (clockRegion {}).regionOn 159 = true ∧ 32 ≤ ({} : Region).ftop ∧ ({} : Region).locked = true ∧ ({ gen := true } : Region).gen = true ∧
    ((({} : Region).stretches.filter (fun p => decide (up.now < p.1 + 1000))).map Prod.snd).sum + 500 ≤ 50000 ∧ 500 * ({} : Region).fset ≤ 40000 ∧
    20000 < ((({ stretches := [(up.now, 20001)] } : Region).stretches.filter (fun p => decide (up.now < p.1 + 1000))).map Prod.snd).sum ∧ 32 < ({} : Region).droop ∧ ({} : Region).lowered = 0 ∧
    ({ droop := 79 } : Region).droop < ({ droop := 79 } : Region).ftop ∧ ({} : Region).lastStretch + 10000 ≤ up.now ∧ (clockRegion {}).takes k0 0 .clkreg 159 0x044 ∧ ({} : Region).failed < 3 := by
  unfold State.takes; decide +kernel
def inState (d : DevState) : State := { fd with dst := d, clock := { fd.clock with valid := #v[true, false] } }
theorem witness_DeviceStates : (inState .d1).takes k0 1 .pwr 0 0x044 ∧ (inState .d0).takes k0 1 .pwr 0 0x044 ∧ (inState .d1).power.wake = none ∧ fd.reqsIn inSlot = [] ∧ fd.serving.queue = [] ∧ waits.serving.queue ≠ [] ∧
    (inState .d0).stage = .imago ∧ (inState .d0).stop.stopped = false ∧ (let s := (inState .d1).wr (pwrReg 0x048) 1; s.fld (pwrReg 0x048) 0 16 = 1 ∧ s.jobPhase = 3 ∧ s.serving.d1Since + 1000000000 ≤ s.now) ∧
    ({ inState .d1 with job := {} } : State).jobRanks ≤ 1 ∧ ((inState .d2).port 5).tx ≠ .out ∧ ((inState .d2).wr64 (pwrReg 0x04C) 1).rd64 (pwrReg 0x04C) = 1 ∧ (inState .d2).larvaInput = some 0 ∧
    2 ≤ (inState .d2).jobRanks := by unfold State.takes; decide +kernel
def surging : State := { up.setFld (rowsReg 39 0x064) 0 1 1 with power := { up.power with surge := true, demandSince := some 0 } }
/-- Four stacks that have been limiting, under an allowance, a wear budget and thresholds that let Surge begin. -/
def eager : State :=
  { (((up.wr (pwrReg 0x054) (1 + 2 ^ 20)).wr (regAddr .therm 0 0x060) 50).wr (regAddr .therm 0 0x064) 50 |>.wr (regAddr .therm 0 0x068) 50).wr (regAddr .therm 0 0x06C) 50 with
    stks := (List.range 4).map (fun n => (n, { limiting := true, limitSince := some 0 })) }
theorem witness_PowerSupply : up.dst = .d0 ∧ up.power.surge = false ∧ ({ trimOn := true } : Power).trimOn = true ∧ ({} : Power).trimOn = false ∧ eager.maySurge 45000 = true ∧ (stopped { cause := 1 }).stop.cause ≠ 0 ∧
    surging.power.demandSince = some 0 ∧ surging.power.surgeAt + 1000000000 ≤ surging.now ∧ ({ up with power := { up.power with spans := [(up.now - 30000000000, up.now)] } } : State).allowance = 0 ∧
    up.takes k0 0 .pwr 0 0x058 ∧ surging.fld (rowsReg 39 0x064) 0 1 ≠ 0 ∧ ({ floor := true } : Stack).floor = true ∧
    16 ≤ (({ brakes := List.replicate 16 up.now } : Stack).brakes.filter (fun t => decide (up.now < t + 1000000000))).length ∧ 0 + 101000000 ≤ up.now ∧ ({ floor := true, floorSince := some 0 } : Stack).retireDue = false ∧
    ({ floor := true } : Stack).retired = false ∧ ({ up with regs := (up.wr (pwrReg 0x054) 1).regs } : State).wearLeft = 0 := by unfold State.takes; decide +kernel
theorem foldl_same {α β : Type} (p : State → β) (f : State → α → State) (h : ∀ t a, p (f t a) = p t) (l : List α) : ∀ s, p (l.foldl f s) = p s := by
  induction l with
  | nil => intro s; rfl
  | cons a t ih => intro s; rw [List.foldl_cons, ih, h]
theorem d2Up_keeps (s : State) (i : Fin 2) : ((s.d2Up i).job, (s.d2Up i).jobPhase, (s.d2Up i).regs, (s.d2Up i).calPass) = (s.job, s.jobPhase, s.regs, s.calPass) := by
  let p : State → Job × Nat × Sparse Word × CalPass := fun t => (t.job, t.jobPhase, t.regs, t.calPass)
  have h1 : ∀ s : State, p s.groupsUp = p s := fun s => (foldl_same p _ (fun t g => by dsimp only; split <;> rfl) _ (s.seedKeys (s.rings.map Prod.fst))).trans rfl
  have h2 : ∀ s : State, p s.regionsUp = p s := fun s => foldl_same p _ (fun t r => by split <;> rfl) _ s
  have h3 : ∀ (s : State) q, p (s.portFill q) = p s := fun s q => by
    unfold State.portFill; exact (apply_ite p _ _ _).trans (ite_self _)
  have h4 : ∀ (s : State) q, p (s.sendXts q) = p s := fun s q => h3 s q
  have h5 : ∀ (s : State) q b, p (s.portTrain q b) = p s := fun s q b => h4 _ q
  change p (s.d2Up i) = p s
  unfold State.d2Up
  exact (foldl_same p _ (fun t q => by split; exacts [h5 t q false, rfl]) _ _).trans ((h2 _).trans ((h1 _).trans rfl))
/-- A device without a job that wakes from D2, with a calibration pass that was held or none. -/
def dozing (c : Nat) (held : Bool) : State := { inState .d2 with jobPhase := 0, power := { fd.power with wake := some c }, calPass := { fd.calPass with pending := held } }
theorem dozing_up (c : Nat) (held : Bool) : (((dozing c held).d2Up 0).d2Restart).job = (dozing c held).job ∧ (((dozing c held).d2Up 0).d2Restart).regs = (dozing c held).regs ∧
    (((dozing c held).d2Up 0).d2Restart).calPass = (dozing c held).calPass := by
  have h := d2Up_keeps (dozing c held) 0
  simp only [Prod.mk.injEq] at h
  rw [State.d2Restart, if_neg (by rw [h.2.1]; exact (by decide : ¬2 ≤ 0))]; exact ⟨h.1, h.2.2.1, h.2.2.2⟩
theorem witness_DeviceStates_wake (held : Bool) : (dozing 3 held).dst = .d2 ∧ (dozing 3 held).power.wake = some 3 ∧ (dozing 3 held).larvaInput = some 0 ∧
    2 ≤ (((dozing 3 held).d2Up 0).d2Restart).jobRanks ∧ (((dozing 1 held).d2Up 0).d2Restart).calPass.pending = held := by
  refine ⟨rfl, rfl, by cases held <;> decide +kernel, ?_, by rw [(dozing_up 1 held).2.2]; rfl⟩
  rw [State.jobRanks, (dozing_up 3 held).1]; cases held <;> decide +kernel
theorem witness_DeviceStates_settled : (((dozing 1 false).d2Up 0).d2Restart).passMoved = false := by
  have h := dozing_up 1 false
  rw [State.passMoved, State.reading, State.fld, State.fld, State.rdn, State.rdn, State.rd, State.rd, h.2.1, h.2.2]; decide +kernel
theorem witness_DeviceStates_first : ({ first := true, pending := true } : CalPass).first = true ∧ ({ first := true } : CalPass).running = false ∧ ({ first := true } : CalPass).pending = false ∧
    fd.calPass.first = false := by decide +kernel
def hot (d : Diode) : State := { up.wr (regAddr .therm 0 0x060) (50 + 60 * 2 ^ 8 + 70 * 2 ^ 16 + 80 * 2 ^ 24) with diodes := [(0x40, d)] }
theorem witness_HeatAndAgeing : (hot {}).diodeRead 0x40 = true ∧ ((hot { use := 600 }).diode 0x40).broken = false ∧ ((hot {}).diode 0x40).suspect = false ∧ up.stage ≠ .larva ∧ (hot {}).diodeRead 5 = false ∧
    ¬(1 ≤ 0x40 ∧ 0x40 ≤ 3) ∧ (hot { use := 600 }).diode 0x40 ≠ {} ∧ (hot {}).thresh 0x40 1 ≤ 600 ∧ ({ use := 600 } : Diode).stepAt + 1000000 ≤ up.now ∧ 579 < (hot {}).thresh 0x40 1 - 20 ∧
    ({ steps := 1 } : Diode).stepAt + 10000000 ≤ up.now ∧ (hot {}).thresh 0x40 1 - 20 ≤ 599 ∧ 599 < (hot {}).thresh 0x40 1 ∧ up.stackOn 39 = true ∧ dieCodes.contains 0xA7 = true ∧ 10 ≤ ({ badRun := 10 } : Diode).badRun := by decide +kernel
theorem witness_HeatAndAgeing_trips : ((hot { tripSince := some 0 }).diode 0x40).tripSince = some 0 ∧ 0 + 100000 ≤ up.now ∧ up.dst ≠ .d3 ∧ 3 = (2 : Fin 3).val + 1 ∧ ((hot {}).diode 0x40).tripSince = none ∧
    dieCodes.contains 0x40 = true ∧ ((hot { stop := true, hist := [900, 900] }).diode 0x40).stop = true ∧ up.stop.stopped = false ∧ up.now < up.now + 500000000 ∧ 2 ≤ [900, 900].length ∧
    (((hot {}).thresh 0x40 3 : Int) : Rat) ≤ (fitLine [900, 900]).2 + (fitLine [900, 900]).1 * (((up.now + 500000000 - up.now : Nat) : Rat) / 1000000) := by decide +kernel
theorem witness_HeatAndAgeing_ages : swf (fun _ => {}) up.regions = true ∧ ({ up with idleInterval := true } : State).idleInterval = true ∧ up.stackOn 39 = true ∧ up.calDelta < (1000 - ({} : Diode).calTemp : Int).natAbs ∧
    up.takes k0 0 .cal 0 0x048 ∧ 1000 * (up.epochs + 1) ≤ ({ up.vault with hours := 1000 } : Vault).hours ∧ 1000 * (up.epochs + 1) > ({ up.vault with hours := 999 } : Vault).hours := by unfold State.takes; decide +kernel

/-! ## Boot, Keepers and trust -/

def keepers (x y z : Keeper) : State := { fd with keepers := #v[x, y, z] }
def booting (x y z : Keeper) : State := { keepers x y z with stage := .ovum }
/-- Everything off, with the reset pin low or high. -/
def off (low : Bool) : State := { State.reset with dst := .d3, rstLow := low, power := { State.reset.power with rising := true } }
theorem witness_Boot : State.reset.rstLow = true ∧ (off true).rstLow = true ∧ (off true).dst = .d3 ∧ ({ up with rstLow := true } : State).dst ≠ .d3 ∧ (booting {} {} {}).stage = .ovum ∧ (booting {} {} {}).rstLow = false ∧
    ((booting {} {} {}).keepers.get 2).role = .starting ∧ ((booting {} {} {}).keepers.get 2).verdict = none ∧
    (let s := booting { verdict := some false } { verdict := some true } {}; (∀ j : Fin 3, (s.keepers.get j).role = .failed ∨ (s.keepers.get j).verdict.isSome = true ∨ (s.keepers.get j).since + 2000000000 ≤ s.now) ∧
      (s.keepers.get 1).verdict = some true ∧ (∀ j : Fin 3, j < 1 → (s.keepers.get j).verdict ≠ some true)) ∧
    (let s := booting { role := .failed } { verdict := some false } {}; ∀ j : Fin 3, (s.keepers.get j).verdict ≠ some true) ∧ ({ fd with stage := .pupa, jobPhase := 2, job := {} } : State).job.segs.all (fun g => g.delivered) = true ∧
    fd.faultsDue = [] ∧ fd.calPass.awaited = false ∧ ({ fd.vault with imageDue := [1] } : Vault).imageDue ≠ [] := by decide +kernel
def recovering (r : Recov) : State := { fd with stage := .recovery, tally := { fd.tally with active := none }, recov := r }
theorem witness_Boot_recovery : (let m := unsigned 32 0 9 (beBytes 8 1024 ++ [5] ++ aByte 16); (recovering {}).recovMsg aFrame 32 m = true ∧ (bodyOf m).length = 9 ∧ beNat (slice (bodyOf m) 0 8) = 1024) ∧
    (let m := unsigned 33 0 4 (beBytes 4 1 ++ aByte 16); let s := recovering { chunks := [(0, [5])] }; s.recovMsg aFrame 33 m = true ∧ (bodyOf m).length = 4 ∧ beNat (slice (bodyOf m) 0 4) = 1 ∧
      1 - 1 % 1024 ≤ s.recov.missing ∧ ((s.recov.chunks.flatMap Prod.snd).take 1).length = 1 ∧ 1 % 4 ≠ 0) ∧
    (let m := unsigned 34 0 0 (aByte 16); (recovering {}).recovMsg aFrame 34 m = true ∧ bodyOf m = []) ∧ (recovering { state := 3 }).recov.state = 3 ∧ fd.stage ≠ .recovery := by decide +kernel
def keeper (r : Role) : Keeper := { role := r, inSync := true }
/-- Three Keepers in their roles, 600 µs into a round, with the digests of the round before it. -/
def round (d0 d1 d2 : Dword) (ds : List Nat) : State :=
  let d := fun x => some (0x4000000000000000 / 1000000 - 1, x)
  { keepers { keeper .active with digest := d d0 } { keeper .standby with digest := d d1, dissents := ds } { keeper .held with digest := d d2 } with timebase := 0x4000000000000000 / 1000000 * 1000000 + 600000 }
theorem witness_TallyRounds : fd.tallyRuns = true ∧ (BitVec.ofNat 32 (fd.now / 100000)).toNat = fd.now / 100000 % 2 ^ 32 ∧ fd.tally.active = some 0 ∧ fd.tally.demotion = none ∧ fd.tally.active ≠ some 1 ∧ (0 : Byte) ≠ fd.tally.epoch ∧
    fd.tally.window < fd.now / 100000 ∧ fd.tally.beat = false ∧ (let s : State := { fd with timebase := 0x4000000000000000 / 1000000 * 1000000 + 500000 }; s.now % 1000000 ≤ 500000 ∧ s.tally.round < s.now / 1000000) ∧
    (let s := round 1 2 2 []; (s.keepers.get 1).votes = true ∧ (s.keepers.get 2).votes = true ∧ s.tally.round < s.now / 1000000 ∧ 500000 ≤ s.now % 1000000 ∧
      (s.keepers.get 1).digestOf (s.now / 1000000 - 1) = some 2 ∧ (s.keepers.get 2).digestOf (s.now / 1000000 - 1) = some 2 ∧ (s.keepers.get 0).digestOf (s.now / 1000000 - 1) = some 1) ∧
    ((round 1 1 2 []).keepers.get 1).dissents.length + 1 < 4 ∧ 4 ≤ ([up.now, up.now, up.now].filter (fun q => decide (up.now < q + 1000000000)) ++ [up.now]).length ∧
    (keeper .active).role ≠ .failed ∧ (keeper .held).healthy = true ∧ (keeper .held).lastHealth + 3000000000 ≤ up.now := by decide +kernel
theorem witness_TallyRounds_keepers : (keeper .standby).lastTest = 0 ∧ (keeper .standby).testFails < 2 ∧ ({ keeper .standby with testFails := 2 } : Keeper).testFails = 2 ∧ (keeper .starting).tripped = false ∧
    (keeper .starting).verdict ≠ some true ∧ led.stage ≠ .imago ∧ fd.stage = .imago ∧ fd.jobPhase = 3 ∧ (keepers {} {} {}).imageOk (keepers {} {} {}).vault.running = false ∧ ({} : Keeper).restartFails < 2 := by decide +kernel
/-- Where an image is good (its signature is a free value of the model), so is the running image of a Keeper that restarts. -/
theorem witness_TallyRounds_image (s : State) (o : List Word) (h : s.imageOk o = true) : ({ s with vault := { s.vault with running := o } } : State).imageOk o = true := h
def demoting (t : Tally) (x : Keeper) : State := { keepers (keeper .active) x {} with tally := t }
theorem witness_Demotions : (demoting { active := some 0, missed := 3 } (keeper .standby)).demoteCause = 1 ∧ (demoting { active := some 0, missed := 3 } (keeper .standby)).tallyRuns = true ∧
    (demoting { active := some 0, missed := 3 } (keeper .standby)).successor 1 = some 1 ∧ (demoting { active := some 0, missed := 3 } {}).successor 1 = none ∧
    (let s : State := { demoting { active := some 0, promote := some 1 } {} with stage := .pupa }; s.demoteCause = 3 ∧ s.successor 3 = none) ∧
    ({ t0 := 0, old := 0, new := 1, cause := 1 } : Demotion).answered = false ∧ ((demoting {} {}).keepers.get 0).tripped = false ∧ 0 + 20000 ≤ up.now ∧ up.now < up.now + 20000 ∧ led.jobPhase = 0 ∧ fd.jobPhase ≠ 0 ∧
    fd.serving.copy.sent = [] ∧ fd.restart.busy = false ∧ ({ fd with restart := { busy := true } } : State).restart.busy = true ∧ fd.takes k0 1 .tally 0 0x048 ∧ (0xA501 : Word).toNat % 4 = 1 ∧ bits (0xA501 : Word).toNat 8 8 = 0xA5 ∧ bits (1 : Word).toNat 8 8 ≠ 0xA5 ∧ ((demoting {} (keeper .held)).keepers.get 1).role = .held := by
  unfold State.takes; decide +kernel
def staged (i : Initiator) (kind : Nat) (ws : List Word) : State := { fd with staging := { state := 1, ini := iniCode i, kind := kind, words := ws } }
theorem witness_ObjectsAndFolios : fd.takes k0 1 .folio 0 0x058 ∧ fd.takes k0 1 .folio 0 0x05C ∧ fd.stage ≠ .ovum ∧ (6 : BitVec 3) ≠ 0 ∧ (6 : BitVec 3) ≠ 7 ∧ ¬(fd.staging.state = 1 ∧ fd.staging.ini ≠ iniCode k0) ∧
    ((staged .i3c 1 []).staging.state = 1 ∧ (staged .i3c 1 []).staging.ini ≠ iniCode k0) ∧ ((staged k0 1 []).staging.state = 1 ∧ (staged k0 1 []).staging.ini = iniCode k0) ∧ (staged k0 1 []).stagedFault k0 1 [] ≠ 0 ∧
    (staged k0 6 []).kindAccepted k0 6 = true ∧ fd.pageAnswers .folio 0 = true ∧ ({ state := 5, words := [9] } : Staging).words = 9 :: [] := by unfold State.takes; decide +kernel
theorem witness_ObjectsAndFolios_folios : ({ led.vault with pendingFolio := [1] } : Vault).pendingFolio ≠ [] ∧ led.jobPhase = 0 ∧ led.stage = .pupa ∧ led.stop.cause = 0 ∧ led.dst = .d0 ∧ fd.jobPhase ≠ 0 ∧
    ({ led with stage := .larva, warm := true, bootWait := 7, vault := { led.vault with newFolio := true, prior := [1] } } : State).foldDue = true ∧ ({ led.vault with prior := [1] } : Vault).priorRejected = false ∧ fd.foldDue = false ∧ fd.takes k0 1 .folio 0 0x054 ∧
    fd.vault.prior = [] ∧ fd.stop.stopped = false ∧ (stopped { cause := 1 }).stop.cause ≠ 6 ∧ (stopped { cause := 1, stopped := true }).stop.stopped = true ∧ fd.vault.foldBackAsked = false := by unfold State.takes; decide +kernel
theorem witness_PinsAndReports : (off false).dst = .d3 ∧ (off false).power.rising = true ∧ (off false).rstLow = false ∧ (off true).rstLow = true ∧ up.dst ≠ .d3 ∧
    ({ up with rstLow := true } : State).rstLow = true ∧ 25 ∈ lsmFibres 6 3 ∧ 9 < fibreLines 25 ∧ (({ standbyLit := true } : LaserLine).ready = false) ∧ fd.tally.active.isSome = true ∧ fd.stage ≠ .ovum ∧ fd.stage ≠ .recovery := by decide +kernel
end Sys2Proof.Tests
end

section
/-!
The register space over the spine: where a register's address lies (R533), what a read answers and leaves (R13, R15, R17, R537, R541, R544), and what a write that
is taken does (R13 to R16, R235, R535, R544). One lemma per case of each function of the model; the statements RegisterReads and RegisterWrites are put together
from them.
-/
namespace Sys2Proof.Machine

/-! ## Register addresses (R533, R534) -/

theorem pageInfo_end_le (t : PageType) : (pageInfo t).base + (pageInfo t).slots * 0x1000 ≤ 2 ^ 28 := by cases t <;> decide

theorem regAddr_lt (t : PageType) {i off : Nat} (hi : i < (pageInfo t).insts) (ho : off < 4096) : regAddr t i off < 2 ^ 28 := by
  have hf := pageInfo_fits t
  have he := pageInfo_end_le t
  unfold regAddr
  omega

theorem regAddr_mod_page (t : PageType) (i : Nat) {off : Nat} (ho : off < 4096) : regAddr t i off % 4096 = off := by
  have hf := pageInfo_fits t
  unfold regAddr
  omega

theorem regAddr_mod_word (t : PageType) (i : Nat) {off : Nat} (hw : off % 4 = 0) : regAddr t i off % 4 = 0 := by
  have hf := pageInfo_fits t
  unfold regAddr
  omega

/-! ## Which reads are answered (R533, R537, R541) -/

section Reads
variable {s : State} {ini : Initiator} {t : PageType} {i off : Nat}

theorem State.readError_regAddr (hi : i < (pageInfo t).insts) (ho : off < 4096) (hw : off % 4 = 0) :
    s.readError (regAddr t i off) = if s.pageAnswers t i then 0 else 5 := by
  have hlt := regAddr_lt t hi ho
  have hmod := regAddr_mod_word t i hw
  rw [State.readError, if_neg (by omega), decodeAddr_regAddr t hi ho]

theorem State.readError_no_register {a : Nat} (h : 2 ^ 28 ≤ a ∨ a % 4 ≠ 0 ∨ decodeAddr a = none) : s.readError a = 1 := by
  by_cases hm : 2 ^ 28 ≤ a ∨ a % 4 ≠ 0
  · rw [State.readError, if_pos hm]
  · have hd : decodeAddr a = none := by tauto
    rw [State.readError, if_neg hm, hd]

theorem State.readWaits_regAddr (hi : i < (pageInfo t).insts) (ho : off < 4096) :
    s.readWaits (regAddr t i off) = (decide (0x040 ≤ off) && s.resetBusy t i) := by
  rw [State.readWaits, decodeAddr_regAddr t hi ho]

/-- A page type other than CORE is never seen under a soft reset: only the cores' action takes time (R537). -/
theorem State.resetBusy_of_ne_core (h : t ≠ .core) : s.resetBusy t i = false := by simp [State.resetBusy, h]

/-- A read that a rule refuses is answered with its ERROR code and changes nothing (R541). -/
theorem State.spineRead_refused {a code : Nat} (he : s.readError a = code) (hc : code ≠ 0) :
    s.spineRead ini a none = s.emit (.error ini code) := by
  simp [State.spineRead, State.busRead, he, hc]

/-- A read of a block register of a page under a soft reset waits for its end (R537). -/
theorem State.spineRead_waits (hi : i < (pageInfo t).insts) (ho : off < 4096) (hw : off % 4 = 0) (hp : s.pageAnswers t i = true)
    (hb : 0x040 ≤ off) (hr : s.resetBusy t i = true) :
    s.spineRead ini (regAddr t i off) none = { s with lateReads := s.lateReads ++ [(ini, regAddr t i off, none)] } := by
  simp [State.spineRead, State.readError_regAddr hi ho hw, State.readWaits_regAddr hi ho, hp, hb, hr]

/-- A read that no rule refuses or delays is answered with the word that `readReg` gives. -/
theorem State.spineRead_answered (hi : i < (pageInfo t).insts) (ho : off < 4096) (hw : off % 4 = 0) (hp : s.pageAnswers t i = true)
    (hr : off < 0x040 ∨ s.resetBusy t i = false) :
    s.spineRead ini (regAddr t i off) none =
      (s.readReg ini t i off).2.emit (.reply ini (some (BitVec.ofNat 32 (s.readReg ini t i off).1))) := by
  have hwait : s.readWaits (regAddr t i off) = false := by
    rw [State.readWaits_regAddr hi ho, Bool.and_eq_false_iff, decide_eq_false_iff_not, Nat.not_le]
    exact hr
  simp [State.spineRead, State.busRead, State.readError_regAddr hi ho hw, decodeAddr_regAddr t hi ho, hwait, hp]

/-! ## What the read of one register gives and leaves (R13, R15, R544) -/

theorem State.lookPair_measured (hu : unmeasured t off = false) : s.lookPair t i off = ((s.look t i off, s.look t i (off + 4)), s) := by
  simp [State.lookPair, hu]

theorem State.lookPair_unmeasured (hu : unmeasured t off = true) :
    s.lookPair t i off = (((Config.freeWord s.free).toNat % 2 ^ 32, (Config.freeWord s.free).toNat / 2 ^ 32), { s with free := s.free + 1 }) := by
  simp [State.lookPair, hu, State.fresh]

variable (hh : off < 0x040 ∨ s.holderOn t i = true) (hobj : ¬ (t = .folio ∧ off = 0x05C))

include hh in
theorem State.not_holder_off : ¬ (0x040 ≤ off ∧ (!s.holderOn t i) = true) := by
  rintro ⟨hb, hoff⟩
  rcases hh with h | h
  · omega
  · simp [h] at hoff

include hh hobj

theorem State.readReg_low (hl : lowHalf t off = true) :
    s.readReg ini t i off = ((s.lookPair t i off).1.1,
      { (s.lookPair t i off).2 with
        latched := sput (dropPage ini (regAddr t i off) (s.lookPair t i off).2.latched) (latchKey ini (regAddr t i off)) (BitVec.ofNat 32 (s.lookPair t i off).1.2) }) := by
  rw [State.readReg, if_neg (State.not_holder_off hh), if_neg hobj, if_pos hl]

theorem State.readReg_high_latched {w : Word} (hl : lowHalf t off = false) (hg : highHalf t off = true)
    (hs : sfind s.latched (latchKey ini (regAddr t i off - 4)) = some w) :
    s.readReg ini t i off = (w.toNat, { s with latched := serase s.latched (latchKey ini (regAddr t i off - 4)) }) := by
  rw [State.readReg, if_neg (State.not_holder_off hh), if_neg hobj, if_neg (by simp [hl]), if_pos hg, hs]

theorem State.readReg_high_unlatched (hl : lowHalf t off = false) (hg : highHalf t off = true)
    (hs : sfind s.latched (latchKey ini (regAddr t i off - 4)) = none) :
    s.readReg ini t i off = ((s.lookPair t i off).1.1, (s.lookPair t i off).2) := by
  rw [State.readReg, if_neg (State.not_holder_off hh), if_neg hobj, if_neg (by simp [hl]), if_pos hg, hs]

theorem State.readReg_single (hl : lowHalf t off = false) (hg : highHalf t off = false) (hu : unmeasured t off = false) :
    s.readReg ini t i off = (s.look t i off, s.rcClear t i off) := by
  rw [State.readReg, if_neg (State.not_holder_off hh), if_neg hobj, if_neg (by simp [hl]), if_neg (by simp [hg]), if_neg (by simp [hu])]

theorem State.readReg_single_unmeasured (hl : lowHalf t off = false) (hg : highHalf t off = false) (hu : unmeasured t off = true) :
    s.readReg ini t i off = ((s.lookPair t i off).1.1 % 2 ^ 12, (s.lookPair t i off).2) := by
  rw [State.readReg, if_neg (State.not_holder_off hh), if_neg hobj, if_neg (by simp [hl]), if_neg (by simp [hg]), if_pos hu]

end Reads

/-! ## Clearing an RC counter (R15, R17, R527) -/

theorem State.rdn_lt (s : State) (a : Nat) : s.rdn a < 2 ^ 32 := (s.rd a).isLt

theorem State.rdn_wr_same {s : State} (h : swf regReset s.regs = true) (a : Nat) (v : Word) : (s.wr a v).rdn a = v.toNat := by
  rw [State.rdn, State.rd, State.wr, sget_sset_same regReset h]

/-- A word without the bits of a mask has none of them, whatever the mask's width. -/
theorem and_xor_all32_and {x : Nat} (hx : x < 2 ^ 32) (m : Nat) : (x &&& (all32 ^^^ m)) &&& m = 0 := by
  refine Nat.eq_of_testBit_eq fun j => ?_
  have hall : all32.testBit j = decide (j < 32) := Nat.testBit_two_pow_sub_one 32 j
  by_cases hj : j < 32
  · simp [hall, hj]
  · have hxj : x.testBit j = false := Nat.testBit_lt_two_pow (hx.trans_le (Nat.pow_le_pow_right (by decide) (by omega)))
    simp [hxj]

/-- The logs that a counter re-arms are other registers, kept at the same instance as the counter. -/
theorem keptAddr_pairedLogs_ne {t : PageType} {off l : Nat} (i : Nat) (hl : l ∈ pairedLogs t off) : keptAddr t i off ≠ keptAddr t i l := by
  have h : sharedReg t l = sharedReg t off ∧ l ≠ off := by
    unfold pairedLogs at hl
    split at hl
    case h_10 => simp at hl
    all_goals
      simp only [List.mem_cons, List.not_mem_nil, or_false] at hl
      rcases hl with rfl | rfl | rfl <;> decide
  obtain ⟨hshared, hne⟩ := h
  unfold keptAddr regAddr
  rw [hshared]
  omega

/-- A run of updates that each leave a register's word alone leaves it alone. -/
theorem foldl_rdn {α : Type} {f : State → α → State} {a : Nat} {l : List α} (h : ∀ x ∈ l, ∀ u : State, (f u x).rdn a = u.rdn a) (s : State) :
    (l.foldl f s).rdn a = s.rdn a :=
  List.foldlRecOn (motive := fun u => u.rdn a = s.rdn a) l f rfl fun u hu x hx => (h x hx u).trans hu

/-- After a read every RC bit of the register is 0. -/
theorem State.rcClear_clears {s : State} (h : swf regReset s.regs = true) (t : PageType) (i off : Nat) :
    (s.rcClear t i off).rdn (keptAddr t i off) &&& rcBits t off = 0 := by
  unfold State.rcClear
  by_cases hm : rcBits t off = 0
  · simp [hm]
  have hlogs : ∀ l ∈ pairedLogs t off, ∀ u : State,
      (if u.rdn (keptAddr t i l) = 0 then u else u.wr (keptAddr t i l) 0).rdn (keptAddr t i off) = u.rdn (keptAddr t i off) := by
    intro l hl u
    split
    · rfl
    · exact u.rdn_wr_ne 0 (keptAddr_pairedLogs_ne i hl)
  simp only [if_neg hm]
  rw [foldl_rdn hlogs]
  split
  next hclear => exact hclear
  next =>
    have hlt : s.rdn (keptAddr t i off) &&& (all32 ^^^ rcBits t off) < 2 ^ 32 := Nat.and_le_left.trans_lt (s.rdn_lt _)
    rw [State.rdn_wr_same h, BitVec.toNat_ofNat, Nat.mod_eq_of_lt hlt, and_xor_all32_and (s.rdn_lt _)]

/-! ## The statement of reads -/

/-- Settles O9: each read is `spineRead` at the register's address, and each clause is one case of `readReg` or one of the rules that refuse or delay a read. -/
theorem registerReads : Obligations.RegisterReads := by
  unfold Obligations.RegisterReads
  intro s ini t i off addr w
  refine ⟨?counts, ?register, ?noRegister⟩
  case counts =>
    intro hi haddr hp hon hclk
    subst hclk
    have hread : ∀ o, o < 4096 → o % 4 = 0 → s.spineRead ini (regAddr .clkreg i o) none =
        (s.readReg ini .clkreg i o).2.emit (.reply ini (some (BitVec.ofNat 32 (s.readReg ini .clkreg i o).1))) :=
      fun o ho hw => State.spineRead_answered hi ho hw hp (.inr (State.resetBusy_of_ne_core (by decide)))
    simp only [exec_rcRead, exec_lowHalfRead, exec_highHalfRead, execRcRead, execLowHalfRead, execHighHalfRead, haddr]
    refine ⟨fun hoff => ?short, fun hoff => ?low, fun hoff hs => ?high⟩ <;> subst hoff <;> rw [hread _ (by decide) (by decide)]
    case short =>
      rw [State.readReg_single_unmeasured (.inr hon) (by decide) (by decide) (by decide) (by decide), State.lookPair_unmeasured (by decide)]
    case low =>
      rw [State.readReg_low (.inr hon) (by decide) (by decide), State.lookPair_unmeasured (by decide)]
    case high =>
      rw [State.readReg_high_latched (.inr hon) (by decide) (by decide) (by decide) hs, BitVec.ofNat_toNat, BitVec.setWidth_eq]
  case register =>
    intro hi ho hw4 haddr hwf hobj hu
    simp only [exec_rcRead, exec_lowHalfRead, exec_highHalfRead, execRcRead, execLowHalfRead, execHighHalfRead, haddr]
    have hobj' : ¬ (t = .folio ∧ off = 0x05C) := not_and.2 hobj
    have hready : s.pageAnswers t i = true ∧ (off < 0x040 ∨ (s.holderOn t i = true ∧ s.resetBusy t i = false)) →
        (off < 0x040 ∨ s.holderOn t i = true) ∧ s.spineRead ini (regAddr t i off) none =
          (s.readReg ini t i off).2.emit (.reply ini (some (BitVec.ofNat 32 (s.readReg ini t i off).1))) := by
      rintro ⟨hp, hr⟩
      exact ⟨hr.imp_right And.left, State.spineRead_answered hi ho hw4 hp (hr.imp_right And.right)⟩
    refine ⟨fun h hl hg => ?single, fun h hl hg => ?low, fun h hg hl => ⟨fun hs => ?latched, fun hs => ?unlatched⟩, fun hp hb hr => ?waits, fun hp => ?silent⟩
    case single =>
      obtain ⟨hh, hread⟩ := hready h
      rw [hread, State.readReg_single hh hobj' hl hg hu]
      exact ⟨rfl, State.rcClear_clears hwf t i off⟩
    case low =>
      obtain ⟨hh, hread⟩ := hready h
      rw [hread, State.readReg_low hh hobj' hl, State.lookPair_measured hu]
    case latched =>
      obtain ⟨hh, hread⟩ := hready h
      rw [hread, State.readReg_high_latched hh hobj' hl hg hs, BitVec.ofNat_toNat, BitVec.setWidth_eq]
    case unlatched =>
      obtain ⟨hh, hread⟩ := hready h
      rw [hread, State.readReg_high_unlatched hh hobj' hl hg hs, State.lookPair_measured hu]
    case waits => rw [State.spineRead_waits hi ho hw4 hp hb hr]
    case silent =>
      have he : s.readError (regAddr t i off) = 5 := by simp [State.readError_regAddr hi ho hw4, hp]
      rw [State.spineRead_refused he (by decide)]
  case noRegister =>
    intro h
    rw [exec_rcRead, execRcRead, State.spineRead_refused (State.readError_no_register h) (by decide)]

/-! ## What a write that is taken does to one register (R13 to R16, R235, R535, R544) -/

section Writes
variable {s : State} {ini : Initiator} {ep : Byte} {t : PageType} {i off : Nat}

/-- A write that takes effect is answered and does what `writeReg` says; PAGE_CTL alone has rules of its own (R536). -/
theorem State.writeAt_taken (hi : i < (pageInfo t).insts) (ho : off < 4096) (hctl : off ≠ 0x008) (ht : s.takes ini ep t i off) (v : Nat) :
    (s.writeAt ini ep (regAddr t i off) v).2 = (s.writeReg ini t i off v).answer ini 0 := by
  obtain ⟨he, hh⟩ := ht
  have hown : ownRule ini off v = false := by simp [ownRule, hctl]
  have hkeeper : keeperField off v = false := by simp [keeperField, hctl]
  simp only [State.writeAt, State.busWrite, regAddr_mod_page t i ho, hown, hkeeper, he, decodeAddr_regAddr t hi ho, if_neg (State.not_holder_off hh)]
  simp

theorem State.writeReg_header (h : off < 0x040) (v : Nat) : s.writeReg ini t i off v = s.writeHeader ini t i off v := by
  rw [State.writeReg, if_pos h]

theorem State.writeReg_high (hb : 0x040 ≤ off) (hg : highHalf t off = true) (v : Nat) :
    s.writeReg ini t i off v = { s with
      highHeld := sput (dropPage ini (regAddr t i off) s.highHeld) (latchKey ini (regAddr t i off - 4)) (BitVec.ofNat 32 v) } := by
  rw [State.writeReg, if_neg (by omega), if_pos hg]

theorem State.writeReg_low_held {hi : Word} (hb : 0x040 ≤ off) (hl : lowHalf t off = true) (hg : highHalf t off = false)
    (hs : sfind s.highHeld (latchKey ini (regAddr t i off)) = some hi) (v : Nat) :
    s.writeReg ini t i off v =
      ({ s with highHeld := serase s.highHeld (latchKey ini (regAddr t i off)) } : State).write64 t i off (v + hi.toNat * 2 ^ 32) := by
  rw [State.writeReg, if_neg (by omega), if_neg (by simp [hg]), if_pos hl, hs]

/-- A register without an action of its own takes the write as a store (R15). -/
theorem State.write32_store (h : (t, off) ∉ actionRegs) (v : Nat) : s.write32 ini t i off v = s.storeRanked ini t i off v := by
  unfold State.write32
  split
  case h_18 => rfl
  all_goals exact absurd (by decide) h

theorem State.writeReg_store (hb : 0x040 ≤ off) (hl : lowHalf t off = false) (hg : highHalf t off = false) (h : (t, off) ∉ actionRegs) (v : Nat) :
    s.writeReg ini t i off v = s.storeRanked ini t i off v := by
  rw [State.writeReg, if_neg (by omega), if_neg (by simp [hg]), if_neg (by simp [hl]), State.write32_store h]

theorem State.storeRanked_last (h : s.laterWrites ini (keptAddr t i off) = []) (v : Nat) :
    s.storeRanked ini t i off v = (s.regStore t i off v).noteWrite ini (keptAddr t i off) v := by
  rw [State.storeRanked, h, List.foldl_nil]

theorem State.storeRanked_before {w : SpineWrite} (h : s.laterWrites ini (keptAddr t i off) = [w]) (v : Nat) :
    s.storeRanked ini t i off v = ((s.regStore t i off v).regStore t i off w.data).noteWrite ini (keptAddr t i off) v := by
  rw [State.storeRanked, h, List.foldl_cons, List.foldl_nil]

/-- Clearing in a number the bits that a word has set is clearing them in the word. -/
theorem ofNat_and_xor_all32 (n : Nat) (d : Word) : BitVec.ofNat 32 (n &&& (all32 ^^^ (d.toNat &&& all32))) = BitVec.ofNat 32 n &&& ~~~d := by
  have hd : d.toNat &&& all32 = d.toNat := (Nat.and_two_pow_sub_one_eq_mod _ 32).trans (Nat.mod_eq_of_lt d.isLt)
  have hx : BitVec.ofNat 32 all32 ^^^ d = ~~~d := BitVec.allOnes_xor
  rw [hd, BitVec.ofNat_and, BitVec.ofNat_xor, BitVec.ofNat_toNat, BitVec.setWidth_eq, hx]

theorem State.writeHeader_irqStat (hon : s.powered t i = true) (d : Word) :
    s.writeHeader ini t i 0x010 d.toNat = s.wr (hdr t i 0x010) (BitVec.ofNat 32 (s.rdn (hdr t i 0x010)) &&& ~~~d) := by
  simp only [State.writeHeader, hon, if_true, ofNat_and_xor_all32]

theorem State.writeHeader_irqEn (hon : s.powered t i = true) (v : Nat) :
    s.writeHeader ini t i 0x014 v = s.wr (hdr t i 0x014) (BitVec.ofNat 32 (v &&& irqMask t i)) := by
  simp only [State.writeHeader, hon, if_true]

theorem State.writeHeader_irqForce (hon : s.powered t i = true) (v : Nat) :
    s.writeHeader ini t i 0x018 v = s.wr (hdr t i 0x010) (BitVec.ofNat 32 (s.rdn (hdr t i 0x010) ||| (v &&& irqMask t i))) := by
  simp only [State.writeHeader, State.forceIrq, hon, if_true]

end Writes

/-- Settles O7: a write that takes effect is `writeReg` answered, and each clause is one case of `writeReg`, by the form of the register. -/
theorem registerWrites : Obligations.RegisterWrites := by
  unfold Obligations.RegisterWrites
  intro s ini ep t i off addr data hi page w a kept stored held stat does hinst ho haddr ht
  have hwrite : off ≠ 0x008 → (s.writeAt ini ep addr.toNat data.toNat).2 = (s.writeReg ini t i off data.toNat).answer ini 0 := by
    intro hctl
    rw [haddr, State.writeAt_taken hinst ho hctl ht]
  simp only [does, exec_registerWrite, exec_highHalfWrite, exec_lowHalfWrite, exec_pageIrqForce, execRegisterWrite, execHighHalfWrite, execLowHalfWrite, execPageIrqForce]
  refine ⟨fun hb hl hg hact => ⟨fun hlast => ?last, fun hlater => ?before⟩, fun hoff hon => ?irqStat, fun hoff hon => ?irqEn, fun hoff hon hpage => ?irqForce,
    fun hb hg => ?high, fun hb hl hg hheld => ?low⟩
  case last => rw [hwrite (by omega), State.writeReg_store hb hl hg hact, State.storeRanked_last hlast]
  case before => rw [hwrite (by omega), State.writeReg_store hb hl hg hact, State.storeRanked_before hlater]
  case irqStat =>
    subst hoff
    rw [hwrite (by decide), State.writeReg_header (by decide), State.writeHeader_irqStat hon]
  case irqEn =>
    subst hoff
    rw [hwrite (by decide), State.writeReg_header (by decide), State.writeHeader_irqEn hon]
  case irqForce =>
    subst hoff
    have hforce : page.toNat * 4096 + 0x018 = regAddr t i 0x018 := by rw [hpage]; rfl
    rw [State.pageWrite, hforce, State.writeAt_taken hinst ho (by decide) ht, State.writeReg_header (by decide), State.writeHeader_irqForce hon]
  case high => rw [hwrite (by omega), State.writeReg_high hb hg, BitVec.ofNat_toNat, BitVec.setWidth_eq]
  case low => rw [hwrite (by omega), State.writeReg_low_held hb hl hg hheld]

end Sys2Proof.Machine
end

section
/-!
Sites and kettles: what a withdrawn transmitter leaves (R231, R232), the hops of the spine (R233), who answers IDENT and who is lost (R22, R237), and the
increments, releases and broadcasts of the kettles (R347 to R353). One lemma per outcome of each event; the statement SitesAndKettles is put together from them.
-/
namespace Sys2Proof.Machine

/-! ## Transmitters (R231, R232) -/

/-- Only a stack site, one below 40, can retire its stack with a transmitter. -/
theorem State.withdrawTx_of_no_stack (s : State) {n : Nat} (hn : 40 ≤ n) (tx cause : Nat) :
    s.withdrawTx n tx cause = ((((s.loseTx n tx).latchLog (siteReg n 0x068) (tx + cause * 256)).irq .phoSite n 0).bump (siteReg n 0x044) 16 7 1).amendLater
      0x07 false (n * 128 + tx) cause :=
  if_neg fun h => absurd h.1 (by omega)

theorem execTransmitterWithdraw_withdraws {s : State} {site : Fin 59} {tx : BitVec 7} {cause : BitVec 2} (hfit : tx.toNat < txFitted site)
    (hin : tx.toNat ∉ (s.site site).gone) (hcause : cause = 1 ∨ cause = 2) :
    execTransmitterWithdraw site tx cause s = .next (s.withdrawTx site tx.toNat cause.toNat) := by
  have hzero : cause ≠ 0 := by rintro rfl; exact absurd hcause (by decide)
  have hthree : cause ≠ 3 := by rintro rfl; exact absurd hcause (by decide)
  have hcan : ¬ (txFitted site ≤ tx.toNat ∨ (s.site site).gone.contains tx.toNat ∨ cause = 0) := by
    rintro (hout | hgone | hnone)
    · omega
    · exact hin (List.contains_iff_mem.mp hgone)
    · exact hzero hnone
  rw [execTransmitterWithdraw, if_neg hcan, if_neg fun h => hthree h.1]

/-! ## The spine (R233) -/

/-- The bad arrivals at the front of a hop's arrivals are counted to the first good one. -/
theorem length_takeWhile_bad_parity {bads : List (Dword × Byte)} (hbad : ∀ a ∈ bads, parityOf a.1 ≠ a.2) (rest : List (Dword × Byte)) :
    ((bads ++ rest).takeWhile (fun a => decide (parityOf a.1 ≠ a.2))).length =
      bads.length + (rest.takeWhile (fun a => decide (parityOf a.1 ≠ a.2))).length := by
  rw [List.takeWhile_append_of_pos (fun a ha => decide_eq_true (hbad a ha)), List.length_append]

/-- A hop after a word: its last four words kept, and `k` resends counted. -/
def State.hopCounted (s : State) (n : Nat) (word : Dword) (k : Nat) : State :=
  (s.setSite n { s.site n with hop := ((s.site n).hop ++ [word]).drop (((s.site n).hop ++ [word]).length - 4) }).bump (siteReg n 0x064) 0 16 k

section Hops
variable {s : State} {ini : Initiator} {site : Fin 59} {word : Dword} {bads : List (Dword × Byte)} (hbad : ∀ a ∈ bads, parityOf a.1 ≠ a.2)
include hbad

theorem execSpineHopRetry_arrives {good : Dword × Byte} (rest : List (Dword × Byte)) (hlen : bads.length ≤ 3) (hgood : parityOf good.1 = good.2) :
    execSpineHopRetry ini site word (bads ++ good :: rest) s = .next (s.hopCounted site word bads.length) := by
  have hcount := length_takeWhile_bad_parity hbad (good :: rest)
  rw [List.takeWhile_cons_of_neg (by simp [hgood]), List.length_nil, Nat.add_zero] at hcount
  rw [execSpineHopRetry, hcount, if_pos (by omega), Nat.min_eq_right hlen, State.hopCounted]

theorem execSpineHopRetry_fails (rest : List (Dword × Byte)) (hlen : 4 ≤ bads.length) :
    execSpineHopRetry ini site word (bads ++ rest) s = .next ((((s.hopCounted site word 3).irq .phoSite site 4).emit (.error ini 5)).siteLost site) := by
  have hcount := length_takeWhile_bad_parity hbad rest
  rw [execSpineHopRetry, hcount, if_neg (by omega), Nat.min_eq_left (by omega), State.hopCounted]

end Hops

/-! ## Identification of the dies (R22, R237) -/

/-- A site with one fitted die, which claims no code but its own, answers IDENT for it, after the self-test of a stack site (R37). -/
theorem execIdent_answers {s : State} {ask : IdentAsk} {die : Nat} (hstage : s.stage = .larva) (hspine : s.spineUp = true)
    (hdie : (diesAt ask.site.toNat).filter (fun c => (s.die c).fitted) = [die]) :
    let asked : State := { s with identAt := sput s.identAt ask.site.toNat s.now }
    let tested := if ask.site.toNat < 40 then asked.selfTest ask.site.toNat ask.failed else asked
    (tested.die die).claimed = none →
    execIdent ask s = .next (tested.emit (.ident (BitVec.ofNat 64 (tested.identWord die)) (tested.die die).serial)) := by
  intro asked tested hown
  simp only [asked, tested] at hown ⊢
  rw [execIdent, if_neg (by simp [hstage, hspine]), hdie]
  simp only [List.foldl_cons, List.foldl_nil, hown]

/-- A compute die stands at the stack site of its number (R21). -/
theorem mem_diesAt_compute {c : Nat} (hlo : 0x40 ≤ c) (hhi : c < 0x40 + 40) : c ∈ diesAt (c % 64) := by
  have hsite : c % 64 < 40 := by omega
  have hcode : c = 0x40 + c % 64 := by omega
  rw [diesAt, if_neg (by omega), if_pos hsite]
  exact List.mem_cons.mpr (.inl hcode)

theorem execIdentTimeout_loses {s : State} {die : Byte} {t : Nat} (hstage : s.stage = .larva) (hclass : dieClass die.toNat = 3) (hlo : 0x40 ≤ die.toNat)
    (hhi : die.toNat < 0x40 + 40) (hfit : (s.die die.toNat).fitted = false) (hasked : sfind s.identAt (die.toNat % 64) = some t) (hlate : t + 10000 ≤ s.now) :
    execIdentTimeout die s = .next (s.dieLost die.toNat) := by
  have hhere := mem_diesAt_compute hlo hhi
  have hnz : die.toNat ≠ 0 := by omega
  simp only [execIdentTimeout, hclass, hnz, if_false, Nat.reduceEqDiff]
  rw [if_neg (by simp [hstage, hfit, hhere]), hasked]
  exact if_neg (by omega)

/-! ## Kettles (R347 to R353) -/

section Increments
variable {s : State} {k total n : Nat}

theorem State.kettleAdd_counts (hmode : s.kettleMode k = 1) (hfits : s.kettleCount k + total < 2 ^ 32) :
    s.kettleAdd k total n =
      let summed := (s.bump (kettleReg k 0x054) 0 32 n).wr (kettleReg k 0x048) (BitVec.ofNat 32 (s.kettleCount k + total))
      if s.rdn (kettleReg k 0x044) ≤ s.kettleCount k + total then summed.setFld (kettleReg k 0x050) 1 1 1 else summed :=
  if_neg (by omega)

theorem State.kettleAdd_refuses (h : s.kettleMode k ≠ 1 ∨ 2 ^ 32 ≤ s.kettleCount k + total) :
    s.kettleAdd k total n = (s.bump (kettleReg k 0x054) 0 32 n).kettleErr k :=
  if_pos h

theorem execKettleIncrement_adds {kettle : BitVec 8} {l : List Nat} (hin : sget [] s.kettleIn kettle.toNat = l) (hne : l ≠ []) :
    execKettleIncrement kettle s =
      .next (({ s with kettleIn := sset [] s.kettleIn kettle.toNat [] } : State).kettleAdd kettle.toNat l.sum l.length) := by
  obtain ⟨a, as, rfl⟩ := List.exists_cons_of_ne_nil hne
  rw [execKettleIncrement, hin]

end Increments

theorem execKettleRelease_releases {s : State} {kettle : BitVec 8} (hmode : s.kettleMode kettle.toNat = 1)
    (hfull : s.rdn (kettleReg kettle.toNat 0x044) ≤ s.kettleCount kettle.toNat) :
    let k := kettle.toNat
    let left := s.kettleCount k - s.rdn (kettleReg k 0x044)
    execKettleRelease kettle s = .next (((s.wr (kettleReg k 0x048) (BitVec.ofNat 32 left)).setFld (kettleReg k 0x050) 1 1
      (if s.rdn (kettleReg k 0x044) ≤ left then 1 else 0)).kettleReleases k) := by
  intro k left
  rw [execKettleRelease, if_neg (by omega), b2n]
  simp only [decide_eq_true_eq, left, k]

theorem execKrel_signals {s : State} {kettle : BitVec 8} {w : Dword} (hdue : s.krelDue.find? (fun e => decide (e.1 = kettle.toNat)) = some (kettle.toNat, w)) :
    execKrel kettle s = .next ((s.participants kettle.toNat).foldl
      (fun t c => if t.stackOn (c / 50) then t.signal c (if bitOf w.toNat 13 then .p else .d) (Fin.ofNat 32 (bits w.toNat 8 5)) else t)
      { s with krelDue := dropFirst (fun d => decide (d.1 = kettle.toNat)) s.krelDue }) := by
  rw [execKrel, hdue]

/-- Settles O36: each clause is one outcome of its event, by the lemma that says so. -/
theorem sitesAndKettles : Obligations.SitesAndKettles := by
  unfold Obligations.SitesAndKettles
  constructor
  case left =>
    intro s site tx cause ini word bads rest good at6 failed die t n x gone logged hop counted failing
    simp only [exec_transmitterWithdraw, exec_spineHopRetry, exec_ident, exec_identTimeout]
    refine ⟨fun hn hfit hin hcause => ?withdrawn, fun hbad => ⟨fun hlen hgood => ?arrives, fun hlen => ?fails⟩, fun hstage hspine hdie hown => ?answers,
      fun hstage hclass hlo hhi hfit hasked hlate => ?loses⟩
    case withdrawn => rw [execTransmitterWithdraw_withdraws hfit hin hcause, State.withdrawTx_of_no_stack s hn]; rfl
    case arrives => exact execSpineHopRetry_arrives hbad rest hlen hgood
    case fails => exact execSpineHopRetry_fails hbad rest hlen
    case answers => exact execIdent_answers hstage hspine hdie hown
    case loses => exact execIdentTimeout_loses hstage hclass hlo hhi hfit hasked hlate
  case right =>
    intro s kettle l w k count expected arrived summed x
    simp only [exec_kettleIncrement, exec_kettleRelease, exec_krel]
    refine ⟨fun hin hne hmode hfits => ?counts, fun hin hne hno => ?refuses, execKettleRelease_releases, execKrel_signals⟩
    case counts => exact (execKettleIncrement_adds hin hne).trans (congrArg Host.Outcome.next (State.kettleAdd_counts hmode hfits))
    case refuses => exact (execKettleIncrement_adds hin hne).trans (congrArg Host.Outcome.next (State.kettleAdd_refuses hno))

end Sys2Proof.Machine
end

section
/-!
Memories: every command and every tick keeps the four protected memories in canonical form (R35, R38, R107, R136).
-/
namespace Sys2Proof.Machine

/-- Every command keeps the canonical form: its own meaning does. -/
theorem exec_keeps (c : Instr) (s : State) (h : s.memsWf = true) : outcomeWf (exec c s) = true :=
  match c with
  | .registerWrite .. => execRegisterWrite_keeps (h := h) ..
  | .rcRead .. => execRcRead_keeps (h := h) ..
  | .lowHalfRead .. => execLowHalfRead_keeps (h := h) ..
  | .highHalfRead .. => execHighHalfRead_keeps (h := h) ..
  | .highHalfWrite .. => execHighHalfWrite_keeps (h := h) ..
  | .lowHalfWrite .. => execLowHalfWrite_keeps (h := h) ..
  | .softReset .. => execSoftReset_keeps (h := h) ..
  | .pageLock .. => execPageLock_keeps (h := h) ..
  | .pageUnlock .. => execPageUnlock_keeps (h := h) ..
  | .pageIrqForce .. => execPageIrqForce_keeps (h := h) ..
  | .bcastWrite .. => execBcastWrite_keeps (h := h) ..
  | .irqTelemetry .. => execIrqTelemetry_keeps (h := h) ..
  | .irqPeriodicMessage .. => execIrqPeriodicMessage_keeps (h := h) ..
  | .i3cPointerWrite .. => execI3cPointerWrite_keeps (h := h) ..
  | .i3cWordWrite .. => execI3cWordWrite_keeps (h := h) ..
  | .i3cPrivateRead .. => execI3cPrivateRead_keeps (h := h) ..
  | .entdaa .. => execEntdaa_keeps (h := h) ..
  | .setdasa .. => execSetdasa_keeps (h := h) ..
  | .bundleIssue .. => execBundleIssue_keeps (h := h) ..
  | .nop .. => execNop_keeps (h := h) ..
  | .endCmd .. => execEndCmd_keeps (h := h) ..
  | .fence .. => execFence_keeps (h := h) ..
  | .wait .. => execWait_keeps (h := h) ..
  | .sig .. => execSig_keeps (h := h) ..
  | .rdctr .. => execRdctr_keeps (h := h) ..
  | .cwait .. => execCwait_keeps (h := h) ..
  | .twait .. => execTwait_keeps (h := h) ..
  | .rdtb .. => execRdtb_keeps (h := h) ..
  | .ldi .. => execLdi_keeps (h := h) ..
  | .addi .. => execAddi_keeps (h := h) ..
  | .add .. => execAdd_keeps (h := h) ..
  | .sub .. => execSub_keeps (h := h) ..
  | .and .. => execAnd_keeps (h := h) ..
  | .or .. => execOr_keeps (h := h) ..
  | .xor .. => execXor_keeps (h := h) ..
  | .shl .. => execShl_keeps (h := h) ..
  | .shr .. => execShr_keeps (h := h) ..
  | .mul .. => execMul_keeps (h := h) ..
  | .jmp .. => execJmp_keeps (h := h) ..
  | .br .. => execBr_keeps (h := h) ..
  | .dbnz .. => execDbnz_keeps (h := h) ..
  | .hld .. => execHld_keeps (h := h) ..
  | .hst .. => execHst_keeps (h := h) ..
  | .hatAdd .. => execHatAdd_keeps (h := h) ..
  | .hatMin .. => execHatMin_keeps (h := h) ..
  | .hatMax .. => execHatMax_keeps (h := h) ..
  | .hatSwap .. => execHatSwap_keeps (h := h) ..
  | .hatCas .. => execHatCas_keeps (h := h) ..
  | .hatFadd .. => execHatFadd_keeps (h := h) ..
  | .xpost .. => execXpost_keeps (h := h) ..
  | .kinc .. => execKinc_keeps (h := h) ..
  | .mcfg .. => execMcfg_keeps (h := h) ..
  | .mlcb .. => execMlcb_keeps (h := h) ..
  | .mma .. => execMma_keeps (h := h) ..
  | .mst .. => execMst_keeps (h := h) ..
  | .mld .. => execMld_keeps (h := h) ..
  | .rmld .. => execRmld_keeps (h := h) ..
  | .rmst .. => execRmst_keeps (h := h) ..
  | .rmx .. => execRmx_keeps (h := h) ..
  | .vadd .. => execVadd_keeps (h := h) ..
  | .vsub .. => execVsub_keeps (h := h) ..
  | .vmul .. => execVmul_keeps (h := h) ..
  | .vmax .. => execVmax_keeps (h := h) ..
  | .vmin .. => execVmin_keeps (h := h) ..
  | .vfma .. => execVfma_keeps (h := h) ..
  | .vsmul .. => execVsmul_keeps (h := h) ..
  | .vsadd .. => execVsadd_keeps (h := h) ..
  | .vexp2 .. => execVexp2_keeps (h := h) ..
  | .vlog2 .. => execVlog2_keeps (h := h) ..
  | .vrcp .. => execVrcp_keeps (h := h) ..
  | .vrsqrt .. => execVrsqrt_keeps (h := h) ..
  | .vabs .. => execVabs_keeps (h := h) ..
  | .vneg .. => execVneg_keeps (h := h) ..
  | .vmov .. => execVmov_keeps (h := h) ..
  | .vcvt .. => execVcvt_keeps (h := h) ..
  | .vrsum .. => execVrsum_keeps (h := h) ..
  | .vrmax .. => execVrmax_keeps (h := h) ..
  | .vtopk .. => execVtopk_keeps (h := h) ..
  | .vsamp .. => execVsamp_keeps (h := h) ..
  | .vrng .. => execVrng_keeps (h := h) ..
  | .engineCommandComplete .. => execEngineCommandComplete_keeps (h := h) ..
  | .waitTmo .. => execWaitTmo_keeps (h := h) ..
  | .dStart .. => execDStart_keeps (h := h) ..
  | .pStart .. => execPStart_keeps (h := h) ..
  | .dAbort .. => execDAbort_keeps (h := h) ..
  | .pPreempt .. => execPPreempt_keeps (h := h) ..
  | .pResume .. => execPResume_keeps (h := h) ..
  | .clearCtr .. => execClearCtr_keeps (h := h) ..
  | .abortDrainComplete .. => execAbortDrainComplete_keeps (h := h) ..
  | .parkComplete .. => execParkComplete_keeps (h := h) ..
  | .ctxBanksWrite .. => execCtxBanksWrite_keeps (h := h) ..
  | .gRegisterWrite .. => execGRegisterWrite_keeps (h := h) ..
  | .rowGrant .. => execRowGrant_keeps (h := h) ..
  | .rowScrub .. => execRowScrub_keeps (h := h) ..
  | .spareRowRemap .. => execSpareRowRemap_keeps (h := h) ..
  | .bondFailDeclare .. => execBondFailDeclare_keeps (h := h) ..
  | .bondRepair .. => execBondRepair_keeps (h := h) ..
  | .halfRowEntry .. => execHalfRowEntry_keeps (h := h) ..
  | .governorTick .. => execGovernorTick_keeps (h := h) ..
  | .powerSample .. => execPowerSample_keeps (h := h) ..
  | .capLimitWrite .. => execCapLimitWrite_keeps (h := h) ..
  | .surgeGrantWrite .. => execSurgeGrantWrite_keeps (h := h) ..
  | .mrd .. => execMrd_keeps (h := h) ..
  | .mwr .. => execMwr_keeps (h := h) ..
  | .mwrp .. => execMwrp_keeps (h := h) ..
  | .mcas .. => execMcas_keeps (h := h) ..
  | .memCommandIssue .. => execMemCommandIssue_keeps (h := h) ..
  | .mrsp .. => execMrsp_keeps (h := h) ..
  | .mwack .. => execMwack_keeps (h := h) ..
  | .mpoison dst tag chunk => execMpoison_keeps dst tag chunk s h
  | .mcasr dst tag found success => execMcasr_keeps dst tag found success s h
  | .memScrub .. => execMemScrub_keeps (h := h) ..
  | .refreshDue .. => execRefreshDue_keeps (h := h) ..
  | .refreshRateChange .. => execRefreshRateChange_keeps (h := h) ..
  | .channelRetrain .. => execChannelRetrain_keeps (h := h) ..
  | .retrainDeadline .. => execRetrainDeadline_keeps (h := h) ..
  | .memoryTraining .. => execMemoryTraining_keeps (h := h) ..
  | .phyPllAlarm .. => execPhyPllAlarm_keeps (h := h) ..
  | .sieveSeal .. => execSieveSeal_keeps (h := h) ..
  | .sieveQuery .. => execSieveQuery_keeps (h := h) ..
  | .svop .. => execSvop_keeps (h := h) ..
  | .svdone .. => execSvdone_keeps (h := h) ..
  | .chainActivate .. => execChainActivate_keeps (h := h) ..
  | .descriptorFetched .. => execDescriptorFetched_keeps (h := h) ..
  | .pieceIssue .. => execPieceIssue_keeps (h := h) ..
  | .walkStep .. => execWalkStep_keeps (h := h) ..
  | .pagerFaultReceive .. => execPagerFaultReceive_keeps (h := h) ..
  | .zeroFill .. => execZeroFill_keeps (h := h) ..
  | .ticketDone .. => execTicketDone_keeps (h := h) ..
  | .resume .. => execResume_keeps (h := h) ..
  | .loadTmo .. => execLoadTmo_keeps (h := h) ..
  | .poolPush .. => execPoolPush_keeps (h := h) ..
  | .pieceComplete .. => execPieceComplete_keeps (h := h) ..
  | .recordWriteComplete .. => execRecordWriteComplete_keeps (h := h) ..
  | .tableBaseWrite .. => execTableBaseWrite_keeps (h := h) ..
  | .tagLimitWrite .. => execTagLimitWrite_keeps (h := h) ..
  | .tokenCapture .. => execTokenCapture_keeps (h := h) ..
  | .tokenRelease .. => execTokenRelease_keeps (h := h) ..
  | .burstReceive .. => execBurstReceive_keeps (h := h) ..
  | .burstAck .. => execBurstAck_keeps (h := h) ..
  | .burstNak .. => execBurstNak_keeps (h := h) ..
  | .statusTimeout .. => execStatusTimeout_keeps (h := h) ..
  | .retryLimitExpiry .. => execRetryLimitExpiry_keeps (h := h) ..
  | .groupBlock .. => execGroupBlock_keeps (h := h) ..
  | .groupBlocked .. => execGroupBlocked_keeps (h := h) ..
  | .groupUnblock .. => execGroupUnblock_keeps (h := h) ..
  | .groupSleep .. => execGroupSleep_keeps (h := h) ..
  | .groupWake .. => execGroupWake_keeps (h := h) ..
  | .groupSpare .. => execGroupSpare_keeps (h := h) ..
  | .tokenRegenerate .. => execTokenRegenerate_keeps (h := h) ..
  | .groupSleepEntry .. => execGroupSleepEntry_keeps (h := h) ..
  | .wake .. => execWake_keeps (h := h) ..
  | .ready .. => execReady_keeps (h := h) ..
  | .wakeFailure .. => execWakeFailure_keeps (h := h) ..
  | .laneLockAchieved .. => execLaneLockAchieved_keeps (h := h) ..
  | .tsMatch .. => execTsMatch_keeps (h := h) ..
  | .tsWrongSlot .. => execTsWrongSlot_keeps (h := h) ..
  | .trainingTimeout .. => execTrainingTimeout_keeps (h := h) ..
  | .laneHardFail .. => execLaneHardFail_keeps (h := h) ..
  | .groupStart .. => execGroupStart_keeps (h := h) ..
  | .sparingSwitch .. => execSparingSwitch_keeps (h := h) ..
  | .sparingEnd .. => execSparingEnd_keeps (h := h) ..
  | .transmitterWithdraw .. => execTransmitterWithdraw_keeps (h := h) ..
  | .spineHopRetry .. => execSpineHopRetry_keeps (h := h) ..
  | .ident .. => execIdent_keeps (h := h) ..
  | .identTimeout .. => execIdentTimeout_keeps (h := h) ..
  | .kettleIncrement .. => execKettleIncrement_keeps (h := h) ..
  | .kettleRelease .. => execKettleRelease_keeps (h := h) ..
  | .krel .. => execKrel_keeps (h := h) ..
  | .lsmIdentify .. => execLsmIdentify_keeps (h := h) ..
  | .cmisFail .. => execCmisFail_keeps (h := h) ..
  | .lineMonitorVisit .. => execLineMonitorVisit_keeps (h := h) ..
  | .refLightLoss .. => execRefLightLoss_keeps (h := h) ..
  | .refLightRestored .. => execRefLightRestored_keeps (h := h) ..
  | .holdoverExpiry .. => execHoldoverExpiry_keeps (h := h) ..
  | .lockLoopUpdate .. => execLockLoopUpdate_keeps (h := h) ..
  | .calPassStart .. => execCalPassStart_keeps (h := h) ..
  | .laneCal .. => execLaneCal_keeps (h := h) ..
  | .calTimeout .. => execCalTimeout_keeps (h := h) ..
  | .blockingCal .. => execBlockingCal_keeps (h := h) ..
  | .markSweep .. => execMarkSweep_keeps (h := h) ..
  | .sweepOutcome .. => execSweepOutcome_keeps (h := h) ..
  | .commissioning .. => execCommissioning_keeps (h := h) ..
  | .fadeCrossing .. => execFadeCrossing_keeps (h := h) ..
  | .fadeRecovery .. => execFadeRecovery_keeps (h := h) ..
  | .rapidFade .. => execRapidFade_keeps (h := h) ..
  | .swapTrigger .. => execSwapTrigger_keeps (h := h) ..
  | .swapPauseStart .. => execSwapPauseStart_keeps (h := h) ..
  | .swapPauseEnd .. => execSwapPauseEnd_keeps (h := h) ..
  | .swapCheck .. => execSwapCheck_keeps (h := h) ..
  | .interlockUnmated .. => execInterlockUnmated_keeps (h := h) ..
  | .interlockEnableDrop .. => execInterlockEnableDrop_keeps (h := h) ..
  | .probe .. => execProbe_keeps (h := h) ..
  | .safetyRestore .. => execSafetyRestore_keeps (h := h) ..
  | .lsmRemoval .. => execLsmRemoval_keeps (h := h) ..
  | .lineSelWrite .. => execLineSelWrite_keeps (h := h) ..
  | .codewordDecode .. => execCodewordDecode_keeps (h := h) ..
  | .alignmentLoss .. => execAlignmentLoss_keeps (h := h) ..
  | .portTrainStart .. => execPortTrainStart_keeps (h := h) ..
  | .xtsReceive .. => execXtsReceive_keeps (h := h) ..
  | .xstart .. => execXstart_keeps (h := h) ..
  | .trainAttemptTimeout .. => execTrainAttemptTimeout_keeps (h := h) ..
  | .xtsAtBoundary .. => execXtsAtBoundary_keeps (h := h) ..
  | .discoveryTimeout .. => execDiscoveryTimeout_keeps (h := h) ..
  | .portSleep .. => execPortSleep_keeps (h := h) ..
  | .sleep .. => execSleep_keeps (h := h) ..
  | .portWake .. => execPortWake_keeps (h := h) ..
  | .portRetrain .. => execPortRetrain_keeps (h := h) ..
  | .retrainTimeout .. => execRetrainTimeout_keeps (h := h) ..
  | .pausedEntry .. => execPausedEntry_keeps (h := h) ..
  | .pausedEnd .. => execPausedEnd_keeps (h := h) ..
  | .spareReq .. => execSpareReq_keeps (h := h) ..
  | .spareBegin .. => execSpareBegin_keeps (h := h) ..
  | .spareSwitch .. => execSpareSwitch_keeps (h := h) ..
  | .spareDone .. => execSpareDone_keeps (h := h) ..
  | .spareShadowTimeout .. => execSpareShadowTimeout_keeps (h := h) ..
  | .calReq .. => execCalReq_keeps (h := h) ..
  | .pauseReq .. => execPauseReq_keeps (h := h) ..
  | .retrainReq .. => execRetrainReq_keeps (h := h) ..
  | .linkCellReceive .. => execLinkCellReceive_keeps (h := h) ..
  | .xtrh .. => execXtrh_keeps (h := h) ..
  | .xtrt .. => execXtrt_keeps (h := h) ..
  | .cellSend .. => execCellSend_keeps (h := h) ..
  | .lack .. => execLack_keeps (h := h) ..
  | .lnak .. => execLnak_keeps (h := h) ..
  | .lcredit .. => execLcredit_keeps (h := h) ..
  | .lackDue .. => execLackDue_keeps (h := h) ..
  | .lcreditDue .. => execLcreditDue_keeps (h := h) ..
  | .lnakRepeat .. => execLnakRepeat_keeps (h := h) ..
  | .replayTimeout .. => execReplayTimeout_keeps (h := h) ..
  | .fmgmtRead .. => execFmgmtRead_keeps (h := h) ..
  | .fmgmtWrite .. => execFmgmtWrite_keeps (h := h) ..
  | .fmgmtReply .. => execFmgmtReply_keeps (h := h) ..
  | .fmgmtError .. => execFmgmtError_keeps (h := h) ..
  | .portRetrainCmd .. => execPortRetrainCmd_keeps (h := h) ..
  | .portSpareCmd .. => execPortSpareCmd_keeps (h := h) ..
  | .portDisable .. => execPortDisable_keeps (h := h) ..
  | .portEnable .. => execPortEnable_keeps (h := h) ..
  | .rankmapWrite .. => execRankmapWrite_keeps (h := h) ..
  | .rankmapMismatch .. => execRankmapMismatch_keeps (h := h) ..
  | .hrd .. => execHrd_keeps (h := h) ..
  | .hwr .. => execHwr_keeps (h := h) ..
  | .hatm .. => execHatm_keeps (h := h) ..
  | .hatx .. => execHatx_keeps (h := h) ..
  | .hbrd .. => execHbrd_keeps (h := h) ..
  | .hbwr .. => execHbwr_keeps (h := h) ..
  | .hbdat .. => execHbdat_keeps (h := h) ..
  | .hrsp .. => execHrsp_keeps (h := h) ..
  | .hwack .. => execHwack_keeps (h := h) ..
  | .hbrsp stack tag status units => execHbrsp_keeps stack tag status units s h
  | .hangWatchdogExpiry .. => execHangWatchdogExpiry_keeps (h := h) ..
  | .krelay job kettle gen => execKrelay_keeps job kettle gen s h
  | .quarantineRelease .. => execQuarantineRelease_keeps (h := h) ..
  | .arpRequest f target mac => execArpRequest_keeps f target mac s h
  | .neighbourSolicitation f target mac => execNeighbourSolicitation_keeps f target mac s h
  | .echoRequest .. => execEchoRequest_keeps (h := h) ..
  | .submit .. => execSubmit_keeps (h := h) ..
  | .cancel .. => execCancel_keeps (h := h) ..
  | .status .. => execStatus_keeps (h := h) ..
  | .ack .. => execAck_keeps (h := h) ..
  | .assemblyTimeout .. => execAssemblyTimeout_keeps (h := h) ..
  | .tokensResend .. => execTokensResend_keeps (h := h) ..
  | .lingerExpiry .. => execLingerExpiry_keeps (h := h) ..
  | .wingbeatBoundary .. => execWingbeatBoundary_keeps (h := h) ..
  | .boundaryCommit .. => execBoundaryCommit_keeps (h := h) ..
  | .idleIntervalEnd .. => execIdleIntervalEnd_keeps (h := h) ..
  | .fdata .. => execFdata_keeps (h := h) ..
  | .fetchChunkTimeout .. => execFetchChunkTimeout_keeps (h := h) ..
  | .refclkInvalid .. => execRefclkInvalid_keeps (h := h) ..
  | .refclkValid .. => execRefclkValid_keeps (h := h) ..
  | .refHoldoverStop .. => execRefHoldoverStop_keeps (h := h) ..
  | .refCtlWrite .. => execRefCtlWrite_keeps (h := h) ..
  | .basePllUnlock .. => execBasePllUnlock_keeps (h := h) ..
  | .serialiserAlarm .. => execSerialiserAlarm_keeps (h := h) ..
  | .rowstorePllFailover .. => execRowstorePllFailover_keeps (h := h) ..
  | .regionGenFail .. => execRegionGenFail_keeps (h := h) ..
  | .fSetChange .. => execFSetChange_keeps (h := h) ..
  | .droopLimitLower .. => execDroopLimitLower_keeps (h := h) ..
  | .droopLimitRaise .. => execDroopLimitRaise_keeps (h := h) ..
  | .crossingError .. => execCrossingError_keeps (h := h) ..
  | .syncEdge .. => execSyncEdge_keeps (h := h) ..
  | .secSet .. => execSecSet_keeps (h := h) ..
  | .syncHoldover .. => execSyncHoldover_keeps (h := h) ..
  | .syncHoldoverExpiry .. => execSyncHoldoverExpiry_keeps (h := h) ..
  | .clkSrcWrite .. => execClkSrcWrite_keeps (h := h) ..
  | .stateCmdD0 .. => execStateCmdD0_keeps (h := h) ..
  | .stateCmdD1 .. => execStateCmdD1_keeps (h := h) ..
  | .stateCmdD2 .. => execStateCmdD2_keeps (h := h) ..
  | .stateCmdD3 .. => execStateCmdD3_keeps (h := h) ..
  | .d1Wake .. => execD1Wake_keeps (h := h) ..
  | .d2IdleExpiry .. => execD2IdleExpiry_keeps (h := h) ..
  | .portLightWake .. => execPortLightWake_keeps (h := h) ..
  | .wakeAtReached .. => execWakeAtReached_keeps (h := h) ..
  | .d2Wake .. => execD2Wake_keeps (h := h) ..
  | .inputUndervolt .. => execInputUndervolt_keeps (h := h) ..
  | .inputFault .. => execInputFault_keeps (h := h) ..
  | .inputTrim .. => execInputTrim_keeps (h := h) ..
  | .surgeEntry .. => execSurgeEntry_keeps (h := h) ..
  | .surgeEnd .. => execSurgeEnd_keeps (h := h) ..
  | .surgeAllowanceExpiry .. => execSurgeAllowanceExpiry_keeps (h := h) ..
  | .wearBudgetExhaust .. => execWearBudgetExhaust_keeps (h := h) ..
  | .surgeInhibitWrite .. => execSurgeInhibitWrite_keeps (h := h) ..
  | .grantWithdraw .. => execGrantWithdraw_keeps (h := h) ..
  | .capFloorFault .. => execCapFloorFault_keeps (h := h) ..
  | .powerTelemetry .. => execPowerTelemetry_keeps (h := h) ..
  | .diodeSample .. => execDiodeSample_keeps (h := h) ..
  | .throttleStep .. => execThrottleStep_keeps (h := h) ..
  | .orderlyStop .. => execOrderlyStop_keeps (h := h) ..
  | .parkDeadline .. => execParkDeadline_keeps (h := h) ..
  | .orderlyStopReturn .. => execOrderlyStopReturn_keeps (h := h) ..
  | .predictedTrip .. => execPredictedTrip_keeps (h := h) ..
  | .thermalTrip .. => execThermalTrip_keeps (h := h) ..
  | .middleModelUpdate .. => execMiddleModelUpdate_keeps (h := h) ..
  | .diodeBroken .. => execDiodeBroken_keeps (h := h) ..
  | .regionRecal .. => execRegionRecal_keeps (h := h) ..
  | .calStart .. => execCalStart_keeps (h := h) ..
  | .hourCount .. => execHourCount_keeps (h := h) ..
  | .ageingEpoch .. => execAgeingEpoch_keeps (h := h) ..
  | .resetRelease .. => execResetRelease_keeps (h := h) ..
  | .imageVerify .. => execImageVerify_keeps (h := h) ..
  | .roleAssign .. => execRoleAssign_keeps (h := h) ..
  | .eclosion .. => execEclosion_keeps (h := h) ..
  | .goWaitTimeout .. => execGoWaitTimeout_keeps (h := h) ..
  | .rchunk .. => execRchunk_keeps (h := h) ..
  | .rcommit .. => execRcommit_keeps (h := h) ..
  | .rstat .. => execRstat_keeps (h := h) ..
  | .recoveryWriteComplete .. => execRecoveryWriteComplete_keeps (h := h) ..
  | .imageFlashWrite .. => execImageFlashWrite_keeps (h := h) ..
  | .heartbeat .. => execHeartbeat_keeps (h := h) ..
  | .heartbeatWindowEnd .. => execHeartbeatWindowEnd_keeps (h := h) ..
  | .digest .. => execDigest_keeps (h := h) ..
  | .decisionRoundCompare .. => execDecisionRoundCompare_keeps (h := h) ..
  | .health .. => execHealth_keeps (h := h) ..
  | .healthTimeout .. => execHealthTimeout_keeps (h := h) ..
  | .demotion .. => execDemotion_keeps (h := h) ..
  | .role .. => execRole_keeps (h := h) ..
  | .hold .. => execHold_keeps (h := h) ..
  | .epochBump .. => execEpochBump_keeps (h := h) ..
  | .successorRewrite .. => execSuccessorRewrite_keeps (h := h) ..
  | .promote .. => execPromote_keeps (h := h) ..
  | .keeperSelfTest .. => execKeeperSelfTest_keeps (h := h) ..
  | .keeperRestart .. => execKeeperRestart_keeps (h := h) ..
  | .objBegin .. => execObjBegin_keeps (h := h) ..
  | .objDataWrite .. => execObjDataWrite_keeps (h := h) ..
  | .objDataRead .. => execObjDataRead_keeps (h := h) ..
  | .objCommit .. => execObjCommit_keeps (h := h) ..
  | .objAbort .. => execObjAbort_keeps (h := h) ..
  | .folioApply .. => execFolioApply_keeps (h := h) ..
  | .foldBack .. => execFoldBack_keeps (h := h) ..
  | .foldBackCmd .. => execFoldBackCmd_keeps (h := h) ..
  | .unload .. => execUnload_keeps (h := h) ..
  | .resetToOvum .. => execResetToOvum_keeps (h := h) ..
  | .jobRestart .. => execJobRestart_keeps (h := h) ..
  | .restartNotice job rank num cls code => execRestartNotice_keeps job rank num cls code s h
  | .readyNotice .. => execReadyNotice_keeps (h := h) ..
  | .goNotice job rank num k => execGoNotice_keeps job rank num k s h
  | .abandonNotice job rank num => execAbandonNotice_keeps job rank num s h
  | .readyRepeat .. => execReadyRepeat_keeps (h := h) ..
  | .rejoinTimeout .. => execRejoinTimeout_keeps (h := h) ..
  | .healthReportForm .. => execHealthReportForm_keeps (h := h) ..
  | .inputRise .. => execInputRise_keeps (h := h) ..
  | .alwaysOnStart .. => execAlwaysOnStart_keeps (h := h) ..
  | .resetAssert .. => execResetAssert_keeps (h := h) ..
  | .tapBypass .. => execTapBypass_keeps (h := h) ..
  | .tapIdcode .. => execTapIdcode_keeps (h := h) ..
  | .tapSamplePreload .. => execTapSamplePreload_keeps (h := h) ..
  | .tapExtest .. => execTapExtest_keeps (h := h) ..
  | .frontDoorLinkDown .. => execFrontDoorLinkDown_keeps (h := h) ..
  | .frontDoorLinkUp .. => execFrontDoorLinkUp_keeps (h := h) ..
  | .ibiDelivery .. => execIbiDelivery_keeps (h := h) ..
  | .lsmStandbyReady .. => execLsmStandbyReady_keeps (h := h) ..
  | .stretch .. => execStretch_keeps (h := h) ..
  | .orderlyStopDeadline .. => execOrderlyStopDeadline_keeps (h := h) ..
  | .testLogicReset .. => execTestLogicReset_keeps (h := h) ..

/-- A step keeps the canonical form: it is the front command on the state with the queue's rest, or a tick. -/
theorem step_keeps (s : State) (h : s.memsWf = true) : outcomeWf (step s) = true := by
  unfold step
  split
  case h_1 => exact State.tick_memsWf s h
  case h_2 c rest _ => exact exec_keeps c { s with pending := rest } h

/-- Settles O3: a step that ends in a next state leaves what `step_keeps` says of its outcome. -/
theorem memoriesKeepForm : Obligations.MemoriesKeepForm := by
  unfold Obligations.MemoriesKeepForm
  intro s t h hstep
  have hkept := step_keeps s h
  rwa [hstep, outcomeWf_next] at hkept

end Sys2Proof.Machine
end

section
/-!
The protected memories through the code (R41, R108, R143, R146): what a word, a run of words and a part of a word read as after they are written.
-/
namespace Sys2Proof.Machine

/-! ## The code (R143) -/

/-- A check byte is a byte: every column is. -/
theorem eccEncode_lt (d : Nat) : eccEncode d < 2 ^ 8 := by
  have hfold : ∀ (l : List Nat) (d : Nat), (∀ h ∈ l, h < 2 ^ 8) → eccFold d l < 2 ^ 8 := by
    intro l
    induction l with
    | nil => exact fun _ _ => Nat.two_pow_pos 8
    | cons h t ih =>
      intro d hl
      have ht := ih (d / 2) fun x hx => hl x (List.mem_cons_of_mem _ hx)
      refine Nat.xor_lt_two_pow ?_ ht
      split
      · exact hl h List.mem_cons_self
      · decide
  exact hfold eccColumns d (by decide)

/-- A word decodes without an error exactly with its own check byte. -/
theorem eccDecode_eq_clean_iff (d c : Nat) : eccDecode d c = .clean ↔ c = eccEncode d := by
  rw [← Nat.xor_eq_zero_iff]
  unfold eccDecode
  dsimp only
  split
  · simp_all
  · split
    · simp_all
    · split <;> simp_all

/-! ## Bytes and words as numbers -/

/-- A byte just stored reads back. -/
theorem sget_putBytes_inside : ∀ (n : Nat) {l : List Host.Cell} (_ : swf (fun _ => (0 : Byte)) l = true) (a v : Nat) {i : Nat}, i < n →
    sget (0 : Byte) (putBytes l a v n) (a + i) = BitVec.ofNat 8 (v / 256 ^ i)
  | n + 1, l, h, a, v, 0, _ => by
    rw [putBytes, sget_putBytes_outside n _ _ _ _ (by omega), Nat.add_zero, pow_zero, Nat.div_one]
    exact sget_sset_same (fun _ => (0 : Byte)) h a _
  | n + 1, l, h, a, v, i + 1, hi => by
    have hrest := sget_putBytes_inside n (swf_sset (fun _ => (0 : Byte)) h a (BitVec.ofNat 8 v)) (a + 1) (v / 256) (i := i) (by omega)
    rw [putBytes, ← Nat.add_assoc, Nat.add_right_comm, hrest, Nat.div_div_eq_div_mul, ← pow_succ']

theorem Mem.raw_congr {m m' : Mem} : ∀ (n a : Nat), (∀ i, i < n → m.byte (a + i) = m'.byte (a + i)) → m.raw a n = m'.raw a n
  | 0, _, _ => rfl
  | n + 1, a, h => by
    have hfirst : m.byte a = m'.byte a := h 0 (by omega)
    have hrest : m.raw (a + 1) n = m'.raw (a + 1) n := Mem.raw_congr n (a + 1) fun i hi => by
      rw [Nat.add_assoc, Nat.add_comm 1 i]
      exact h (i + 1) (by omega)
    rw [Mem.raw, Mem.raw, hfirst, hrest]

/-- Bytes that are the digits of a number spell it. -/
theorem Mem.raw_of_bytes {m : Mem} : ∀ (n a v : Nat), (∀ i, i < n → m.byte (a + i) = BitVec.ofNat 8 (v / 256 ^ i)) → m.raw a n = v % 256 ^ n
  | 0, _, _, _ => by simp [Mem.raw, Nat.mod_one]
  | n + 1, a, v, h => by
    have hfirst : m.byte a = BitVec.ofNat 8 v := by simpa using h 0 (by omega)
    have hrest := Mem.raw_of_bytes n (a + 1) (v / 256) fun i hi => by
      rw [Nat.add_assoc, Nat.add_comm 1 i, Nat.div_div_eq_div_mul, ← pow_succ']
      exact h (i + 1) (by omega)
    rw [Mem.raw, hfirst, hrest, BitVec.toNat_ofNat, pow_succ' 256 n, Nat.mod_mul (a := 256)]

theorem Mem.raw_lt (m : Mem) : ∀ n a, m.raw a n < 256 ^ n
  | 0, _ => by simp [Mem.raw]
  | n + 1, a => by
    have hb : (m.byte a).toNat < 256 := (m.byte a).isLt
    have hr := Mem.raw_lt m n (a + 1)
    rw [Mem.raw, pow_succ']
    omega

theorem Mem.raw_add (m : Mem) (k : Nat) : ∀ n a, m.raw a (n + k) = m.raw a n + 256 ^ n * m.raw (a + n) k
  | 0, a => by simp [Mem.raw]
  | n + 1, a => by
    rw [Nat.add_right_comm, Mem.raw, Mem.raw, Mem.raw_add m k n (a + 1), pow_succ', Nat.add_right_comm a 1 n, Nat.add_assoc a n 1]
    ring

/-- Replacing the middle field of a number in three fields. -/
theorem putBits_middle {lo mid lsb w : Nat} (hi x : Nat) (hlo : lo < 2 ^ lsb) (hmid : mid < 2 ^ w) :
    putBits (lo + 2 ^ lsb * (mid + 2 ^ w * hi)) lsb w x = lo + 2 ^ lsb * (x % 2 ^ w + 2 ^ w * hi) := by
  have hfield : bits (lo + 2 ^ lsb * (mid + 2 ^ w * hi)) lsb w = mid := by
    rw [bits, Nat.add_mul_div_left _ _ (Nat.two_pow_pos lsb), Nat.div_eq_of_lt hlo, Nat.zero_add, Nat.add_mul_mod_self_left, Nat.mod_eq_of_lt hmid]
  have hcut : lo + 2 ^ lsb * (mid + 2 ^ w * hi) - mid * 2 ^ lsb = lo + 2 ^ lsb * (2 ^ w * hi) := by
    rw [Nat.sub_eq_of_eq_add]
    ring
  rw [putBits, hfield, hcut]
  ring

/-! ## Whole words -/

theorem Mem.raw_putWord {m : Mem} (h : m.wf = true) (w v : Nat) : (m.putWord w v).raw (8 * w) 8 = v % 2 ^ 64 :=
  Mem.raw_of_bytes 8 (8 * w) v fun _ hi => sget_putBytes_inside 8 ((Mem.wf_iff m).1 h).1 (8 * w) v hi

theorem Mem.chk_putWord {m : Mem} (h : m.wf = true) (w v : Nat) : (m.putWord w v).chk w = eccEncode (v % 2 ^ 64) := by
  rw [Mem.chk, Mem.putWord, sget_sset_same (fun _ => (0 : Byte)) ((Mem.wf_iff m).1 h).2, BitVec.toNat_ofNat, Nat.mod_eq_of_lt (eccEncode_lt _)]

/-- A word just written decodes without an error. -/
theorem Mem.putWord_clean {m : Mem} (h : m.wf = true) (w v : Nat) :
    eccDecode ((m.putWord w v).raw (8 * w) 8) ((m.putWord w v).chk w) = .clean := by
  rw [eccDecode_eq_clean_iff, m.raw_putWord h, m.chk_putWord h]

theorem Mem.byte_putWords_outside : ∀ (n : Nat) (m : Mem) (w v : Nat) {b : Nat}, b < 8 * w ∨ 8 * (w + n) ≤ b → (m.putWords w v n).byte b = m.byte b
  | 0, _, _, _, _, _ => rfl
  | n + 1, m, w, v, b, h => by
    rw [Mem.putWords, Mem.byte_putWords_outside n _ _ _ (by omega), Mem.byte_putWord_outside _ _ _ _ (by omega)]

theorem Mem.chk_putWords_below : ∀ (n : Nat) (m : Mem) {w u : Nat} (v : Nat), u < w → (m.putWords w v n).chk u = m.chk u
  | 0, _, _, _, _, _ => rfl
  | n + 1, m, w, u, v, h => by
    rw [Mem.putWords, Mem.chk_putWords_below n _ _ (Nat.lt_succ_of_lt h), Mem.chk, Mem.putWord, sget_sset_ne _ _ _ _ (Nat.ne_of_lt h), Mem.chk]

/-- Words written read back through the code as they were written. -/
theorem Mem.get_putWords : ∀ (n : Nat) {m : Mem} (_ : m.wf = true) (w v : Nat), (m.putWords w v n).get w n = ⟨v % 2 ^ (64 * n), [], none⟩
  | 0, _, _, _, _ => by simp [Mem.get, Nat.mod_one]
  | n + 1, m, h, w, v => by
    have hword : (m.putWords w v (n + 1)).raw (8 * w) 8 = v % 2 ^ 64 := by
      rw [← m.raw_putWord h w v]
      exact Mem.raw_congr 8 _ fun i hi => Mem.byte_putWords_outside n _ _ _ (by omega)
    have hchk : (m.putWords w v (n + 1)).chk w = eccEncode (v % 2 ^ 64) := by
      rw [← m.chk_putWord h w v]
      exact Mem.chk_putWords_below n _ _ (Nat.lt_succ_self w)
    have hrest : (m.putWords w v (n + 1)).get (w + 1) n = ⟨v / 2 ^ 64 % 2 ^ (64 * n), [], none⟩ :=
      Mem.get_putWords n (Mem.wf_putWord h w v) (w + 1) (v / 2 ^ 64)
    rw [Mem.get, hword, hchk, hrest, (eccDecode_eq_clean_iff _ _).2 rfl, Nat.mul_succ, Nat.add_comm (64 * n), pow_add, Nat.mod_mul]
    rfl

/-! ## Parts of words (R146) -/

/-- A patched word reads as the old word with the new bytes in its place. -/
theorem Mem.raw_patchWord {m : Mem} (h : m.wf = true) {w lo k : Nat} (v : Nat) (hk : lo + k ≤ 8) :
    (m.patchWord w lo k v).raw (8 * w) 8 = putBits (m.raw (8 * w) 8) (8 * lo) (8 * k) v := by
  obtain ⟨r, hr⟩ : ∃ r, 8 = lo + (k + r) := ⟨8 - lo - k, by omega⟩
  have hlow : (m.patchWord w lo k v).raw (8 * w) lo = m.raw (8 * w) lo :=
    Mem.raw_congr lo _ fun i hi => Mem.byte_patchWord_outside _ _ _ _ _ _ (by omega)
  have hmid : (m.patchWord w lo k v).raw (8 * w + lo) k = v % 256 ^ k :=
    Mem.raw_of_bytes k _ v fun _ hi => sget_putBytes_inside k ((Mem.wf_iff m).1 h).1 _ v hi
  have hhigh : (m.patchWord w lo k v).raw (8 * w + lo + k) r = m.raw (8 * w + lo + k) r :=
    Mem.raw_congr r _ fun i hi => Mem.byte_patchWord_outside _ _ _ _ _ _ (by omega)
  have hbytes : ∀ j, 256 ^ j = 2 ^ (8 * j) := fun j => (pow_mul 2 8 j).symm
  have hfields : ∀ m' : Mem, m'.raw (8 * w) 8 = m'.raw (8 * w) lo + 2 ^ (8 * lo) * (m'.raw (8 * w + lo) k + 2 ^ (8 * k) * m'.raw (8 * w + lo + k) r) := by
    intro m'
    rw [← hbytes, ← hbytes, ← Mem.raw_add, ← Mem.raw_add, ← hr]
  rw [hfields, hfields m, hlow, hmid, hhigh, hbytes,
    putBits_middle _ _ (hbytes lo ▸ m.raw_lt lo _) (hbytes k ▸ m.raw_lt k _)]

/-- A patch moves the check byte by the change, so that a word without an error stays without one. -/
theorem Mem.patchWord_clean {m : Mem} (h : m.wf = true) {w lo k : Nat} (v : Nat) (hk : lo + k ≤ 8)
    (hclean : eccDecode (m.raw (8 * w) 8) (m.chk w) = .clean) :
    eccDecode ((m.patchWord w lo k v).raw (8 * w) 8) ((m.patchWord w lo k v).chk w) = .clean := by
  rw [eccDecode_eq_clean_iff] at hclean
  rw [eccDecode_eq_clean_iff, m.raw_patchWord h v hk, Mem.chk, Mem.patchWord, hclean, Nat.xor_self, Nat.zero_xor,
    sget_sset_same (fun _ => (0 : Byte)) ((Mem.wf_iff m).1 h).2, BitVec.toNat_ofNat, Nat.mod_eq_of_lt (eccEncode_lt _)]

/-- A write inside one word is one write of the word or one patch of it. -/
theorem Mem.put_inside_word (m : Mem) {a k : Nat} (v : Nat) (hk : 0 < k) (hin : a % 8 + k ≤ 8) :
    m.put a v k = if k = 8 then m.putWord (a / 8) v else m.patchWord (a / 8) (a % 8) k v := by
  have hmin : min k (8 - a % 8) = k := by omega
  rw [Mem.put, Mem.putPart, if_neg (by omega)]
  simp only [hmin, Nat.sub_self, Mem.putPart, if_true]

theorem Mem.put_inside_word_clean {m : Mem} (h : m.wf = true) {a k : Nat} (v : Nat) (hin : a % 8 + k ≤ 8)
    (hclean : eccDecode (m.raw (8 * (a / 8)) 8) (m.chk (a / 8)) = .clean) :
    eccDecode ((m.put a v k).raw (8 * (a / 8)) 8) ((m.put a v k).chk (a / 8)) = .clean := by
  rcases Nat.eq_zero_or_pos k with rfl | hk
  · exact hclean
  · rw [m.put_inside_word v hk hin]
    split
    · exact m.putWord_clean h _ _
    · exact m.patchWord_clean h v hin hclean

/-- Settles O5: words by `Mem.get_putWords`, the frame by the bytes outside a write, bytes inside a word by `Mem.put_inside_word_clean`. -/
theorem protectedMemory : Obligations.ProtectedMemory := by
  unfold Obligations.ProtectedMemory
  intro m w v n b a k h
  refine ⟨Mem.get_putWords n h w v, Mem.byte_putWords_outside n m w v, m.byte_put_outside a v k b, ?_⟩
  rintro rfl hin hclean
  exact Mem.put_inside_word_clean h v hin hclean

end Sys2Proof.Machine
end

section
/-!
Engines: what an engine's taking a command changes (R47), the rows that an RM command presents when it starts (R63 to R66, R116), and what a finished
command leaves (R47, R49, R51, R195), which in a table of cores that is not canonical is not what RowMoverAndEngines says.
-/
namespace Sys2Proof.Machine

/-! ## What an engine runs -/

@[simp] theorem Core.running_setRunning (c : Core) (r : Option Running) (eng : Engine) : (c.setRunning r eng).running eng = r := by cases eng <;> rfl
@[simp] theorem Core.ctx_setRunning (c : Core) (r : Option Running) (eng : Engine) (x : Ctx) : (c.setRunning r eng).ctx x = c.ctx x := by
  cases eng <;> rfl

/-- A core with an engine at work is not the reset core. -/
theorem Core.ne_reset_of_running {c : Core} {eng : Engine} {r : Running} (h : c.running eng = some r) : c ≠ {} := by
  rintro rfl
  cases eng <;> cases h

@[simp] theorem State.core_setRun_some (s : State) (core : Nat) (eng : Engine) (r : Running) :
    (s.setRun core eng (some r)).core core = (s.core core).setRunning (some r) eng :=
  s.core_setCore core (Core.ne_reset_of_running ((s.core core).running_setRunning (some r) eng))

theorem State.running_takenUp (s : State) (core : Nat) (x : Ctx) (eng : Engine) (q : QEntry) :
    ((s.takenUp core x eng q).core core).running eng = some { ctx := x, entry := q } := by
  rw [State.takenUp, State.core_setRun_some, Core.running_setRunning]

/-- Taking a command up is seen in no register and so in no line check (R47, R72). -/
theorem State.lineCheck_takenUp (s : State) (core : Nat) (x y : Ctx) (eng : Engine) (q : QEntry) (align : Bool) (rs : List (Nat × Nat)) (others : List Nat) :
    (s.takenUp core x eng q).lineCheck core y align rs others = s.lineCheck core y align rs others := rfl

/-- The command at the head has the opcode that the engine was asked for. -/
theorem State.opOf_engineHead {s : State} {core : Nat} {x : Ctx} {eng : Engine} {op : Nat} {q : QEntry} (h : s.engineHead core x eng op = some q) :
    opOf q.cmd.toNat = op := by
  unfold State.engineHead at h
  dsimp only at h
  split_ifs at h
  split at h
  next q' _ =>
    split_ifs at h with hop
    exact Option.some.inj h ▸ hop
  next => cases h

/-! ## The rows that an RM command presents at its start (R63 to R66, R116) -/

/-- The request of row `i` of an RM command. -/
def State.rmRequest (s : State) (core : Nat) (x : Ctx) (q : QEntry) (i : Nat) : RowReq :=
  { use := .rm (Fin.ofNat 50 core) x i, row := rmRow q + i, write := rmStores q, born := (s.stk (core / 50)).bankCycle.toList.getD ((rmRow q + i) % 32) 0 }

/-- Row `i` of an RMST is read from the core buffer without an error; another RM command reads none. -/
def State.rmSourceGood (s : State) (core : Nat) (q : QEntry) (i : Nat) : Prop :=
  rmStores q = true → ∃ v, s.coreBuf.get (bufKey core (64 * rmLine q + 512 * i) / 8) 64 = ⟨v, [], none⟩

/-- The stack of a core after one more request at its row port. -/
def State.withReq (s : State) (core : Nat) (req : RowReq) : State :=
  s.setStk (core / 50) { s.stk (core / 50) with reqs := (s.stk (core / 50)).reqs ++ [req] }

theorem State.stk_withReq (s : State) (core : Nat) (req : RowReq) :
    (s.withReq core req).stk (core / 50) = { s.stk (core / 50) with reqs := (s.stk (core / 50)).reqs ++ [req] } :=
  sget_sset_same_ne _ _ _ fun h => List.append_ne_nil_of_right_ne_nil _ (List.cons_ne_nil req []) (congrArg Stack.reqs h)

theorem State.rmPresentOne_good {s : State} {core : Nat} {r : Running} (hgood : s.rmSourceGood core r.entry r.next) :
    ∃ buf, s.rmPresentOne core r =
      (s.withReq core (s.rmRequest core r.ctx r.entry r.next)).setRun core .rm (some { r with next := r.next + 1, out := r.out + 1, buf := buf }) := by
  unfold State.rmPresentOne
  cases hst : rmStores r.entry with
  | false => exact ⟨r.buf, by simp [State.withReq, State.rmRequest, hst]⟩
  | true =>
    obtain ⟨v, hv⟩ := hgood hst
    exact ⟨_, by simp only [State.bufRead_clean hv, if_true, State.withReq, State.rmRequest, hst]; rfl⟩

/-- Presenting rows presents the next ones in ascending order, as far as the fuel goes and the command has rows. -/
theorem State.rmPresent_presents {core : Nat} : ∀ (fuel : Nat) {s : State} {r : Running}, (s.core core).rm = some r → r.bad = none → r.out + fuel ≤ 16 →
    (∀ i, i < min fuel (r.total - r.next) → s.rmSourceGood core r.entry (r.next + i)) →
    ∃ buf, ((s.rmPresent core fuel).core core).rm =
        some { r with next := r.next + min fuel (r.total - r.next), out := r.out + min fuel (r.total - r.next), buf := buf } ∧
      ((s.rmPresent core fuel).stk (core / 50)).reqs =
        (s.stk (core / 50)).reqs ++ (List.range (min fuel (r.total - r.next))).map (fun i => s.rmRequest core r.ctx r.entry (r.next + i))
  | 0, s, r, hr, _, _, _ => ⟨r.buf, by simp [State.rmPresent, hr]⟩
  | fuel + 1, s, r, hr, hbad, hout, hgood => by
    by_cases hmore : r.next < r.total
    · obtain ⟨buf₁, hone⟩ := s.rmPresentOne_good (core := core) (r := r) (hgood 0 (by omega))
      set s₁ := s.rmPresentOne core r with hs₁
      have hr₁ : (s₁.core core).rm = some { r with next := r.next + 1, out := r.out + 1, buf := buf₁ } := by
        rw [hone, State.core_setRun_some]
        rfl
      have hstk : s₁.stk (core / 50) = { s.stk (core / 50) with reqs := (s.stk (core / 50)).reqs ++ [s.rmRequest core r.ctx r.entry r.next] } := by
        rw [hone]
        exact s.stk_withReq core _
      have hreq : ∀ i, s₁.rmRequest core r.ctx r.entry i = s.rmRequest core r.ctx r.entry i := fun i => by simp only [State.rmRequest, hstk]
      have hbuf : s₁.coreBuf = s.coreBuf := by rw [hone]; rfl
      have hcount : min (fuel + 1) (r.total - r.next) = min fuel (r.total - (r.next + 1)) + 1 := by omega
      obtain ⟨buf, hrun, hreqs⟩ := State.rmPresent_presents fuel hr₁ hbad (by simp only; omega) fun i hi => by
        simp only [State.rmSourceGood, hbuf, Nat.add_assoc, Nat.add_comm 1 i] at hi ⊢
        exact hgood (i + 1) (by omega)
      have hstep : s.rmPresent core (fuel + 1) = s₁.rmPresent core fuel := by
        simp only [State.rmPresent, hr, hs₁]
        rw [if_pos ⟨hmore, by omega, hbad⟩]
      refine ⟨buf, ?_, ?_⟩
      · rw [hstep, hrun, hcount]
        simp only [Nat.add_assoc, Nat.add_comm 1]
      · rw [hstep, hreqs, hstk, hcount, List.range_succ_eq_map]
        simp only [hreq, List.map_cons, List.map_map, List.append_assoc, List.singleton_append, Nat.add_zero, Function.comp_def, Nat.add_assoc, Nat.add_comm 1,
          Nat.succ_eq_add_one]
    · have hcount : min (fuel + 1) (r.total - r.next) = 0 := by omega
      refine ⟨r.buf, ?_⟩
      simp [State.rmPresent, hr, hmore, hcount]

/-- In `t` an RM command of context `x` has presented its first rows, at most 16, which it had not in `s`. -/
def State.rmPresents (s t : State) (core : Nat) (x : Ctx) (q : QEntry) : Prop :=
  ∃ r, (t.core core).rm = some r ∧ r.ctx = x ∧ r.entry = q ∧ r.total = rmCount q ∧ r.next = min 16 (rmCount q) ∧ r.out = min 16 (rmCount q) ∧ r.moved = 0 ∧ r.bad = none ∧
    (t.stk (core / 50)).reqs = (s.stk (core / 50)).reqs ++ (List.range (min 16 (rmCount q))).map (s.rmRequest core x q)

section
variable {s : State} {core : Fin 2000} {x : Ctx} {q : QEntry} (hcheck : s.lineCheck core x true [(rmLine q, rmLines q)] [] = none)
  (hrows : rmRow q + rmCount q ≤ 2097152) (hgood : ∀ i, i < min 16 (rmCount q) → s.rmSourceGood core q i)
include hcheck hrows hgood

theorem State.rmBody_presents : ∃ t, rmBody core (s.takenUp core x .rm q) q = (none, t) ∧ s.rmPresents t core x q := by
  have hrun : ((s.takenUp core x .rm q).core core).rm = some { ctx := x, entry := q } := s.running_takenUp core x .rm q
  have hin : ¬ 2097152 < rmRow q + rmCount q := Nat.not_lt.2 hrows
  obtain ⟨buf, hr, hreqs⟩ := State.rmPresent_presents 16 (s := (s.takenUp core x .rm q).setRun core .rm (some { ctx := x, entry := q, total := rmCount q }))
    (by rw [State.core_setRun_some]; rfl) rfl (Nat.le_refl 16) fun i hi => by
      rw [Nat.zero_add]
      exact hgood i hi
  simp only [Nat.zero_add, Nat.sub_zero] at hr hreqs
  refine ⟨_, ?_, _, hr, rfl, rfl, rfl, rfl, rfl, rfl, rfl, hreqs⟩
  simp only [rmBody, hrun, State.lineCheck_takenUp, hin, decide_false, Bool.false_eq_true, if_false, hcheck]

theorem execRmld_presents (hhead : s.engineHead core x .rm 0x40 = some q) : ∃ t, exec (.rmld core x) s = .next t ∧ s.rmPresents t core x q := by
  obtain ⟨t, hbody, ht⟩ := State.rmBody_presents hcheck hrows hgood
  exact ⟨t, by rw [exec_rmld, execRmld, State.startEngine_done hhead hbody], ht⟩

theorem execRmx_presents (hhead : s.engineHead core x .rm 0x42 = some q) : ∃ t, exec (.rmx core x) s = .next t ∧ s.rmPresents t core x q := by
  obtain ⟨t, hbody, ht⟩ := State.rmBody_presents hcheck hrows hgood
  exact ⟨t, by rw [exec_rmx, execRmx, State.startEngine_done hhead hbody], ht⟩

theorem execRmst_presents (hhead : s.engineHead core x .rm 0x41 = some q) : ∃ t, exec (.rmst core x) s = .next t ∧ s.rmPresents t core x q := by
  obtain ⟨t, hbody, ht⟩ := State.rmBody_presents hcheck hrows hgood
  obtain ⟨r, hr, -, -, -, -, -, -, hbad, -⟩ := id ht
  have hstop : rmBodyStop core (s.takenUp core x .rm q) q = (none, t) := by simp [rmBodyStop, hbody, hr, hbad]
  exact ⟨t, by rw [exec_rmst, execRmst, State.startEngine_done hhead hstop], ht⟩

end

/-! ## The end of a command (R47, R49, R51, R195) -/

/-- A command that has done its work frees its engine, saves its accumulator in a DRAIN, and signals where it asks to. -/
theorem execEngineCommandComplete_done {s : State} {core : Fin 2000} {eng : Engine} {r : Running} (hrun : (s.core core).running eng = some r)
    (hdone : eng = .rm → r.moved = r.total) :
    execEngineCommandComplete core eng s =
      let freed := (s.setRun core eng none).saveDone core r
      .next (if sigEn r.entry.cmd.toNat then freed.signal core r.ctx (sigCtr r.entry.cmd.toNat) else freed) := by
  have hd : r.done eng = true := by
    cases eng with
    | rm => exact decide_eq_true (hdone rfl)
    | me | ve => rfl
  simp only [execEngineCommandComplete, hrun, hd, if_true]

theorem State.signal_below {s : State} {core : Nat} {x : Ctx} {ctr : Fin 32} (h : (s.ctx core x).ctr.get ctr ≠ BitVec.allOnes 64) :
    s.signal core x ctr = s.modCtx core x (fun k => { k with ctr := k.ctr.set ctr (k.ctr.get ctr + 1) }) := by
  rw [State.signal, if_neg h]
  rfl

/-- Freeing an engine leaves the contexts as they were, in a table of cores in canonical form. -/
theorem State.ctx_setRun_none {s : State} (h : swf (fun _ => ({} : Core)) s.cores = true) (core : Nat) (eng : Engine) (x : Ctx) :
    (s.setRun core eng none).ctx core x = s.ctx core x := by
  have hcore : (s.setRun core eng none).core core = (s.core core).setRunning none eng := sget_sset_same (fun _ => ({} : Core)) h core _
  rw [State.ctx, hcore, Core.ctx_setRunning, State.ctx]

/-- With a canonical table of cores, the end of a command is what R47, R49 and R195 say, the save going by the mode that P had. -/
theorem exec_engineCommandComplete_canonical {s : State} {core : Fin 2000} {eng : Engine} {r : Running} (hcores : swf (fun _ => ({} : Core)) s.cores = true)
    (hrun : (s.core core).running eng = some r) (hdone : eng = .rm → r.moved = r.total) :
    let left := s.setRun core eng none
    let freed := if r.ctx = .p ∧ (s.ctx core .p).mode = .drainPark then ((meAcc r.entry).map (left.writeAcc core)).getD left else left
    (sigEn r.entry.cmd.toNat = false → exec (.engineCommandComplete core eng) s = .next freed) ∧
    (sigEn r.entry.cmd.toNat = true → (freed.ctx core r.ctx).ctr.get (sigCtr r.entry.cmd.toNat) ≠ BitVec.allOnes 64 →
      exec (.engineCommandComplete core eng) s = .next (freed.modCtx core r.ctx (fun k =>
        { k with ctr := k.ctr.set (sigCtr r.entry.cmd.toNat) (k.ctr.get (sigCtr r.entry.cmd.toNat) + 1) }))) := by
  intro left freed
  have hfreed : left.saveDone core r = freed := by
    simp only [freed, State.saveDone, left, State.ctx_setRun_none hcores]
    cases meAcc r.entry <;> rfl
  rw [exec_engineCommandComplete, execEngineCommandComplete_done hrun hdone]
  simp only [show (s.setRun core eng none).saveDone core r = freed from hfreed]
  refine ⟨fun hsig => by simp [hsig], fun hsig hbelow => ?_⟩
  rw [if_pos hsig, State.signal_below hbelow]

/-! ## A table of cores with a key twice -/

/-- An MMA of context P at work on accumulator 0. -/
def runningMma : Running := { ctx := .p, entry := { cmd := 0xC2 * 2 ^ 56 } }

/-- Core 0 listed twice: first with an engine at work and all else as after reset, then with P in DRAIN and a 1 in accumulator 0. Freeing the engine makes the
first entry the reset core, which leaves the table, so that the second comes to light. -/
def coreTwice : State := { cores := [(0, { me := some runningMma }), (0, { p := { mode := .drainPark, acc := [(0, 1)] } })] }

/-- The first byte of a write of whole words. -/
theorem Mem.byte_put_first {m : Mem} (h : m.wf = true) {a n : Nat} (v : Nat) (ha : a % 8 = 0) (hn : 8 ≤ n) : (m.put a v n).byte a = BitVec.ofNat 8 v := by
  have hk : min n (8 - a % 8) = 8 := by omega
  have haddr : 8 * (a / 8) + 0 = a := by omega
  rw [Mem.put, Mem.putPart, if_neg (by omega)]
  simp only [hk, if_true]
  rw [Mem.byte_putPart_outside _ _ _ _ _ _ (by omega)]
  have hfirst := sget_putBytes_inside 8 ((Mem.wf_iff m).1 h).1 (8 * (a / 8)) v (i := 0) (by decide)
  rwa [haddr, pow_zero, Nat.div_one] at hfirst

theorem State.coreBuf_writeAcc (s : State) (core a : Nat) : (s.writeAcc core a).coreBuf =
    s.coreBuf.put (bufKey core (64 * (s.ctx core .p).saveAt + 1024 + 8192 * a)) (saveAcc (s.ctx core .p) a) 8192 := rfl

/-- The first byte of a saved accumulator is that of its first element. -/
theorem ofNat_saveAcc (k : Context) (a : Nat) : BitVec.ofNat 8 (saveAcc k a) = BitVec.ofNat 8 (sget 0 k.acc (2048 * a)).toNat := by
  rw [saveAcc, List.range_succ_eq_map, List.map_cons, packNat]
  refine BitVec.eq_of_toNat_eq ?_
  simp only [BitVec.toNat_ofNat, Nat.add_zero]
  omega

/-- Refutes O21: in `coreTwice` P's mode is IDLE before the engine is freed and DRAIN after it, so the MMA's end saves the accumulator, where the statement has
the core buffer stay as it was. Such a table is not one that the model builds: for one in canonical form
`exec_engineCommandComplete_canonical` has this half, and `execRmld_presents`, `execRmst_presents` and `execRmx_presents` have the other for any table. -/
theorem not_rowMoverAndEngines : ¬ Obligations.RowMoverAndEngines := by
  unfold Obligations.RowMoverAndEngines
  rintro ⟨-, hends⟩
  have hrun : (coreTwice.core (0 : Fin 2000)).running .me = some runningMma := rfl
  have hstays := (hends coreTwice 0 .me runningMma hrun (fun h => nomatch h)).1 rfl
  have hsaves : exec (.engineCommandComplete 0 .me) coreTwice = .next ((coreTwice.setRun 0 .me none).writeAcc 0 0) :=
    (exec_engineCommandComplete coreTwice).trans (execEngineCommandComplete_done hrun fun h => nomatch h)
  rw [hsaves] at hstays
  have hbyte := congrArg (fun o : Host.Outcome State Fault Refusal => match o with | .next t => t.coreBuf.byte 1024 | _ => 0) hstays
  have hone : ((coreTwice.setRun 0 .me none).writeAcc 0 0).coreBuf.byte 1024 = 1 := by
    rw [State.coreBuf_writeAcc]
    exact (Mem.byte_put_first Mem.wf_empty _ (by decide) (by decide)).trans (ofNat_saveAcc _ 0)
  exact absurd (hone.symm.trans hbyte) (by decide)

end Sys2Proof.Machine
end

section
/-!
The sequencer: what an issued bundle leaves of its core and of the machine (R44, R45), and from it what the SQ register, flow and wait commands do (R54).
-/
namespace Sys2Proof.Machine

/-! ## Writing a core twice -/

/-- Of two writes at one key the second stands, where the first lists its key. -/
theorem sset_sset_same_ne {α : Type} [DecidableEq α] {d : α} (m : Sparse α) (k : Nat) {v : α} (w : α) (h : v ≠ d) :
    sset d (sset d m k v) k w = sset d m k w := by
  induction m with
  | nil => simp [sset, h]
  | cons e t ih =>
    obtain ⟨j, u⟩ := e
    rcases Nat.lt_trichotomy k j with hlt | rfl | hgt
    · simp [sset, h, hlt]
    · simp [sset, h]
    · have hkj : ¬ k < j := by omega
      have hjk : j ≠ k := by omega
      simp [sset, hkj, hjk, ih]

theorem State.setCore_setCore (s : State) (n : Nat) {c : Core} (c' : Core) (h : c ≠ {}) : (s.setCore n c).setCore n c' = s.setCore n c' := by
  simp only [State.setCore, sset_sset_same_ne s.cores n c' h]

/-! ## The state after a bundle has issued -/

/-- Core `core` has counted a cycle and its context `x` has become `k`; nothing else has changed. -/
def State.issued (s : State) (core : Nat) (x : Ctx) (k : Context) : State := (s.coreCycle core).setCtx core x k

theorem State.sameButCore_issued (s : State) (core : Nat) (x : Ctx) (k : Context) : s.sameButCore (s.issued core x k) core :=
  ⟨rfl, fun n hn => by rw [State.issued, State.core_setCtx_ne _ _ _ hn, State.core_coreCycle_ne _ hn]⟩

theorem State.ctxBecomes_issued (s : State) (core : Nat) (x : Ctx) (k : Context) : s.ctxBecomes (s.issued core x k) core x k := s.core_issued core x k

@[simp] theorem State.ctx_issued (s : State) (core : Nat) (x : Ctx) (k : Context) : (s.issued core x k).ctx core x = k := by
  rw [State.ctx, s.ctxBecomes_issued core x k, Core.ctx_setCtx]

@[simp] theorem State.cycles_issued (s : State) (core : Nat) (x : Ctx) (k : Context) : ((s.issued core x k).core core).cycles = (s.core core).cycles + 1 := by
  rw [s.ctxBecomes_issued core x k, Core.cycles_setCtx]

@[simp] theorem State.setCtx_issued (s : State) (core : Nat) (x : Ctx) (k l : Context) : (s.issued core x k).setCtx core x l = s.issued core x l := by
  have hne : ((s.coreCycle core).core core).setCtx x k ≠ {} := Core.ne_reset (by simp)
  rw [State.setCtx, s.ctxBecomes_issued core x k, Core.setCtx_setCtx, State.issued, State.setCtx, State.setCore_setCore _ _ _ hne, State.issued, State.setCtx,
    s.core_coreCycle]

@[simp] theorem State.modCtx_issued (s : State) (core : Nat) (x : Ctx) (k : Context) (f : Context → Context) :
    (s.issued core x k).modCtx core x f = s.issued core x (f k) := by
  rw [State.modCtx, State.ctx_issued, State.setCtx_issued]

/-- A cycle without an issue is an issue that leaves the context as it was. -/
theorem State.issued_self (s : State) (core : Nat) (x : Ctx) : s.issued core x (s.ctx core x) = s.coreCycle core := by
  have hself : ∀ c : Core, c.setCtx x (c.ctx x) = c := fun c => by cases x <;> rfl
  have hctx : s.ctx core x = ((s.coreCycle core).core core).ctx x := (s.ctx_coreCycle core x).symm
  have hne : ({ s.core core with cycles := (s.core core).cycles + 1 } : Core) ≠ {} := Core.ne_reset (Nat.succ_ne_zero _)
  rw [State.issued, State.setCtx, hctx, hself, s.core_coreCycle]
  exact s.setCore_setCore core _ hne

/-- A context whose bundle has moved the PC on (R45). -/
def State.nextCtx (s : State) (core : Nat) (x : Ctx) : Context := { s.ctx core x with pc := (s.ctx core x).pc + 1, sqSince := s.timebase }

/-! ## When a bundle issues (R44, R46) -/

section
variable {s : State} {core : Nat} {x : Ctx} {rs : List (Fin 16)}

theorem State.issues.givesWay (h : s.issues core x rs) : s.givesWay core x = false := by
  obtain ⟨-, -, -, hp, -, -⟩ := h
  cases x with
  | d => rfl
  | p => exact hp rfl

/-- A bundle whose encoding raises nothing issues in the cycle in which it can, and else the cycle passes. -/
theorem State.offer_unfaulted (h : s.issues core x rs) {op : SqOp} {es : List (Engine × Nat)} (hf : bundleFaults x (s.ctx core x).issueCfg (.ok op) es = []) :
    s.offer core x false (.ok op) es = if s.canIssue core x op es then (s.coreCycle core).issueNow core x op es else s.coreCycle core := by
  obtain ⟨hon, hrun, hpc, -, hhold, -⟩ := h
  have hpc' : ¬ 4096 ≤ (s.ctx core x).pc.toNat := by omega
  have hhold' : ¬ (s.core core).cycles < (s.ctx core x).notBefore := by omega
  simp [State.offer, hon, hrun, hpc', hhold', hf]

/-- An SQ command that cannot issue yet lets the cycle pass and leaves its context as it was. -/
theorem offerSq_waits {core : Fin 2000} (h : s.issues core x rs) {op : SqOp} (hres : sqReserved op = false) (hready : s.sqReady core x op = false) :
    offerSq core x op s = .next (s.issued core x (s.ctx core x)) := by
  have hcan : s.canIssue core x op [] = false := by simp [State.canIssue, hready]
  have hoffer := State.offer_unfaulted h (op := op) (es := []) rfl
  rw [hcan] at hoffer
  simp only [offerSq, hres, Bool.false_eq_true, if_false, h.givesWay, hoffer, State.issued_self]

end

/-! ## One SQ command (R54) -/

section
variable {s : State} {core : Fin 2000} {x : Ctx} {rs : List (Fin 16)}

/-- An SQ command that can issue takes its effect on the state with the PC moved on. -/
theorem offerSq_effect (h : s.issues core x rs) (op : SqOp) (hres : sqReserved op = false) (hready : s.sqReady core x op = true)
    (htag : isHall op = true → s.tagFree (core / 50) = true) (hregs : ∀ r ∈ sqReads op ++ sqWrites op, r ∈ rs) :
    offerSq core x op s = .next ((s.issued core x (s.nextCtx core x)).sqEffect core x (s.ctx core x) op) :=
  offerSq_issues h op hres hready htag hregs

/-- What a command's row does when its effect is a change of its context alone. -/
theorem offerSq_becomes (h : s.issues core x rs) (op : SqOp) (l : Context) (hhall : isHall op = false) (hres : sqReserved op = false)
    (hready : s.sqReady core x op = true) (hregs : ∀ r ∈ sqReads op ++ sqWrites op, r ∈ rs)
    (heffect : (s.issued core x (s.nextCtx core x)).sqEffect core x (s.ctx core x) op = s.issued core x l) :
    ∃ t, offerSq core x op s = .next t ∧ s.sameButCore t core ∧ s.ctxBecomes t core x l := by
  refine ⟨s.issued core x l, ?_, s.sameButCore_issued core x l, s.ctxBecomes_issued core x l⟩
  rw [offerSq_effect h op hres hready (by simp [hhall]) hregs, heffect]

end

end Sys2Proof.Machine
end

section
/-!
SequencerResults and SequencerWaits: each SQ register, flow and wait command as its effect on the state after its bundle has issued (R42, R44, R45, R54).
-/
namespace Sys2Proof.Machine

section
variable {s : State} {core : Fin 2000} {x : Ctx} {rs : List (Fin 16)}

/-! ## Register commands -/

/-- A command that writes one register at issue. -/
theorem offerSq_writes (h : s.issues core x rs) (op : SqOp) {rd : Fin 16} {v : Dword} (hhall : isHall op = false) (hres : sqReserved op = false)
    (hready : s.sqReady core x op = true) (hregs : ∀ r ∈ sqReads op ++ sqWrites op, r ∈ rs)
    (heffect : ∀ t : State, t.sqEffect core x (s.ctx core x) op = t.modCtx core x (fun c => c.setG rd v)) :
    ∃ t, offerSq core x op s = .next t ∧ s.sameButCore t core ∧ s.ctxBecomes t core x { s.nextCtx core x with g := (s.ctx core x).g.set rd v } :=
  offerSq_becomes h op _ hhall hres hready hregs ((heffect _).trans (s.modCtx_issued core x _ _))

theorem offerSq_alu {rd ra rb : Fin 16} (h : s.issues core x [ra, rb, rd]) (f : Alu) :
    ∃ t, offerSq core x (.alu f rd ra rb) s = .next t ∧ s.sameButCore t core ∧
      s.ctxBecomes t core x { s.nextCtx core x with g := (s.ctx core x).g.set rd (aluResult f ((s.ctx core x).g.get ra) ((s.ctx core x).g.get rb)) } :=
  offerSq_writes h (.alu f rd ra rb) rfl rfl rfl (by simp [sqReads, sqWrites]) fun _ => rfl

/-! ## Flow commands -/

/-- The context after a taken branch (R45): on at the target, with no issue in the next two cycles. -/
def State.jumped (s : State) (core : Nat) (k : Context) (target : BitVec 12) : Context :=
  { k with pc := target.setWidth 13, notBefore := (s.core core).cycles + 3 }

theorem State.modCtx_jump_issued (s : State) (core : Nat) (x : Ctx) (k : Context) (target : BitVec 12) :
    (s.issued core x k).modCtx core x (fun c => c.jump ((s.issued core x k).core core).cycles target) = s.issued core x (s.jumped core k target) := by
  rw [State.modCtx_issued, State.cycles_issued]
  rfl

/-- NOP in any bundle slot (R42). -/
theorem execNop_next {ra rb : Fin 16} (h : s.issues core x [ra, rb]) (slot : BundleSlot) :
    execNop core x slot 0 s = .next (s.issued core x (s.nextCtx core x)) := by
  have hnop : ∀ es, bundleFaults x (s.ctx core x).issueCfg (.ok .nop) es = [] → liveSlots es = [] →
      s.offer core x false (.ok .nop) es = s.issued core x (s.nextCtx core x) := by
    intro es hfaults hlive
    obtain ⟨-, -, -, -, hhold, -⟩ := id h
    have hcan : s.canIssue core x .nop es = true := by simp [State.canIssue, hhold, State.sqReady, Context.pending, sqReads, sqWrites, hlive, isHall]
    rw [State.offer_unfaulted h hfaults, if_pos hcan, State.issueNow, hlive, State.ctx_coreCycle]
    rfl
  cases slot <;> exact congrArg Host.Outcome.next (h.givesWay ▸ hnop _ rfl rfl)

theorem offerSq_jmp {ra rb : Fin 16} (h : s.issues core x [ra, rb]) (target : BitVec 12) :
    ∃ t, offerSq core x (.jmp target) s = .next t ∧ s.sameButCore t core ∧ s.ctxBecomes t core x (s.jumped core (s.nextCtx core x) target) :=
  offerSq_becomes h (.jmp target) _ rfl rfl rfl (by simp [sqReads, sqWrites]) (s.modCtx_jump_issued core x _ target)

/-- What each condition code that is not reserved compares (R54). -/
theorem brHolds_iff (a b : Dword) :
    (brHolds 0 a b = true ↔ a = b) ∧ (brHolds 1 a b = true ↔ ¬ a = b) ∧ (brHolds 2 a b = true ↔ a.toNat < b.toNat) ∧
    (brHolds 3 a b = true ↔ ¬ a.toNat < b.toNat) ∧ (brHolds 4 a b = true ↔ a.toInt < b.toInt) ∧ (brHolds 5 a b = true ↔ ¬ a.toInt < b.toInt) := by
  refine ⟨?_, ?_, ?_, ?_, ?_, ?_⟩ <;> simp [brHolds, BitVec.ult, BitVec.slt]

/-- A branch whose condition code is not reserved (R54). -/
theorem offerSq_br {ra rb : Fin 16} (h : s.issues core x [ra, rb]) {cond : BitVec 4} (hcond : cond.toNat ≤ 5) (target : BitVec 12) :
    ∃ t, offerSq core x (.br ra rb cond target) s = .next t ∧ s.sameButCore t core ∧
      s.ctxBecomes t core x (if brHolds cond ((s.ctx core x).g.get ra) ((s.ctx core x).g.get rb) = true then s.jumped core (s.nextCtx core x) target
        else s.nextCtx core x) := by
  refine offerSq_becomes h (.br ra rb cond target) _ rfl (decide_eq_false (by omega)) rfl (by simp [sqReads, sqWrites]) ?_
  simp only [State.sqEffect]
  split
  · exact s.modCtx_jump_issued core x _ target
  · rfl

theorem offerSq_dbnz {ra rb : Fin 16} (h : s.issues core x [ra, rb]) (target : BitVec 12) :
    let v := (s.ctx core x).g.get ra - 1
    let less := { s.nextCtx core x with g := (s.ctx core x).g.set ra v }
    ∃ t, offerSq core x (.dbnz ra target) s = .next t ∧ s.sameButCore t core ∧ s.ctxBecomes t core x (if v = 0 then less else s.jumped core less target) := by
  intro v less
  have hset : (s.issued core x (s.nextCtx core x)).modCtx core x (fun c => c.setG ra v) = s.issued core x less := s.modCtx_issued core x _ _
  refine offerSq_becomes h (.dbnz ra target) _ rfl rfl rfl (by simp [sqReads, sqWrites]) ?_
  simp only [State.sqEffect]
  rw [hset, s.cycles_issued]
  split
  · rfl
  · exact s.modCtx_issued core x less _

theorem offerSq_cwait {ra rb : Fin 16} (h : s.issues core x [ra, rb]) (n : Nat) :
    ∃ t, offerSq core x (.cwait n) s = .next t ∧ s.sameButCore t core ∧
      s.ctxBecomes t core x { s.nextCtx core x with notBefore := (s.core core).cycles + n } := by
  refine offerSq_becomes h (.cwait n) _ rfl rfl rfl (by simp [sqReads, sqWrites]) ?_
  simp only [State.sqEffect, State.cycles_issued, Nat.add_sub_cancel, State.modCtx_issued]

end

/-- Settles O12: a register command is `offerSq_writes`, a flow command its own lemma, and the branch conditions are read off `brHolds`. -/
theorem sequencerResults : Obligations.SequencerResults := by
  unfold Obligations.SequencerResults
  constructor
  case left =>
    intro s core x rd ra rb ctr imm h k writes
    have halu := fun f => offerSq_alu (rd := rd) (ra := ra) (rb := rb) h f
    refine ⟨halu .add, halu .sub, halu .and, halu .or, halu .xor, halu .shl, halu .shr, halu .mul, ?ldi, ?addi, ?rdctr⟩
    case ldi => exact offerSq_writes h (.ldi rd imm) rfl rfl rfl (by simp [sqReads, sqWrites]) fun _ => rfl
    case addi => exact offerSq_writes h (.addi rd ra imm) rfl rfl rfl (by simp [sqReads, sqWrites]) fun _ => rfl
    case rdctr => exact offerSq_writes h (.rdctr rd ctr) rfl rfl rfl (by simp [sqReads, sqWrites]) fun _ => rfl
  case right =>
    intro s core x ra rb cond target n slot h k now k1 goes jump a b less
    have hbr : ∀ (p : Prop) [Decidable p], cond.toNat ≤ 5 → (brHolds cond a b = true ↔ p) → goes (.br core x ra rb cond target) (if p then jump k1 else k1) :=
      fun p _ hcond hp => if_congr hp rfl rfl ▸ offerSq_br h hcond target
    have hbrNot : ∀ (p : Prop) [Decidable p], cond.toNat ≤ 5 → (brHolds cond a b = true ↔ ¬ p) → goes (.br core x ra rb cond target) (if p then k1 else jump k1) :=
      fun p _ hcond hp => ite_not p (jump k1) k1 ▸ hbr (¬ p) hcond hp
    obtain ⟨heq, hne, hult, huge, hslt, hsge⟩ := brHolds_iff a b
    refine ⟨⟨_, execNop_next h slot, s.sameButCore_issued core x _, s.ctxBecomes_issued core x _⟩, offerSq_jmp h target, ?eq, ?ne, ?ult, ?uge, ?slt, ?sge,
      offerSq_dbnz h target, offerSq_cwait h n.toNat⟩ <;> rintro rfl
    case eq => exact hbr _ (by decide) heq
    case ne => exact hbrNot _ (by decide) hne
    case ult => exact hbr _ (by decide) hult
    case uge => exact hbrNot _ (by decide) huge
    case slt => exact hbr _ (by decide) hslt
    case sge => exact hbrNot _ (by decide) hsge

/-! ## Waits, counters and the timebase (R49, R54, R408) -/

section
variable {s : State} {core : Fin 2000} {x : Ctx} {rs : List (Fin 16)}

/-- A command whose only effect is that the PC moves on: one whose wait is over. -/
theorem offerSq_passes (h : s.issues core x rs) (op : SqOp) (hhall : isHall op = false) (hres : sqReserved op = false) (hready : s.sqReady core x op = true)
    (hregs : ∀ r ∈ sqReads op ++ sqWrites op, r ∈ rs) (heffect : ∀ t : State, t.sqEffect core x (s.ctx core x) op = t) :
    ∃ t, offerSq core x op s = .next t ∧ s.sameButCore t core ∧ s.ctxBecomes t core x (s.nextCtx core x) :=
  offerSq_becomes h op _ hhall hres hready hregs (heffect _)

theorem offerSq_sig (h : s.issues core x rs) {ctr : Fin 32} (hbelow : ((s.ctx core x).ctr.get ctr).toNat < 2 ^ 64 - 1) :
    ∃ t, offerSq core x (.sig ctr) s = .next t ∧ s.sameButCore t core ∧
      s.ctxBecomes t core x { s.nextCtx core x with ctr := (s.ctx core x).ctr.set ctr ((s.ctx core x).ctr.get ctr + 1) } := by
  refine offerSq_becomes h (.sig ctr) _ rfl rfl rfl (by simp [sqReads, sqWrites]) ?_
  have hroom : ((s.issued core x (s.nextCtx core x)).ctx core x).ctr.get ctr ≠ BitVec.allOnes 64 := by
    rw [State.ctx_issued]
    intro hfull
    have hval : ((s.ctx core x).ctr.get ctr).toNat = 2 ^ 64 - 1 := (congrArg BitVec.toNat hfull).trans BitVec.toNat_allOnes
    omega
  exact (State.signal_below hroom).trans (s.modCtx_issued core x _ _)

/-- END of a context without work in hand makes it IDLE and sets its interrupt (R54, R75). -/
theorem offerSq_fin (h : s.issues core x rs) (hidle : s.ctxBusy core x = false) :
    offerSq core x .fin s = .next ((s.issued core x { s.nextCtx core x with mode := .idle }).irq .core core (if x = .d then 0 else 1)) := by
  rw [offerSq_effect h .fin rfl (by simp [State.sqReady, hidle]) (fun hh => nomatch hh) (by simp [sqReads, sqWrites])]
  simp only [State.sqEffect, State.modCtx_issued]
  cases x <;> rfl

/-- The replica never runs back, and shows at most 4 ns less than the timebase and never more (R408). -/
theorem State.replica_bounds (s : State) (last : Dword) :
    last.toNat ≤ (s.replica last).toNat ∧ (last.toNat ≤ s.timebase.toNat →
      (s.replica last).toNat ≤ s.timebase.toNat ∧ s.timebase.toNat ≤ (s.replica last).toNat + 4) := by
  have hlag : (BitVec.ofNat 64 (Config.replicaLag s.free % 5)).toNat ≤ 4 := by
    rw [BitVec.toNat_ofNat]
    omega
  unfold State.replica
  generalize BitVec.ofNat 64 (Config.replicaLag s.free % 5) = lag at hlag ⊢
  generalize s.timebase = now
  dsimp only
  split <;> split <;> bv_omega

theorem offerSq_rdtb {rd : Fin 16} (h : s.issues core x rs) (hrd : rd ∈ rs) :
    let v := s.replica (s.ctx core x).lastTb
    offerSq core x (.rdtb rd) s =
      .next { s.issued core x { s.nextCtx core x with g := (s.ctx core x).g.set rd v, lastTb := v } with free := s.free + 1 } := by
  rw [offerSq_effect h (.rdtb rd) rfl rfl (fun hh => nomatch hh) (by simp [sqReads, sqWrites, hrd])]
  simp only [State.sqEffect, State.modCtx_issued]
  rfl

/-- A command that is not ready does not issue: the cycle passes and the context stays as it was (R44). -/
theorem offerSq_stays (h : s.issues core x rs) {op : SqOp} (hres : sqReserved op = false) (hready : s.sqReady core x op = false) :
    ∃ t, offerSq core x op s = .next t ∧ s.sameButCore t core ∧ s.ctxBecomes t core x (s.ctx core x) :=
  ⟨_, offerSq_waits h hres hready, s.sameButCore_issued core x _, s.ctxBecomes_issued core x _⟩

end

/-- Settles O13: each command issues by its own lemma, and waits by `offerSq_stays`. -/
theorem sequencerWaits : Obligations.SequencerWaits := by
  unfold Obligations.SequencerWaits
  constructor
  case left =>
    intro s core x ra rd ctr h k k1 goes
    refine ⟨fun hidle => ?fence, fun hreached => ?wait, fun hreached => ?twait, offerSq_sig h, fun hidle => ?fin, ?rdtb⟩
    case fence => exact offerSq_passes h .fence rfl rfl (by simp [State.sqReady, hidle]) (by simp [sqReads, sqWrites]) fun _ => rfl
    case wait =>
      exact offerSq_passes h (.wait ra ctr) rfl rfl (decide_eq_true (BitVec.le_def.2 hreached)) (by simp [sqReads, sqWrites]) fun _ => rfl
    case twait => exact offerSq_passes h (.twait ra) rfl rfl (decide_eq_true (BitVec.le_def.2 hreached)) (by simp [sqReads, sqWrites]) fun _ => rfl
    case fin =>
      obtain ⟨-, hothers⟩ := s.sameButCore_issued core x { k1 with mode := .idle }
      refine ⟨_, offerSq_fin h hidle, rfl, hothers, s.ctxBecomes_issued core x _, ?_⟩
      cases x <;> rfl
    case rdtb =>
      obtain ⟨-, hothers⟩ := s.sameButCore_issued core x { k1 with g := k.g.set rd (s.replica k.lastTb), lastTb := s.replica k.lastTb }
      exact ⟨_, _, offerSq_rdtb h (by simp), rfl, hothers, s.ctxBecomes_issued core x _, s.replica_bounds k.lastTb⟩
  case right =>
    intro s core x ra ctr h k stays
    refine ⟨fun hshort => ?wait, fun hearly => ?twait, fun hbusy => ⟨?fence, ?fin⟩⟩
    case wait => exact offerSq_stays h (op := .wait ra ctr) rfl (decide_eq_false (BitVec.not_le.2 (BitVec.lt_def.2 hshort)))
    case twait => exact offerSq_stays h (op := .twait ra) rfl (decide_eq_false (BitVec.not_le.2 (BitVec.lt_def.2 hearly)))
    case fence => exact offerSq_stays h (op := .fence) rfl (by simp [State.sqReady, hbusy])
    case fin => exact offerSq_stays h (op := .fin) rfl (by simp [State.sqReady, hbusy])

end Sys2Proof.Machine
end

section
/-!
BundlesIssueWhole: a whole bundle's engine commands enter their queues (R42, R44, R45), and a reserved encoding halts its context (R42, R72, R73).
-/
namespace Sys2Proof.Machine

/-! ## Engine commands entering their queues (R45) -/

/-- A context after one bundle slot's engine command, none for a NOP. -/
def Context.taking (now : Dword) (k0 k : Context) (e : Engine × Nat) : Context := if opOf e.2 ≠ 0 then enqueue now k0 k e else k

/-- What a bundle slot's command adds to its engine's queue: a NOP nothing. -/
def captured (k : Context) (e : Engine × Nat) : List QEntry := if opOf e.2 = 0 then [] else [capture k e.1 e.2]

theorem foldl_liveSlots (now : Dword) (k0 k : Context) (es : List (Engine × Nat)) :
    (liveSlots es).foldl (fun a e => enqueue now k0 a e) k = es.foldl (Context.taking now k0) k := by
  simp only [liveSlots, List.foldl_filter, decide_eq_true_eq]
  rfl

section
variable (now : Dword) (k0 k : Context) (e : Engine × Nat)

theorem Context.taking_frame : (Context.taking now k0 k e).mode = k.mode ∧ (Context.taking now k0 k e).g = k.g ∧ (Context.taking now k0 k e).ctr = k.ctr := by
  unfold Context.taking
  split
  · obtain ⟨eng, cmd⟩ := e
    cases eng <;> exact ⟨rfl, rfl, rfl⟩
  · exact ⟨rfl, rfl, rfl⟩

theorem Context.queue_taking (eng : Engine) :
    (Context.taking now k0 k e).queue eng = k.queue eng ++ if eng = e.1 then captured k0 e else [] := by
  obtain ⟨eng', cmd⟩ := e
  unfold Context.taking captured
  by_cases hnop : opOf cmd = 0
  · simp [hnop]
  · cases eng <;> cases eng' <;> simp [hnop, enqueue, Context.queue]

end

/-- The context after a bundle's three engine commands: each is at the end of its queue, and the rest that the statement names is as it was. -/
theorem foldl_taking_bundle (now : Dword) (k : Context) (rm ve me : Nat) :
    let l := [(Engine.rm, rm), (.ve, ve), (.me, me)].foldl (Context.taking now k) k
    l.mode = k.mode ∧ l.g = k.g ∧ l.ctr = k.ctr ∧ l.qRm = k.qRm ++ captured k (.rm, rm) ∧ l.qVe = k.qVe ++ captured k (.ve, ve) ∧ l.qMe = k.qMe ++ captured k (.me, me) := by
  intro l
  have hqueue : ∀ eng, l.queue eng = ((k.queue eng ++ if eng = .rm then captured k (.rm, rm) else []) ++ if eng = .ve then captured k (.ve, ve) else []) ++
      if eng = .me then captured k (.me, me) else [] := by
    intro eng
    simp only [l, List.foldl, Context.queue_taking]
  obtain ⟨hm1, hg1, hc1⟩ := Context.taking_frame now k k (.rm, rm)
  obtain ⟨hm2, hg2, hc2⟩ := Context.taking_frame now k (Context.taking now k k (.rm, rm)) (.ve, ve)
  obtain ⟨hm3, hg3, hc3⟩ := Context.taking_frame now k (Context.taking now k (Context.taking now k k (.rm, rm)) (.ve, ve)) (.me, me)
  refine ⟨(hm3.trans hm2).trans hm1, (hg3.trans hg2).trans hg1, (hc3.trans hc2).trans hc1, ?_, ?_, ?_⟩
  · simpa [Context.queue] using hqueue .rm
  · simpa [Context.queue] using hqueue .ve
  · simpa [Context.queue] using hqueue .me

/-! ## The whole bundle -/

/-- A bundle whose words are good is fetched as it stands (R41, R42). -/
theorem State.fetch_clean {s : State} {core pc b : Nat} (h : s.instStore.get (instKey core (32 * pc) / 8) 4 = ⟨b, [], none⟩) : s.fetch core pc = (some b, s) := by
  simp [State.fetch, h]

/-- A good bundle without an SQ command which can issue issues with all its engine commands (R44, R45). -/
theorem execBundleIssue_issues {s : State} {core : Fin 2000} {x : Ctx} {b : Nat} (h : s.issues core x [])
    (hwords : s.instStore.get (instKey core (32 * (s.ctx core x).pc.toNat) / 8) 4 = ⟨b, [], none⟩) (hsq : bits b 0 64 = 0)
    (hfaults : bundleFaults x (s.ctx core x).issueCfg (.ok .nop) (bundleEngines b) = []) (hcan : s.canIssue core x .nop (bundleEngines b) = true) :
    execBundleIssue core x s = .next (s.issued core x { (bundleEngines b).foldl (Context.taking s.timebase (s.ctx core x)) (s.ctx core x) with
      pc := (s.ctx core x).pc + 1, sqSince := s.timebase }) := by
  obtain ⟨hon, hrun, hpc, -, -, -⟩ := id h
  have hnop : decodeSq (bits b 0 64) = .ok .nop := by
    rw [hsq]
    rfl
  have hgo : ¬ ((!s.coreOn core) = true ∨ (s.ctx core x).mode ≠ .run ∨ 4096 ≤ (s.ctx core x).pc.toNat ∨ s.givesWay core x = true) := by
    simp [hon, hrun, h.givesWay, hpc]
  rw [execBundleIssue]
  simp only [if_neg hgo, State.fetch_clean hwords, hnop]
  rw [State.offer_unfaulted h hfaults, if_pos hcan, State.issueNow, State.ctx_coreCycle, ← foldl_liveSlots]
  rfl

/-! ## A reserved encoding (R42, R72, R73) -/

theorem State.regs_issued (s : State) (core : Nat) (x : Ctx) (k : Context) : (s.issued core x k).regs = s.regs := rfl

theorem State.irq_issued_regs (s : State) (core : Nat) (x : Ctx) (k : Context) (t : PageType) (i bit : Nat) :
    ((s.issued core x k).irq t i bit).regs = (s.irq t i bit).regs := by
  simp only [State.irq, State.setFld, State.wr_regs, State.rdn, State.rd, State.regs_issued]

theorem State.cancelChains_none {s : State} {core : Nat} {x : Ctx} (h : (s.xe (core / 50)).chains = []) : s.cancelChains core x = s := by
  simp [State.cancelChains, h]

theorem State.irq_eq (s : State) (t : PageType) (i bit : Nat) : s.irq t i bit = { s with regs := (s.irq t i bit).regs } := rfl

/-- An interrupt after an issue is in the registers alone, which the issue left as they were. -/
theorem State.irq_issued (s : State) (core : Nat) (x : Ctx) (k : Context) (t : PageType) (i bit : Nat) :
    (s.issued core x k).irq t i bit = { s with cores := (s.issued core x k).cores, regs := (s.irq t i bit).regs } := by
  rw [State.irq_eq, State.irq_issued_regs]
  rfl

/-- A context halted by an exception (R73). -/
def Context.haltedFor (k : Context) (code pc slot : Nat) (multiple : Bool) : Context :=
  { k with mode := .halted, exc := ⟨BitVec.ofNat 8 code, BitVec.ofNat 12 pc, BitVec.ofNat 3 slot, multiple⟩, qMe := [], qVe := [], qRm := [] }

/-- An exception of a running context of a stack without chains: the context is HALTED, its queues are empty, its interrupt is set and the job fault reported. -/
theorem State.exception_running {s : State} {core : Nat} {x : Ctx} (hrun : (s.ctx core x).mode = .run) (hchains : (s.xe (core / 50)).chains = [])
    (code pc slot : Nat) (multiple : Bool) (status : Nat) :
    s.exception core x code pc slot multiple status =
      ((s.setCtx core x ((s.ctx core x).haltedFor code pc slot multiple)).irq .core core (if x = .d then 2 else 3)).excFault core code status := by
  have hgo : ¬ ((s.ctx core x).mode = .halted ∨ ((s.ctx core x).mode = .idle ∨ (s.ctx core x).mode = .parked) ∧ code ≠ 0x0A) := by simp [hrun]
  unfold State.exception
  dsimp only
  rw [if_neg hgo, State.cancelChains_none]
  · cases x <;> rfl
  · exact hchains

theorem State.excFault_reserved (s : State) (core : Nat) : s.excFault core 2 0 = s.jobFault 1 2 (0x40 + core / 50) core := by
  simp [State.excFault]

/-- What a reserved encoding leaves: the context halted for it, its interrupt and the job fault (R73, R513). -/
theorem offerSq_halts {s : State} {core : Fin 2000} {x : Ctx} (h : s.issues core x []) (hchains : (s.xe (core / 50)).chains = []) {op : SqOp}
    (hres : sqReserved op = true) :
    offerSq core x op s = .next { s with
      cores := (s.issued core x ((s.ctx core x).haltedFor 2 (s.ctx core x).pc.toNat 0 false)).cores
      regs := (s.irq .core core (if x = .d then 2 else 3)).regs
      faultsDue := s.faultsDue ++ [{ cls := 1, code := 2, die := BitVec.ofNat 8 (0x40 + core / 50), inst := core, t0 := s.now }] } := by
  obtain ⟨-, hrun, -, -, -, -⟩ := id h
  have hrun' : ((s.coreCycle core).ctx core x).mode = .run := by rw [State.ctx_coreCycle, hrun]
  rw [offerSq_reserved h op hres, State.exception_running hrun' hchains, State.ctx_coreCycle, ← State.issued, State.excFault_reserved, State.irq_issued]
  rfl

/-- Settles O15: the whole bundle by `execBundleIssue_issues`, each reserved encoding by `offerSq_halts`. -/
theorem bundlesIssueWhole : Obligations.BundlesIssueWhole := by
  unfold Obligations.BundlesIssueWhole
  constructor
  case left =>
    intro s core x b h k es new hwords hsq hfaults hcan
    obtain ⟨hmode, hg, hctr, hrm, hve, hme⟩ := foldl_taking_bundle s.timebase k (bits b 64 64) (bits b 128 64) (bits b 192 64)
    obtain ⟨-, hrun, -, -, -, -⟩ := id h
    exact ⟨_, _, execBundleIssue_issues h hwords hsq hfaults hcan, s.sameButCore_issued core x _, s.ctxBecomes_issued core x _, rfl, hg, hctr, hmode.trans hrun,
      hrm, hve, hme⟩
  case right =>
    intro s core x rd ra cond target h hchains k halts
    have hhalts : ∀ {c : Instr} (op : SqOp), exec c s = offerSq core x op s → sqReserved op = true → halts c := by
      intro c op hc hres
      refine ⟨_, hc.trans (offerSq_halts h hchains hres), ?context, ?frame, rfl⟩
      case context => exact s.ctxBecomes_issued core x (k.haltedFor 2 k.pc.toNat 0 false)
      case frame => cases x <;> rfl
    refine ⟨fun hodd => ⟨hhalts (.hld rd ra true) rfl ?_, hhalts (.hst rd ra true) rfl ?_⟩, fun hcond => hhalts (.br rd ra cond target) rfl (decide_eq_true hcond)⟩
    all_goals simp [sqReserved, hodd]

end Sys2Proof.Machine
end

section
/-!
HallAndPostCommands: hall operations take a remote tag and mark their destination pending (R45, R55, R330, R331); XPOST enters a chain (R179) and KINC sends an
increment (R348).
-/
namespace Sys2Proof.Machine

/-! ## Free keys of a table without a default -/

theorem sfind_sput_same {α : Type} (v : α) (k : Nat) : ∀ m : Sparse α, shas m k = false → sfind (sput m k v) k = some v
  | [], _ => by simp [sput, sfind]
  | (j, w) :: t, h => by
    obtain ⟨hj, ht⟩ : j ≠ k ∧ shas t k = false := by simpa [shas] using h
    unfold sput
    split
    · simp [sfind]
    · simp [sfind, hj, sfind_sput_same v k t ht]

theorem shas_of_sfreeFrom {α : Type} {m : Sparse α} {k : Nat} : ∀ (fuel i : Nat), sfreeFrom m i fuel = some k → shas m k = false
  | fuel + 1, i, h => by
    unfold sfreeFrom at h
    split at h
    · exact shas_of_sfreeFrom fuel (i + 1) h
    · next hfree =>
      cases h
      simpa using hfree

/-- The key that `sfree` gives is free. -/
theorem shas_of_sfree {α : Type} {m : Sparse α} {n k : Nat} (h : sfree m n = some k) : shas m k = false := shas_of_sfreeFrom n 0 h

/-! ## What leaves the cores and the remote tags of a stack alone -/

/-- The cores and the remote tags of stack `n` are in `t` as in `s`. -/
def State.tagsKept (s t : State) (n : Nat) : Prop := t.cores = s.cores ∧ (t.xe n).tags = (s.xe n).tags

theorem State.tagsKept.trans {s t u : State} {n : Nat} (h : s.tagsKept t n) (h' : t.tagsKept u n) : s.tagsKept u n :=
  ⟨h'.1.trans h.1, h'.2.trans h.2⟩

theorem State.tagsKept_of_xes {s t : State} (n : Nat) (hcores : t.cores = s.cores) (hxes : t.xes = s.xes) : s.tagsKept t n :=
  ⟨hcores, by rw [State.xe, hxes, State.xe]⟩

/-- An XE with a tag in use reads back. -/
theorem State.xe_setXe (s : State) (n : Nat) {e : Xe} (h : e.tags ≠ []) : (s.setXe n e).xe n = e :=
  sget_sset_same_ne _ _ _ fun he => h (congrArg Xe.tags he)

theorem State.tagsKept_setXe {s : State} {n : Nat} {e : Xe} (h : (s.xe n).tags ≠ []) (he : e.tags = (s.xe n).tags) : s.tagsKept (s.setXe n e) n :=
  ⟨rfl, by rw [s.xe_setXe n (he ▸ h), he]⟩

theorem State.tagsKept_bump (s : State) (n : Nat) (b : Prop) [Decidable b] (a lsb w v : Nat) : s.tagsKept (if b then s.bump a lsb w v else s) n := by
  split
  · exact s.tagsKept_of_xes n rfl rfl
  · exact s.tagsKept_of_xes n rfl rfl

section
variable {s : State} {n : Nat} (htags : (s.xe n).tags ≠ [])
include htags

theorem State.tagsKept_translate (jva : Nat) (write : Bool) : s.tagsKept (s.translate n jva write).2 n := by
  unfold State.translate
  split
  · exact s.tagsKept_of_xes n rfl rfl
  · split
    · dsimp only
      split <;> exact State.tagsKept_setXe htags rfl
    · split <;> exact s.tagsKept_of_xes n rfl rfl

theorem State.tagsKept_placeWalk (level entry : Nat) (cs : List (Client × Nat)) : s.tagsKept (s.placeWalk n level entry cs) n := by
  unfold State.placeWalk
  dsimp only
  split
  · exact State.tagsKept_setXe htags rfl
  · split
    · refine State.tagsKept.trans ?_ (State.tagsKept_bump _ n _ _ _ _ _)
      exact State.tagsKept_setXe htags rfl
    · exact State.tagsKept_setXe htags rfl

theorem State.tagsKept_joinWalk (c : Client) (jva : Nat) : s.tagsKept (s.joinWalk n c jva) n := by
  unfold State.joinWalk
  dsimp only
  split
  · exact State.tagsKept_setXe htags rfl
  · exact State.tagsKept_placeWalk htags _ _ _

theorem State.tagsKept_startWalk (c : Client) (jva : Nat) : s.tagsKept (s.startWalk n c jva) n := by
  have hcount := s.tagsKept_bump n (n < 40) (xeReg n 0x05C) 0 16 1
  exact hcount.trans (State.tagsKept_joinWalk (hcount.2 ▸ htags) c jva)

/-- A local hall operation that no fault refuses at once keeps its tag (R168). -/
theorem State.tagsKept_hallTranslate {tag : Nat} {u : TagUse} (hu : sfind (s.xe n).tags tag = some u)
    (hno : ∀ code, (s.translate n (bits u.addr.toNat 0 48) (decide (u.kind ≠ 0))).1 ≠ .fault code) : s.tagsKept (s.hallTranslate n tag) n := by
  have hx := State.tagsKept_translate htags (bits u.addr.toNat 0 48) (decide (u.kind ≠ 0))
  unfold State.hallTranslate
  rw [hu]
  dsimp only
  split
  next => exact hx.trans (State.tagsKept_of_xes n rfl rfl)
  next hfault => exact absurd hfault (hno _)
  next => exact hx.trans (State.tagsKept_startWalk (hx.2 ▸ htags) _ _)

end

theorem State.tagsKept_sendCell (s : State) (n : Nat) (c : CellBits) : s.tagsKept (s.sendCell c) n := by
  unfold State.sendCell
  split
  · exact s.tagsKept_of_xes n rfl rfl
  · split
    · exact s.tagsKept_of_xes n (by simp [State.dropCell]) (by simp [State.dropCell])
    · split
      · exact s.tagsKept_of_xes n (by simp [State.dropCell]) (by simp [State.dropCell])
      · exact s.tagsKept_of_xes n rfl rfl

theorem State.tagsKept_sendHall (n tag dst cls vc : Nat) (ms : List Msg) : ∀ s : State, s.tagsKept (s.sendHall n tag dst cls vc ms) n := by
  induction ms with
  | nil => exact fun s => s.tagsKept_of_xes n rfl rfl
  | cons m ms ih =>
    intro s
    have hemit : s.tagsKept (s.emit m) n := s.tagsKept_of_xes n rfl rfl
    cases m with
    | baseCell c => exact (hemit.trans (State.tagsKept_sendCell _ n _)).trans (ih _)
    | _ => exact hemit.trans (ih _)

/-! ## Issuing a hall operation (R55, R329) -/

/-- A context with the destination of a load or an atomic marked pending (R55). -/
def Context.awaiting (k : Context) (u : TagUse) : Context :=
  if u.kind = 1 then k else { k with pend := k.pend ||| BitVec.twoPow 16 u.rd.val ||| (if u.size then BitVec.twoPow 16 (u.rd.val + 1) else 0) }

/-- The state in which a hall operation has its tag and its destination is marked, before it is translated or sent. -/
def State.withTag (s : State) (core : Nat) (x : Ctx) (k : Context) (tag : Nat) (u : TagUse) : State :=
  (s.issued core x (k.awaiting u)).setXe (core / 50) { s.xe (core / 50) with tags := sput (s.xe (core / 50)).tags tag u }

section
variable {s : State} {core : Nat} {x : Ctx} {k : Context} {tag : Nat} {u : TagUse}

theorem sput_ne_nil {α : Type} (m : Sparse α) (k : Nat) (v : α) : sput m k v ≠ [] := by
  cases m with
  | nil => simp [sput]
  | cons e t =>
    unfold sput
    split
    · simp
    · split <;> simp

theorem State.xe_withTag (s : State) (core : Nat) (x : Ctx) (k : Context) (tag : Nat) (u : TagUse) :
    (s.withTag core x k tag u).xe (core / 50) = { s.xe (core / 50) with tags := sput (s.xe (core / 50)).tags tag u } :=
  State.xe_setXe _ _ (sput_ne_nil _ tag u)

theorem State.issueStatus_issued (a kind op : Nat) (size : Bool) : (s.issued core x k).issueStatus a kind op size = s.issueStatus a kind op size := by
  have hentry : ∀ r, (s.issued core x k).rankEntry r = s.rankEntry r := fun r => by simp only [State.rankEntry, State.rdn, State.rd, State.regs_issued]
  rw [State.issueStatus, hentry, State.issueStatus]

/-- What a unit's translation gives depends on its TLB and the registers alone. -/
theorem State.translate_withTag (hn : core / 50 < 40) (jva : Nat) (write : Bool) :
    ((s.withTag core x k tag u).translate (core / 50) jva write).1 = (s.translate (core / 50) jva write).1 := by
  have htlb : tlbFind ((s.withTag core x k tag u).xe (core / 50)) jva = tlbFind (s.xe (core / 50)) jva := by rw [State.xe_withTag, tlbFind, tlbFind]
  have hregs : (s.withTag core x k tag u).regs = s.regs := rfl
  have htable : (s.withTag core x k tag u).tableReg (core / 50) = s.tableReg (core / 50) := by
    simp only [State.tableReg, State.pagerOf, if_pos hn, State.rd64, State.rdn, State.rd, hregs]
  unfold State.translate
  rw [htlb, htable]
  split
  · rfl
  · split
    · dsimp only
      split <;> rfl
    · split <;> rfl

theorem State.modCtx_setXe (s : State) (n core : Nat) (e : Xe) (x : Ctx) (f : Context → Context) :
    (s.setXe n e).modCtx core x f = (s.modCtx core x f).setXe n e := rfl

/-- An accepted hall operation takes its tag, marks its destination, and is sent or translated. -/
theorem State.hallIssue_accepted (hx : u.ctx = x) (htag : sfree (s.xe (core / 50)).tags 2048 = some tag)
    (hstatus : s.issueStatus u.addr.toNat u.kind u.op u.size = 0) :
    ∃ dst cls ms, (s.issued core x k).hallIssue core u =
      if haGlobal u.addr.toNat then (s.withTag core x k tag u).sendHall (core / 50) tag dst cls 0 ms
      else (s.withTag core x k tag u).hallTranslate (core / 50) tag := by
  subst hx
  have hxe : (s.issued core u.ctx k).xe (core / 50) = s.xe (core / 50) := rfl
  have hmarked : ∀ e, (if u.kind = 1 then (s.issued core u.ctx k).setXe (core / 50) e
      else ((s.issued core u.ctx k).setXe (core / 50) e).modCtx core u.ctx (fun k =>
        { k with pend := k.pend ||| BitVec.twoPow 16 u.rd.val ||| (if u.size then BitVec.twoPow 16 (u.rd.val + 1) else 0) })) =
      (s.issued core u.ctx (k.awaiting u)).setXe (core / 50) e := by
    intro e
    rw [State.modCtx_setXe, State.modCtx_issued]
    unfold Context.awaiting
    split <;> rfl
  let e := (s.issued core u.ctx k).rankEntry (haRank u.addr.toNat)
  let cls := (s.issued core u.ctx k).classOf u.addr.toNat e
  refine ⟨bits e 0 12, cls, hallCells (core / 50) tag (niDie ((s.issued core u.ctx k).nextPort (bits e 0 12) cls)) u, ?_⟩
  unfold State.hallIssue
  dsimp only
  rw [State.issueStatus_issued, hstatus, if_neg (not_not_intro rfl), hxe, htag]
  dsimp only
  rw [hmarked]
  rfl

theorem State.hallIssue_takes (hn : core / 50 < 40) (hx : u.ctx = x) (htag : sfree (s.xe (core / 50)).tags 2048 = some tag)
    (hstatus : s.issueStatus u.addr.toNat u.kind u.op u.size = 0)
    (hno : haGlobal u.addr.toNat = false → ∀ code, (s.translate (core / 50) (bits u.addr.toNat 0 48) (decide (u.kind ≠ 0))).1 ≠ .fault code) :
    (s.withTag core x k tag u).tagsKept ((s.issued core x k).hallIssue core u) (core / 50) := by
  obtain ⟨dst, cls, ms, hissue⟩ := State.hallIssue_accepted (k := k) hx htag hstatus
  rw [hissue]
  split
  · exact State.tagsKept_sendHall _ _ _ _ _ _ _
  next hlocal =>
    have htags : ((s.withTag core x k tag u).xe (core / 50)).tags = sput (s.xe (core / 50)).tags tag u := by rw [State.xe_withTag]
    refine State.tagsKept_hallTranslate (u := u) (htags ▸ sput_ne_nil _ tag u) ?_ fun code => ?_
    · rw [htags]
      exact sfind_sput_same u tag _ (shas_of_sfree htag)
    · rw [State.translate_withTag hn]
      exact hno (Bool.eq_false_iff.2 hlocal) code

end

/-! ## The hall commands of the SQ (R55, R330, R331) -/

theorem State.sqEffect_hall (s : State) (core : Nat) (x : Ctx) (k : Context) {op : SqOp} (h : isHall op = true) :
    s.sqEffect core x k op = s.hallIssue core (hallUse k core x (BitVec.ofNat 12 k.pc.toNat) s.now op) := by
  cases op with
  | hld => rfl
  | hst => rfl
  | hat => rfl
  | _ => cases h

theorem hallUse_ctx (k : Context) (core : Nat) (x : Ctx) (pc : BitVec 12) (now : Nat) {op : SqOp} (h : isHall op = true) :
    (hallUse k core x pc now op).ctx = x := by
  cases op with
  | hld => rfl
  | hst => rfl
  | hat => rfl
  | _ => cases h

/-- A hall command whose issuer accepts it takes the least free tag, with the operation that its encoding names. -/
theorem offerSq_hall {s : State} {core : Fin 2000} {x : Ctx} {tag : Nat} (h : s.issues core x (List.finRange 16))
    (htag : sfree (s.xe (core / 50)).tags 2048 = some tag) (op : SqOp) (hhall : isHall op = true) (hres : sqReserved op = false) {u : TagUse}
    (hu : hallUse (s.ctx core x) core x (BitVec.ofNat 12 (s.ctx core x).pc.toNat) s.now op = u)
    (hstatus : s.issueStatus u.addr.toNat u.kind u.op u.size = 0)
    (hno : haGlobal u.addr.toNat = false → ∀ code, (s.translate (core / 50) (bits u.addr.toNat 0 48) (decide (u.kind ≠ 0))).1 ≠ .fault code) :
    ∃ t, offerSq core x op s = .next t ∧ s.ctxBecomes t core x ((s.nextCtx core x).awaiting u) ∧ sfind (t.xe (core / 50)).tags tag = some u := by
  subst hu
  have hready : s.sqReady core x op = true := by
    cases op with
    | hld => rfl
    | hst => rfl
    | hat => rfl
    | _ => cases hhall
  refine ⟨_, offerSq_effect h op hres hready (fun _ => by simp [State.tagFree, htag]) fun r _ => List.mem_finRange r, ?_⟩
  rw [State.sqEffect_hall _ _ _ _ hhall]
  obtain ⟨hcores, htags⟩ := State.hallIssue_takes (s := s) (k := s.nextCtx core x) (by omega) (hallUse_ctx _ _ x _ _ hhall) htag hstatus hno
  have hnow : (s.issued core x (s.nextCtx core x)).now = s.now := rfl
  rw [hnow]
  refine ⟨?_, ?_⟩
  · rw [State.ctxBecomes, State.core, hcores]
    exact s.ctxBecomes_issued core x _
  · rw [htags, State.xe_withTag]
    exact sfind_sput_same _ tag _ (shas_of_sfree htag)

/-! ## XPOST and KINC (R54, R179, R348) -/

/-- A context with fewer than eight chains enters another at the end of its stack's queue. -/
theorem State.xpost_enters {s : State} {core : Nat} {x : Ctx} (addr : Dword)
    (hroom : ((s.xe (core / 50)).chains.filter (fun c => decide (c.core = Fin.ofNat 50 core) && decide (c.ctx = x))).length < 8) :
    s.xpost core x addr = s.setXe (core / 50) { s.xe (core / 50) with
      chains := (s.xe (core / 50)).chains ++ [{ core := Fin.ofNat 50 core, ctx := x, seq := (s.xe (core / 50)).nextSeq, fetch := some addr }]
      nextSeq := (s.xe (core / 50)).nextSeq + 1 } := by
  have hroom' := Nat.not_le.2 hroom
  unfold State.xpost
  dsimp only
  rw [if_neg hroom']

/-- Settles O14: each hall command is `offerSq_hall` with the operands of its encoding; XPOST and KINC by their effect. -/
theorem hallAndPostCommands : Obligations.HallAndPostCommands := by
  unfold Obligations.HallAndPostCommands
  constructor
  case left =>
    intro s core x rd ra rb size tag h htag k k1 a base marked takes high atomic hrd
    have htakes : ∀ {c : Instr} (op : SqOp) {l : Context} {u : TagUse}, exec c s = offerSq core x op s → isHall op = true → sqReserved op = false →
        hallUse k core x (BitVec.ofNat 12 k.pc.toNat) s.now op = u → (u.addr = a ∧ u.size = size) → (s.nextCtx core x).awaiting u = l → takes c l u := by
      rintro c op l u hc hhall hres hu ⟨haddr, hsize⟩ rfl hstatus hno
      rw [hc]
      exact offerSq_hall h htag op hhall hres hu (haddr ▸ hsize ▸ hstatus) (haddr ▸ hno)
    have hpair : ∀ r : Fin 16, (size = true → r.val % 2 = 0) → (size && decide (r.val % 2 = 1)) = false := by
      intro r hr
      cases size
      · rfl
      · simp [hr rfl]
    refine ⟨?hld, ?hst, fun hrb => ?atomics, fun hrb => ?cas⟩
    case hld => exact htakes (.hld rd ra size) rfl rfl (hpair rd hrd) rfl ⟨rfl, rfl⟩ rfl
    case hst => exact htakes (.hst rd ra size) rfl rfl (hpair rd hrd) rfl ⟨rfl, rfl⟩ rfl
    case atomics =>
      have hres : ∀ op, op ≤ 5 → op ≠ 4 → sqReserved (.hat rd ra rb op size) = false := fun op hle hcas => by
        simp [sqReserved, hcas, hpair rd hrd, hpair rb hrb, Nat.not_lt.2 hle]
      exact ⟨htakes (.hat rd ra rb 0 size) rfl rfl (hres 0 (by decide) (by decide)) rfl ⟨rfl, rfl⟩ rfl,
        htakes (.hat rd ra rb 1 size) rfl rfl (hres 1 (by decide) (by decide)) rfl ⟨rfl, rfl⟩ rfl,
        htakes (.hat rd ra rb 2 size) rfl rfl (hres 2 (by decide) (by decide)) rfl ⟨rfl, rfl⟩ rfl,
        htakes (.hat rd ra rb 3 size) rfl rfl (hres 3 (by decide) (by decide)) rfl ⟨rfl, rfl⟩ rfl,
        htakes (.hat rd ra rb 5 size) rfl rfl (hres 5 (by decide) (by decide)) rfl ⟨rfl, rfl⟩ rfl⟩
    case cas =>
      have hres : sqReserved (.hat rd ra rb 4 size) = false := by
        simp only [sqReserved, hpair rd hrd]
        cases size
        · have heven : rb.val % 2 = 0 := hrb
          simp [heven]
        · have hfour : rb.val % 4 = 0 := hrb
          simp [hfour]
      refine htakes (.hat rd ra rb 4 size) rfl rfl hres ?_ ⟨rfl, rfl⟩ rfl
      cases size <;> rfl
  case right =>
    intro s core x ra kettle h k k1 e posted
    have heffect := fun op (hhall : isHall op = false) hres hready hregs =>
      offerSq_effect h op hres hready (fun hh => by simp [hhall] at hh) hregs
    refine ⟨fun hroom => ⟨_, heffect (.xpost ra) rfl rfl rfl (by simp [sqReads, sqWrites]), ?_⟩,
      ⟨_, heffect (.kinc kettle) rfl rfl rfl (by simp [sqReads, sqWrites]), s.ctxBecomes_issued core x _, rfl⟩⟩
    have hposted : (s.issued core x (s.nextCtx core x)).sqEffect core x (s.ctx core x) (.xpost ra) = (s.issued core x (s.nextCtx core x)).setXe (core / 50) posted :=
      State.xpost_enters (s := s.issued core x (s.nextCtx core x)) _ hroom
    rw [hposted]
    exact ⟨s.ctxBecomes_issued core x _, rfl⟩

end Sys2Proof.Machine
end

section
/-!
MatrixStorage and MatrixMultiply: each Matrix Engine command whose checks pass and whose lines are read without an error, by its body on the state in which the
engine has taken it (R56 to R62, R88 to R92, R97).
-/
namespace Sys2Proof.Machine

/-- A command at the head of its queue leaves the state that its work gives, on the state in which its engine has taken it (R47). -/
theorem exec_of_body {s t : State} {core : Nat} {x : Ctx} {eng : Engine} {op : Nat} {q : QEntry} {body : State → QEntry → Option Nat × State} {c : Instr}
    (hexec : exec c s = .next (s.startEngine core x eng op body)) (hhead : s.engineHead core x eng op = some q)
    (hbody : body (s.takenUp core x eng q) q = (none, t)) : exec c s = .next t :=
  hexec.trans (congrArg Host.Outcome.next (State.startEngine_done hhead hbody))

section
variable {s : State} {core : Nat} {x : Ctx} {q : QEntry}

/-! ## MCFG, MLCB, MLD and MST (R56, R58 to R60, R62, R97) -/

/-- The configuration that an MCFG names (R56). -/
def mcfgOf (q : QEntry) : MeCfg :=
  ⟨BitVec.ofNat 4 (q.cmd.toNat / 2 ^ 36), BitVec.ofNat 4 (q.cmd.toNat / 2 ^ 32), BitVec.ofNat 2 (q.cmd.toNat / 2 ^ 30)⟩

theorem mcfgBody_legal (h : (mcfgOf q).legal = true) : mcfgBody core x s q = (none, s.modCtx core x (fun k => { k with cfg := some (mcfgOf q) })) :=
  if_pos h

theorem mlcbBody_clean {d : Nat} (hcheck : s.lineCheck core x false [(bits q.cmd.toNat 26 14, 1)] [] = none)
    (hline : s.coreBuf.get (bufKey core (64 * bits q.cmd.toNat 26 14) / 8) 8 = ⟨d, [], none⟩) :
    mlcbBody core x s q = (none, s.modCtx core x (fun k => { k with cbk := Vector.ofFn (fun i : Fin 64 =>
      if i.val / 16 = bits q.cmd.toNat 24 2 then BitVec.ofNat 16 (bits d (16 * (i.val % 16)) 16) else k.cbk.get i) })) := by
  simp only [mlcbBody, hcheck, State.bufRead_clean hline]

/-- The 2,048 elements of 32 bits of a stored accumulator (R62). -/
def accWords (d : Nat) : List (Nat × Word) := (List.range 2048).map (fun i => (i, BitVec.ofNat 32 (bits d (32 * i) 32)))

theorem mldBody_clean {c : MeCfg} {d : Nat} (hcfg : (s.ctx core x).cfg = some c)
    (hcheck : s.lineCheck core x false [(bits q.cmd.toNat 26 14, 128)] [] = none)
    (hlines : s.coreBuf.get (bufKey core (64 * bits q.cmd.toNat 26 14) / 8) 1024 = ⟨d, [], none⟩) :
    mldBody core x s q = (none, (s.modCtx core x (fun k =>
      (k.accSet (bits q.cmd.toNat 24 2) (accWords d)).tagSet (bits q.cmd.toNat 24 2) c.tag)).numFlags core x
        (if c.tag = .fp32 ∧ ∃ w ∈ accWords d, isNanF32 w.2 = true then Flag.nanOut else 0)) := by
  have hnan : (decide (c.tag = .fp32) && (accWords d).any (fun w => isNanF32 w.2)) = true ↔ c.tag = .fp32 ∧ ∃ w ∈ accWords d, isNanF32 w.2 = true := by
    rw [Bool.and_eq_true, decide_eq_true_eq, List.any_eq_true]
  simp only [mldBody, hcfg, reduceCtorEq, if_false, hcheck, State.bufRead_clean hlines]
  exact congrArg (fun f => (none, State.numFlags _ core x f)) (if_congr hnan rfl rfl)

/-- What MST writes for one element, with its flags (R97). -/
def mstElem (fmt : Nat) (float : Prop) [Decidable float] (w : Word) : Nat × Flags :=
  if fmt = 15 then (w.toNat, if float ∧ isNanF32 w then Flag.nanOut else 0) else convertElem fmt w

theorem mstBody_stores {v line a fmt : Nat} (hv : v = q.cmd.toNat) (hline : line = bits v 26 14) (ha : a = bits v 24 2) (hfmt : fmt = bits v 20 4)
    (hcheck : s.lineCheck core x false [(line, 32 * outSize fmt)] [] = none)
    (hpair : (s.ctx core x).tag.toList.getD a .invalid = .fp32 ∧ fmt ∈ [15, 7, 2, 3] ∨ (s.ctx core x).tag.toList.getD a .invalid = .int32 ∧ fmt = 15) :
    let outs := (List.range 2048).map (fun i => mstElem fmt ((s.ctx core x).tag.toList.getD a .invalid = .fp32) ((s.ctx core x).accGet a i))
    let stored := s.bufWrite core (64 * line) (packNat (8 * outSize fmt) (outs.map Prod.fst)) (2048 * outSize fmt)
    mstBody core x s q = (none, (if bitOf v 19 then stored.modCtx core x (fun k => k.accSet a []) else stored).numFlags core x
      (outs.foldl (fun f r => f ||| r.2) 0)) := by
  subst hv hline ha hfmt
  obtain ⟨htag, hmem⟩ | ⟨htag, hword⟩ := hpair
  · have hok : (bits q.cmd.toNat 20 4 = 15 ∨ bits q.cmd.toNat 20 4 = 7 ∨ bits q.cmd.toNat 20 4 = 2 ∨ bits q.cmd.toNat 20 4 = 3) := by simpa using hmem
    simp only [mstBody, htag, hok, decide_true, if_true, accLines, hcheck, mstElem]
  · simp only [mstBody, htag, hword, decide_true, if_true, accLines, mstElem] at hcheck ⊢
    simp only [hcheck]

end

/-- Settles O16: each command by its body, on the state in which the Matrix Engine has taken it. -/
theorem matrixStorage : Obligations.MatrixStorage := by
  unfold Obligations.MatrixStorage
  constructor
  case left =>
    intro s core x q d v u c line book loaded
    refine ⟨fun hhead hlegal => ?mcfg, fun hhead hcheck hline => ?mlcb⟩
    case mcfg => exact exec_of_body (exec_mcfg s) hhead (mcfgBody_legal hlegal)
    case mlcb => exact exec_of_body (exec_mlcb s) hhead (mlcbBody_clean hcheck hline)
  case right =>
    intro s core x q c d v u k line a fmt words float outs size stored
    refine ⟨fun hhead hcfg hcheck hlines => ?mld, fun hhead hcheck hpair => ?mst⟩
    case mld =>
      have hbody := mldBody_clean (s := u) (q := q) hcfg hcheck hlines
      exact exec_of_body (exec_mld s) hhead hbody
    case mst =>
      have hchecked : u.lineCheck core x false [(line, 32 * outSize fmt)] [] = none := hcheck
      have hbody := mstBody_stores (s := u) (q := q) (v := v) (line := line) (a := a) (fmt := fmt) rfl rfl rfl rfl hchecked hpair
      exact exec_of_body (exec_mst s) hhead hbody

/-! ## MMA (R58, R88 to R92) -/

/-- The order of the blocks that the model takes is a permutation of them, whatever list it is given (R89). -/
theorem blockOrderOf_perm (l : List Nat) (n : Nat) : (blockOrderOf l n).Perm (List.range n) := by
  unfold blockOrderOf
  split
  next h =>
    obtain ⟨hlen, hall⟩ := h
    have hsub : List.range n ⊆ l := fun i hi => List.contains_iff_mem.1 (List.all_eq_true.1 hall i hi)
    refine ((List.subperm_of_subset List.nodup_range hsub).perm_of_length_le ?_).symm
    rw [List.length_range, hlen]
  next => exact List.Perm.refl _

section
variable {s : State} {core : Nat} {x : Ctx} {q : QEntry}

/-- An MMA whose operands are read without an error adds its blocks' products to each element (R88, R89, R92). -/
theorem mmaBody_clean {c : MeCfg} {da db v nb a na nbl : Nat} (hv : v = q.cmd.toNat) (hnb : nb = bits v 4 8 + 1) (ha : a = bits v 2 2)
    (hna : na = nb * blockLines c.aFmt.toNat 32) (hnbl : nbl = nb * blockLines c.bFmt.toNat 64) (hcfg : (s.ctx core x).cfg = some c)
    (htag : bitOf v 1 = true ∨ (s.ctx core x).tag.toList.getD a .invalid = c.tag)
    (hcheck : s.lineCheck core x false [(bits v 26 14, na), (bits v 12 14, nbl)] [] = none)
    (hra : s.coreBuf.get (bufKey core (64 * bits v 26 14) / 8) (8 * na) = ⟨da, [], none⟩)
    (hrb : s.coreBuf.get (bufKey core (64 * bits v 12 14) / 8) (8 * nbl) = ⟨db, [], none⟩) :
    let order := blockOrderOf (Config.blockOrder (s.die (0x40 + core / 50)).rev.toNat q.cmd) nb
    let res := (List.range 2048).map (fun i => (i, if c.tag = .int32 then mmaInt da db (i / 64) (i % 64) (if bitOf v 1 then 0 else (s.ctx core x).accGet a i) nb
      else mmaFloat c ((s.ctx core x).codebook c.cb) da db (i / 64) (i % 64) (if bitOf v 1 then 0 else (s.ctx core x).accGet a i) order))
    mmaBody core x s q = (none, (s.modCtx core x (fun k => (k.accSet a (res.map (fun r => (r.1, r.2.1)))).tagSet a c.tag)).numFlags core x
      (res.foldl (fun f r => f ||| r.2.2) 0)) := by
  subst hv hna hnbl hnb ha
  have hformat : mmaFormat (s.ctx core x) c (bits q.cmd.toNat 2 2) (bitOf q.cmd.toNat 1) = [] := if_pos htag
  simp only [mmaBody, hcfg, hformat, hcheck, State.bufRead_clean hra, State.bufRead_clean hrb]

end

/-- Settles O17: by `mmaBody_clean`, with the model's order of the blocks. -/
theorem matrixMultiply : Obligations.MatrixMultiply := by
  unfold Obligations.MatrixMultiply
  intro s core x q c da db v u k nb a na nbl old hhead hcfg htag hcheck hra hrb
  exact ⟨_, _, blockOrderOf_perm _ nb, rfl, exec_of_body (exec_mma s) hhead (mmaBody_clean rfl rfl rfl rfl rfl hcfg htag hcheck hra hrb)⟩

end Sys2Proof.Machine
end

section
/-!
VectorElementwise and VectorSelect: each Vector Engine command whose checks pass and whose sources are read without an error, by its body on the state in which
the engine has taken it (R67 to R70, R85, R99 to R103, R106).
-/
namespace Sys2Proof.Machine

section
variable {s : State} {core : Nat} {x : Ctx} {q : QEntry} {da db dd : Nat}

/-! ## The element-wise commands (R67, R85, R99 to R103) -/

/-- The beats of a VE operand in the core buffer are `d`, without an error. -/
def State.beatsGood (s : State) (core line n d : Nat) : Prop := s.coreBuf.get (bufKey core (64 * line) / 8) (32 * n) = ⟨d, [], none⟩

/-- A command writes the element results `rs` over its destination's beats, with their flags. -/
def State.veWrites (s : State) (core : Nat) (x : Ctx) (c : VeCmd) (rs : List (Nat × Flags)) : State :=
  (s.bufWrite core (64 * c.d) (packNat (veBits c.fmt) (rs.map Prod.fst)) (256 * c.n)).numFlags core x (rs.foldl (fun f r => f ||| r.2) 0)

/-- Element `i` of an element-wise command's result, from its operands' data. -/
def elementResult (rev : Nat) (c : VeCmd) (da db dd i : Nat) : Nat × Flags :=
  let r := veElementOp rev c.op (BitVec.ofNat 32 c.raw2.toNat) (veElem c.fmt da i) (veElem c.fmt db i) (veElem c.fmt dd i)
  if veCopies c.op ∧ c.fmt = 7 then (r.1.toNat / 65536, r.2) else veStore c.fmt r

/-- An element-wise command whose operands are read without an error writes all its elements; an operand that it does not have counts as 0. -/
theorem elementBody_clean {c : VeCmd} (hc : c = veCmd q) (hfmt : c.fmt = 15 ∨ c.fmt = 7)
    (hcheck : s.lineCheck core x true ([(c.a, 4 * c.n)] ++ (if veBinary c.op then [(c.b, 4 * c.n)] else []) ++ [(c.d, 4 * c.n)]) [] = none)
    (ha : s.beatsGood core c.a c.n da) (hb : if veBinary c.op then s.beatsGood core c.b c.n db else db = 0)
    (hd : if c.op = 0x85 then s.beatsGood core c.d c.n dd else dd = 0) :
    elementBody core x s q = (none, s.veWrites core x c
      ((List.range (c.n * beatElems c.fmt)).map (elementResult (s.die (0x40 + core / 50)).rev.toNat c da db dd))) := by
  subst hc
  have hrb : (if veBinary (veCmd q).op then s.bufRead core (64 * (veCmd q).b) (32 * (veCmd q).n) else (⟨0, [], none⟩, s)) = (⟨db, [], none⟩, s) := by
    split at hb
    next hbin => rw [if_pos hbin, State.bufRead_clean hb]
    next hbin => rw [if_neg hbin, hb]
  have hrd : (if (veCmd q).op = 0x85 then s.bufRead core (64 * (veCmd q).d) (32 * (veCmd q).n) else (⟨0, [], none⟩, s)) = (⟨dd, [], none⟩, s) := by
    split at hd
    next hfma => rw [if_pos hfma, State.bufRead_clean hd]
    next hfma => rw [if_neg hfma, hd]
  simp only [elementBody, if_pos hfmt, hcheck, State.bufRead_clean ha, hrb, hrd, goodBeats, min_self, if_true]
  rfl

end

section
variable {s : State} {core : Nat} {x : Ctx} {q : QEntry} {da db dd : Nat} {op : Nat} {cmd : Instr}

/-- A command whose body is that of the element-wise commands, at the head of its queue, by what it writes. -/
theorem exec_element (hexec : exec cmd s = .next (s.startEngine core x .ve op (elementBody core x))) (hhead : s.engineHead core x .ve op = some q)
    (hfmt : (veCmd q).fmt = 15 ∨ (veCmd q).fmt = 7)
    (hcheck : s.lineCheck core x true ([((veCmd q).a, 4 * (veCmd q).n)] ++ (if veBinary op then [((veCmd q).b, 4 * (veCmd q).n)] else []) ++
      [((veCmd q).d, 4 * (veCmd q).n)]) [] = none)
    (ha : s.beatsGood core (veCmd q).a (veCmd q).n da) (hb : if veBinary op then s.beatsGood core (veCmd q).b (veCmd q).n db else db = 0)
    (hd : if op = 0x85 then s.beatsGood core (veCmd q).d (veCmd q).n dd else dd = 0) {f : Nat → Nat × Flags}
    (hf : ∀ i, elementResult (s.die (0x40 + core / 50)).rev.toNat (veCmd q) da db dd i = f i) :
    exec cmd s = .next ((s.takenUp core x .ve q).veWrites core x (veCmd q) ((List.range ((veCmd q).n * beatElems (veCmd q).fmt)).map f)) := by
  have hop : (veCmd q).op = op := State.opOf_engineHead hhead
  rw [← funext hf]
  subst hop
  exact exec_of_body hexec hhead (elementBody_clean (s := s.takenUp core x .ve q) rfl hfmt hcheck ha hb hd)

/-- The result of a command that does not copy is stored in its format (R100). -/
theorem elementResult_stored {rev i : Nat} {c : VeCmd} (hop : c.op = op) (hcopies : veCopies op = false) {r : Word × Flags}
    (hr : veElementOp rev op (BitVec.ofNat 32 c.raw2.toNat) (veElem c.fmt da i) (veElem c.fmt db i) (veElem c.fmt dd i) = r) :
    elementResult rev c da db dd i = veStore c.fmt r := by
  simp only [elementResult, hop, hr, hcopies, Bool.false_eq_true, false_and, if_false]

/-- The result of a command that copies is the word, or in BF16 its high half (R85). -/
theorem elementResult_copied {rev i : Nat} {c : VeCmd} (hop : c.op = op) (hcopies : veCopies op = true) {r : Word × Flags}
    (hr : veElementOp rev op (BitVec.ofNat 32 c.raw2.toNat) (veElem c.fmt da i) (veElem c.fmt db i) (veElem c.fmt dd i) = r) :
    elementResult rev c da db dd i = if c.fmt = 7 then (r.1.toNat / 65536, r.2) else (r.1.toNat, r.2) := by
  simp only [elementResult, hop, hr, hcopies, true_and]
  split
  · rfl
  next hfp32 => simp only [veStore, hfp32, if_false]

end

/-- Settles O18: `exec_element` for each command, with one operand or with two, stored or copied. -/
theorem vectorElementwise : Obligations.VectorElementwise := by
  unfold Obligations.VectorElementwise
  intro s core x q da db dd c len u rev sc writes each elem copied good one copy two
  have hop : ∀ {op}, s.engineHead core x .ve op = some q → c.op = op := State.opOf_engineHead
  have hone : ∀ (op : Nat) (cmd : Instr) (f : Word → Word × Flags), exec cmd s = .next (s.startEngine core x .ve op (elementBody core x)) →
      veBinary op = false → op ≠ 0x85 → veCopies op = false → (∀ a b d, veElementOp rev op sc a b d = f a) → one op cmd f := by
    intro op cmd f hexec hbin hfma hcopies hf hhead hfmt hcheck ha
    exact exec_element (db := 0) (dd := 0) hexec hhead hfmt (by rw [hbin]; exact hcheck) ha (by simp [hbin]) (by simp [hfma]) fun i =>
      elementResult_stored (hop hhead) hcopies (hf _ _ _)
  have hcopy : ∀ (op : Nat) (cmd : Instr) (f : Word → Word), exec cmd s = .next (s.startEngine core x .ve op (elementBody core x)) →
      veBinary op = false → op ≠ 0x85 → veCopies op = true → (∀ a b d, veElementOp rev op sc a b d = markNan (f a)) → copy op cmd f := by
    intro op cmd f hexec hbin hfma hcopies hf hhead hfmt hcheck ha
    exact exec_element (db := 0) (dd := 0) hexec hhead hfmt (by rw [hbin]; exact hcheck) ha (by simp [hbin]) (by simp [hfma]) fun i =>
      elementResult_copied (hop hhead) hcopies (hf _ _ _)
  have htwo : ∀ (op : Nat) (cmd : Instr) (f : Word → Word → Word × Flags), exec cmd s = .next (s.startEngine core x .ve op (elementBody core x)) →
      veBinary op = true → op ≠ 0x85 → veCopies op = false → (∀ a b d, veElementOp rev op sc a b d = f a b) → two op cmd f := by
    intro op cmd f hexec hbin hfma hcopies hf hhead hfmt hcheck ha hb
    exact exec_element (dd := 0) hexec hhead hfmt (by rw [hbin]; exact hcheck) ha (by rw [hbin]; exact hb) (by simp [hfma]) fun i =>
      elementResult_stored (hop hhead) hcopies (hf _ _ _)
  refine ⟨?add, ?sub, ?mul, ?max, ?min, ?fma, ?smul, ?sadd, ?exp2, ?log2, ?rcp, ?rsqrt, ?abs, ?neg, ?mov⟩
  case add => exact htwo 0x80 (.vadd core x) addF32 (exec_vadd s) rfl (by decide) rfl fun _ _ _ => rfl
  case sub => exact htwo 0x81 (.vsub core x) subF32 (exec_vsub s) rfl (by decide) rfl fun _ _ _ => rfl
  case mul => exact htwo 0x82 (.vmul core x) mulF32 (exec_vmul s) rfl (by decide) rfl fun _ _ _ => rfl
  case max => exact htwo 0x83 (.vmax core x) maxF32 (exec_vmax s) rfl (by decide) rfl fun _ _ _ => rfl
  case min => exact htwo 0x84 (.vmin core x) minF32 (exec_vmin s) rfl (by decide) rfl fun _ _ _ => rfl
  case fma =>
    intro hhead hfmt hcheck ha hb hd
    have hbin : veBinary 0x85 = true := rfl
    have hf : ∀ a b d, veElementOp rev 0x85 sc a b d = fmaF32 a b d := fun _ _ _ => rfl
    exact exec_element (db := db) (dd := dd) (exec_vfma s) hhead hfmt (by rw [hbin]; exact hcheck) ha (by rw [hbin]; exact hb)
      (by rw [if_pos rfl]; exact hd) fun i => elementResult_stored (hop hhead) rfl (hf _ _ _)
  case smul => exact hone 0x86 (.vsmul core x) (fun a => mulF32 a sc) (exec_vsmul s) rfl (by decide) rfl fun _ _ _ => rfl
  case sadd => exact hone 0x87 (.vsadd core x) (fun a => addF32 a sc) (exec_vsadd s) rfl (by decide) rfl fun _ _ _ => rfl
  case exp2 => exact hone 0x88 (.vexp2 core x) (specialF32 rev 0x88) (exec_vexp2 s) rfl (by decide) rfl fun _ _ _ => rfl
  case log2 => exact hone 0x89 (.vlog2 core x) (specialF32 rev 0x89) (exec_vlog2 s) rfl (by decide) rfl fun _ _ _ => rfl
  case rcp => exact hone 0x8A (.vrcp core x) (specialF32 rev 0x8A) (exec_vrcp s) rfl (by decide) rfl fun _ _ _ => rfl
  case rsqrt => exact hone 0x8B (.vrsqrt core x) (specialF32 rev 0x8B) (exec_vrsqrt s) rfl (by decide) rfl fun _ _ _ => rfl
  case abs => exact hcopy 0x8C (.vabs core x) (fun a => a &&& 0x7FFFFFFF#32) (exec_vabs s) rfl (by decide) rfl fun _ _ _ => rfl
  case neg => exact hcopy 0x8D (.vneg core x) (fun a => a ^^^ 0x80000000#32) (exec_vneg s) rfl (by decide) rfl fun _ _ _ => rfl
  case mov => exact hcopy 0x8E (.vmov core x) (fun a => a) (exec_vmov s) rfl (by decide) rfl fun _ _ _ => rfl

/-! ## VTOPK, VSAMP and VRNG (R68 to R70, R106) -/

section
variable {s : State} {core : Nat} {x : Ctx} {q : QEntry} {da dp k : Nat} {c : VeCmd}

/-- The record that VTOPK writes for one that it kept, or for none, with its flags (R68, R106). -/
def topkRecord : Option (Word × Nat) → Nat × Flags
  | some r => if isNanF32 r.1 then (nanF32.toNat + 2 ^ 32 * r.2, Flag.nanOut) else (r.1.toNat + 2 ^ 32 * r.2, 0)
  | none => (nanF32.toNat + 2 ^ 32 * 0xFFFFFFFF, Flag.nanOut)

theorem vtopkBody_clean (hc : c = veCmd q) (hk : k = c.aux % 256 + 1) (hfmt : c.fmt = 15)
    (hcheck : s.lineCheck core x true [(c.a, 4 * c.n), (c.d, linesFor (8 * k))] [] = none) (ha : s.beatsGood core c.a c.n da) :
    let best := topk k ((List.range (64 * c.n)).map (fun i => (veElem 15 da i, i)))
    let recs := (List.range k).map (fun i => topkRecord best[i]?)
    vtopkBody core x s q = (none, (s.bufWrite core (64 * c.d) (packNat 64 (recs.map Prod.fst)) (8 * k)).numFlags core x (recs.foldl (fun f r => f ||| r.2) 0)) := by
  subst hk hc
  simp only [vtopkBody, if_pos hfmt, hcheck, State.bufRead_clean ha]
  rfl

theorem vsampBody_clean (hc : c = veCmd q) (hk : k = c.aux % 256 + 1) (hfmt : c.fmt = 15 ∨ c.fmt = 7)
    (hcheck : s.lineCheck core x true [(c.a, linesFor (8 * k)), (c.b, 1), (c.d, 1)] [] = none)
    (ha : s.coreBuf.get (bufKey core (64 * c.a) / 8) k = ⟨da, [], none⟩) (hp : s.coreBuf.get (bufKey core (64 * c.b) / 8) 2 = ⟨dp, [], none⟩) :
    let given := (List.range k).map (fun i => (BitVec.ofNat 32 (bits da (64 * i) 32), bits da (64 * i + 32) 32))
    let pick := vsamp (s.die (0x40 + core / 50)).rev.toNat given (BitVec.ofNat 32 dp) (BitVec.ofNat 32 (dp / 2 ^ 32)) (BitVec.ofNat 32 (dp / 2 ^ 64))
    vsampBody core x s q = (none, (s.bufWrite core (64 * c.d) (pick.1 + 2 ^ 32 * pick.2.1.toNat) 8).numFlags core x pick.2.2) := by
  subst hk hc
  simp only [vsampBody, if_pos hfmt, hcheck, State.bufRead_clean ha, State.bufRead_clean hp]

theorem vrngBody_clean (hc : c = veCmd q) (hfmt : c.fmt = 15) (hcheck : s.lineCheck core x true [(c.d, 4 * c.n)] [] = none) :
    vrngBody core x s q = (none, s.bufWrite core (64 * c.d)
      (packNat 32 ((List.range (64 * c.n)).map (fun e => (vrng (s.rd64 (coreReg core 0x068)) (c.raw1 &&& 0xFF) c.raw2 e).toNat))) (256 * c.n)) := by
  subst hc
  simp only [vrngBody, if_pos hfmt, hcheck]

end

/-- Settles O20: each command by its body. -/
theorem vectorSelect : Obligations.VectorSelect := by
  unfold Obligations.VectorSelect
  intro s core x q da dp c u k best record recs given pick
  refine ⟨fun hhead hfmt hcheck ha => ?topk, fun hhead hfmt hcheck ha hp => ?samp, fun hhead hfmt hcheck => ?rng⟩
  case topk =>
    have hrecord : record = fun i => topkRecord best[i]? := by
      funext i
      simp only [record]
      cases best[i]? <;> rfl
    have hbody := vtopkBody_clean (s := u) (core := core) (x := x) (q := q) (c := c) (k := k) rfl rfl hfmt hcheck ha
    simp only [recs, hrecord]
    exact exec_of_body (exec_vtopk s) hhead hbody
  case samp =>
    have hbody := vsampBody_clean (s := u) (core := core) (x := x) (q := q) (c := c) (k := k) rfl rfl hfmt hcheck ha hp
    exact exec_of_body (exec_vsamp s) hhead hbody
  case rng =>
    have hbody := vrngBody_clean (s := u) (core := core) (x := x) (q := q) (c := c) rfl hfmt hcheck
    exact exec_of_body (exec_vrng s) hhead hbody

end Sys2Proof.Machine
end

section
/-!
ContextActions: what an action of CTX_CMD does from the states in which R75 lists it, what its write of a context's register does (R78), and how a wait, an
abort and a parking end (R53, R75, R195).
-/
namespace Sys2Proof.Machine

section
variable {s : State} {core : Nat} {x : Ctx}

/-! ## The actions, from the states in which they are listed (R49, R75, R78) -/

/-- The bundle address at which an IDLE context starts (R75). -/
def State.startPc (s : State) (core : Nat) (x : Ctx) : Nat := s.fld (coreReg core 0x050) (if x = .d then 0 else 16) 12

theorem State.startCtx_idle (hidle : (s.ctx core x).mode = .idle) (hon : s.coreOn core = true) :
    s.startCtx core x = (s.resetOver core).setCtx core x { s.ctx core x with
      mode := .run, pc := BitVec.ofNat 13 (s.startPc core x), qMe := [], qVe := [], qRm := [], cfg := none, issueCfg := none,
      tag := Vector.replicate 4 .invalid, exc := {}, notBefore := 0, sqSince := s.timebase } := by
  have hgo : ¬ ((s.ctx core x).mode ≠ .idle ∨ (!s.coreOn core) = true) := by simp [hidle, hon]
  unfold State.startCtx
  dsimp only
  rw [if_neg hgo]
  cases x <;> rfl

theorem State.abortD_running (hrun : (s.ctx core .d).mode = .run) :
    s.abortD core =
      ((s.setCtx core .d { s.ctx core .d with mode := .drainAbort, qMe := [], qVe := [], qRm := [], pend := 0 }).dropHall core .d).cancelChains core .d :=
  if_neg (not_not_intro hrun)

theorem State.clearCtrs_idle (hd : (s.ctx core .d).mode = .idle) (hp : (s.ctx core .p).mode = .idle) :
    s.clearCtrs core = s.setCore core { s.core core with
      d := { s.ctx core .d with ctr := Vector.replicate 32 0 }, p := { s.ctx core .p with ctr := Vector.replicate 32 0 } } :=
  if_pos ⟨hd, hp⟩

theorem State.setBanks_apart {d p : Byte} (h : d &&& p = 0) :
    s.setBanks core d.toNat p.toNat = s.wr (coreReg core 0x044) (BitVec.ofNat 32 (d.toNat + 256 * p.toNat)) := by
  have happart : d.toNat &&& p.toNat = 0 := (BitVec.toNat_and d p).symm.trans (congrArg BitVec.toNat h)
  exact if_neg (not_not_intro happart)

theorem State.writeG_idle (hidle : (s.ctx core x).mode = .idle) (r : Fin 16) (v : Dword) :
    s.writeG core x r v = s.setCtx core x { s.ctx core x with g := (s.ctx core x).g.set r v } := if_pos hidle

/-! ## Pre-emption and resumption of P (R75, R192, R194, R195) -/

/-- A running P whose pre-emption begins: it issues no more, its save area is held, and its chains are suspended. -/
def State.preempting (s : State) (core : Nat) : State :=
  (s.setCtx core .p { s.ctx core .p with mode := .drainPark, saveAt := s.saveBase core }).suspendChains core

theorem State.preemptP_saves (hrun : (s.ctx core .p).mode = .run) (hsave : (s.preempting core).saveFault core = none) :
    s.preemptP core = (s.preempting core).writeSave core := by
  unfold State.preemptP
  dsimp only
  rw [if_neg (not_not_intro hrun)]
  simp only [State.preempting] at hsave ⊢
  rw [hsave]

theorem State.resumeP_restores {lo hi : Nat} (hparked : (s.ctx core .p).mode = .parked) (hon : s.coreOn core = true) (hsave : s.saveFault core = none)
    (hlo : s.coreBuf.get (bufKey core (64 * s.saveBase core) / 8) 128 = ⟨lo, [], none⟩)
    (hhi : s.coreBuf.get (bufKey core (64 * s.saveBase core + 1024) / 8) 4096 = ⟨hi, [], none⟩) (hheader : badHeader lo = false) :
    s.resumeP core = (s.setCtx core .p (restore (s.ctx core .p) lo hi s.timebase)).resumeChains core := by
  simp [State.resumeP, hparked, hon, hsave, State.bufRead_clean hlo, State.bufRead_clean hhi, hheader]

end

/-! ## The ends of a wait, an abort and a parking (R53, R73, R75, R195) -/

theorem Context.measures_of {k : Context} {slot : BundleSlot} (h : k.mode = .run ∨ (k.mode = .drainPark ∧ slot ≠ .sq)) : k.measures slot = true := by
  obtain hrun | ⟨hdrain, hslot⟩ := h
  · simp [Context.measures, hrun]
  · simp [Context.measures, hdrain, hslot]

section
variable {s : State} {core : Fin 2000}

/-- A wait that has stood for the time-out raises WAIT_TMO (R53). -/
theorem execWaitTmo_raises {x : Ctx} {slot : BundleSlot} {since pc : Nat} (hmeasures : (s.ctx core x).measures slot = true)
    (hon : (s.rd64 (coreReg core 0x060)).toNat ≠ 0) (hopen : s.openWait core x slot = some (since, pc))
    (hpast : since + (s.rd64 (coreReg core 0x060)).toNat ≤ s.now) :
    execWaitTmo core x slot s = .next (s.exception core x 0x0B pc (slotNo slot) false 0) := by
  have hlater : since + (s.rd64 (coreReg core 0x060)).toNat < s.now + 1 := Nat.lt_succ_of_le hpast
  unfold execWaitTmo
  dsimp only
  rw [if_neg (by simp [hmeasures, hon]), hopen]
  exact if_pos hlater

theorem State.answerLate_none (h : s.lateReads = []) : s.answerLate = s := by
  rw [State.answerLate, h, List.foldl_nil]
  cases s
  cases h
  rfl

/-- The end of D's abort while P runs: D is IDLE and its interrupt is set (R75). -/
theorem execAbortDrainComplete_running (hd : (s.ctx core .d).mode = .drainAbort) (hbusy : s.engineBusy core .d = false) (hp : (s.ctx core .p).mode = .run)
    (hlate : s.lateReads = []) :
    execAbortDrainComplete core s = .next ((s.setCtx core .d { s.ctx core .d with mode := .idle }).irq .core core 5) := by
  set t := (s.setCtx core .d { s.ctx core .d with mode := .idle }).irq .core core 5 with ht
  have hdrained : s.drained core .d = t := if_pos ⟨hd, by simp [hbusy]⟩
  have hne : (s.core core).setCtx .d { s.ctx core .d with mode := .idle } ≠ {} := by
    intro h
    have hmode : (s.ctx core .p).mode = .idle := congrArg (fun c : Core => c.p.mode) h
    cases hmode.symm.trans hp
  have hcore : t.core core = (s.core core).setCtx .d { s.ctx core .d with mode := .idle } := s.core_setCore core hne
  have hrun : (t.ctx core .p).mode = .run := by
    rw [State.ctx, hcore]
    exact hp
  have hkept : t.drained core .p = t := if_neg fun h => by cases h.1.symm.trans hrun
  have hreset : t.resetOver core = t := if_neg fun h => by cases h.2.symm.trans hrun
  have hnone : t.answerLate = t := State.answerLate_none hlate
  rw [execAbortDrainComplete, hdrained, hkept, hreset, hnone]

theorem State.parkDone_parks (hdrain : (s.ctx core .p).mode = .drainPark) (hbusy : s.engineBusy core .p = false) (hhall : s.hallOps core .p = []) :
    s.parkDone core = ((s.bufWrite core (64 * (s.ctx core .p).saveAt + 64) (packNat 64 ((s.ctx core .p).g.toList.map BitVec.toNat)) 128).setCtx core .p
      { s.ctx core .p with mode := .parked }).irq .core core 4 :=
  if_pos ⟨hdrain, by simp [hbusy], by simp [hhall]⟩

end

/-- Settles O22: the write of an action takes effect (`State.busDo_taken`), and each action is its own lemma. -/
theorem contextActions : Obligations.ContextActions := by
  unfold Obligations.ContextActions
  have htaken : ∀ {s : State} {ini : Initiator} {ep : BitVec 8} {core : Fin 2000} {off : Nat} {f : State → State} {t : State} {c : Instr}, off < 4096 →
      s.takes ini ep .core core off → exec c s = .next (s.busDo ini ep .core core off f) → f s = t → exec c s = .next (t.answer ini 0) := by
    rintro s ini ep core off f t c hoff ⟨herror, hholder⟩ hexec rfl
    rw [hexec, State.busDo_taken f core.isLt hoff herror hholder]
  refine ⟨?actions, ?preemption, ?ends⟩
  case actions =>
    intro s ini ep core x reg v dBanks pBanks does started aborted zero
    refine ⟨fun htakes => ⟨fun hidle hon => ?dStart, fun hidle hon => ?pStart, fun hrun => ?dAbort, fun hd hp => ?clear⟩, fun htakes happart => ?banks,
      fun htakes hidle => ?register⟩
    case dStart => exact htaken (by decide) htakes (exec_dStart s) (State.startCtx_idle hidle hon)
    case pStart => exact htaken (by decide) htakes (exec_pStart s) (State.startCtx_idle hidle hon)
    case dAbort => exact htaken (by decide) htakes (exec_dAbort s) (State.abortD_running hrun)
    case clear => exact htaken (by decide) htakes (exec_clearCtr s) (State.clearCtrs_idle hd hp)
    case banks => exact htaken (by decide) htakes (exec_ctxBanksWrite s) (State.setBanks_apart happart)
    case register =>
      refine htaken ?_ htakes (exec_gRegisterWrite s) (State.writeG_idle hidle reg v)
      cases x <;> simp only <;> omega
  case preemption =>
    intro s ini ep core lo hi htakes hsave stopped base
    refine ⟨fun hrun hstopped => ?preempt, fun hparked hon hlo hhi hheader => ?resume⟩
    case preempt => exact htaken (by decide) htakes (exec_pPreempt s) (State.preemptP_saves hrun hstopped)
    case resume => exact htaken (by decide) htakes (exec_pResume s) (State.resumeP_restores hparked hon hsave hlo hhi hheader)
  case ends =>
    intro s core x slot since pc tmo
    refine ⟨fun hmode hon hopen hpast => ?timeout, fun hd hbusy hp hlate => ?abort, fun hdrain hbusy hhall => ?park⟩
    case timeout => exact (exec_waitTmo s).trans (execWaitTmo_raises (Context.measures_of hmode) hon hopen hpast)
    case abort => exact ⟨_, (exec_abortDrainComplete s).trans (execAbortDrainComplete_running hd hbusy hp hlate), rfl, rfl⟩
    case park => exact (exec_parkComplete s).trans (congrArg (fun t : State => Host.Outcome.next t.afterCommit) (State.parkDone_parks hdrain hbusy hhall))

end Sys2Proof.Machine
end

section
/-!
VectorConvertReduce: VCVT, VRSUM and VRMAX whose checks pass and whose source is read without an error, each by its body on the state in which the Vector Engine
has taken it (R67, R93 to R98, R104, R105).
-/
namespace Sys2Proof.Machine

section
variable {s : State} {core : Nat} {x : Ctx} {q : QEntry} {c : VeCmd} {da : Nat}

/-! ## VCVT (R93 to R98) -/

section
variable {t n : Nat}

/-- A VCVT to a format without scales converts every element by itself (R93 to R96). -/
theorem vcvtBody_plain (hc : c = veCmd q) (ht : t = c.aux % 16) (hn : n = c.n * beatElems c.fmt) (hfmt : c.fmt = 15 ∨ c.fmt = 7)
    (hcb4 : t ≠ 8) (hcb3 : t ≠ 9) (hmx : isMx t = false)
    (hcheck : s.lineCheck core x true [(c.a, 4 * c.n), (c.d, linesFor (targetBytes t n))] [] = none) (ha : s.beatsGood core c.a c.n da) :
    let plain := ((List.range n).map (fun i => veElem c.fmt da i)).map (convertElem t)
    let width := if t = 15 then 32 else if t = 7 then 16 else if t = 0 then 4 else 8
    vcvtBody core x s q = (none, (s.bufWrite core (64 * c.d) (packNat width (plain.map Prod.fst)) (targetBytes t n)).numFlags core x
      (plain.foldl (fun f r => f ||| r.2) 0)) := by
  subst hn ht hc
  simp only [vcvtBody, hmx, if_pos (And.intro hfmt (And.intro hcb4 hcb3)), Bool.false_eq_true, if_false, List.cons_append,
    List.nil_append, hcheck, State.bufRead_clean ha, goodBeats, if_true]

/-- A VCVT to an MX format converts its elements in blocks of 32, and writes the scale of each apart from its elements (R98). -/
theorem vcvtBody_mx (hc : c = veCmd q) (ht : t = c.aux % 16) (hn : n = c.n * beatElems c.fmt) (hfmt : c.fmt = 15 ∨ c.fmt = 7)
    (hcb4 : t ≠ 8) (hcb3 : t ≠ 9) (hmx : isMx t = true)
    (hcheck : s.lineCheck core x true [(c.a, 4 * c.n), (c.d, linesFor (targetBytes t n)), (c.b, linesFor (n / 32))] [] = none)
    (ha : s.beatsGood core c.a c.n da) :
    let blocks := (chunksOf 32 n ((List.range n).map (fun i => veElem c.fmt da i))).map (convertMx t)
    vcvtBody core x s q = (none, ((s.bufWrite core (64 * c.d) (packNat (if t = 1 then 4 else 8) (blocks.flatMap (fun b => b.2.1)))
      (targetBytes t n)).bufWrite core (64 * c.b) (packNat 8 (blocks.map Prod.fst)) (n / 32)).numFlags core x (blocks.foldl (fun f b => f ||| b.2.2) 0)) := by
  subst hn ht hc
  simp only [vcvtBody, hmx, if_pos (And.intro hfmt (And.intro hcb4 hcb3)), if_true, List.cons_append, List.nil_append, hcheck,
    State.bufRead_clean ha, goodBeats]

end

/-! ## VRSUM and VRMAX (R104, R105) -/

/-- What VRSUM, or VRMAX, gives for segment `g` of beat data `d`, with its flags; a NaN sum is the canonical one (R87, R104, R105). -/
def segmentResult (sum : Bool) (c : VeCmd) (d g : Nat) : Word × Flags :=
  if sum then
    let r := segmentSum c.fmt d (g * (c.aux + 1)) (c.aux + 1)
    if isNanF32 r.1 then (nanF32, r.2 ||| Flag.nanOut) else r
  else segmentMax c.fmt d (g * (c.aux + 1)) (c.aux + 1)

/-- A reduction whose source is read without an error writes one FP32 for each segment (R67). -/
theorem reduceBody_clean {segs : Nat} (sum : Bool) (hc : c = veCmd q) (hsegs : segs = c.n / (c.aux + 1)) (hfmt : c.fmt = 15 ∨ c.fmt = 7)
    (hcheck : s.lineCheck core x true [(c.a, 4 * c.n), (c.d, linesFor (4 * segs))] [] = none) (ha : s.beatsGood core c.a c.n da) :
    let rs := (List.range segs).map (segmentResult sum c da)
    reduceBody core x sum s q = (none, (s.bufWrite core (64 * c.d) (packNat 32 (rs.map (fun r => r.1.toNat))) (4 * segs)).numFlags core x
      (rs.foldl (fun f r => f ||| r.2) 0)) := by
  subst hsegs hc
  simp only [reduceBody, if_pos hfmt, hcheck, State.bufRead_clean ha, goodBeats, if_true]
  rfl

end

/-- Settles O19: VCVT by its body without scales or in MX blocks, VRSUM and VRMAX by the body that they share. -/
theorem vectorConvertReduce : Obligations.VectorConvertReduce := by
  unfold Obligations.VectorConvertReduce
  constructor
  case left =>
    intro s core x q da c u t n ws plain blocks width hhead hfmt hcb4 hcb3 ha
    refine ⟨fun hmx hcheck => ?plain, fun hmx hcheck => ?mx⟩
    case plain => exact exec_of_body (exec_vcvt s) hhead (vcvtBody_plain (s := u) rfl rfl rfl hfmt hcb4 hcb3 hmx hcheck ha)
    case mx => exact exec_of_body (exec_vcvt s) hhead (vcvtBody_mx (s := u) rfl rfl rfl hfmt hcb4 hcb3 hmx hcheck ha)
  case right =>
    intro s core x q da c u b segs writes hfmt hcheck ha
    refine ⟨fun hhead => ?sum, fun hhead => ?max⟩
    case sum => exact exec_of_body (exec_vrsum s) hhead (reduceBody_clean (s := u) true rfl rfl hfmt hcheck ha)
    case max => exact exec_of_body (exec_vrmax s) hhead (reduceBody_clean (s := u) false rfl rfl hfmt hcheck ha)

end Sys2Proof.Machine
end

section
/-!
The row port of a stack (R113, R116 to R118, R125): which requests a bank may grant, which of them its priorities choose, and the statement RowPortGrants.
-/
namespace Sys2Proof.Machine

/-! ## Choosing by the least key, and reading a bank's cycle -/

/-- Of a list that is not empty an element is chosen. -/
theorem exists_minBy_of_ne_nil {α : Type} {key : α → Nat} : ∀ {l : List α}, l ≠ [] → ∃ m, minBy key l = some m ∧ m ∈ l
  | [], h => absurd rfl h
  | [x], _ => ⟨x, rfl, List.mem_cons_self⟩
  | x :: z :: t, _ => by
    obtain ⟨m, hm, hmem⟩ := exists_minBy_of_ne_nil (key := key) (List.cons_ne_nil z t)
    by_cases hlt : key m < key x
    · exact ⟨m, by rw [minBy, hm]; exact if_pos hlt, List.mem_cons_of_mem _ hmem⟩
    · exact ⟨x, by rw [minBy, hm]; exact if_neg hlt, List.mem_cons_self⟩

theorem getD_toList_eq_get {α : Type} {n : Nat} (v : Vector α n) (i : Fin n) (d : α) : v.toList.getD i d = v.get i := by
  simp [List.getD, Vector.get]

section
variable {s : State} {n bank : Nat}

/-! ## The requests that a bank may grant (R113, R117) -/

/-- The requests of class `c` queued at a bank that it may grant: a read only with an entry of the landing buffer free. -/
def State.grantable (s : State) (n bank : Nat) (c : RowClass) : List RowReq :=
  ((s.stk n).reqs.filter (fun r => decide (r.row % 32 = bank) && (r.write || decide (s.landed n bank < 2)))).filter (fun r => decide (s.rowClass n r = c))

theorem State.mem_grantable {c : RowClass} {r : RowReq} :
    r ∈ s.grantable n bank c ↔ r ∈ (s.stk n).reqs ∧ r.row % 32 = bank ∧ (r.write = true ∨ s.landed n bank < 2) ∧ s.rowClass n r = c := by
  simp [State.grantable, and_assoc, and_comm]

/-- The request of class `c` that a bank may grant before the others of its class: the cores take turns, the XE's and the scrub's come in order (R117). -/
def State.firstOf (s : State) (n bank : Nat) : RowClass → Option RowReq
  | .d => nextOfCores ((s.stk n).lastD.toList.getD bank 49).val (s.grantable n bank .d)
  | .p => nextOfCores ((s.stk n).lastP.toList.getD bank 49).val (s.grantable n bank .p)
  | .xe => (s.grantable n bank .xe).head?
  | .s => (s.grantable n bank .s).head?

theorem State.exists_firstOf {c : RowClass} (h : s.grantable n bank c ≠ []) : ∃ g, s.firstOf n bank c = some g ∧ g ∈ s.grantable n bank c := by
  cases c with
  | d | p => exact exists_minBy_of_ne_nil h
  | xe | s => exact ⟨_, List.head?_eq_some_head h, List.head_mem h⟩

theorem State.firstOf_nil {c : RowClass} (h : s.grantable n bank c = []) : s.firstOf n bank c = none := by
  cases c <;> simp [State.firstOf, h, nextOfCores, minBy]

/-- A bank takes class S where its first request has waited 4,096 cycles, else it goes by class, the XE first on every fourth cycle (R117). -/
theorem State.rowPick_eq : s.rowPick n bank =
    if (s.firstOf n bank .s).any (fun r => decide (r.born + 4096 ≤ (s.stk n).bankCycle.toList.getD bank 0)) then s.firstOf n bank .s
    else if (s.stk n).bankCycle.toList.getD bank 0 % 4 = 0 then
      s.firstOf n bank .xe <|> s.firstOf n bank .d <|> s.firstOf n bank .p <|> s.firstOf n bank .s
    else s.firstOf n bank .d <|> s.firstOf n bank .xe <|> s.firstOf n bank .p <|> s.firstOf n bank .s := by
  unfold State.rowPick
  have hfirst : (s.grantable n bank .s).head? = s.firstOf n bank .s := rfl
  simp only [← State.grantable.eq_def, hfirst]
  cases s.firstOf n bank .s with
  | none | some r => simp [State.firstOf]

theorem State.rowPick_none (h : ∀ c, s.grantable n bank c = []) : s.rowPick n bank = none := by
  simp [State.rowPick_eq, State.firstOf_nil (h _)]

theorem State.rowPick_of_no_late (h : ∀ r ∈ s.grantable n bank .s, (s.stk n).bankCycle.toList.getD bank 0 < r.born + 4096) :
    s.rowPick n bank =
      if (s.stk n).bankCycle.toList.getD bank 0 % 4 = 0 then
        s.firstOf n bank .xe <|> s.firstOf n bank .d <|> s.firstOf n bank .p <|> s.firstOf n bank .s
      else s.firstOf n bank .d <|> s.firstOf n bank .xe <|> s.firstOf n bank .p <|> s.firstOf n bank .s := by
  rw [State.rowPick_eq, if_neg]
  intro hlate
  obtain ⟨r, hr, hborn⟩ := (Option.any_eq_true _ _).1 hlate
  exact Nat.not_lt.2 (of_decide_eq_true hborn) (h r (List.mem_of_mem_head? hr))

end

/-! ## One cycle of a bank (R118, R125) -/

theorem execRowGrant_none {s : State} {stack : Fin 40} {bank : Fin 32} (hon : s.stackOn stack = true) (h : s.rowPick stack bank = none) :
    execRowGrant stack bank s = .next (s.setStk stack
      { s.stk stack with bankCycle := (s.stk stack).bankCycle.set bank ((s.stk stack).bankCycle.get bank + 1) }) := by
  simp [execRowGrant, hon, h]

/-- Settles O23: a cycle by what the bank chooses, and the choice by the requests that it may grant. -/
theorem rowPortGrants : Obligations.RowPortGrants := by
  unfold Obligations.RowPortGrants
  constructor
  case left =>
    intro s stack bank r hon k cls served
    constructor
    case left => intro hpick; simp [execRowGrant, hon, hpick, served, cls, k]
    case right =>
      intro hidle
      refine execRowGrant_none hon (State.rowPick_none fun c => List.eq_nil_iff_forall_not_mem.2 fun q hq => ?_)
      obtain ⟨hmem, hbank, hroom, -⟩ := State.mem_grantable.1 hq
      rcases hidle with hother | ⟨hfull, hreads⟩
      · exact hother q hmem hbank
      · exact hroom.elim (Bool.eq_false_iff.1 (hreads q hmem hbank)) (Nat.not_lt.2 hfull)
  case right =>
    intro s stack bank r k cyc hmem hbank hroom hyoung
    have hcyc : (s.stk stack).bankCycle.toList.getD bank 0 = cyc := getD_toList_eq_get _ _ _
    have hpick := State.rowPick_of_no_late (s := s) (n := stack) (bank := bank) fun q hq => by
      obtain ⟨hq, -, -, hclass⟩ := State.mem_grantable.1 hq
      exact hcyc ▸ hyoung q hq hclass
    rw [hcyc] at hpick
    have hgrants : ∀ {c : RowClass}, s.rowClass stack r = c → (∀ g, s.firstOf stack bank c = some g → s.rowPick stack bank = some g) →
        ∃ g, s.rowPick stack bank = some g ∧ g ∈ k.reqs ∧ g.row % 32 = bank.val ∧ s.rowClass stack g = c := fun hclass hfirst =>
      have ⟨g, hg, hgrantable⟩ := State.exists_firstOf (List.ne_nil_of_mem (State.mem_grantable.2 ⟨hmem, hbank, hroom, hclass⟩))
      have ⟨hqueued, hat, _, hof⟩ := State.mem_grantable.1 hgrantable
      ⟨g, hfirst g hg, hqueued, hat, hof⟩
    constructor
    case left => exact fun hslot hclass => hgrants hclass fun g hg => by rw [hpick, if_neg hslot, hg]; rfl
    case right => exact fun hslot hclass => hgrants hclass fun g hg => by rw [hpick, if_pos hslot, hg]; rfl

end Sys2Proof.Machine
end

section
/-!
The upkeep of a stack's rows and bonds (R110, R111, R119 to R129): the scrub, spare rows, failed bonds and their repair, half-row mode, and the statement
RowMaintenance.
-/
namespace Sys2Proof.Machine

/-! ## Reading a stack after writing one -/

section
variable {s t : State} {n : Nat} {k : Stack}

theorem State.stk_of_setStk_ne (h : t.stks = (s.setStk n k).stks) {m : Nat} (hm : m ≠ n) : t.stk m = s.stk m := by
  rw [State.stk, h]
  exact sget_sset_ne _ _ _ _ hm

theorem State.stk_of_setStk_same (hwf : swf (fun _ => ({} : Stack)) s.stks = true) (h : t.stks = (s.setStk n k).stks) : t.stk n = k := by
  rw [State.stk, h]
  exact sget_sset_same (fun _ => ({} : Stack)) hwf n k

/-- A stack that is not as at reset reads back at once, in any table. -/
theorem State.stk_of_setStk (hk : k ≠ {}) (h : t.stks = (s.setStk n k).stks) : t.stk n = k := by
  rw [State.stk, h]
  exact sget_sset_same_ne _ _ _ hk

end

/-! ## The scrub and the spare rows (R110, R111) -/

theorem execRowScrub_presents {s : State} {stack : Fin 40} (hon : s.stackOn stack = true) (henabled : s.fld (rowsReg stack 0x05C) 0 1 = 1) :
    let k := s.stk stack
    execRowScrub stack s = .next (s.setStk stack
      { k with scrubNext := (k.scrubNext + 1) % 2097152,
               reqs := k.reqs ++ [{ use := .scrub, row := k.scrubNext, write := false, born := k.bankCycle.toList.getD (k.scrubNext % 32) 0 }] }) := by
  simp [execRowScrub, hon, henabled]

section
variable {s : State} {stack : Fin 40} {bank : Fin 32} {row : BitVec 16} {a : Nat}

/-- A stack that is no longer to remap row `a`. -/
def Stack.remapped (k : Stack) (a : Nat) : Stack := { k with remapDue := k.remapDue.filter (fun r => decide (r ≠ a)) }

theorem execSpareRowRemap_due (ha : a = bank.val + 32 * row.toNat) (hphase : s.jobPhase = 0) (hdue : a ∈ (s.stk stack).remapDue) :
    let left := s.setStk stack ((s.stk stack).remapped a)
    let copied : State := { left with rowStore := s.rowStore.fix (s.rowStore.get (rowWord stack a) 64).fixed }
    let k := copied.stk stack
    execSpareRowRemap stack bank row s = .next (if 64 ≤ s.sparesUsed stack bank then left.retireNow stack
      else (copied.setStk stack { k with spareRows := smod 0 k.spareRows bank (· + 1), ceHist := k.ceHist.filter (fun e => decide (e.1 / 4608 ≠ a)) }).amend
        0x04 false (stack * 2 ^ 21 + a) (s.sparesUsed stack bank)) := by
  subst ha
  rw [execSpareRowRemap, if_neg (by simp [hphase, hdue])]
  split <;> rfl

end

/-! ## Failed bonds (R119, R120, R122, R123) -/

section
variable {s : State} {n : Nat} {b : Bond}

/-- A stack with one more failed bond, whose corrected words are counted no more. -/
def Stack.declared (k : Stack) (b : Bond) : Stack :=
  { k with busHist := serase k.busHist (b.grp * 64 + b.pos), bondFailed := k.bondFailed ++ [b] }

/-- A bond is declared failed: logged, with its interrupt. -/
def State.declareBond (s : State) (n : Nat) (b : Bond) : State :=
  ((s.latchLog (rowsReg n 0x04C) (bondLog b)).irq .rows n 0).setStk n ((s.stk n).declared b)

theorem State.stk_declareBond : (s.declareBond n b).stk n = (s.stk n).declared b :=
  State.stk_of_setStk (fun h => List.append_ne_nil_of_right_ne_nil _ (List.cons_ne_nil b []) (congrArg Stack.bondFailed h)) rfl

theorem Stack.often_iff {k : Stack} : k.often b = true ↔ 16 ≤ (sget [] k.busHist (b.grp * 64 + b.pos)).length ∧
    (sget [] k.busHist (b.grp * 64 + b.pos)).getLast?.getD 0 ≤ (sget [] k.busHist (b.grp * 64 + b.pos)).headD 0 + 1000000 := by
  simp only [Stack.often, Bool.and_eq_true, decide_eq_true_eq]

theorem State.bondShown_iff : s.bondShown n b = true ↔ b.fitted = true ∧ (s.stage = .larva ∨ b.cls ≠ .data ∨ (s.stk n).often b = true) := by
  simp only [State.bondShown, Bool.and_eq_true, Bool.or_eq_true, decide_eq_true_eq, or_assoc]

theorem execBondFailDeclare_shown {stack : Fin 40} (hshown : s.bondShown stack b = true) (hnew : b ∉ (s.stk stack).bondFailed) :
    execBondFailDeclare stack (b.cls, b.base) b.grp b.pos s =
      .next (if s.spareTaken stack b then (s.declareBond stack b).exhaust stack b else s.declareBond stack b) := by
  rw [execBondFailDeclare, if_neg (by simp [hshown, hnew])]
  rfl

/-! ## Groups without a spare (R123, R128, R129) -/

variable {k : Stack}

theorem State.exhaust_data (hk : s.stk n = k) (hcls : b.cls = .data) :
    let out := { k with exhausted := (if k.exhausted.contains b.grp then k.exhausted else k.exhausted ++ [b.grp]), halfDue := k.halfDue || !k.half }
    s.exhaust n b = if 36 < out.lostGroups (b.grp / 72) then (s.setStk n out).retireStack n else s.setStk n out := by
  simp only [State.exhaust, hcls, hk]

theorem State.exhaust_cell (hk : s.stk n = k) (hcls : b.cls = .cell) :
    s.exhaust n b = (s.setStk n { k with cellDue := if k.cellDue.contains (b.grp / 4) then k.cellDue else k.cellDue ++ [b.grp / 4] }).verticalFault n := by
  simp only [State.exhaust, hcls, hk]

theorem State.exhaust_other (hdata : b.cls ≠ .data) (hcell : b.cls ≠ .cell) : s.exhaust n b = (s.retireStack n).verticalFault n := by
  cases hcls : b.cls with
  | data => exact absurd hcls hdata
  | cell => exact absurd hcls hcell
  | control | clock | power => simp only [State.exhaust, hcls]

end

/-! ## Repair and half-row mode (R121, R123 to R127) -/

theorem State.repairable_of {s : State} {n : Nat} {b : Bond} (hfailed : b ∈ (s.stk n).bondFailed)
    (hfree : ∀ r ∈ (s.die (0x80 + n)).fusedBonds ++ (s.stk n).repaired, bondMate b r = false) : s.repairable n b = true := by
  have hunrepaired : (s.repairs n).any (bondMate b) = false := List.any_eq_false.2 fun r hr => Bool.eq_false_iff.1 (hfree r hr)
  simp [State.repairable, hfailed, hunrepaired]

/-- Settles O24: the scrub, a row remapped, a bond declared by the class of its group, a repair, and the entry into half-row mode. -/
theorem rowMaintenance : Obligations.RowMaintenance := by
  unfold Obligations.RowMaintenance
  intro s stack bank row bond n k a h left copied k2 declared logged dataOut cellOut idle
  refine ⟨execRowScrub_presents, fun hphase hdue hspare => ?spare, fun hphase hdue hfull => ?full, fun hfitted hnew hfound => ?declare,
    fun hidle hfailed hfree => ?repair, fun hidle hdue hwhole => ?half⟩
  case spare => exact (execSpareRowRemap_due rfl hphase hdue).trans (congrArg _ (if_neg (Nat.not_le.2 hspare)))
  case full => exact (execSpareRowRemap_due rfl hphase hdue).trans (congrArg _ (if_pos hfull))
  case declare =>
    have hexec := execBondFailDeclare_shown (State.bondShown_iff.2 ⟨hfitted, hfound.imp_right (Or.imp_right Stack.often_iff.2)⟩) hnew
    have hk : logged.stk n = declared := State.stk_declareBond
    refine ⟨fun hspare => hexec.trans (congrArg _ (if_neg (Bool.eq_false_iff.1 hspare))), fun htaken _ => ?_⟩
    replace hexec := hexec.trans (congrArg _ (if_pos htaken))
    refine ⟨fun hcls hfew => ?_, fun hcls hmany => ?_, fun hcls => ?_, fun hdata hcell => ?_⟩
    · exact hexec.trans (congrArg _ ((State.exhaust_data hk hcls).trans (if_neg (Nat.not_lt.2 hfew))))
    · exact hexec.trans (congrArg _ ((State.exhaust_data hk hcls).trans (if_pos hmany)))
    · exact hexec.trans (congrArg _ (State.exhaust_cell hk hcls))
    · exact hexec.trans (congrArg _ (State.exhaust_other hdata hcell))
  case repair => exact if_pos ⟨hidle, State.repairable_of hfailed hfree⟩
  case half => exact if_pos ⟨hidle, hdue, by rw [Bool.not_eq_true']; exact hwhole⟩

end Sys2Proof.Machine
end

section
/-!
The power of a stack (R130 to R134): what the governor, a power sample and the writes of the caps leave, and the statement StackGovernor.
-/
namespace Sys2Proof.Machine

/-! ## The governor (R131, R133) -/

/-- Stack `n` has become `k`; main memory, the cores and the other stacks are as they were. -/
def State.stackBecomes (s t : State) (n : Nat) (k : Stack) : Prop :=
  t.stks = (s.setStk n k).stks ∧ t.mainMem = s.mainMem ∧ t.cores = s.cores

section
variable {s t : State} {n : Nat} {k : Stack}

theorem State.stackBecomes_setStk (s : State) (n : Nat) (k : Stack) : s.stackBecomes (s.setStk n k) n k := ⟨rfl, rfl, rfl⟩
theorem State.stackBecomes.noteDemand (h : s.stackBecomes t n k) : s.stackBecomes t.noteDemand n k := h
theorem State.stackBecomes.irq (h : s.stackBecomes t n k) (p : PageType) (i bit : Nat) : s.stackBecomes (t.irq p i bit) n k := h
theorem State.stackBecomes.bump (h : s.stackBecomes t n k) (a lsb w v : Nat) : s.stackBecomes (t.bump a lsb w v) n k := h

theorem State.stackBecomes.ite_irq (h : s.stackBecomes t n k) (P : Prop) [Decidable P] (p q : PageType) (i j bit b : Nat) :
    s.stackBecomes (if P then (t.irq p i bit).irq q j b else t) n k := by
  split
  · exact (h.irq p i bit).irq q j b
  · exact h

end

section
variable {s : State} {stack : Fin 40}

/-- Above the cap the ceiling falls to its floor, and from there the duty rises (R131). -/
theorem execGovernorTick_above (hon : s.stackOn stack = true) (hduty : (s.stk stack).duty ≤ 4) (h : s.cap stack < (s.stk stack).window) :
    ∃ t k, execGovernorTick stack s = .next t ∧ s.stackBecomes t stack k ∧ k.limiting = true ∧
      (32 < (s.stk stack).ceiling → k.ceiling = (s.stk stack).ceiling - 1 ∧ k.duty = (s.stk stack).duty) ∧
      ((s.stk stack).ceiling = 32 → k.ceiling = 32 ∧ k.duty = min 4 ((s.stk stack).duty + 1)) := by
  rw [execGovernorTick, hon, if_neg (by decide), if_pos h]
  refine ⟨_, _, rfl, ((((s.stackBecomes_setStk _ _).bump _ _ _ _).irq _ _ _).noteDemand).ite_irq _ _ _ _ _ _ _, rfl, ?above, ?floor⟩
  case above => exact fun h32 => ⟨if_pos h32, if_neg (by omega)⟩
  case floor =>
    intro h32
    simp only [h32, true_and]
    exact ⟨rfl, by split_ifs <;> omega⟩

/-- At or below the cap the stack does not limit, and with 2 W to spare one step is undone, the duty's before the ceiling's (R131). -/
theorem execGovernorTick_below (hon : s.stackOn stack = true) (htop : (s.stk stack).ceiling ≤ 80) (h : ¬ s.cap stack < (s.stk stack).window) :
    ∃ t k, execGovernorTick stack s = .next t ∧ s.stackBecomes t stack k ∧ k.limiting = false ∧
      ((s.stk stack).window + 200 < s.cap stack → k.duty = (s.stk stack).duty - 1 ∧
        k.ceiling = (if (s.stk stack).duty = 0 then min 80 ((s.stk stack).ceiling + 1) else (s.stk stack).ceiling)) := by
  rw [execGovernorTick, hon, if_neg (by decide), if_neg h]
  refine ⟨_, _, rfl, (s.stackBecomes_setStk _ _).noteDemand, rfl, fun hback => ?_⟩
  simp only [hback, decide_true, if_true, true_and]
  split_ifs <;> omega

end

/-! ## Power samples (R130, R132) -/

/-- An event counted, with its interrupt, changes registers alone. -/
theorem State.irq_bump_eq (s : State) (a lsb w v : Nat) (t : PageType) (i bit : Nat) :
    (s.bump a lsb w v).irq t i bit = { s with regs := ((s.bump a lsb w v).irq t i bit).regs } := rfl

theorem execPowerSample_eq {s : State} {stack : Fin 40} {c r b : BitVec 10} (hon : s.stackOn stack = true) :
    let k := s.stk stack
    let p := c.toNat + r.toNat + b.toNat
    let fresh := decide (720 < p) && !k.brake
    let sampled := s.setStk stack { k with
      samples := k.samples.drop (k.samples.length - 99) ++ [p], brake := decide (720 < p)
      brakes := (if fresh then k.brakes.filter (fun t => decide (s.now < t + 1000000000)) ++ [s.now] else k.brakes) }
    let shown := sampled.wr (rowsReg stack 0x06C) (BitVec.ofNat 32 (c.toNat + r.toNat * 2 ^ 10 + b.toNat * 2 ^ 20))
    execPowerSample stack c r b s = .next (if fresh then (shown.bump (rowsReg stack 0x070) 16 16 1).irq .rows stack 5 else shown) := by
  simp [execPowerSample, hon]

/-- Settles O25: a tick of the governor above the cap or not, a power sample, and the two writes that are taken. -/
theorem stackGovernor : Obligations.StackGovernor := by
  unfold Obligations.StackGovernor
  intro s stack c r b ini ep sus surge grant n k p fresh
  refine ⟨fun hon hfloor htop hduty => ?tick, fun hon => ?sample, fun ⟨hopen, hheld⟩ => ?caps, fun ⟨hopen, hheld⟩ => ?grant⟩
  case tick =>
    by_cases habove : s.cap n < k.window
    case pos =>
      obtain ⟨t, k', hexec, ⟨hstks, hmem, hcores⟩, hlimiting, hover, hfloored⟩ := execGovernorTick_above hon hduty habove
      have hk : t.stk n = k' := State.stk_of_setStk (fun h => by rw [h] at hlimiting; cases hlimiting) hstks
      refine ⟨t, hexec, hmem, hcores, fun m hm => State.stk_of_setStk_ne hstks hm, ?_⟩
      rw [hk]
      exact ⟨fun _ h32 => ⟨(hover h32).1, (hover h32).2, hlimiting⟩, fun _ h32 => ⟨(hfloored h32).1, (hfloored h32).2, hlimiting⟩,
        fun _ hback => absurd habove (by omega)⟩
    case neg =>
      obtain ⟨t, k', hexec, ⟨hstks, hmem, hcores⟩, hlimiting, hsteps⟩ := execGovernorTick_below hon htop habove
      refine ⟨t, hexec, hmem, hcores, fun m hm => State.stk_of_setStk_ne hstks hm, fun h => absurd h habove, fun h => absurd h habove, fun hwf hback => ?_⟩
      rw [State.stk_of_setStk_same hwf hstks]
      exact ⟨hlimiting, hsteps hback⟩
  case sample =>
    refine ⟨_, execPowerSample_eq hon, ?_⟩
    by_cases hfresh : fresh = true
    case pos =>
      rw [if_pos hfresh]
      exact ⟨rfl, (State.irq_bump_eq ..).trans rfl, fun h => Bool.noConfusion (hfresh.symm.trans h)⟩
    case neg =>
      rw [if_neg hfresh]
      exact ⟨rfl, rfl, fun _ => rfl⟩
  case caps => exact congrArg _ (State.busDo_taken _ stack.isLt (by decide) hopen hheld)
  case grant => exact congrArg _ (State.busDo_taken _ stack.isLt (by decide) hopen hheld)

end Sys2Proof.Machine
end

section
/-!
The SEC-DED code of R143: the check byte is linear in the word, and every column has an odd weight above 1, so that the syndrome names a single error and a
double error has an even syndrome that is not zero.
-/
namespace Sys2Proof.Machine

/-! ## The check byte (R143) -/

theorem eccColumns_nodup : eccColumns.Nodup := by decide +kernel

theorem mem_eccColumns_iff {x : Nat} : x ∈ eccColumns ↔ ∃ i, i < 64 ∧ x = eccColumns.getD i 0 := by
  rw [List.mem_iff_getElem]
  refine ⟨fun ⟨i, hi, hx⟩ => ⟨i, hi, ?_⟩, fun ⟨i, hi, hx⟩ => ⟨i, hi, ?_⟩⟩
  · rw [List.getD_eq_getElem _ _ hi, hx]
  · rw [hx, List.getD_eq_getElem _ _ hi]

theorem column_mem {i : Nat} (hi : i < 64) : eccColumns.getD i 0 ∈ eccColumns := mem_eccColumns_iff.2 ⟨i, hi, rfl⟩

theorem column_inj {i j : Nat} (hi : i < 64) (hj : j < 64) (h : eccColumns.getD i 0 = eccColumns.getD j 0) : i = j := by
  rw [List.getD_eq_getElem _ _ hi, List.getD_eq_getElem _ _ hj] at h
  exact eccColumns_nodup.getElem_inj_iff.1 h

theorem idxOf?_column {i : Nat} (hi : i < 64) : eccColumns.idxOf? (eccColumns.getD i 0) = some i := by
  rw [List.idxOf?_eq_some_iff]
  refine ⟨hi, (List.getD_eq_getElem _ _ hi).symm, fun j hj h => ?_⟩
  have hj64 : j < 64 := hj.trans hi
  rw [← List.getD_eq_getElem _ 0 hj64] at h
  exact Nat.ne_of_lt hj (column_inj hj64 hi h)

/-- The fold over the columns is the XOR of those that stand at the word's set bits. -/
theorem foldl_xor_columns : ∀ (l : List Nat) (d a : Nat),
    ((List.range l.length).filter (fun i => d.testBit i)).foldl (fun c i => c ^^^ l.getD i 0) a = a ^^^ eccFold d l
  | [], _, a => (Nat.xor_zero a).symm
  | h :: t, d, a => by
    have hrest := foldl_xor_columns t (d / 2)
    have hshift : (fun i => d.testBit i) ∘ Nat.succ = fun i => (d / 2).testBit i := funext fun i => Nat.testBit_succ d i
    simp only [List.length_cons, List.range_succ_eq_map, List.filter_cons, List.filter_map, hshift, Nat.testBit_zero, decide_eq_true_eq]
    by_cases hd : d % 2 = 1
    · simp only [hd, if_true, List.foldl_cons, List.foldl_map, List.getD_cons_zero, List.getD_cons_succ, eccFold, hrest, Nat.xor_assoc]
    · simp only [hd, if_false, List.foldl_map, List.getD_cons_succ, eccFold, hrest, Nat.zero_xor]

theorem eccFold_xor : ∀ (l : List Nat) (d e : Nat), eccFold (d ^^^ e) l = eccFold d l ^^^ eccFold e l
  | [], _, _ => (Nat.xor_self 0).symm
  | h :: t, d, e => by
    have hlow : (if (d ^^^ e) % 2 = 1 then h else 0) = (if d % 2 = 1 then h else 0) ^^^ (if e % 2 = 1 then h else 0) := by
      rw [Nat.xor_mod_two_eq]
      rcases Nat.mod_two_eq_zero_or_one d with hd | hd <;> rcases Nat.mod_two_eq_zero_or_one e with he | he <;> simp [Nat.add_mod, hd, he]
    rw [eccFold, eccFold, eccFold, Nat.xor_div_two, eccFold_xor t, hlow]
    ac_rfl

theorem eccFold_zero : ∀ l : List Nat, eccFold 0 l = 0
  | [] => rfl
  | _ :: t => by simp [eccFold, eccFold_zero t]

theorem eccFold_two_pow : ∀ (l : List Nat) (i : Nat), eccFold (2 ^ i) l = l.getD i 0
  | [], _ => rfl
  | h :: t, 0 => by simp [eccFold, eccFold_zero]
  | h :: t, i + 1 => by simp [eccFold, pow_succ, eccFold_two_pow t i]

/-- Inverting a data bit moves the check byte by that bit's column. -/
theorem eccEncode_flip (d i : Nat) : eccEncode (d ^^^ 2 ^ i) = eccEncode d ^^^ eccColumns.getD i 0 := by
  rw [eccEncode, eccFold_xor, eccFold_two_pow, eccEncode]

/-! ## What a syndrome says (R143) -/

theorem eccDecode_check_bit {d c : Nat} (h : popCount (c ^^^ eccEncode d) 8 = 1) : eccDecode d c = .corrected d := by
  have hne : c ^^^ eccEncode d ≠ 0 := fun h0 => absurd (h0 ▸ h) (by decide)
  simp only [eccDecode, if_neg hne, if_pos h]

theorem popCount_column {x : Nat} (h : x ∈ eccColumns) : popCount x 8 = 3 ∨ popCount x 8 = 5 :=
  (by decide +kernel : ∀ x ∈ eccColumns, popCount x 8 = 3 ∨ popCount x 8 = 5) x h

theorem eccDecode_data_bit {d c i : Nat} (hi : i < 64) (h : c ^^^ eccEncode d = eccColumns.getD i 0) : eccDecode d c = .corrected (d ^^^ 2 ^ i) := by
  have hw := popCount_column (column_mem hi)
  have hne : eccColumns.getD i 0 ≠ 0 := fun h0 => absurd (h0 ▸ hw) (by decide)
  simp only [eccDecode, h, if_neg hne, if_neg (by omega : popCount (eccColumns.getD i 0) 8 ≠ 1), idxOf?_column hi]

theorem eccDecode_bad {d c : Nat} (h0 : c ^^^ eccEncode d ≠ 0) (h1 : popCount (c ^^^ eccEncode d) 8 ≠ 1) (hcol : c ^^^ eccEncode d ∉ eccColumns) :
    eccDecode d c = .bad := by
  simp only [eccDecode, if_neg h0, if_neg h1, List.idxOf?_eq_none_iff.2 hcol]

/-! ## Two errors (R143) -/

theorem popCount_xor_parity (a b : Nat) : ∀ n, popCount (a ^^^ b) n % 2 = (popCount a n + popCount b n) % 2
  | 0 => rfl
  | n + 1 => by
    have hrest := popCount_xor_parity a b n
    have hbit : b2n (bitOf (a ^^^ b) n) % 2 = (b2n (bitOf a n) + b2n (bitOf b n)) % 2 := by
      rw [bitOf, Nat.xor_div_two_pow, Nat.xor_mod_two_eq]
      rcases Nat.mod_two_eq_zero_or_one (a / 2 ^ n) with ha | ha <;> rcases Nat.mod_two_eq_zero_or_one (b / 2 ^ n) with hb | hb <;>
        simp [bitOf, b2n, Nat.add_mod, ha, hb]
    simp only [popCount]
    omega

/-- The bits of the code word: the columns of the data bits and the single bits of the check byte, all of odd weight. -/
def oddBits : List Nat := eccColumns ++ (List.range 8).map (2 ^ ·)

theorem popCount_oddBits {x : Nat} (h : x ∈ oddBits) : popCount x 8 % 2 = 1 :=
  (by decide +kernel : ∀ x ∈ oddBits, popCount x 8 % 2 = 1) x h

theorem column_mem_oddBits {i : Nat} (hi : i < 64) : eccColumns.getD i 0 ∈ oddBits := List.mem_append_left _ (column_mem hi)

theorem check_mem_oddBits {j : Nat} (hj : j < 8) : 2 ^ j ∈ oddBits := List.mem_append_right _ (List.mem_map.2 ⟨j, List.mem_range.2 hj, rfl⟩)

theorem popCount_check_bit {j : Nat} (hj : j < 8) : popCount (2 ^ j) 8 = 1 :=
  (by decide +kernel : ∀ j < 8, popCount (2 ^ j) 8 = 1) j hj

theorem column_ne_check {i j : Nat} (hi : i < 64) (hj : j < 8) : eccColumns.getD i 0 ≠ 2 ^ j := by
  intro h
  have hc := popCount_column (column_mem hi)
  rw [h, popCount_check_bit hj] at hc
  omega

/-- A syndrome of two different bits is even and not zero: it is no column and no check bit. -/
theorem eccDecode_double {d c x y : Nat} (hx : x ∈ oddBits) (hy : y ∈ oddBits) (hne : x ≠ y) (h : c ^^^ eccEncode d = x ^^^ y) : eccDecode d c = .bad := by
  have heven : popCount (c ^^^ eccEncode d) 8 % 2 = 0 := by
    have hpx := popCount_oddBits hx
    have hpy := popCount_oddBits hy
    rw [h, popCount_xor_parity]
    omega
  refine eccDecode_bad ?_ (by omega) fun hcol => ?_
  · rw [h]
    exact fun h0 => hne (Nat.xor_eq_zero_iff.1 h0)
  · have hodd := popCount_oddBits (List.mem_append_left _ hcol)
    omega

/-- Settles O4: the check byte is the fold of the columns, each syndrome has its verdict, and the syndrome of one or two inverted bits is that of
`eccEncode_flip`. -/
theorem secdedCode : Obligations.SecdedCode := by
  unfold Obligations.SecdedCode
  refine ⟨by decide +kernel, fun d _ => ?fold, fun d c _ _ => ⟨?clean, eccDecode_check_bit, fun i => eccDecode_data_bit, fun h0 h1 hcol => ?bad⟩,
    fun d _ => ⟨(eccDecode_eq_clean_iff _ _).2 rfl, fun i hi => ?data, fun i hi => ?check, fun i j hi hj hne => ?dataData, fun i j hi hj => ?dataCheck,
      fun i j hi hj hne => ?checkCheck⟩⟩
  case fold => exact ((foldl_xor_columns eccColumns d 0).trans (Nat.zero_xor _)).symm
  case clean => exact fun h => (eccDecode_eq_clean_iff _ _).2 (Nat.xor_eq_zero_iff.1 h)
  case bad =>
    refine eccDecode_bad h0 h1 fun hmem => ?_
    obtain ⟨i, hi, hx⟩ := mem_eccColumns_iff.1 hmem
    exact hcol i hi hx
  case data =>
    rw [eccDecode_data_bit hi, Nat.xor_xor_cancel_right]
    rw [eccEncode_flip, Nat.xor_xor_cancel_left]
  case check =>
    refine eccDecode_check_bit ?_
    rw [Nat.xor_comm, Nat.xor_xor_cancel_left, popCount_check_bit hi]
  case dataData =>
    refine eccDecode_double (column_mem_oddBits hi) (column_mem_oddBits hj) (fun h => hne (column_inj hi hj h)) ?_
    rw [eccEncode_flip, eccEncode_flip, Nat.xor_assoc, Nat.xor_xor_cancel_left]
  case dataCheck =>
    refine eccDecode_double (column_mem_oddBits hi) (check_mem_oddBits hj) (column_ne_check hi hj) ?_
    rw [eccEncode_flip, Nat.xor_comm (eccEncode d) (2 ^ j), Nat.xor_assoc, Nat.xor_xor_cancel_left, Nat.xor_comm]
  case checkCheck =>
    refine eccDecode_double (check_mem_oddBits hi) (check_mem_oddBits hj) (fun h => hne (Nat.pow_right_injective (le_refl 2) h)) ?_
    rw [Nat.xor_comm, Nat.xor_assoc, Nat.xor_xor_cancel_left]

end Sys2Proof.Machine
end

section
/-!
Requests of main memory (R140, R145 to R149, R178): how one arrives at its channel, which one the channel takes, and what performing it leaves.
-/
namespace Sys2Proof.Machine

/-! ## One channel of the state -/

@[simp] theorem State.chan_setChan_ne (s : State) {n k : Nat} (c : Chan) (h : k ≠ n) : (s.setChan n c).chan k = s.chan k := sget_sset_ne _ _ _ _ h

theorem State.chan_setChan_same {s : State} (h : swf (fun _ => ({} : Chan)) s.chans = true) (n : Nat) (c : Chan) : (s.setChan n c).chan n = c :=
  sget_sset_same (fun _ => ({} : Chan)) h n c

theorem State.swf_setChan {s : State} (h : swf (fun _ => ({} : Chan)) s.chans = true) (n : Nat) (c : Chan) :
    swf (fun _ => ({} : Chan)) (s.setChan n c).chans = true := swf_sset (fun _ => ({} : Chan)) h n c

/-! ## Arrival (R148, R149) -/

/-- Only the cell of a write continues a queued request. -/
theorem joinReq_eq_none {r : MemReq} (h : ∀ q : MemReq, q.joins r = false) : ∀ l : List MemReq, joinReq r l = none
  | [] => rfl
  | q :: t => by simp [joinReq, joinReq_eq_none h t, h q]

theorem State.acceptReq_read (s : State) (c : Nat) {r : MemReq} {first count : Nat} (h : r.op = .read first count) :
    s.acceptReq c r = s.setChan c { s.chan c with queue := queueReq r (s.chan c).queue } := by
  have hjoin : ∀ q : MemReq, q.joins r = false := fun q => by unfold MemReq.joins; rw [h]; cases q.op <;> rfl
  have hwrite : r.op.isWrite = false := by rw [h]; rfl
  simp [State.acceptReq, hwrite, joinReq_eq_none hjoin]

section Arrival
variable {s : State} {src : Byte} {tag : BitVec 16}

theorem State.takeMem_takes {a : Nat} (hon : s.memOn = true) (hcap : s.inCapacity a = true) (r : MemReq) : s.takeMem a r = s.acceptReq (s.chanOf a) r :=
  if_pos ⟨hon, hcap⟩

theorem execMrd_queues {grp : BitVec 5} {blk : BitVec 32} {first count : BitVec 4} {pa c : Nat} {r : MemReq} (hpa : pa = blk.toNat * 1024) (hc : c = s.chanOf pa)
    (hon : s.memOn = true) (hcap : s.inCapacity pa = true) (hin : first.toNat + count.toNat ≤ 15)
    (hr : r = { op := .read first.toNat (count.toNat + 1), src := src, tag := tag, blk := s.blkOf pa, pa := pa, born := s.now, grp := grp.toNat }) :
    execMrd src tag grp blk first count s = .next (s.setChan c { s.chan c with queue := queueReq r (s.chan c).queue }) := by
  have hmin : min (count.toNat + 1) (16 - first.toNat) = count.toNat + 1 := by omega
  have hblock : pa / 1024 * 1024 = pa := by omega
  rw [execMrd, ← hpa, State.takeMem_takes hon hcap, ← hc, hmin, State.mkReq, hblock, State.acceptReq_read _ _ rfl, hr]

theorem execMwr_acknowledges {grp : BitVec 5} {blk : BitVec 32} {chunk : BitVec 5} {data : Payload} {pa c : Nat} (hpa : pa = blk.toNat * 1024)
    (hc : c = s.chanOf pa) (hon : s.memOn = true) (hcap : s.inCapacity pa = true) :
    execMwr src tag grp blk chunk data s = .next ((s.acceptReq c
      { op := .write chunk.toNat [data], src := src, tag := tag, blk := s.blkOf pa, pa := pa, born := s.now, grp := grp.toNat }).emit
      (.cell 0x05 src (BitVec.ofNat 8 (0x10 + c / 24)) (BitVec.ofNat 8 (pa / 1024)) (BitVec.ofNat 8 chunk.toNat) tag (BitVec.ofNat 32 (pa / 1024)) 0)) := by
  have hblock : pa / 1024 * 1024 = pa := by omega
  simp only [execMwr, ← hpa, State.takeMem_takes hon hcap, ← hc, State.mkReq, hblock, MemReq.answer, chanDie]
  exact if_pos ⟨hon, hcap⟩

theorem execMwrp_queues {grp : BitVec 5} {addr : Dword} {len : BitVec 8} {data : BitVec 128} {a : Nat} (ha : a = addr.toNat)
    (hon : s.memOn = true) (hcap : s.inCapacity a = true) (hlen : len.toNat ≤ 16) (hunit : a % 64 + len.toNat ≤ 64) :
    execMwrp src tag grp addr len data s = .next (s.acceptReq (s.chanOf a)
      { op := .part (a % 1024) len.toNat data, src := src, tag := tag, blk := s.blkOf a, pa := a / 1024 * 1024, born := s.now, grp := grp.toNat }) := by
  have hmin : min (min len.toNat 16) (64 - a % 64) = len.toNat := by omega
  rw [execMwrp, ← ha, State.takeMem_takes hon hcap, hmin, State.mkReq]

/-- A compare-and-swap answers what it found and whether it swapped (R178). -/
theorem execMcas_answers {addr expected new found : Dword} {u : State} {a c : Nat} (ha : a = addr.toNat) (hc : c = s.chanOf a) (hserves : s.memServes = true)
    (hcap : s.inCapacity a = true) (halign : a % 8 = 0) (hread : s.readEntry a = (some found, u)) :
    execMcas src tag addr expected new s = .next ((if found = expected then u.storeAt c (s.blkOf a) (a % 1024) new.toNat 8 else u).emit
      (.cell 0x08 src (BitVec.ofNat 8 (0x10 + c / 24)) (BitVec.ofNat 8 (a / 1024)) 0 tag (BitVec.ofNat 32 (a / 1024))
        (payload [(0, 8, found.toNat), (8, 1, if found = expected then 1 else 0)]))) := by
  have hround : a / 8 * 8 = a := by omega
  simp only [execMcas, ← ha, hround, hread, ← hc, if_pos (And.intro hserves hcap), chanDie]
  by_cases hfound : found = expected
  · simp only [if_pos hfound]
  · simp only [if_neg hfound]

end Arrival

/-! ## The choice of a channel (R148, R150) -/

theorem Chan.refreshBank_eq_some {ch : Chan} {n : Nat} {b : Fin 16} (hb : n ≤ ch.refresh.get b) (hlow : ∀ k : Fin 16, k < b → ch.refresh.get k < n) :
    ch.refreshBank n = some b := by
  rw [Chan.refreshBank, List.find?_eq_some_iff_getElem]
  refine ⟨decide_eq_true hb, b.val, by simp, by simp, fun j hj => ?_⟩
  have hjb := hlow ⟨j, by omega⟩ hj
  simpa using hjb

theorem Chan.refreshBank_eq_none {ch : Chan} {n : Nat} (hn : 0 < n) (h : ∀ k : Fin 16, ch.refresh.get k = 0) : ch.refreshBank n = none := by
  rw [Chan.refreshBank, List.find?_eq_none]
  intro k _
  simp [h k, Nat.ne_of_gt hn]

section Choice
variable {s : State} {chan : Fin 384} (hon : s.memOn = true) (hmode : (s.chan chan).mode = .service)

include hon hmode

theorem execMemCommandIssue_refreshes {b : Fin 16} (hbank : (s.chan chan).refreshBank (max 1 Config.refreshLimit) = some b) :
    execMemCommandIssue chan s = .next (s.setChan chan ((s.chan chan).doRefresh b)) := by
  simp [execMemCommandIssue, hon, hmode, hbank]

theorem execMemCommandIssue_performs {r : MemReq} (hnone : ∀ k : Fin 16, (s.chan chan).refresh.get k = 0) (hpick : (s.chan chan).pick s.now false = some r) :
    execMemCommandIssue chan s = .next (s.runReq chan r) := by
  simp [execMemCommandIssue, hon, hmode, Chan.refreshBank_eq_none (n := max 1 Config.refreshLimit) (by omega) hnone,
    Chan.refreshBank_eq_none Nat.one_pos hnone, hpick]

end Choice

/-! ## What performing a request leaves (R145, R149) -/

/-- A write-back of one of the units from `lo` to `hi` of a block. -/
def MemReq.backOf (blk lo hi : Nat) (x : MemReq) : Bool :=
  match x.op with
  | .writeBack u _ => decide (x.blk = blk) && decide (lo ≤ u ∧ u ≤ hi)
  | _ => false

/-- A store changes the bytes and, by the write-backs that it drops, its own channel. -/
theorem State.storeAt_eq (s : State) (c blk off v n : Nat) :
    s.storeAt c blk off v n = { s with chans := (s.storeAt c blk off v n).chans, mainMem := s.mainMem.put (memKey c blk off) v n } := by
  unfold State.storeAt
  dsimp only
  split <;> rfl

theorem State.chan_storeAt_ne (s : State) {c k : Nat} (blk off v n : Nat) (h : k ≠ c) : (s.storeAt c blk off v n).chan k = s.chan k := by
  unfold State.storeAt
  dsimp only
  split
  · exact s.chan_setChan_ne _ h
  · rfl

theorem State.chan_storeAt_same {s : State} (h : swf (fun _ => ({} : Chan)) s.chans = true) (c blk off v n : Nat) :
    (s.storeAt c blk off v n).chan c =
      { s.chan c with queue := (s.chan c).queue.filter (fun x => !x.backOf blk (off / 64) ((off + n - 1) / 64)) } := by
  unfold State.storeAt
  dsimp only
  split
  next => exact State.chan_setChan_same h c _
  next hhit =>
    have hnone : (s.chan c).queue.any (fun x => x.backOf blk (off / 64) ((off + n - 1) / 64)) = false := Bool.eq_false_iff.2 hhit
    have hkeep : (s.chan c).queue.filter (fun x => !x.backOf blk (off / 64) ((off + n - 1) / 64)) = (s.chan c).queue :=
      List.filter_eq_self.2 fun x hx => by simpa using List.any_eq_false.1 hnone x hx
    rw [hkeep]
    rfl

/-- The channel from which the taken request has left, its row open. -/
def Chan.without (ch : Chan) (r : MemReq) : Chan :=
  { ch with queue := takeReq r ch.queue, openRow := ch.openRow.setIfInBounds (bankOf r.blk) (some (rowOf r.blk)) }

theorem State.runReq_write (s : State) (c : Nat) {r : MemReq} {chunk : Nat} {cells : List Payload} (h : r.op = .write chunk cells) :
    s.runReq c r = (s.setChan c ((s.chan c).without r)).storeAt c r.blk (32 * chunk) (cells.foldr (fun p acc => p.toNat + 2 ^ 256 * acc) 0) (32 * cells.length) := by
  simp only [State.runReq, State.performReq, h]
  rfl

theorem State.runReq_read (s : State) (c : Nat) {r : MemReq} {first count : Nat} (h : r.op = .read first count) :
    s.runReq c r = ((s.setChan c ((s.chan c).without r)).raiseTo (chanReg c 0x064) 0 16 (s.now - r.born)).readUnits c r ((List.range count).map (· + first)) := by
  simp only [State.runReq, State.performReq, h]
  rfl

/-- Settles O26: each request arrives by its own lemma, and an issue performs what `pick` chooses, or refreshes the first bank at the limit. -/
theorem channelRequests : Obligations.ChannelRequests := by
  unfold Obligations.ChannelRequests
  refine ⟨?arrival, ?issue⟩
  case arrival =>
    intro s src tag grp blk first count chunk data addr expected new found len part u hon pa c req a
    exact ⟨fun hcap hin => execMrd_queues rfl rfl hon hcap hin rfl, fun hcap => execMwr_acknowledges rfl rfl hon hcap,
      fun hcap _ hlen hunit => execMwrp_queues rfl hon hcap hlen hunit, fun hserves hcap halign hread => execMcas_answers rfl rfl hserves hcap halign hread⟩
  case issue =>
    intro s chan r chunk first count cells b ch bank left a0 stale hon hmode
    refine ⟨fun hnone hpick => ⟨fun hop => ?write, fun hop => ?read⟩, fun hb hlow => ?refresh⟩
    case write =>
      refine ⟨_, (execMemCommandIssue_performs hon hmode hnone hpick).trans (congrArg _ (State.runReq_write s chan hop)), ?_, ?_, fun x hx => ?_, fun hwf => ⟨?_, fun k hk => ?_⟩⟩
      · rw [State.storeAt_eq]
        rfl
      · rw [State.storeAt_eq]
        rfl
      · rw [State.storeAt_eq]
        exact Mem.byte_put_outside _ _ _ _ _ hx
      · rw [State.chan_storeAt_same (State.swf_setChan hwf _ _), State.chan_setChan_same hwf]
        rfl
      · rw [State.chan_storeAt_ne _ _ _ _ _ hk, State.chan_setChan_ne _ _ hk]
    case read => rw [exec_memCommandIssue, execMemCommandIssue_performs hon hmode hnone hpick, State.runReq_read _ _ hop]; rfl
    case refresh => exact execMemCommandIssue_refreshes hon hmode (Chan.refreshBank_eq_some hb hlow)

end Sys2Proof.Machine
end

section
/-!
The upkeep of main memory (R141, R142, R147, R150 to R152, R398): scrub, refresh and retraining of one channel, the training of them all, and the alarm of a PHY.
-/
namespace Sys2Proof.Machine

/-! ## One channel (R147, R150, R152) -/

section
variable {s : State} {chan : Fin 384}

/-- The channel once the scrub has queued its next block. -/
def Chan.scrubbed (ch : Chan) : Chan :=
  { ch with scrubNext := (ch.scrubNext + 1) % 2 ^ 23, passes := (if ch.scrubNext + 1 = 2 ^ 23 then ch.passes + 1 else ch.passes) }

theorem execMemScrub_queues (hon : s.memOn = true) (hmode : (s.chan chan).mode = .service) (henabled : s.fld (chanReg chan 0x054) 0 1 = 1) :
    execMemScrub chan s = .next ((s.setChan chan (s.chan chan).scrubbed).acceptReq chan
      { op := .scrub, src := 0, tag := 0, blk := (s.chan chan).scrubNext, pa := s.blockAddr chan (s.chan chan).scrubNext, born := s.now, grp := 0 }) := by
  rw [execMemScrub, if_neg (by simp [hon, hmode, henabled])]
  rfl

theorem execRefreshDue_counts {bank : Fin 16} (hmode : (s.chan chan).mode = .service) :
    ∃ u, execRefreshDue chan bank s = .next u ∧ u.chans = sset {} s.chans chan
      { s.chan chan with refresh := (s.chan chan).refresh.set bank ((s.chan chan).refresh.get bank + 1) } ∧ u = { s with chans := u.chans, regs := u.regs } := by
  rw [execRefreshDue, if_neg (not_not.2 hmode)]
  refine ⟨_, rfl, ?_, ?_⟩ <;> split <;> rfl

theorem execRefreshRateChange_retrains {rate : Fin 3} (h : (s.chan chan).rate ≠ rate) :
    execRefreshRateChange chan rate s = .next (s.setChan chan { s.chan chan with rate := rate, retrainDue := some ((s.chan chan).retrainDue.getD s.now) }) := if_neg h

/-- A retraining that became due at `t` is due no later than at `t`. -/
theorem State.retrainSince_due {c t : Nat} (h : (s.chan c).retrainDue = some t) : ∃ d, d ≤ t ∧ s.retrainSince c = some d :=
  ⟨min t ((s.chan c).lastRetrain + 1000000 * s.fld (chanReg c 0x060) 0 16), Nat.min_le_left _ _, by simp only [State.retrainSince, h]⟩

theorem execChannelRetrain_due {t : Nat} (hmode : (s.chan chan).mode = .service) (hidle : s.idleInterval = true) (hdue : (s.chan chan).retrainDue = some t)
    (good : Bool) : execChannelRetrain chan good s = .next (s.retrained chan good) := by
  obtain ⟨d, _, hd⟩ := s.retrainSince_due hdue
  exact if_pos ⟨hmode, hidle, by rw [hd]; rfl⟩

theorem execRetrainDeadline_passed {t : Nat} (hmode : (s.chan chan).mode = .service) (hdue : (s.chan chan).retrainDue = some t) (hlate : t + 10000000000 ≤ s.now)
    (good : Bool) : execRetrainDeadline chan good s = .next (s.retrained chan good) := by
  obtain ⟨d, hdt, hd⟩ := s.retrainSince_due hdue
  rw [execRetrainDeadline, hd]
  exact if_pos ⟨hmode, by omega⟩

theorem State.retrainFailed_first {c t : Nat} (hdue : (s.chan c).retrainDue = some t) (hfails : (s.chan c).retrainFails = 0) :
    s.retrainFailed c = (s.setChan c { s.chan c with retrainFails := 1, retrainDue := some t }).irq .mchan c 3 := by
  simp [State.retrainFailed, Chan.askRetrain, hdue, hfails]

end

/-! ## A run over the channels -/

/-- A channel that is not read back as untouched reads as written, in any table. -/
theorem State.chan_setChan_of_ne (s : State) (n : Nat) {c : Chan} (h : c ≠ {}) : (s.setChan n c).chan n = c := sget_sset_same_ne _ _ _ h

theorem Chan.ne_reset_of_mode {c : Chan} (h : c.mode ≠ .off) : c ≠ {} := fun hc => h (congrArg Chan.mode hc)

section
variable {f : State → Nat → State} {k : Nat} (hne : ∀ t c, c ≠ k → (f t c).chan k = t.chan k)
include hne

theorem foldl_chan_not_mem {l : List Nat} (hk : k ∉ l) (s : State) : (l.foldl f s).chan k = s.chan k :=
  List.foldlRecOn (motive := fun t => t.chan k = s.chan k) l f rfl fun t ht c hc => (hne t c (ne_of_mem_of_not_mem hc hk)).trans ht

/-- A run that visits a channel once gives it what that visit gives, from a state in which the channel is as before. -/
theorem foldl_chan_mem {I : State → Prop} (hI : ∀ t c, I t → I (f t c)) : ∀ {l : List Nat}, l.Nodup → k ∈ l → ∀ {s : State}, I s →
    ∃ t, I t ∧ t.chan k = s.chan k ∧ (l.foldl f s).chan k = (f t k).chan k
  | c :: l, hnodup, hk, s, hs => by
    obtain ⟨hc, hl⟩ := List.nodup_cons.1 hnodup
    by_cases hck : c = k
    · subst hck
      exact ⟨s, hs, rfl, foldl_chan_not_mem hne hc _⟩
    · obtain ⟨t, ht, hsame, hend⟩ := foldl_chan_mem hI hl (List.mem_of_ne_of_mem (Ne.symm hck) hk) (hI s c hs)
      exact ⟨t, ht, hsame.trans (hne s c hck), hend⟩

end

/-! ## The alarm of a PHY (R398) -/

/-- A channel that serves asks for a retraining. -/
def State.askRetrainAt (t : State) (c : Nat) : State := if (t.chan c).mode ≠ .service then t else t.setChan c ((t.chan c).askRetrain t.now)

theorem State.chan_askRetrainAt_ne (t : State) {c k : Nat} (h : c ≠ k) : (t.askRetrainAt c).chan k = t.chan k := by
  unfold State.askRetrainAt
  split
  · rfl
  · exact t.chan_setChan_ne _ h.symm

theorem State.chan_askRetrainAt_same (t : State) (c : Nat) :
    (t.askRetrainAt c).chan c = if (t.chan c).mode = .service then (t.chan c).askRetrain t.now else t.chan c := by
  unfold State.askRetrainAt
  by_cases h : (t.chan c).mode = .service
  · have hne : ((t.chan c).askRetrain t.now).mode ≠ .off := fun h' => ChanMode.noConfusion (h.symm.trans h')
    rw [if_neg (not_not.2 h), if_pos h, t.chan_setChan_of_ne c (Chan.ne_reset_of_mode hne)]
  · rw [if_pos h, if_neg h]

theorem State.askRetrainAt_eq (t : State) (c : Nat) : t.askRetrainAt c = { t with chans := (t.askRetrainAt c).chans } := by
  unfold State.askRetrainAt
  split <;> rfl

/-- The channels of a PHY (R398). -/
def phyChans (phy : Nat) : List Nat := (List.range 12).map (12 * phy + ·)

theorem mem_phyChans {phy c : Nat} : c ∈ phyChans phy ↔ c / 12 = phy := by
  simp only [phyChans, List.mem_map, List.mem_range]
  exact ⟨fun ⟨i, hi, hc⟩ => by omega, fun h => ⟨c % 12, by omega, by omega⟩⟩

theorem nodup_phyChans (phy : Nat) : (phyChans phy).Nodup := List.nodup_range.map fun _ _ h => Nat.add_left_cancel h

theorem execPhyPllAlarm_clears (s : State) (phy : Fin 32) : ∃ cause, execPhyPllAlarm phy false s =
    .next ((phyChans phy).foldl State.askRetrainAt (({ s with free := s.free + 1 } : State).pllEvent 5 phy cause)) := by
  refine ⟨if Config.freeBool s.free then 3 else 4, ?_⟩
  rw [phyChans, List.foldl_map]
  rfl

theorem execPhyPllAlarm_asks (s : State) (phy : Fin 32) : ∃ t, execPhyPllAlarm phy false s = .next t ∧ t.mainMem = s.mainMem ∧ t.free = s.free + 1 ∧
    ∀ c : Fin 384, t.chan c = if c.val / 12 = phy.val ∧ (s.chan c).mode = .service then (s.chan c).askRetrain s.now else s.chan c := by
  obtain ⟨cause, hexec⟩ := execPhyPllAlarm_clears s phy
  obtain ⟨u, hu⟩ : ∃ u, u = ({ s with free := s.free + 1 } : State).pllEvent 5 phy cause := ⟨_, rfl⟩
  have hstart : u.mainMem = s.mainMem ∧ u.free = s.free + 1 ∧ u.chans = s.chans ∧ u.timebase = s.timebase := by
    subst hu
    simp [State.pllEvent]
  obtain ⟨hmem, hfree, hchans, htime⟩ := hstart
  have hchan : ∀ c, u.chan c = s.chan c := fun c => by rw [State.chan, hchans]; rfl
  have hframe := fun t c => State.askRetrainAt_eq t c
  rw [← hu] at hexec
  refine ⟨_, hexec, ?mem, ?free, fun c => ?chan⟩
  case mem =>
    exact List.foldlRecOn (motive := fun t : State => t.mainMem = s.mainMem) _ _ hmem fun t ht c _ => by rw [hframe]; exact ht
  case free =>
    exact List.foldlRecOn (motive := fun t : State => t.free = s.free + 1) _ _ hfree fun t ht c _ => by rw [hframe]; exact ht
  case chan =>
    have hne : ∀ (t : State) n, n ≠ c.val → (t.askRetrainAt n).chan c = t.chan c := fun t n h => t.chan_askRetrainAt_ne h
    by_cases hc : c.val / 12 = phy.val
    · obtain ⟨t, htime', hsame, hend⟩ := foldl_chan_mem hne (I := fun t => t.timebase = s.timebase) (fun t n ht => by rw [hframe]; exact ht)
        (nodup_phyChans phy) (mem_phyChans.2 hc) htime
      have hnow : t.now = s.now := congrArg BitVec.toNat htime'
      rw [hend, t.chan_askRetrainAt_same, hsame, hchan, hnow]
      simp only [hc, true_and]
    · rw [foldl_chan_not_mem hne (mt mem_phyChans.1 hc), hchan, if_neg fun h => hc h.1]

/-! ## Training (R141, R142, R151) -/

theorem le_foldl_max_iff {n : Nat} : ∀ (l : List Nat) (a : Nat), n ≤ l.foldl max a ↔ n ≤ a ∨ ∃ x ∈ l, n ≤ x
  | [], a => by simp
  | x :: l, a => by simp [le_foldl_max_iff l, or_assoc]

/-- The failed attempts of channel `c`. -/
def failedTries (tries : List (Fin 384 × Fin 4)) (c : Nat) : Nat :=
  ((tries.filter (fun e => decide (e.1.val = c))).map (fun e => e.2.val)).foldl max 0

theorem three_le_failedTries {tries : List (Fin 384 × Fin 4)} {c : Nat} : 3 ≤ failedTries tries c ↔ ∃ e ∈ tries, e.1.val = c ∧ e.2 = 3 := by
  have hlast : ∀ b : Fin 4, 3 ≤ b.val ↔ b = 3 := by decide
  simp [failedTries, le_foldl_max_iff, hlast, and_assoc]

/-- The channels of the thirds in service that failed three attempts. -/
def State.untrained (s : State) (tries : List (Fin 384 × Fin 4)) : List Nat :=
  (List.range 384).filter (fun c => s.thirds.contains (c / 128) && decide (3 ≤ failedTries tries c))

/-- A channel is trained, where its third is in service. -/
def State.trainAt (ts : List Nat) (tries : List (Fin 384 × Fin 4)) (t : State) (c : Nat) : State :=
  if ts.contains (c / 128) then
    t.setChan c { mode := .service, failedTrain := (t.chan c).failedTrain + failedTries tries c, queue := (t.chan c).queue, rate := (t.chan c).rate, ueUnits := (t.chan c).ueUnits, lastRetrain := t.now }
  else t

theorem State.chan_trainAt_ne (ts : List Nat) (tries : List (Fin 384 × Fin 4)) (t : State) {c k : Nat} (h : c ≠ k) : (t.trainAt ts tries c).chan k = t.chan k := by
  unfold State.trainAt
  split
  · exact t.chan_setChan_ne _ h.symm
  · rfl

theorem State.trainAt_eq (ts : List Nat) (tries : List (Fin 384 × Fin 4)) (t : State) (c : Nat) :
    t.trainAt ts tries c = { t with chans := (t.trainAt ts tries c).chans } := by
  unfold State.trainAt
  split <;> rfl

theorem State.chan_trainAt_same {ts : List Nat} (tries : List (Fin 384 × Fin 4)) (t : State) {c : Nat} (h : c / 128 ∈ ts) :
    ((t.trainAt ts tries c).chan c).mode = .service ∧ ((t.trainAt ts tries c).chan c).failedTrain = (t.chan c).failedTrain + failedTries tries c ∧
      ((t.trainAt ts tries c).chan c).queue = (t.chan c).queue := by
  rw [State.trainAt, if_pos (List.contains_iff_mem.2 h), t.chan_setChan_of_ne c (Chan.ne_reset_of_mode ChanMode.noConfusion)]
  exact ⟨rfl, rfl, rfl⟩

/-- All channels trained, before the thirds of the failed ones drop out. -/
def State.trainAll (s : State) (tries : List (Fin 384 × Fin 4)) : State := (List.range 384).foldl (State.trainAt s.thirds tries) s

theorem State.trainAll_leaves (s : State) (tries : List (Fin 384 × Fin 4)) : (s.trainAll tries).thirds = s.thirds ∧ (s.trainAll tries).bootWait = s.bootWait :=
  List.foldlRecOn (motive := fun t : State => t.thirds = s.thirds ∧ t.bootWait = s.bootWait) _ _ ⟨rfl, rfl⟩ fun t ht c _ => by rw [State.trainAt_eq]; exact ht

theorem State.chan_trainAll (s : State) (tries : List (Fin 384 × Fin 4)) {c : Nat} (hc : c < 384) (h : c / 128 ∈ s.thirds) :
    ((s.trainAll tries).chan c).mode = .service ∧ ((s.trainAll tries).chan c).failedTrain = (s.chan c).failedTrain + failedTries tries c ∧
      ((s.trainAll tries).chan c).queue = (s.chan c).queue := by
  obtain ⟨t, _, hsame, hend⟩ := foldl_chan_mem (f := State.trainAt s.thirds tries) (k := c) (fun t n hn => t.chan_trainAt_ne s.thirds tries hn)
    (I := fun _ => True) (fun _ _ _ => trivial) List.nodup_range (List.mem_range.2 hc) (s := s) trivial
  rw [State.trainAll, hend, ← hsame]
  exact t.chan_trainAt_same tries h

/-! ## Thirds that drop out (R141) -/

/-- The thirds of the failed channels. -/
def lostThirds (failed : List Nat) : List Nat := [0, 1, 2].filter (fun t => failed.any (fun c => decide (c / 128 = t)))

/-- A channel of a lost third is taken out of service: FAILED where it failed itself, OFF beside one that did. -/
def State.dropAt (lost failed : List Nat) (t : State) (c : Nat) : State :=
  if lost.contains (c / 128) then
    (if failed.contains c then (t.setChan c { t.chan c with mode := .failed, outDue := false }).irq .mchan c 4
     else if (t.chan c).mode = .failed then t else t.setChan c { t.chan c with mode := .off })
  else t

/-- What the start of a drop has, and each channel and each amendment of it keeps, its end has. -/
theorem State.dropThirds_keeps {P : State → Prop} {s : State} {failed : List Nat}
    (hstart : P { s with thirds := s.thirds.filter (fun t => !(lostThirds failed).contains t) })
    (hchan : ∀ t c, P t → P (t.dropAt (lostThirds failed) failed c)) (hamend : ∀ (t : State) x, P t → P (t.amend 0x05 false x 0)) : P (s.dropThirds failed) := by
  rw [State.dropThirds]
  exact List.foldlRecOn _ _ (List.foldlRecOn _ _ hstart fun t ht c _ => hchan t c ht) fun t ht x _ => hamend t x ht

theorem State.dropAt_eq (lost failed : List Nat) (t : State) (c : Nat) :
    t.dropAt lost failed c = { t with chans := (t.dropAt lost failed c).chans, regs := (t.dropAt lost failed c).regs } := by
  unfold State.dropAt
  split
  · split
    · rfl
    · split <;> rfl
  · rfl

theorem State.chan_dropAt_ne {lost : List Nat} (failed : List Nat) (t : State) (c : Nat) {k : Nat} (hk : k / 128 ∉ lost) :
    (t.dropAt lost failed c).chan k = t.chan k := by
  unfold State.dropAt
  split
  next hc =>
    have hck : k ≠ c := fun h => hk (h ▸ List.contains_iff_mem.1 hc)
    split
    · exact t.chan_setChan_ne _ hck
    · split
      · rfl
      · exact t.chan_setChan_ne _ hck
  next => rfl

theorem State.dropThirds_leaves (s : State) (failed : List Nat) :
    (s.dropThirds failed).thirds = s.thirds.filter (fun t => !(lostThirds failed).contains t) ∧ (s.dropThirds failed).bootWait = s.bootWait ∧
      ∀ k, k / 128 ∉ lostThirds failed → (s.dropThirds failed).chan k = s.chan k := by
  refine State.dropThirds_keeps (P := fun u => u.thirds = s.thirds.filter (fun t => !(lostThirds failed).contains t) ∧ u.bootWait = s.bootWait ∧
    ∀ k, k / 128 ∉ lostThirds failed → u.chan k = s.chan k) ⟨rfl, rfl, fun _ _ => rfl⟩ (fun t c ⟨hthirds, hboot, hchans⟩ => ⟨?_, ?_, fun k hk => ?_⟩) fun t x h => h
  · rw [State.dropAt_eq]; exact hthirds
  · rw [State.dropAt_eq]; exact hboot
  · rw [t.chan_dropAt_ne failed c hk, hchans k hk]

/-- A third drops out exactly where one of its channels failed three attempts. -/
theorem State.mem_lostThirds_untrained {s : State} {tries : List (Fin 384 × Fin 4)} {x : Nat} (hx : x ∈ s.thirds) :
    x ∈ lostThirds (s.untrained tries) ↔ ∃ e ∈ tries, e.1.val / 128 = x ∧ e.2 = 3 := by
  have hthird : ∀ c : Fin 384, c.val / 128 ∈ [0, 1, 2] := fun c => by
    have := c.isLt
    simp only [List.mem_cons, List.not_mem_nil, or_false]
    omega
  constructor
  · intro h
    obtain ⟨_, hany⟩ := List.mem_filter.1 h
    obtain ⟨c, hc, hcx⟩ := List.any_eq_true.1 hany
    obtain ⟨_, htest⟩ := List.mem_filter.1 hc
    obtain ⟨e, he, hec, hlast⟩ := three_le_failedTries.1 (of_decide_eq_true (Bool.and_eq_true _ _ ▸ htest).2)
    exact ⟨e, he, hec ▸ of_decide_eq_true hcx, hlast⟩
  · rintro ⟨e, he, rfl, hlast⟩
    have hfailed : 3 ≤ failedTries tries e.1 := three_le_failedTries.2 ⟨e, he, rfl, hlast⟩
    refine List.mem_filter.2 ⟨hthird e.1, List.any_eq_true.2 ⟨e.1, List.mem_filter.2 ⟨List.mem_range.2 e.1.isLt, ?_⟩, by simp⟩⟩
    simp [hx, hfailed]

theorem State.thirds_trained (s : State) (tries : List (Fin 384 × Fin 4)) : ((s.trainAll tries).dropThirds (s.untrained tries)).thirds =
    s.thirds.filter (fun x => !tries.any (fun e => decide (e.1.val / 128 = x) && decide (e.2.val = 3))) := by
  have hlast : ∀ b : Fin 4, b.val = 3 ↔ b = 3 := by decide
  rw [(State.dropThirds_leaves _ _).1, (s.trainAll_leaves tries).1]
  refine List.filter_congr fun x hx => congrArg _ (Bool.eq_iff_iff.2 ?_)
  rw [List.contains_iff_mem, State.mem_lostThirds_untrained hx]
  simp [hlast]

theorem execMemoryTraining_trains {s : State} (tries : List (Fin 384 × Fin 4)) (hstage : s.stage = .larva) (hspine : s.spineUp = true) (hboot : s.bootWait ≠ 7) :
    let u := (s.trainAll tries).dropThirds (s.untrained tries)
    execMemoryTraining tries s = .next { u with mainMem := {}, job := { u.job with w := 0 }, bootWait := (if u.thirds.isEmpty then 7 else u.bootWait) } :=
  if_neg (by simp [hstage, hspine, hboot])

theorem execMemoryTraining_serves {s : State} (tries : List (Fin 384 × Fin 4)) (hstage : s.stage = .larva) (hspine : s.spineUp = true) (hboot : s.bootWait ≠ 7) :
    ∃ t, execMemoryTraining tries s = .next t ∧
      t.thirds = s.thirds.filter (fun x => !tries.any (fun e => decide (e.1.val / 128 = x) && decide (e.2.val = 3))) ∧
      t.mainMem = {} ∧ t.job.w = 0 ∧ t.bootWait = (if t.thirds = [] then 7 else s.bootWait) ∧
      ∀ c : Fin 384, c.val / 128 ∈ t.thirds →
        (t.chan c).mode = .service ∧ (t.chan c).failedTrain = (s.chan c).failedTrain + failedTries tries c ∧ (t.chan c).queue = (s.chan c).queue := by
  obtain ⟨hthirds, hwait, hchans⟩ := (s.trainAll tries).dropThirds_leaves (s.untrained tries)
  refine ⟨_, execMemoryTraining_trains tries hstage hspine hboot, s.thirds_trained tries, rfl, rfl, ?wait, fun c hc => ?chan⟩
  case wait =>
    simp only [List.isEmpty_iff, hwait, (s.trainAll_leaves tries).2]
  case chan =>
    obtain ⟨hin, hkept⟩ := List.mem_filter.1 (hthirds ▸ hc)
    rw [(s.trainAll_leaves tries).1] at hin
    have hlost : c.val / 128 ∉ lostThirds (s.untrained tries) := by simpa using hkept
    have hsame : ((s.trainAll tries).dropThirds (s.untrained tries)).chan c = (s.trainAll tries).chan c := hchans c hlost
    have htrained := s.chan_trainAll tries c.isLt hin
    rw [← hsame] at htrained
    exact htrained

/-- Settles O27: each clause of one channel by its own lemma, training by `execMemoryTraining_serves`, the alarm by `execPhyPllAlarm_asks`. -/
theorem channelUpkeep : Obligations.ChannelUpkeep := by
  unfold Obligations.ChannelUpkeep
  refine ⟨fun s chan bank rate t => ⟨execMemScrub_queues, execRefreshDue_counts, execRefreshRateChange_retrains, fun hmode hidle hdue => ?_, fun hmode hdue hlate => ?_,
    fun hmode hidle hdue hfails => ?_⟩, fun s tries phy => ⟨execMemoryTraining_serves tries, execPhyPllAlarm_asks s phy⟩⟩
  · rw [exec_channelRetrain, execChannelRetrain_due hmode hidle hdue]
    rfl
  · rw [exec_retrainDeadline, execRetrainDeadline_passed hmode hdue hlate]
    rfl
  · rw [exec_channelRetrain, execChannelRetrain_due hmode hidle hdue, ← State.retrainFailed_first hdue hfails]
    rfl

end Sys2Proof.Machine
end

section
/-!
The Sieve (R154 to R161, R166), and the cells of main memory that reach a requester (R145, R178, R185, R199, R574).
-/
namespace Sys2Proof.Machine

/-! ## A record comes in (R154, R161) -/

section Records
variable {s : State} {unit : Fin 64} {src : Byte} {tag : BitVec 16}

/-- The operation of a requester's tag that waits for its second cell. -/
def SieveOp.awaits (src : Byte) (tag : BitVec 16) (o : SieveOp) : Bool := decide (o.src = src) && decide (o.tag = tag) && !o.full

theorem execSvop_begins {blk : BitVec 32} {chunk : BitVec 5} {data : Payload} (hon : s.memOn = true)
    (hnew : (sget [] s.sieves unit).any (SieveOp.awaits src tag) = false) (hroom : (sget [] s.sieves unit).length < 16) :
    execSvop unit src tag blk chunk data s = .next { s with sieves := sset [] s.sieves unit (sget [] s.sieves unit ++
      [{ src := src, tag := tag, pa := blk.toNat * 1024 + 32 * chunk.toNat, chunk0 := data }]) } := by
  change (sget [] s.sieves unit).any (fun o => decide (o.src = src) && decide (o.tag = tag) && !o.full) = false at hnew
  simp only [execSvop, hnew, Bool.false_eq_true, if_false]
  exact if_pos ⟨hon, .inr hroom⟩

theorem execSvop_completes {blk : BitVec 32} {chunk : BitVec 5} {data : Payload} (hon : s.memOn = true)
    (hmine : (sget [] s.sieves unit).any (SieveOp.awaits src tag) = true) :
    let q := modFirst (SieveOp.awaits src tag) (fun o => { o with chunk1 := data, full := true }) (sget [] s.sieves unit)
    execSvop unit src tag blk chunk data s = .next { s with sieves := sset [] s.sieves unit q } := by
  change (sget [] s.sieves unit).any (fun o => decide (o.src = src) && decide (o.tag = tag) && !o.full) = true at hmine
  simp only [execSvop, hmine, if_true]
  exact if_pos ⟨hon, .inl trivial⟩

end Records

/-! ## The work of a Sieve (R156 to R160, R166) -/

/-- An enabled Sieve goes to work on a legal record, but for one marked out of range (R160, R166). -/
theorem State.sievePre_legal {s : State} {u r : Nat} (hon : s.fld (sieveReg u 0x044) 0 1 = 1) (hlegal : sieveStatus r = 0) :
    s.sievePre u r = if rangeMarked r = true then 3 else 0 := by simp [State.sievePre, hon, hlegal]

section Work
variable {s : State} {unit : Fin 64} {o : SieveOp} {r : Nat} (hserves : s.memServes = true) (hhead : s.sieveHead unit = some (o, r))
  (hon : s.fld (sieveReg unit 0x044) 0 1 = 1) (hlegal : sieveStatus r = 0)

include hserves hhead hon hlegal

section Seal
variable (hop : bits r 0 8 = 1)
include hop

theorem execSieveSeal_marked (hmark : rangeMarked r = true) : execSieveSeal unit s = .next (s.sieveDone unit o 3) := by
  simp [execSieveSeal, hhead, hop, hserves, State.sievePre_legal hon hlegal, hmark]

theorem execSieveSeal_writes {v : Nat} {u : State} (hmark : rangeMarked r = false)
    (hread : s.readSpan (bits r 64 64) (bits r 32 16 * bits r 16 16 * (keySize (bits r 8 8)).getD 1) = (some v, u)) :
    let wrote := u.writeSpan (bits r 128 64) (sketchOf (bits r 8 8) (bits r 16 16) (bits r 32 16) v) (4 * bits r 16 16)
    execSieveSeal unit s = .next (wrote.2.sieveDone unit o (if wrote.1 then 0 else 4)) := by
  simp [execSieveSeal, hhead, hop, hserves, State.sievePre_legal hon hlegal, hmark, hread]

theorem execSieveSeal_unreadable {u : State} (hmark : rangeMarked r = false)
    (hread : s.readSpan (bits r 64 64) (bits r 32 16 * bits r 16 16 * (keySize (bits r 8 8)).getD 1) = (none, u)) :
    execSieveSeal unit s = .next (u.sieveDone unit o 4) := by
  simp [execSieveSeal, hhead, hop, hserves, State.sievePre_legal hon hlegal, hmark, hread]

end Seal

section Query
variable {w : Nat} {u u' : State} {l : List (Nat × Word)} (hop : bits r 0 8 = 2) (hmark : rangeMarked r = false)
  (hread : s.readSpan (o.pa + 64) (2 * bits r 16 16 * bits r 8 8) = (some w, u))
  (hscore : u.scoreAll (bits r 64 64) (bits r 16 16) (bits r 8 8) w (bits r 128 32) = (l, u'))
include hop hmark hread hscore

theorem execSieveQuery_writes (hall : l.length = bits r 128 32) :
    let sel := selectPages (bits r 128 32) (bits r 32 16) ((List.range (bits r 48 8)).map (fun i => bits r (256 + 16 * i) 16)) l
    let wrote := (u'.bump (sieveReg unit 0x050) 0 32 l.length).writeSpan (bits r 192 64) (2 ^ 16 * sel.length + 2 ^ 128 * packNat 32 sel)
      ((16 + 4 * sel.length + 63) / 64 * 64)
    execSieveQuery unit s = .next (wrote.2.sieveDone unit o (if wrote.1 then 0 else 4)) := by
  have hdone : ¬ l.length < bits r 128 32 := by omega
  simp [execSieveQuery, hhead, hop, hserves, State.sievePre_legal hon hlegal, hmark, hread, hscore, hdone, resultHeader]

theorem execSieveQuery_unreadable (hstop : l.length < bits r 128 32) :
    execSieveQuery unit s = .next ((u'.bump (sieveReg unit 0x050) 0 32 l.length).sieveDone unit o 4) := by
  simp [execSieveQuery, hhead, hop, hserves, State.sievePre_legal hon hlegal, hmark, hread, hscore, hstop]

end Query

end Work

/-! ## What comes back to a piece (R145, R178, R185, R188, R574) -/

theorem stackOfDie_eq {d : Nat} (n : Fin 40) (h : d = 0x40 + n.val) : stackOfDie d = some n.val := by
  rw [stackOfDie, if_pos (by omega), h, Nat.add_sub_cancel_left]

section Pieces
variable {s : State} {dst : Byte} {tag : BitVec 16} {n : Fin 40} {p : Piece}

theorem execSvdone_finishes {status : Byte} (hp : sfind (s.xe n).pieces tag.toNat = some p) (hsieve : p.sieve = true) :
    execSvdone n tag status s = .next ((s.modPiece n tag.toNat (fun q => { q with finished := true })).modChain n p.seq (fun k =>
      { k with descs := modFirst (fun d => decide (d.idx = p.idx)) (fun d => { d with status := status }) k.descs })) := by
  simp [execSvdone, hp, hsieve]

variable (hdst : dst.toNat = 0x40 + n.val)
include hdst

theorem execMrsp_joins {chunk : BitVec 5} {data : Payload} (hp : sfind (s.xe n).pieces tag.toNat = some p) (hsieve : p.sieve = false)
    (hopen : p.finished = false) (hsrc : p.srcSpace = 0) (hwait : p.full = false) (hlo : p.src % 1024 / 32 ≤ chunk.toNat)
    (hhi : chunk.toNat < p.src % 1024 / 32 + p.len / 32) :
    let q := p.fill (32 * (chunk.toNat - p.src % 1024 / 32)) data.toNat 1
    let t := s.modPiece n tag.toNat (fun _ => q)
    execMrsp dst tag chunk data s = .next (if q.full then t.pieceLand n tag.toNat else t) := by
  simp only [execMrsp, stackOfDie_eq n hdst, hp]
  exact if_neg (by simp [hsieve, hopen, hsrc, hwait]; omega)

theorem execMwack_marks {chunk : BitVec 5} (hp : sfind (s.xe n).pieces tag.toNat = some p) (hspace : p.dstSpace = 0) (hsieve : p.sieve = false)
    (htag : tag.toNat < 0x8000) (hlo : p.dst % 1024 / 32 ≤ chunk.toNat) (hhi : chunk.toNat < p.dst % 1024 / 32 + p.len / 32) :
    let acked := p.acked ||| BitVec.twoPow 32 (chunk.toNat - p.dst % 1024 / 32)
    execMwack dst tag chunk s = .next (s.modPiece n tag.toNat (fun q =>
      { q with acked := acked, finished := q.finished || decide (popCount acked.toNat 32 = p.len / 32) })) := by
  simp only [execMwack, stackOfDie_eq n hdst, hp]
  exact if_neg (by simp [hspace, hsieve, isRecordTag]; omega)

theorem execMpoison_fails {chunk : BitVec 5} (hp : sfind (s.xe n).pieces tag.toNat = some p) (htag : tag.toNat < 0x4000) :
    execMpoison dst tag chunk s =
      .next ((s.modPiece n tag.toNat (fun q => { q with poison := true, finished := true })).failPiece n p 0x07 p.src 4) := by
  have hrecord : isRecordTag tag = false := decide_eq_false (by omega)
  have hswap : ¬ swapTag 0 ≤ tag.toNat := by rw [swapTag]; omega
  simp only [execMpoison, stackOfDie_eq n hdst, hp, hrecord, if_neg hswap]
  rfl

theorem execMcasr_swapped {found : Dword} {f : PFault}
    (hf : (s.pager n).faults.find? (fun q => decide (swapTag q.tag = tag.toNat) && q.page.isSome && !q.settled && !q.noted) = some f) :
    execMcasr dst tag found true s = .next (if s.pagerOn n then s.settleFault n f else s.modFault n f.tag (fun q => { q with noted := true })) := by
  simp only [execMcasr, stackOfDie_eq n hdst, hf, if_true]

end Pieces

/-- Settles O28: each outcome of the Sieve and each answer of memory by its own lemma. -/
theorem sieveAndAnswers : Obligations.SieveAndAnswers := by
  unfold Obligations.SieveAndAnswers
  refine ⟨?sieve, ?answers⟩
  case sieve =>
    intro s unit src tag blk chunk data stack status o r v w u u' l p scored u0 mine q dh fmt sel
    refine ⟨execSvop_begins, execSvop_completes, fun hserves hhead hop hon hlegal => ⟨execSieveSeal_marked hserves hhead hon hlegal hop, ?written, ?unreadable⟩,
      fun hserves hhead hop hon hlegal hmark hread hscore => ⟨?_, ?_⟩, execSvdone_finishes⟩
    case written => exact fun hmark hread => execSieveSeal_writes hserves hhead hon hlegal hop hmark hread
    case unreadable => exact fun hmark hread => execSieveSeal_unreadable hserves hhead hon hlegal hop hmark hread
    · exact fun hall => execSieveQuery_writes hserves hhead hon hlegal hop hmark hread hscore hall
    · exact fun hstop => execSieveQuery_unreadable hserves hhead hon hlegal hop hmark hread hscore hstop
  case answers =>
    intro s dst tag chunk data found n p f hdst
    refine ⟨fun hp hsieve hopen hsrc hwait hlo hhi => ?chunk, fun hp hspace hsieve htag hlo hhi => execMwack_marks hdst hp hspace hsieve htag hlo hhi,
      execMpoison_fails (chunk := chunk) hdst, fun hf => ?swap⟩
    case chunk =>
      have hjoin := execMrsp_joins (data := data) hdst hp hsieve hopen hsrc hwait hlo hhi
      exact ⟨fun hq => hjoin.trans (congrArg _ (if_neg (by simp [hq]))), fun hq => hjoin.trans (congrArg _ (if_pos hq))⟩
    case swap =>
      have hswap := execMcasr_swapped (found := found) hdst hf
      exact ⟨fun h => hswap.trans (congrArg _ (if_pos (by simp [State.pagerOn, h]))), fun h => hswap.trans (congrArg _ (if_neg (by simp [State.pagerOn, h])))⟩

end Sys2Proof.Machine
end

section
/-!
The device states (R153, R423 to R425, R427 to R429, R462): the commands and wakes that move between them, and what D2 and D3 keep.
-/
namespace Sys2Proof.Machine

/-! ## Commands (R423) -/

section Commands
variable {s : State}

theorem State.wakeFor_asleep {cause : Nat} (hwake : s.power.wake = none) (h : s.dst = .d2 ∨ (s.dst = .d1 ∧ (cause = 1 ∨ cause = 2 ∨ cause = 4))) :
    s.wakeFor cause = { s with power := { s.power with wake := some cause } } := if_pos ⟨by rw [hwake]; rfl, h⟩

theorem State.cmdD0_wakes (ini : Initiator) (hdst : s.dst = .d1) (hwake : s.power.wake = none) :
    s.cmdD0 ini = { s with power := { s.power with wake := some 2 } } :=
  (if_pos (.inl hdst)).trans (State.wakeFor_asleep hwake (.inr ⟨hdst, .inr (.inl rfl)⟩))

theorem State.cmdD0_awake (ini : Initiator) (hdst : s.dst = .d0) : s.cmdD0 ini = s.errCount .pwr 0 2 := if_neg (by simp [hdst])

theorem State.cmdD1_idle (ini : Initiator) (hdst : s.dst = .d0) (hslots : s.reqsIn inSlot = []) (hqueue : s.serving.queue = []) :
    s.cmdD1 ini = { s with serving := { s.serving with d1Asked := true } } := if_pos ⟨hdst, by rw [hslots]; rfl, by rw [hqueue]; rfl⟩

theorem State.cmdD1_busy (ini : Initiator) (hdst : s.dst = .d0) (hqueue : s.serving.queue ≠ []) : s.cmdD1 ini = s.errCount .pwr 0 2 := by
  rw [State.cmdD1, if_neg (by simp [hqueue]), if_neg (by simp [hdst]), State.cmdRefused]

theorem State.cmdD2_idle (hdst : s.dst = .d1) (hwake : s.power.wake = none) : s.cmdD2 = s.enterD2 := if_pos ⟨hdst, by rw [hwake]; rfl⟩

theorem State.cmdD2_awake (hdst : s.dst = .d0) : s.cmdD2 = s.errCount .pwr 0 2 := if_neg (by simp [hdst])

theorem State.cmdD3_stops (hdst : s.dst = .d0) (hstage : s.stage = .imago) (hrun : s.stop.stopped = false) (hcause : s.stop.cause = 0) :
    s.cmdD3 = { s with stopAsked := some (5, 0) } := by
  rw [State.cmdD3, if_neg (by simp [hdst, hstage, hrun]), if_neg (not_not.2 hcause)]

theorem State.cmdD3_idle (hdst : s.dst = .d1) : s.cmdD3 = s.powerOff := if_pos (.inl (by simp [hdst]))

/-- A write of STATE_CMD that is taken does what its target says. -/
theorem State.stateCmd_taken {ini : Initiator} {ep : Byte} (h : s.takes ini ep .pwr 0 0x044) (f : State → State) :
    s.stateCmd ini ep f = (f s).answer ini 0 := by
  obtain ⟨hopen, hheld⟩ := h
  exact State.busDo_taken f (by decide) (by decide) hopen hheld

end Commands

/-! ## Wakes (R425, R428, R429, R462) -/

section Wakes
variable {s : State} {c : Nat}

theorem execD2IdleExpiry_sleeps {n : Nat} (hn : n = s.fld (pwrReg 0x048) 0 16) (hdst : s.dst = .d1) (hwake : s.power.wake = none) (hset : n ≠ 0)
    (hphase : s.jobPhase = 3) (hranks : s.jobRanks ≤ 1) (hlong : s.serving.d1Since + 1000000000 * n ≤ s.now) : execD2IdleExpiry s = .next s.enterD2 := by
  rw [execD2IdleExpiry, ← hn]
  exact if_pos ⟨hdst, by rw [hwake]; rfl, hset, hphase, hranks, hlong⟩

theorem execD1Wake_wakes (hdst : s.dst = .d1) (hwake : s.power.wake = some c)
    (hpass : s.calPass.first = true → s.calPass.running = false ∧ s.calPass.pending = false) :
    execD1Wake s = .next ((({ s with dst := .d0, calPass := { s.calPass with first := false }, serving := { s.serving with idleRuns := 0, d1Asked := false } } : State).regionsUp).woken c) := by
  have hfree : ¬ (s.dst ≠ .d1 ∨ (s.calPass.first ∧ (s.calPass.running ∨ s.calPass.pending))) := by
    rintro (h | ⟨hfirst, h⟩)
    · exact h hdst
    · simp [hpass hfirst] at h
  simp only [execD1Wake, hwake, if_neg hfree]

theorem execD1Wake_passFirst (hwake : s.power.wake = some c) (hfirst : s.calPass.first = true) (hpass : s.calPass.running = true ∨ s.calPass.pending = true) :
    execD1Wake s = .next s := by
  simp only [execD1Wake, hwake]
  exact if_pos (.inr ⟨hfirst, hpass⟩)

theorem execPortLightWake_wakes {port : Fin 6} (hdst : s.dst = .d2) (hin : (s.port port).tx ≠ .out) (hwake : s.power.wake = none) :
    execPortLightWake port s = .next { s with power := { s.power with wake := some 3 } } := by
  rw [execPortLightWake, if_neg hin, if_pos hdst, State.wakeFor_asleep hwake (.inl hdst)]

theorem execWakeAtReached_wakes (hdst : s.dst = .d2) (hset : (s.rd64 (pwrReg 0x04C)).toNat ≠ 0) (hat : (s.rd64 (pwrReg 0x04C)).toNat ≤ s.now) :
    execWakeAtReached s = .next ((s.wr64 (pwrReg 0x04C) 0).wakeFor 4) := if_neg (by simp [hdst, hset, hat])

section D2
variable {i : Fin 2} {u : State} (hu : u = (s.d2Up i).d2Restart) (hdst : s.dst = .d2) (hwake : s.power.wake = some c) (hin : s.larvaInput = some i)
include hu hdst hwake hin

theorem execD2Wake_passFirst (hup : c = 1 ∨ c = 2 ∨ c = 4) (hpass : u.calPass.pending = true ∨ u.passMoved = true) :
    execD2Wake s = .next { u with dst := .d1, serving := { u.serving with d1Since := u.now, idleRuns := 0, d1Asked := false }, calPass := { u.calPass with pending := true, first := true } } := by
  simp only [execD2Wake, hwake, hin, ← hu, if_neg (not_not.2 hdst)]
  exact if_pos ⟨decide_eq_true hup, hpass⟩

theorem execD2Wake_toD0 (hup : c = 1 ∨ c = 2 ∨ c = 4) (hidle : u.calPass.pending = false) (hstill : u.passMoved = false) :
    execD2Wake s = .next (({ u with dst := .d0, serving := { u.serving with idleRuns := 0, d1Asked := false } } : State).woken c) := by
  simp [execD2Wake, hwake, hin, ← hu, hdst, hup, hidle, hstill]

theorem execD2Wake_toD1 (hc : c = 3) (hranks : 2 ≤ u.jobRanks) :
    execD2Wake s = .next (({ u with dst := .d1, serving := { u.serving with d1Since := u.now } } : State).woken c) := by
  have hmany : ¬ u.jobRanks ≤ 1 := by omega
  simp [execD2Wake, hwake, hin, ← hu, hdst, hc, hmany]

end D2

end Wakes

/-! ## Channels keep their modes while their queues are performed (R153) -/

/-- A channel that is not off has in `t` the mode that it had in `s`. -/
structure State.ModesKept (s t : State) : Prop where
  mode_eq : ∀ k, (s.chan k).mode ≠ .off → (t.chan k).mode = (s.chan k).mode

theorem State.ModesKept.trans {s t u : State} (h : s.ModesKept t) (h' : t.ModesKept u) : s.ModesKept u :=
  ⟨fun k hk => (h'.mode_eq k (by rwa [h.mode_eq k hk])).trans (h.mode_eq k hk)⟩

theorem State.modesKept_of_chans {s t : State} (h : t.chans = s.chans) : s.ModesKept t := ⟨fun k _ => by rw [State.chan, h, State.chan]⟩

theorem State.modesKept_setChan (s : State) (c : Nat) {x : Chan} (hx : x.mode = (s.chan c).mode) : s.ModesKept (s.setChan c x) := by
  refine ⟨fun k hk => ?_⟩
  by_cases hkc : k = c
  · subst hkc
    rw [s.chan_setChan_of_ne k (Chan.ne_reset_of_mode (hx ▸ hk)), hx]
  · rw [s.chan_setChan_ne x hkc]

theorem State.modesKept_of_setChan {s t : State} {c : Nat} {x : Chan} (h : t.chans = (s.setChan c x).chans) (hx : x.mode = (s.chan c).mode) : s.ModesKept t :=
  (s.modesKept_setChan c hx).trans (State.modesKept_of_chans h)

theorem foldl_modesKept {α : Type} {f : State → α → State} (h : ∀ (t : State) x, t.ModesKept (f t x)) (l : List α) (s : State) : s.ModesKept (l.foldl f s) :=
  List.foldlRecOn (motive := s.ModesKept) l f (State.modesKept_of_chans rfl) fun t ht x _ => ht.trans (h t x)

theorem State.modesKept_noteCorrected (s : State) (c blk pa unit : Nat) (fixed : List (Nat × Nat)) : s.ModesKept (s.noteCorrected c blk pa unit fixed) := by
  rw [State.noteCorrected]
  split
  · exact State.modesKept_of_chans rfl
  · dsimp only
    split
    · exact State.modesKept_of_setChan rfl rfl
    · exact State.modesKept_of_chans rfl

theorem State.ModesKept.emit {s t : State} (h : s.ModesKept t) (m : Msg) : s.ModesKept (t.emit m) := h.trans (State.modesKept_of_chans rfl)

theorem State.modesKept_noteUncorrectable (s : State) (c blk pa unit words : Nat) (scrub : Bool) :
    s.ModesKept (s.noteUncorrectable c blk pa unit words scrub) := by
  have hcount : s.ModesKept ((s.bump (chanReg c 0x048) 16 16 words).irq .mchan c (if scrub then 2 else 1)) := State.modesKept_of_chans rfl
  have hlatch : ∀ (t : State) (a : Nat) (v : Dword), t.ModesKept (if bitOf (t.rd64 a).toNat 63 then t else t.wr64 a v) := fun t a v =>
    State.modesKept_of_chans (by split <;> rfl)
  unfold State.noteUncorrectable
  exact (hcount.trans (hlatch _ (chanReg c 0x04C) _)).trans (State.modesKept_setChan _ c rfl)

theorem State.modesKept_readUnit (s : State) (c blk pa u : Nat) (scrub : Bool) : s.ModesKept (s.readUnit c blk pa u scrub).2 := by
  rw [State.readUnit]
  split
  · exact s.modesKept_noteCorrected ..
  · exact (s.modesKept_noteCorrected ..).trans (State.modesKept_noteUncorrectable ..)

theorem State.modesKept_readUnits (c : Nat) (r : MemReq) : ∀ (us : List Nat) (s : State), s.ModesKept (s.readUnits c r us)
  | [], _ => State.modesKept_of_chans rfl
  | u :: t, s => by
    refine ((s.modesKept_readUnit c r.blk r.pa u false).trans ?_).trans (State.modesKept_readUnits c r t _)
    exact State.modesKept_of_chans (by split <;> rfl)

theorem State.modesKept_scrubUnits (c blk pa : Nat) : ∀ (us : List Nat) (s : State), s.ModesKept (s.scrubUnits c blk pa us)
  | [], _ => State.modesKept_of_chans rfl
  | u :: t, s => (s.modesKept_readUnit c blk pa u true).trans (State.modesKept_scrubUnits c blk pa t _)

theorem State.modesKept_storeAt (s : State) (c blk off v n : Nat) : s.ModesKept (s.storeAt c blk off v n) := by
  unfold State.storeAt
  dsimp only
  split
  · exact State.modesKept_of_setChan (c := c) rfl rfl
  · exact State.modesKept_of_chans rfl

theorem State.modesKept_hallUnit (s : State) (c blk pa off kind op : Nat) (size : Bool) (operand cmp : Nat) :
    s.ModesKept (s.hallUnit c blk pa off kind op size operand cmp).2 := by
  have hread := s.modesKept_readUnit c blk pa (off / 64) false
  rw [State.hallUnit]
  dsimp only
  split
  · exact hread
  · split
    · exact hread
    · exact hread.trans (State.modesKept_storeAt ..)

theorem State.modesKept_performReq (s : State) (c : Nat) (r : MemReq) : s.ModesKept (s.performReq c r) := by
  cases hop : r.op with
  | read first count =>
    simp only [State.performReq, hop]
    exact State.modesKept_readUnits ..
  | write chunk cells =>
    simp only [State.performReq, hop]
    exact State.modesKept_storeAt ..
  | part off len data =>
    have hread := s.modesKept_readUnit c r.blk r.pa (off / 64) false
    simp only [State.performReq, hop]
    split
    · exact hread.emit _
    · exact (hread.trans (State.modesKept_storeAt ..)).emit _
  | hall lane off kind op size lo hi cmpLo cmpHi =>
    have hhall := s.modesKept_hallUnit c r.blk r.pa off kind op size (lo.toNat + 2 ^ 64 * hi.toNat) (cmpLo.toNat + 2 ^ 64 * cmpHi.toNat)
    simp only [State.performReq, hop]
    split <;> exact hhall.emit _
  | scrub =>
    simp only [State.performReq, hop]
    exact State.modesKept_scrubUnits ..
  | writeBack unit ws =>
    simp only [State.performReq, hop]
    exact State.modesKept_of_chans rfl

theorem State.modesKept_runReq (s : State) (c : Nat) (r : MemReq) : s.ModesKept (s.runReq c r) := by
  refine ((State.modesKept_setChan s c (x := (s.chan c).without r) rfl).trans ?_).trans (State.modesKept_performReq _ c r)
  exact State.modesKept_of_chans (by split <;> rfl)

theorem State.modesKept_flushChans (s : State) : s.ModesKept s.flushChans := by
  have hrun : ∀ (c : Nat) (l : List MemReq) (t : State), t.ModesKept (l.foldl (fun u r => u.runReq c r) t) :=
    fun c => foldl_modesKept fun u r => u.modesKept_runReq c r
  have hflush : ∀ (t : State) (c : Nat), t.ModesKept (t.flushChan c) := fun t c => (hrun c _ t).trans (hrun c _ _)
  exact (foldl_modesKept hflush (s.chans.map Prod.fst) s).trans (State.modesKept_of_chans rfl)

/-! ## Performing queues that are empty -/

/-- What a key reads as is listed, or the default. -/
theorem sget_mem_or {α : Type} (d : α) : ∀ (m : Sparse α) (k : Nat), sget d m k = d ∨ (k, sget d m k) ∈ m
  | [], _ => .inl rfl
  | (j, v) :: t, k => by
    by_cases hj : j = k
    · simp [sget, hj]
    · simpa [sget, hj] using (sget_mem_or d t k).imp_right .inr

theorem State.flushChans_idle {s : State} (h : ∀ e ∈ s.chans, e.2.queue = []) : s.flushChans = s := by
  have hqueue : ∀ k, (s.chan k).queue = [] := fun k =>
    (sget_mem_or ({} : Chan) s.chans k).elim (fun hd => congrArg Chan.queue hd) fun hm => h _ hm
  have hidle : ∀ c, s.flushChan c = s := fun c => by simp only [State.flushChan, hqueue, List.foldl_nil]
  have hall : (s.chans.map Prod.fst).foldl (fun t c => t.flushChan c) s = s :=
    List.foldlRecOn (motive := fun t => t = s) _ _ rfl fun t ht c _ => by rw [ht, hidle]
  rw [State.flushChans, hall]

/-! ## What D2 keeps (R153, R424, R427) -/

/-- Two states that differ in the registers alone. -/
def State.sameButRegs (s t : State) : Prop := t = { s with regs := t.regs }

theorem State.sameButRegs.trans {s t u : State} (h : s.sameButRegs t) (h' : t.sameButRegs u) : s.sameButRegs u := by
  unfold State.sameButRegs at *
  rw [h', h]

theorem foldl_sameButRegs {α : Type} {f : State → α → State} (h : ∀ (t : State) x, t.sameButRegs (f t x)) (l : List α) (s : State) : s.sameButRegs (l.foldl f s) :=
  List.foldlRecOn (motive := s.sameButRegs) l f rfl fun t ht x _ => ht.trans (h t x)

theorem State.sameButRegs_lockAll (s : State) (t : PageType) (on : Bool) : s.sameButRegs (s.lockAll t on) :=
  foldl_sameButRegs (fun u i => by cases on <;> rfl) _ s

/-- A channel in D2: in self-refresh with nothing queued, but for one out of service. -/
def Chan.asleep (c : Chan) : Chan := if c.mode = .failed ∨ c.mode = .off then c else { c with mode := .selfRefresh, queue := [] }

/-- The state with the groups, the ports and the domains' pages off. -/
def State.switchedOff (s : State) : State :=
  (memPortPages.foldl (fun (t : State) y => t.lockAll y false) ((s.groupsOff).portsOff (fun x => decide (x.tx = .out)))).clearPages offInD2

theorem State.switchedOff_leaves (s : State) : s.switchedOff.mainMem = s.mainMem ∧ s.switchedOff.chans = s.chans ∧ s.switchedOff.job = s.job ∧ s.switchedOff.vault = s.vault := by
  have h : ((s.groupsOff).portsOff (fun x => decide (x.tx = .out))).sameButRegs s.switchedOff :=
    (foldl_sameButRegs (fun t y => t.sameButRegs_lockAll y false) memPortPages _).trans rfl
  rw [h]
  exact ⟨rfl, rfl, rfl, rfl⟩

theorem State.enterD2_leaves (s : State) : s.enterD2.mainMem = s.flushChans.switchedOff.mainMem ∧ s.enterD2.rowStore = {} ∧ s.enterD2.coreBuf = {} ∧
    s.enterD2.instStore = {} ∧ s.enterD2.dst = .d2 ∧ s.enterD2.job = s.flushChans.switchedOff.job ∧ s.enterD2.vault = s.flushChans.switchedOff.vault ∧
    s.enterD2.chans = smapv {} Chan.asleep s.flushChans.switchedOff.chans := by
  rw [State.enterD2, State.switchedOff]
  generalize s.flushChans = f
  generalize State.clearPages _ offInD2 = u
  dsimp only
  split <;> exact ⟨rfl, rfl, rfl, rfl, rfl, rfl, rfl, rfl⟩

/-- A map over a table that keeps the default reads as the map of what was read, where that is no default. -/
theorem sget_smapv {α : Type} [DecidableEq α] {d : α} {f : α → α} (hd : f d = d) {k : Nat} : ∀ {m : Sparse α}, f (sget d m k) ≠ d →
    sget d (smapv d f m) k = f (sget d m k)
  | [], h => absurd hd h
  | (j, v) :: t, h => by
    by_cases hj : j = k
    · have hv : f v ≠ d := by simpa [sget, hj] using h
      simp [smapv, sget, hj, hv]
    · have hrest : sget d (smapv d f t) k = f (sget d t k) := sget_smapv hd (by simpa [sget, hj] using h)
      rw [smapv] at hrest
      by_cases hv : f v = d <;> simp [smapv, sget, hj, hv, hrest]

theorem State.chan_enterD2 (s : State) {k : Nat} (hfailed : (s.chan k).mode ≠ .failed) (hoff : (s.chan k).mode ≠ .off) : (s.enterD2.chan k).queue = [] := by
  obtain ⟨_, _, _, _, _, _, _, hasleep⟩ := s.enterD2_leaves
  obtain ⟨_, hchans, _, _⟩ := s.flushChans.switchedOff_leaves
  have hmode := s.modesKept_flushChans.mode_eq k hoff
  have hsleeps : (s.flushChans.chan k).asleep = { s.flushChans.chan k with mode := .selfRefresh, queue := [] } := if_neg (by simp [hmode, hfailed, hoff])
  have hread : s.enterD2.chan k = (s.flushChans.chan k).asleep := by
    rw [State.chan, hasleep, hchans]
    refine sget_smapv rfl ?_
    change (s.flushChans.chan k).asleep ≠ {}
    rw [hsleeps]
    exact Chan.ne_reset_of_mode ChanMode.noConfusion
  rw [hread, hsleeps]

/-! ## What D3 keeps (R424, R437) -/

theorem State.sameButRegs_grantAll (s : State) (on : Bool) : s.sameButRegs (s.grantAll on) :=
  foldl_sameButRegs (fun t n => by split <;> rfl) _ s

/-- The end of a Surge changes the registers and the supply alone. -/
theorem State.surgeEnd_eq (s : State) (cause : Nat) : s.surgeEnd cause = { s with regs := (s.surgeEnd cause).regs, power := (s.surgeEnd cause).power } := by
  obtain ⟨r, hgrant⟩ : ∃ r, s.grantAll false = { s with regs := r } := ⟨_, s.sameButRegs_grantAll false⟩
  unfold State.surgeEnd
  split
  · rfl
  · rw [hgrant]
    dsimp only
    split <;> rfl

theorem State.powerOff_leaves (s : State) : s.powerOff.dst = .d3 ∧ s.powerOff.mainMem = {} ∧ s.powerOff.rowStore = {} ∧ s.powerOff.coreBuf = {} ∧
    s.powerOff.job = {} ∧ s.powerOff.pending = s.pending ∧ s.powerOff.vault.folio = s.vault.folio ∧ s.powerOff.vault.hours = s.vault.hours ∧
    s.powerOff.dies = s.dies ∧ s.powerOff.jobPhase = 0 := by
  rw [State.powerOff, State.surgeEnd_eq]
  exact ⟨rfl, rfl, rfl, rfl, rfl, rfl, rfl, rfl, rfl, rfl⟩

/-- Settles O53: each command and each wake by its own lemma, what D2 keeps by `State.enterD2_leaves`, what D3 keeps by `State.powerOff_leaves`. -/
theorem deviceStates : Obligations.DeviceStates := by
  unfold Obligations.DeviceStates
  refine ⟨fun s ini ep c i port => ?moves, fun s => ?keeps⟩
  case moves =>
    intro does waking n at_ built
    refine ⟨fun htakes => ?commands, fun hdst hwake hset hphase hranks hlong => execD2IdleExpiry_sleeps rfl hdst hwake hset hphase hranks hlong,
      fun hdst hwake => ⟨execD1Wake_wakes hdst hwake, execD1Wake_passFirst hwake⟩, execPortLightWake_wakes, fun hdst _ => execWakeAtReached_wakes hdst,
      fun hdst hwake hin => ⟨execD2Wake_passFirst rfl hdst hwake hin, execD2Wake_toD0 rfl hdst hwake hin, execD2Wake_toD1 rfl hdst hwake hin⟩⟩
    case commands =>
      have hdoes : ∀ {f : State → State} {t : State}, f s = t → (.next (s.stateCmd ini ep f) : Host.Outcome State Fault Refusal) = .next (t.answer ini 0) :=
        fun h => congrArg _ ((State.stateCmd_taken htakes _).trans (congrArg (fun t => State.answer t ini 0) h))
      exact ⟨fun hdst hwake => hdoes (State.cmdD0_wakes ini hdst hwake), fun hdst => hdoes (State.cmdD0_awake ini hdst),
        fun hdst hslots hqueue => hdoes (State.cmdD1_idle ini hdst hslots hqueue), fun hdst hqueue => hdoes (State.cmdD1_busy ini hdst hqueue),
        fun hdst hwake => hdoes (State.cmdD2_idle hdst hwake), fun hdst => hdoes (State.cmdD2_awake hdst),
        fun hdst hstage hrun hcause => hdoes (State.cmdD3_stops hdst hstage hrun hcause), fun hdst => hdoes (State.cmdD3_idle hdst)⟩
  case keeps =>
    obtain ⟨hmem, hrows, hbufs, hinsts, hdst, hjob, hvault, _⟩ := s.enterD2_leaves
    obtain ⟨hmem', _, hjob', hvault'⟩ := s.flushChans.switchedOff_leaves
    have hflushed : s.enterD2.mainMem = s.flushChans.mainMem := hmem.trans hmem'
    refine ⟨hflushed, fun hidle => hflushed.trans (by rw [State.flushChans_idle hidle]), hrows, hbufs, hinsts, hdst, hjob.trans hjob', hvault.trans hvault',
      fun k => ?queue, s.powerOff_leaves⟩
    by_cases hfailed : (s.chan k).mode = .failed
    · exact .inr (.inl hfailed)
    · by_cases hoff : (s.chan k).mode = .off
      · exact .inr (.inr hoff)
      · exact .inl (s.chan_enterD2 hfailed hoff)

end Sys2Proof.Machine
end

section
/-!
Chains of the XE: which becomes ACTIVE (R181, R190), what a descriptor may not be (R184), and how the next descriptor of a chain is taken in (R183, R190).
-/
namespace Sys2Proof.Machine

/-! ## The chain that becomes ACTIVE (R181, R190) -/

theorem minBy_le {α : Type} {key : α → Nat} : ∀ {l : List α} {m : α}, minBy key l = some m → ∀ x ∈ l, key m ≤ key x
  | y :: t, m, h, x, hx => by
    rw [minBy] at h
    cases ht : minBy key t with
    | none =>
      have hnil : t = [] := by
        by_contra hne
        obtain ⟨z, hz, _⟩ := exists_minBy_of_ne_nil (key := key) hne
        simp [ht] at hz
      simp_all
    | some z =>
      have hz := minBy_le ht
      simp only [ht] at h
      rcases List.mem_cons.1 hx with rfl | hxt
      · split at h <;> cases h <;> omega
      · have := hz x hxt
        split at h <;> cases h <;> omega

/-- The QUEUED chains of a context kind whose contexts neither park nor are parked (R181, R193). -/
def State.waitingChains (s : State) (n : Nat) (x : Ctx) : List Chain :=
  (s.xe n).chains.filter (fun c => decide (c.state = .queued) && decide (c.ctx = x) && !heldMode (s.ctx (50 * n + c.core.val) x).mode)

section Activation
variable {s : State} {n : Nat} {x : Ctx}

theorem State.mem_waitingChains {c : Chain} : c ∈ s.waitingChains n x ↔ c ∈ (s.xe n).chains ∧
    c.state = .queued ∧ c.ctx = x ∧ (s.ctx (50 * n + c.core.val) x).mode ≠ .drainPark ∧ (s.ctx (50 * n + c.core.val) x).mode ≠ .parked := by
  simp [State.waitingChains, heldMode, and_assoc]

/-- The oldest chain that waits, one of a D context before any of a P context. -/
def State.nextWaitingChain (s : State) (n : Nat) : Option Chain :=
  (minBy (fun c : Chain => c.seq) (s.waitingChains n .d)).or (minBy (fun c : Chain => c.seq) (s.waitingChains n .p))

/-- The waiting chain with the least post number of its kind, where no D chain waits before it, has the post number of the chain that is taken. -/
theorem State.nextWaitingChain_seq {c : Chain} (hc : c ∈ s.waitingChains n x) (hold : ∀ k ∈ s.waitingChains n x, c.seq ≤ k.seq)
    (hd : x = .p → s.waitingChains n .d = []) : ∃ m, s.nextWaitingChain n = some m ∧ m.seq = c.seq := by
  obtain ⟨m, hm, hmem⟩ := exists_minBy_of_ne_nil (key := fun c : Chain => c.seq) (List.ne_nil_of_mem hc)
  refine ⟨m, ?_, Nat.le_antisymm (minBy_le hm c hc) (hold m hmem)⟩
  cases x with
  | d => simp [State.nextWaitingChain, hm]
  | p => simp [State.nextWaitingChain, hd rfl, minBy, hm]

theorem execChainActivate_activates {stack : Fin 40} {i : Fin 16} {m : Chain} (hm : s.nextWaitingChain stack = some m)
    (hfree : ∀ k ∈ (s.xe stack).chains, k.place ≠ some i) (hlow : ∀ j : Fin 16, j < i → ∃ k ∈ (s.xe stack).chains, k.place = some j) :
    execChainActivate stack s = .next (s.modChain stack m.seq (fun k => { k with state := .active, place := some i })) := by
  have hplace : (List.range 16).find? (fun j => !((s.xe stack).chains.filterMap (fun c => c.place)).contains (Fin.ofNat 16 j)) = some i.val := by
    refine List.find?_range_eq_some.2 ⟨?_, List.mem_range.2 i.isLt, fun j hj => ?_⟩
    · simpa using hfree
    · simpa using hlow (Fin.ofNat 16 j) (by simp [Fin.lt_def, Nat.mod_eq_of_lt (hj.trans i.isLt), hj])
  have hval : Fin.ofNat 16 i.val = i := Fin.ext (Nat.mod_eq_of_lt i.isLt)
  simp only [execChainActivate, hplace, hval]
  cases hd : minBy (fun c : Chain => c.seq) (s.waitingChains stack .d) with
  | some c =>
    obtain rfl : c = m := by simpa [State.nextWaitingChain, hd] using hm
    simp only [State.waitingChains] at hd
    simp only [hd]
  | none =>
    have hp : minBy (fun c : Chain => c.seq) (s.waitingChains stack .p) = some m := by simpa [State.nextWaitingChain, hd] using hm
    simp only [State.waitingChains] at hd hp
    simp only [hd, hp]

end Activation

/-! ## What a descriptor may not be (R184) -/

/-- The fields that every descriptor has are as R183 asks: reserved bits zero, the context that posted it, and an aligned record. -/
def headClean (x : Ctx) (d : Nat) : Prop :=
  bits d 12 4 = 0 ∧ bits d 56 8 = 0 ∧ dCtx d = (match x with | .d => 0 | .p => 1) ∧ (dRecordFlag d = true → dRecord d % 16 = 0)

section Breaches
variable {cores : Nat} {x : Ctx} {d : Nat}

theorem descFault_broken_head (h : 2 < dOp d ∨ ¬ headClean x d) : descFault cores x d = some 0x09 := by
  refine if_pos ?_
  unfold headClean at h
  tauto

theorem descFault_nop (hclean : headClean x d) (hop : dOp d = 0) : descFault cores x d = none := by
  obtain ⟨hflags, hresv, hctx, hrec⟩ := hclean
  cases x <;> simp +contextual [descFault, hflags, hresv, hctx, hop, hrec]

section Copy
variable (hclean : headClean x d) (hop : dOp d = 1) (hresv : bits d 112 16 = 0)
include hclean hop hresv

/-- A COPY with clean fields is judged by its operand pair. -/
theorem descFault_copy_no_pair (hpair : pairAlign (spaceOf (dSrcSpace d)) (spaceOf (dDstSpace d)) = none) : descFault cores x d = some 0x09 := by
  obtain ⟨hflags, hresv', hctx, hrec⟩ := hclean
  cases x <;> simp +contextual [descFault, hflags, hresv', hctx, hop, hresv, hpair]

theorem descFault_copy_misaligned {m : Nat} (hpair : pairAlign (spaceOf (dSrcSpace d)) (spaceOf (dDstSpace d)) = some m)
    (hbad : dLen d < m ∨ 2 ^ 30 < dLen d ∨ dLen d % m ≠ 0 ∨ dSrc d % m ≠ 0 ∨ dDst d % m ≠ 0 ∨ dSrcStride d % m ≠ 0 ∨ dDstStride d % m ≠ 0) :
    descFault cores x d = some 0x09 := by
  obtain ⟨hflags, hresv', hctx, hrec⟩ := hclean
  simp only [descFault, hpair, if_pos hbad]
  cases x <;> simp +contextual [hflags, hresv', hctx, hop, hresv]

/-- A COPY of an aligned pair whose source lies in main memory has the fault of its destination. -/
theorem descFault_copy_from_main {m : Nat} (hpair : pairAlign (spaceOf (dSrcSpace d)) (spaceOf (dDstSpace d)) = some m) (hsrc : spaceOf (dSrcSpace d) = some .main)
    (hgood : ¬ (dLen d < m ∨ 2 ^ 30 < dLen d ∨ dLen d % m ≠ 0 ∨ dSrc d % m ≠ 0 ∨ dDst d % m ≠ 0 ∨ dSrcStride d % m ≠ 0 ∨ dDstStride d % m ≠ 0)) :
    descFault cores x d = operandFault cores (spaceOf (dDstSpace d)) (dDst d) := by
  obtain ⟨hflags, hresv', hctx, hrec⟩ := hclean
  have hmain : operandFault cores (spaceOf (dSrcSpace d)) (dSrc d) = none := by rw [hsrc]; rfl
  simp only [descFault, hpair, if_neg hgood, hmain]
  cases operandFault cores (spaceOf (dDstSpace d)) (dDst d) <;> cases x <;> simp +contextual [hflags, hresv', hctx, hrec, hop, hresv]

end Copy

theorem spaceOf_ge : ∀ {n : Nat}, 4 ≤ n → spaceOf n = none
  | _ + 4, _ => rfl

theorem spaceOf_eq_row {n : Nat} (h : spaceOf n = some .row) : n = 1 := by
  unfold spaceOf at h
  split at h <;> simp_all

theorem pairAlign_from_buf {q : Option Space} (h : q ≠ some .row) : pairAlign (some .buf) q = none := by
  cases q with
  | none => rfl
  | some q => cases q <;> simp_all [pairAlign]

end Breaches

/-! ## Taking in a descriptor (R183, R190) -/

section Fetch
variable {s u v : State} {stack : Fin 40} {place : Fin 16} {c : Chain} {jva : Dword} {pa raw : Nat}
  (hc : (s.xe stack).chains.find? (fun k => decide (k.place = some place)) = some c) (hfetch : c.fetch = some jva) (hactive : c.state = .active)
  (hwalk : c.walking = false) (hissued : ∀ d ∈ c.descs, d.issued = true) (haligned : jva.toNat % 64 = 0)
  (hpa : s.translate stack jva.toNat false = (.hit pa, u)) (hread : u.readBulk pa 1 = (some raw, v))
include hc hfetch hactive hwalk hissued haligned hpa hread

theorem execDescriptorFetched_joins (hlegal : descFault (s.enabledCores stack).length c.ctx raw = none) :
    execDescriptorFetched stack place s = .next ((v.modChain stack c.seq (fun k => takeDesc k jva raw)).notifyDue stack c.seq) := by
  simp +contextual [execDescriptorFetched, hc, hfetch, hactive, hwalk, hissued, haligned, hpa, hread, hlegal]

theorem execDescriptorFetched_fails {code : Nat} (hbreach : descFault (s.enabledCores stack).length c.ctx raw = some code) :
    execDescriptorFetched stack place s =
      .next (v.failChain stack c.seq code (descFaultVa (s.enabledCores stack).length raw jva.toNat code) 4) := by
  simp +contextual [execDescriptorFetched, hc, hfetch, hactive, hwalk, hissued, haligned, hpa, hread, hbreach]

end Fetch

/-- Settles O29: the choice of the oldest waiting chain, the two outcomes of a fetch, and one lemma for each kind of breach. -/
theorem descriptorChains : Obligations.DescriptorChains := by
  unfold Obligations.DescriptorChains
  refine ⟨?activation, ?fetch, ?breaches⟩
  case activation =>
    intro s stack x c i n chains waits hmem hwaits hold hd hfree hlow
    have hwaiting : ∀ {y k}, k ∈ s.waitingChains n y ↔ k ∈ chains ∧ waits y k := State.mem_waitingChains
    obtain ⟨m, hm, hseq⟩ := State.nextWaitingChain_seq (hwaiting.2 ⟨hmem, hwaits⟩) (fun k hk => hold k (hwaiting.1 hk).1 (hwaiting.1 hk).2)
      (fun hx => List.eq_nil_iff_forall_not_mem.2 fun k hk => hd hx k (hwaiting.1 hk).1 (hwaiting.1 hk).2)
    rw [exec_chainActivate, execChainActivate_activates hm hfree hlow, hseq]
  case fetch =>
    intro s stack place c jva pa raw u v n fault d hc hfetch hactive hwalk hissued haligned hpa hread
    exact ⟨execDescriptorFetched_joins hc hfetch hactive hwalk hissued haligned hpa hread,
      execDescriptorFetched_fails hc hfetch hactive hwalk hissued haligned hpa hread⟩
  case breaches =>
    intro cores d x ctx clean copy
    have hhead : clean → headClean x d := fun ⟨hflags, hresv, hctx, hrec⟩ => ⟨hflags, hresv, hctx, hrec⟩
    refine ⟨fun hbad => descFault_broken_head ?head, fun hclean hop => descFault_nop (hhead hclean) hop, fun ⟨hclean, hop, hresv⟩ hsrc hdst => ?fromBuf,
      fun ⟨hclean, hop, hresv⟩ hdst hsrc => ?noSource, fun ⟨hclean, hop, hresv⟩ hsrc hdst hbad => ?unaligned,
      fun ⟨hclean, hop, hresv⟩ hsrc hdst hmin hmax hlen ha hb hsa hsb => ?toRows⟩
    case head =>
      refine hbad.imp_right fun hbad hclean => ?_
      obtain ⟨hflags, -, hctx, hrec⟩ := hclean
      rcases hbad with h | h | ⟨hflag, h⟩
      · exact h hflags
      · exact h hctx
      · exact h (hrec hflag)
    case fromBuf =>
      refine descFault_copy_no_pair (hhead hclean) hop hresv ?_
      rw [dSrcSpace, hsrc]
      exact pairAlign_from_buf fun h => hdst (spaceOf_eq_row h)
    case noSource =>
      refine descFault_copy_no_pair (hhead hclean) hop hresv ?_
      rw [dSrcSpace, spaceOf_ge hsrc]
      rfl
    case unaligned =>
      refine descFault_copy_misaligned (m := 64) (hhead hclean) hop hresv (by rw [dSrcSpace, dDstSpace, hsrc, hdst]; rfl) ?_
      rw [dLen, dSrc]
      tauto
    case toRows =>
      have hspace : spaceOf (dSrcSpace d) = some .main := by rw [dSrcSpace, hsrc]; rfl
      have hrow : spaceOf (dDstSpace d) = some .row := by rw [dDstSpace, hdst]; rfl
      rw [descFault_copy_from_main (m := 512) (hhead hclean) hop hresv (by rw [hspace, hrow]; rfl) hspace ?_, hrow]
      · rfl
      · rw [dLen, dSrc, dDst, dSrcStride, dDstStride]
        omega

end Sys2Proof.Machine
end

section
/-!
The Pager (R176 to R178, R199): how it takes a fault, fills, settles and resumes, and its pools; and the registers of the XE that take no value while a chain is ACTIVE
(R169, R198).
-/
namespace Sys2Proof.Machine

/-! ## Taking a fault (R176, R177) -/

/-- Of `n` numbers one is not among fewer than `n` names. -/
theorem exists_find?_range_not_any {α : Type} (name : α → Nat) {l : List α} {n : Nat} (h : l.length < n) :
    ∃ i, (List.range n).find? (fun i => !l.any (fun a => decide (name a = i))) = some i ∧ i < n ∧ ∀ a ∈ l, name a ≠ i := by
  cases hfind : (List.range n).find? (fun i => !l.any (fun a => decide (name a = i))) with
  | some i => exact ⟨i, rfl, List.mem_range.1 (List.mem_of_find?_eq_some hfind), by simpa using List.find?_some hfind⟩
  | none =>
    have hsub : List.range n ⊆ l.map name := fun i hi => by simpa using List.find?_eq_none.1 hfind i hi
    have hle := (List.nodup_range.subperm hsub).length_le
    simp only [List.length_range, List.length_map] at hle
    omega

section Faults
variable {s : State} {stack : Fin 40}

theorem State.pagerOn_iff {n : Nat} : s.pagerOn n = true ↔ s.fld (pagerReg n 0x044) 0 1 = 1 := decide_eq_true_iff

theorem State.pagerOn_of_ne_zero {n : Nat} (h : s.fld (pagerReg n 0x044) 0 1 ≠ 0) : s.pagerOn n = true := by
  have hlt : s.fld (pagerReg n 0x044) 0 1 < 2 ^ 1 := Nat.mod_lt _ (by decide)
  exact State.pagerOn_iff.2 (by omega)

section Receive
variable {f : PFault} {t : List PFault} (hinbox : (s.pager stack).inbox = f :: t) (hon : s.pagerOn stack = true)
include hinbox hon

theorem execPagerFaultReceive_joins {q : PFault} (hq : (s.pager stack).faults.find? (fun q => decide (q.entryPa = f.entryPa) && !q.settled) = some q) :
    execPagerFaultReceive stack s = .next ((s.setPager stack { s.pager stack with inbox := t }).modFault stack q.tag
      (fun k => { k with clients := k.clients ++ f.clients.filter (fun c => !k.clients.any (fun d => decide (d.1 = c.1))) })) := by
  simp [execPagerFaultReceive, hinbox, hon, hq]

theorem execPagerFaultReceive_enters (hnew : (s.pager stack).faults.find? (fun q => decide (q.entryPa = f.entryPa) && !q.settled) = none)
    (hroom : (s.pager stack).faults.length < 64) (hzero : f.zero = true) : ∃ tag, tag ≤ 64 ∧ (∀ g ∈ (s.pager stack).faults, g.tag ≠ tag) ∧
      execPagerFaultReceive stack s =
        .next (s.setPager stack { s.pager stack with inbox := t, faults := (s.pager stack).faults ++ [{ f with tag := tag }] }) := by
  obtain ⟨tag, htag, hlt, hfree⟩ := exists_find?_range_not_any PFault.tag (n := 65) (by omega : (s.pager stack).faults.length < 65)
  refine ⟨tag, by omega, hfree, ?_⟩
  simp [execPagerFaultReceive, hinbox, hon, hnew, Nat.not_le.2 hroom, htag, hzero]

end Receive

/-! ## Filling, resuming, and the end of a load (R176 to R178, R199) -/

theorem execZeroFill_fills {f : PFault} {page : Nat} {t : List Nat} (hmem : s.memOn = true) (hon : s.pagerOn stack = true)
    (hf : (s.pager stack).faults.find? (fun q => q.zero && q.page.isNone && !q.settled) = some f)
    (hfew : ((s.pager stack).faults.filter (fun q => q.page.isSome && !q.settled)).length < 4)
    (hpool : (if f.level = 2 then (s.pager stack).pool2M else (s.pager stack).pool64K) = page :: t) :
    let taken := if f.level = 2 then s.setPager stack { s.pager stack with pool2M := t } else s.setPager stack { s.pager stack with pool64K := t }
    let low := if t.length < 16 then taken.irq .pager stack 0 else taken
    execZeroFill stack s = .next (((low.writeBulk page 0 (if f.level = 2 then 32768 else 1024)).modFault stack f.tag
      (fun q => { q with page := some page })).emit (memCell 0x07 stack (chanDie (s.chanOf f.entryPa)) f.entryPa 0 (swapTag f.tag)
        (payload [(0, 8, f.entryPa), (8, 8, f.entry.toNat), (16, 8, filledEntry f.entry.toNat page)]))) := by
  by_cases hlevel : f.level = 2
  all_goals
    simp only [hlevel, if_true, if_false] at hpool
    simp [execZeroFill, hmem, hon, hf, Nat.not_le.2 hfew, hlevel, hpool]

theorem execResume_resumes {entry : BitVec 42} {f : PFault} (hon : s.pagerOn stack = true)
    (hf : (s.pager stack).faults.find? (fun q => (q.settled || q.noted) && decide (q.entryPa = entry.toNat)) = some f) :
    let settled := if f.settled then s else s.settleFault stack f
    let resumed := (settled.dropFault stack f.tag).eachClient (fun u c _ => u.clientGo stack c) f.clients
    let noted := resumed.notifyAll stack (resumed.chainSeqs stack)
    execResume stack entry s = .next (noted.hallPump (2 * noted.hallWait.length + 1)) := by
  simp only [execResume, hf, hon]
  rfl

theorem execLoadTmo_fails {f : PFault} (hon : s.pagerOn stack = true)
    (hf : (s.pager stack).faults.find? (fun q => !q.zero && !q.settled && !q.noted &&
      decide (q.born + 1000000 * s.fld (pagerReg stack 0x048) 0 16 < s.now)) = some f) :
    execLoadTmo stack s = .next ((s.failFault stack f 0x0C).irq .pager stack 2) := by
  simp only [execLoadTmo, hon, if_true, hf]

/-- A ticket all of whose segments are delivered brings nothing more: it is announced (R177). -/
theorem execTicketDone_announces {ticket : BitVec 16} {data : List Byte}
    (hmine : s.job.segs.filter (fun x => decide ((segRec s.job.manifest x.idx).ticket = ticket.toNat)) ≠ [])
    (hall : ∀ x ∈ s.job.segs.filter (fun x => decide ((segRec s.job.manifest x.idx).ticket = ticket.toNat)), x.delivered = true) (hjob : s.jobPhase ≠ 0) :
    execTicketDone ticket data s = .next ((s.emit (.ticketDone ticket.toNat)).ticketBroadcast ticket.toNat) := by
  have hcome : (s.job.segs.filter (fun x => decide ((segRec s.job.manifest x.idx).ticket = ticket.toNat))).find?
      (fun x => !x.delivered && decide ((segSource s.job.manifest x.idx x.src).1 = 1)) = none :=
    List.find?_eq_none.2 fun x hx => by simp [hall x hx]
  simp only [execTicketDone, hcome]
  exact if_pos ⟨by simpa using hmine, List.all_eq_true.2 hall, hjob⟩

/-! ## The pools (R178, R199) -/

section Pools
variable {n v : Nat}

theorem State.poolPush_small (hsize : bitOf v 0 = false) (hroom : (s.pager n).pool64K.length < 64) :
    s.poolPush n v = { s with jobPool64 := s.jobPool64.filter (fun x => decide (x ≠ bits v 16 26 * 65536)) }.setPager n
      { s.pager n with pool64K := (s.pager n).pool64K ++ [bits v 16 26 * 65536] } := by
  simp [State.poolPush, hsize, Nat.not_le.2 hroom]

theorem State.poolPush_large (hsize : bitOf v 0 = true) (hroom : (s.pager n).pool2M.length < 64) (haligned : bits v 16 26 * 65536 % 2 ^ 21 = 0) :
    s.poolPush n v = { s with jobPool2M := s.jobPool2M.filter (fun x => decide (x ≠ bits v 16 26 * 65536)) }.setPager n
      { s.pager n with pool2M := (s.pager n).pool2M ++ [bits v 16 26 * 65536] } := by
  have haligned' : bits v 16 26 * 65536 % 2097152 = 0 := haligned
  simp [State.poolPush, hsize, Nat.not_le.2 hroom, haligned']

theorem State.poolPush_misaligned (hsize : bitOf v 0 = true) (haligned : bits v 16 26 * 65536 % 2 ^ 21 ≠ 0) : s.poolPush n v = s.errCount .pager n 2 := by
  have haligned' : bits v 16 26 * 65536 % 2097152 ≠ 0 := haligned
  simp [State.poolPush, hsize, haligned']

end Pools

/-! ## TABLE_BASE and TAG_LIMIT (R169, R198) -/

section Registers
variable {n : Nat}

theorem State.anyActive_true (h : ∃ c ∈ (s.xe n).chains, c.state = .active) : s.anyActive n = true := by simpa [State.anyActive] using h
theorem State.anyActive_false (h : ∀ c ∈ (s.xe n).chains, c.state ≠ .active) : s.anyActive n = false := by simpa [State.anyActive] using h

theorem State.setTableBase_idle (h : s.anyActive n = false) (v : Dword) : s.setTableBase n v = s.wr64 (xeReg n 0x044) (v &&& 0x3FFFFE00001) := by
  have hmask : BitVec.ofNat 64 (v.toNat &&& 0x3FFFFE00001) = v &&& 0x3FFFFE00001 := BitVec.eq_of_toNat_eq (by simp)
  rw [State.setTableBase, h, hmask]
  rfl

theorem State.setTagLimit_idle (h : s.anyActive n = false) (v : Nat) : s.setTagLimit n v = s.wr (xeReg n 0x04C) (BitVec.ofNat 32 (min 2048 v)) := by
  rw [State.setTagLimit, h]
  rfl

theorem State.setTableBase_active (h : s.anyActive n = true) (v : Dword) : s.setTableBase n v = s.errCount .xe n 2 := if_pos h
theorem State.setTagLimit_active (h : s.anyActive n = true) (v : Nat) : s.setTagLimit n v = s.errCount .xe n 2 := if_pos h

end Registers

end Faults

/-- Settles O32: each command of the Pager by its own lemma; the writes take effect by `State.busDo_taken`, as `poolPush`, `setTableBase` and `setTagLimit` say. -/
theorem pagerFaults : Obligations.PagerFaults := by
  unfold Obligations.PagerFaults
  refine ⟨?receive, ?settle, ?registers⟩
  case receive =>
    intro s stack f q t n p same hinbox henabled
    have hon := State.pagerOn_of_ne_zero henabled
    exact ⟨execPagerFaultReceive_joins hinbox hon, execPagerFaultReceive_enters hinbox hon⟩
  case settle =>
    intro s ini ep stack entry page t f ticket data v n p taken low settled resumed noted a mine enabled
    refine ⟨fun hmem hon => execZeroFill_fills hmem (State.pagerOn_iff.2 hon), fun hon => execResume_resumes (State.pagerOn_iff.2 hon),
      fun hon => execLoadTmo_fails (State.pagerOn_iff.2 hon), execTicketDone_announces, fun ⟨hopen, hheld⟩ => ?pushes⟩
    have hpush : exec (.poolPush ini ep stack v) s = .next ((s.poolPush stack v.toNat).answer ini 0) :=
      congrArg _ (State.busDo_taken _ stack.isLt (by decide) hopen hheld)
    rw [hpush]
    exact ⟨fun hsize hroom => by rw [State.poolPush_small hsize hroom], fun hsize hroom haligned => by rw [State.poolPush_large hsize hroom haligned],
      fun hsize haligned => by rw [State.poolPush_misaligned hsize haligned]⟩
  case registers =>
    intro s ini ep stack v limit n does
    have hbase : s.takes ini ep .xe n 0x044 → does (.tableBaseWrite ini ep stack v) (s.setTableBase n v) := fun ⟨hopen, hheld⟩ =>
      congrArg _ (State.busDo_taken _ stack.isLt (by decide) hopen hheld)
    have hlimit : s.takes ini ep .xe n 0x04C → does (.tagLimitWrite ini ep stack limit) (s.setTagLimit n limit.toNat) := fun ⟨hopen, hheld⟩ =>
      congrArg _ (State.busDo_taken _ stack.isLt (by decide) hopen hheld)
    refine ⟨fun htakes hidle => ?_, fun htakes hactive => ?_, fun htakes hidle => ?_, fun htakes hactive => ?_⟩
    · exact State.setTableBase_idle (State.anyActive_false hidle) v ▸ hbase htakes
    · exact State.setTableBase_active (State.anyActive_true hactive) v ▸ hbase htakes
    · exact State.setTagLimit_idle (State.anyActive_false hidle) limit.toNat ▸ hlimit htakes
    · exact State.setTagLimit_active (State.anyActive_true hactive) limit.toNat ▸ hlimit htakes

end Sys2Proof.Machine
end

section
/-!
Pieces of a transfer: the issue of a local COPY piece (R181, R182, R185), its completion (R185, R187, R190), and a record that is written (R187, R188).
-/
namespace Sys2Proof.Machine

/-! ## Updating the first of a list -/

section FirstOfList
variable {α : Type} {p : α → Bool} {f : α → α}

theorem find?_modFirst {c : α} : ∀ {l : List α}, l.find? p = some c → p (f c) = true → (modFirst p f l).find? p = some (f c)
  | x :: t, h, hf => by
    by_cases hx : p x = true
    · obtain rfl : x = c := by simpa [hx] using h
      simp [modFirst, hx, hf]
    · have ht : t.find? p = some c := by simpa [hx] using h
      simp [modFirst, hx, find?_modFirst ht hf]

theorem filter_modFirst {q : α → Bool} (hp : ∀ x, p x = true → q x = false ∧ q (f x) = false) : ∀ l : List α, (modFirst p f l).filter q = l.filter q
  | [] => rfl
  | x :: t => by
    by_cases hx : p x = true
    · simp [modFirst, hx, hp x hx]
    · simp [modFirst, hx, List.filter_cons, filter_modFirst hp t]

end FirstOfList

/-! ## Updating one chain (R179, R190) -/

section Chains
variable {s : State} {n seq : Nat} {c : Chain} {f : Chain → Chain}

theorem State.seq_of_chain (hc : s.chain n seq = some c) : c.seq = seq :=
  of_decide_eq_true (List.find?_some (p := fun k : Chain => decide (k.seq = seq)) hc)

/-- An XE with a chain reads back. -/
theorem State.xe_setXe_of_chains {e : Xe} (h : e.chains ≠ []) : (s.setXe n e).xe n = e :=
  sget_sset_same_ne _ _ _ fun he => h (congrArg Xe.chains he)

theorem State.setXe_setXe_of_chains {e : Xe} (h : e.chains ≠ []) (e' : Xe) : (s.setXe n e).setXe n e' = s.setXe n e' := by
  have hne : e ≠ {} := fun he => h (congrArg Xe.chains he)
  simp only [State.setXe, sset_sset_same_ne s.xes n e' hne]

section
variable (hc : s.chain n seq = some c) (hf : (f c).seq = seq)
include hc hf

theorem State.find?_chains_modFirst : (modFirst (fun k => decide (k.seq = seq)) f (s.xe n).chains).find? (fun k => decide (k.seq = seq)) = some (f c) :=
  find?_modFirst hc (decide_eq_true hf)

theorem State.xe_modChain : (s.modChain n seq f).xe n = { s.xe n with chains := modFirst (fun k => decide (k.seq = seq)) f (s.xe n).chains } :=
  State.xe_setXe_of_chains (List.ne_nil_of_mem (List.mem_of_find?_eq_some (State.find?_chains_modFirst hc hf)))

theorem State.chain_modChain : (s.modChain n seq f).chain n seq = some (f c) := by
  rw [State.chain, State.xe_modChain hc hf]
  exact State.find?_chains_modFirst hc hf

/-- Which descriptors are complete does not depend on the chains. -/
theorem State.complete_modChain (d : DescState) : ((s.modChain n seq f).xe n).complete seq d = (s.xe n).complete seq d := by
  rw [State.xe_modChain hc hf]
  rfl

end

/-- A chain that leaves leaves nothing of what was changed in it. -/
theorem State.dropChain_modChain (hc : s.chain n seq = some c) (hf : ∀ k, k.seq = seq → (f k).seq = seq) :
    (s.modChain n seq f).dropChain n seq = s.dropChain n seq := by
  have hseq := State.seq_of_chain hc
  have hfound := State.find?_chains_modFirst hc (hf c hseq)
  have hrest : (modFirst (fun k => decide (k.seq = seq)) f (s.xe n).chains).filter (fun k => decide (k.seq ≠ seq)) =
      (s.xe n).chains.filter (fun k => decide (k.seq ≠ seq)) :=
    filter_modFirst (fun k hk => by simp [of_decide_eq_true hk, hf k (of_decide_eq_true hk)]) _
  rw [State.dropChain, State.xe_modChain hc (hf c hseq), State.modChain,
    State.setXe_setXe_of_chains (List.ne_nil_of_mem (List.mem_of_find?_eq_some hfound)), State.dropChain, hrest]

/-! ## The last notification of a chain (R187, R188, R190) -/

/-- Noting what is complete changes of a descriptor only whether it has issued and when it was done. -/
theorem State.noteDone_eq (hc : s.chain n seq = some c) : ∃ g : DescState → DescState,
    s.noteDone n seq = s.modChain n seq (fun k => { k with descs := c.descs.map g }) ∧
    ∀ d, (g d).raw = d.raw ∧ (g d).idx = d.idx ∧ (g d).recDone = d.recDone ∧ (d.issued = true → (g d).issued = true) := by
  unfold State.noteDone
  rw [hc]
  refine ⟨_, rfl, fun d => ?_⟩
  dsimp only
  split <;> split <;> simp_all

section
variable {d : DescState} {ds : List DescState} (hc : s.chain n seq = some c) (hdescs : c.descs = d :: ds) (hdone : (s.xe n).complete seq d = true)
  (hrec : d.recDone = true) (hkettle : dKettleFlag d.raw.toNat = true) (hlast : dLast d.raw.toNat = true)
include hc hdescs hdone hrec hkettle hlast

theorem State.notify_last (fuel : Nat) : s.notify n seq (fuel + 1) = (s.kettleSend (dKettle d.raw.toNat) 1).dropChain n seq := by
  simp [State.notify, hc, hdescs, hdone, hrec, hkettle, hlast]

theorem State.notifyDue_last : s.notifyDue n seq = (s.kettleSend (dKettle d.raw.toNat) 1).dropChain n seq := by
  obtain ⟨g, hnote, hkeeps⟩ := State.noteDone_eq hc
  obtain ⟨hraw, hidx, hrecDone, hissued⟩ := hkeeps d
  have hseq := State.seq_of_chain hc
  have hchain := State.chain_modChain (f := fun k => { k with descs := c.descs.map g }) hc hseq
  have hcomplete : ((s.modChain n seq (fun k => { k with descs := c.descs.map g })).xe n).complete seq (g d) = true := by
    rw [State.complete_modChain hc hseq]
    simp only [Xe.complete, Bool.and_eq_true] at hdone ⊢
    exact ⟨hissued hdone.1, hidx ▸ hdone.2⟩
  have hnotify := State.notify_last hchain (congrArg (List.map g) hdescs) hcomplete (hrecDone.trans hrec) (by rw [hraw, hkettle]) (by rw [hraw, hlast])
  rw [State.notifyDue, hnote, hnotify, hraw]
  exact State.dropChain_modChain (s := s.kettleSend (dKettle d.raw.toNat) 1) hc fun _ hk => hk

end

theorem execRecordWriteComplete_ends {stack : Fin 40} {d : DescState} {ds : List DescState} (hc : s.chain stack seq = some c) (hdescs : c.descs = d :: ds)
    (hsent : d.recSent = true) (hkettle : dKettleFlag d.raw.toNat = true) (hlast : dLast d.raw.toNat = true) (hdone : (s.xe stack).complete seq d = true) :
    let recorded := s.modChain stack seq (fun k => { k with descs := { d with recDone := true } :: ds })
    execRecordWriteComplete stack seq s = .next ((recorded.kettleSend (dKettle d.raw.toNat) 1).dropChain stack seq) := by
  have hseq := State.seq_of_chain hc
  have hchain := State.chain_modChain (f := fun k => { k with descs := { d with recDone := true } :: ds }) hc hseq
  simp only [execRecordWriteComplete, hc, hdescs, if_pos hsent]
  refine congrArg _ (State.notifyDue_last (d := { d with recDone := true }) hchain rfl ?_ rfl hkettle hlast)
  rw [State.complete_modChain hc hseq]
  exact hdone

end Chains

/-! ## Issue and completion (R181, R182, R185) -/

section Pieces
variable {s u v : State} {stack : Fin 40} {c : Chain} {d : DescState} {key src dst : Nat}

/-- A local COPY with both operands at hand issues its next piece. -/
theorem State.issueCopy_local {n : Nat} (hlocal : isRemote d.raw.toNat = false)
    (hsrc : s.operandAt n c.ctx (spaceOf (dSrcSpace d.raw.toNat)) (pieceAt d).1 (pieceAt d).2.2 false = (.hit src, u))
    (hdst : u.operandAt n c.ctx (spaceOf (dDstSpace d.raw.toNat)) (pieceAt d).2.1 (pieceAt d).2.2 true = (.hit dst, v)) :
    let p : Piece := { seq := c.seq, idx := d.idx, rep := d.rep, off := d.off, src := src, dst := dst, srcSpace := Fin.ofNat 4 (dSrcSpace d.raw.toNat),
                       dstSpace := Fin.ofNat 4 (dDstSpace d.raw.toNat), len := (pieceAt d).2.2, core := c.core, ctx := c.ctx }
    s.issueCopy n key c d = (v.holdPiece n key c p).pieceFetch n key p := by
  simp [State.issueCopy, hsrc, hdst, hlocal]

theorem execPieceIssue_copy (hon : s.stackOn stack = true) (hc : s.nextIssuer stack = some c) (hd : (s.xe stack).nextDesc c = some d)
    (hkey : s.pieceTag stack d.raw.toNat = some key) (hop : dOp d.raw.toNat = 1) :
    let sent := s.setXe stack (match c.ctx with | .d => { s.xe stack with lastD := c.place.getD 0 } | .p => { s.xe stack with lastP := c.place.getD 0 })
    execPieceIssue stack s = .next (sent.issueCopy stack key c d) := by
  cases hctx : c.ctx <;> simp [execPieceIssue, hon, hc, hd, hkey, hop, hctx]

theorem execPieceComplete_completes {tag : BitVec 16} {p : Piece} (hp : sfind (s.xe stack).pieces tag.toNat = some p) (hfinished : p.finished = true) :
    let freed := s.setXe stack { s.xe stack with
      pieces := serase (s.xe stack).pieces tag.toNat, tags := if 256 ≤ tag.toNat then serase (s.xe stack).tags (tag.toNat - 256) else (s.xe stack).tags }
    execPieceComplete stack tag s = .next (((freed.bump (xeReg stack 0x078) 0 32 1).notifyDue stack p.seq).settleChain stack p.seq) := by
  simp only [execPieceComplete, State.completePiece, hp, hfinished, if_true]

end Pieces

/-- Settles O30: the issue of a COPY piece, the end of a piece, and the last record of a chain, each by its own lemma. -/
theorem pieceCommands : Obligations.PieceCommands := by
  unfold Obligations.PieceCommands
  intro s stack tag key seq src dst c d ds p u v n e raw a sent new freed recorded
  refine ⟨fun hon hc hd hkey hop hlocal hsrc hdst => ?issue, execPieceComplete_completes,
    fun hc hdescs hsent _ hkettle hlast hdone => execRecordWriteComplete_ends hc hdescs hsent hkettle hlast hdone⟩
  rw [exec_pieceIssue, execPieceIssue_copy hon hc hd hkey hop]
  exact congrArg _ (State.issueCopy_local hlocal hsrc hdst)

end Sys2Proof.Machine
end

section
/-!
Walks of the translation tables (R169 to R176): what an entry of a level is, where a walk goes on that has read one, and the statement TableWalks.
-/
namespace Sys2Proof.Machine

/-! ## What an entry is (R170, R172) -/

section Entries
variable {cap level e : Nat}

theorem entryKind_malformed (h : bits e 6 2 ≠ 0 ∨ bits e 42 6 ≠ 0 ∨ bits e 4 2 = 3 ∨ (bitOf e 0 = true ∧ bits e 4 2 ≠ 0)) : entryKind cap level e = .malformed := by
  unfold entryKind entryDefer
  by_cases hresv : bits e 6 2 ≠ 0 ∨ bits e 42 6 ≠ 0
  · exact if_pos hresv
  · exact (if_neg hresv).trans (if_pos (by tauto))

theorem entryKind_unmapped (hlow : bits e 6 2 = 0) (hhigh : bits e 42 6 = 0) (hdefer : bits e 4 2 = 0) (habsent : bitOf e 0 = false) : entryKind cap level e = .unmapped := by
  simp [entryKind, entryDefer, hlow, hhigh, hdefer, habsent]

/-- The address of a 64 KiB page has its low sixteen bits zero where the low eight bits of its field are. -/
theorem entryAddr_aligned (h : bits e 8 34 % 256 = 0) : entryAddr e % 2 ^ pageBits 3 = 0 := by
  change bits e 8 34 * 256 % 65536 = 0
  omega

section Page
variable (hlow : bits e 6 2 = 0) (hhigh : bits e 42 6 = 0) (hleaf : bitOf e 1 = true) (haligned : bits e 8 34 % 256 = 0)
include hlow hhigh hleaf haligned

theorem entryKind_page_present (hdefer : bits e 4 2 = 0) (hpresent : bitOf e 0 = true) :
    entryKind cap 3 e = if cap ≤ bits e 8 34 * 256 then .range else .leaf := by
  have haddr := entryAddr_aligned haligned
  change _ = if cap ≤ entryAddr e then EntryKind.range else .leaf
  simp [entryKind, entryDefer, hlow, hhigh, hdefer, hpresent, hleaf, haddr]

theorem entryKind_page_deferred (habsent : bitOf e 0 = false) :
    (bits e 4 2 = 1 → entryKind cap 3 e = .deferZero) ∧ (bits e 4 2 = 2 → entryKind cap 3 e = .deferLoad) := by
  have haddr := entryAddr_aligned haligned
  constructor <;> intro hdefer <;> simp [entryKind, entryDefer, hlow, hhigh, hdefer, habsent, hleaf, haddr]

end Page

end Entries

/-! ## A walk whose clients stay together (R169, R174) -/

/-- What is put at a key is found there, in any table. -/
theorem sfind_sput {α : Type} (v : α) (k : Nat) : ∀ m : Sparse α, sfind (sput m k v) k = some v
  | [] => by simp [sput, sfind]
  | (j, w) :: t => by
    unfold sput
    split
    · simp [sfind]
    · split
      · simp [sfind]
      · next hj => simp [sfind, hj, sfind_sput v k t]

theorem eraseDups_map_same {α : Type} {f : α → Nat} {a : α} {l : List α} (h : ∀ k ∈ l, f k = f a) : ((a :: l).map f).eraseDups = [f a] := by
  have hnone : (l.map f).filter (fun b => !b == f a) = [] := List.filter_eq_nil_iff.2 (List.forall_mem_map.2 fun k hk => by simp [h k hk])
  rw [List.map_cons, List.eraseDups_cons, hnone, List.eraseDups_nil]

/-- Clients that need the same entry next make one group. -/
theorem nextEntries_together {e : Dword} {level : Nat} {c : Client × Nat} {cs : List (Client × Nat)}
    (h : ∀ k ∈ cs, entryAddr e.toNat + 8 * tableIndex level k.2 = entryAddr e.toNat + 8 * tableIndex level c.2) :
    nextEntries e level (c :: cs) = [(entryAddr e.toNat + 8 * tableIndex level c.2, c :: cs)] := by
  have hall : (c :: cs).filter (fun k => decide (entryAddr e.toNat + 8 * tableIndex level k.2 = entryAddr e.toNat + 8 * tableIndex level c.2)) = c :: cs :=
    List.filter_eq_self.2 (List.forall_mem_cons.2 ⟨decide_eq_true rfl, fun k hk => decide_eq_true (h k hk)⟩)
  rw [nextEntries, eraseDups_map_same h, List.map_singleton, hall]

section Walks
variable {s u : State} {n i : Nat} {w : Walk} {v : Dword}

/-- An XE with a walk reads back. -/
theorem State.xe_setXe_of_walks {e : Xe} (h : e.walks ≠ []) : (s.setXe n e).xe n = e :=
  sget_sset_same_ne _ _ _ fun he => h (congrArg Xe.walks he)

theorem State.nextWaiting_none (h : (s.xe n).walkWait = []) : s.nextWaiting n = s.setXe n { s.xe n with walkWait := [] } := by
  simp only [State.nextWaiting, h, State.eachClient]

/-- A walk whose clients need the same entry next, which no other walk reads, goes on in its own place. -/
theorem State.walkOn_together {c : Client × Nat} {cs : List (Client × Nat)} (hclients : w.clients = c :: cs)
    (hsame : ∀ k ∈ cs, entryAddr v.toNat + 8 * tableIndex (w.level + 1) k.2 = entryAddr v.toNat + 8 * tableIndex (w.level + 1) c.2)
    (halone : ∀ k ∈ (s.xe n).walks, ¬ (k.1 ≠ i ∧ k.2.level = w.level + 1 ∧ k.2.entry = entryAddr v.toNat + 8 * tableIndex (w.level + 1) c.2))
    (hwait : (s.xe n).walkWait = []) :
    sfind ((s.walkOn n i w v).xe n).walks i =
      some { w with level := w.level + 1, entry := entryAddr v.toNat + 8 * tableIndex (w.level + 1) c.2, jva := c.2 } := by
  have hnext := hclients ▸ nextEntries_together hsame
  have hany := List.any_eq_false.2 fun k hk => (decide_eq_true_iff (p := _)).not.2 (halone k hk)
  have hput : ∀ walk : Walk, sput (s.xe n).walks i walk ≠ [] := fun walk => sput_ne_nil _ i walk
  simp only [State.walkOn, hnext, hany]
  simp [State.nextWaiting_none, hwait, State.xe_setXe_of_walks, hput, sfind_sput, hclients]

/-- A walk that is alone on its entry takes what it reads (R172, R174). -/
theorem execWalkStep_takes {unit : Fin 42} {walk : Fin 8} (hmem : s.memOn = true) (hw : sfind (s.xe unit).walks walk = some w) (hin : s.inCapacity w.entry = true)
    (hread : s.readEntry w.entry = (some v, u)) (halone : (s.xe unit).walks.filter (fun k => decide (k.2.entry = w.entry)) = [(walk.val, w)]) :
    execWalkStep unit walk s = .next ((u.walkTake unit walk w v).afterWalk unit) := by
  simp [execWalkStep, hmem, State.walkStep, hw, hin, hread, halone, State.walkTakeAll]

end Walks

/-- Settles O31: the walk takes its entry by `execWalkStep_takes`, and what it does then is the case of `State.walkTake` for the entry's kind. -/
theorem tableWalks : Obligations.TableWalks := by
  unfold Obligations.TableWalks
  refine ⟨?walks, ?kinds⟩
  case walks =>
    intro s unit walk w v u n kind next ended goes fails defers hmem hw hin hread hthirds halone
    have htakes : ∀ {t}, u.walkTake n walk w v = t → goes t := fun h => h ▸ execWalkStep_takes hmem hw hin hread halone
    have hkind : ∀ {k}, kind = k → entryKind (u.w * 2 ^ 40) w.level v.toNat = k := fun h => hthirds ▸ h
    refine ⟨fun hk => ⟨htakes ?pointer, fun c cs hclients hsame hother hwait _ => State.walkOn_together hclients hsame hother hwait⟩, fun hk => htakes ?leaf,
      fun hk => htakes ?zero, fun hk => htakes ?load, fun hk => htakes ?unmapped, fun hk => htakes ?malformed, fun hk => htakes ?range⟩
    all_goals simp only [State.walkTake, hkind hk, ended]
  case kinds =>
    intro cap level e
    exact ⟨entryKind_malformed, entryKind_unmapped, fun hlow hhigh hdefer hpresent hleaf haligned => entryKind_page_present hlow hhigh hleaf haligned hdefer hpresent,
      fun hlow hhigh habsent hleaf haligned => entryKind_page_deferred hlow hhigh hleaf haligned habsent⟩

end Sys2Proof.Machine
end

section
/-!
Wingbeat boundaries, commits and the idle interval (R375 to R378), and orderly stops from their beginning to the restart (R190, R447 to R449).
-/
namespace Sys2Proof.Machine

/-! ## Boundary, commit and idle interval (R375 to R378, R381) -/

section Wingbeat
variable {s : State}

/-- A boundary counts an overrun first, where the work of the wingbeat before is still in progress (R378). -/
theorem execWingbeatBoundary_aborts {f : Nat} (himago : s.stage = .imago) (hjob : 3 ≤ s.jobPhase) (hd0 : s.dst = .d0) (hepoch : s.jobE ≤ s.now)
    (hnew : s.serving.last ≠ some (s.beatAt s.now)) (hbegun : s.stop.begun = false) (hcause : s.stop.cause = 0) (hbusy : s.restart.busy = false)
    (hfirst : s.serving.first = some f) (hreached : f ≤ s.beatAt s.now) :
    let counted := if s.serving.phase = 0 then s else s.overrun
    let begun : State := { counted with
      idleInterval := false
      serving := { counted.serving with last := some (s.beatAt s.now), begun := counted.serving.begun + 1, phase := 1, idleSince := none } }
    execWingbeatBoundary s = .next begun.boundaryAbort := by
  have hstop : s.overrun.stop.cause = 0 := hcause
  have hrestart : s.overrun.restart.busy = false := hbusy
  by_cases hphase : s.serving.phase = 0 <;>
    simp [execWingbeatBoundary, himago, Nat.not_lt.2 hjob, hd0, Nat.not_lt.2 hepoch, hnew, hbegun, hbusy, hfirst, Nat.not_lt.2 hreached, hphase, hcause, hstop, hrestart]

/-- The state of a commit after its records are taken, its slots filled and its tables written (R376 t2, R379, R382). -/
def State.committed (s : State) : State :=
  let taken := (List.range s.jobSlots).foldl (fun u i => match u.inSlotNo i with | some r => u.commitSlot r | none => u) ({ s with serving := { s.serving with sent := [] } } : State)
  ((List.range s.jobSlots).foldl (fun u i => u.admitNext i) taken).writeTables (s.serving.last.getD 0)

theorem execBoundaryCommit_commits (hphase : s.serving.phase = 1) (hstill : s.dStill = true) (hbusy : s.restart.busy = false) (hjob : 3 ≤ s.jobPhase)
    (hcause : s.stop.cause = 0) (hwork : s.committed.reqsIn inSlot ≠ [] ∨ s.committed.serving.queue ≠ []) (hd1 : s.committed.serving.d1Asked = false) :
    execBoundaryCommit s = .next ({ s.committed with
      serving := { s.committed.serving with recK := s.serving.last.getD 0, phase := 2, idleRuns := 0, d1Asked := false } } : State).userRecord.copyOut.afterCommit := by
  have hguard : ¬ (s.serving.phase ≠ 1 ∨ (!s.dStill) = true ∨ s.restart.busy = true ∨ s.jobPhase < 3) := by simp [hphase, hstill, hbusy, Nat.not_lt.2 hjob]
  unfold execBoundaryCommit
  rw [if_neg hguard]
  extract_lets stopping k serving0 s0 s1 s2 s3 empty runs lim d1 s4 serving4 stop4 s5
  have hstopping : stopping = false := by simp [stopping, hcause]
  have hadmitted : s2 = (List.range s.jobSlots).foldl (fun u i => u.admitNext i) s1 := if_neg (by simp [hstopping])
  have htables : s3 = s.committed := congrArg (fun u => u.writeTables k) hadmitted
  have hempty : empty = false := by
    simp only [empty, htables, Bool.and_eq_false_iff, List.isEmpty_eq_false_iff]
    exact hwork
  have hclosed : s4 = s.committed := (if_neg (by simp [htables, hd1])).trans htables
  have hcommit : s5 = { s.committed with serving := { s.committed.serving with recK := k, phase := 2, idleRuns := 0, d1Asked := false } } := by
    simp only [s5, serving4, d1, runs, hclosed, hstopping, hempty, Bool.false_and, Bool.false_eq_true, if_false]
  rw [hcommit]

/-- The end of an idle interval, before any context starts (R376 t4). -/
def State.intervalEnded (s : State) : State := { s with idleInterval := false, serving := { s.serving with phase := 0, idleSince := none } }

/-- At the end of the idle interval the P context of a core resumes where it is parked, and starts where it is IDLE and a slot is in PREFILL (R376). -/
def State.goOnP (noPrefill : Bool) (s : State) (core : Nat) : State :=
  match (s.ctx core .p).mode with
  | .parked => s.resumeP core
  | .idle => if noPrefill then s else s.startCtx core .p
  | _ => s

theorem execIdleIntervalEnd_starts {t : Nat} (hidle : s.serving.idleSince = some t) (hopen : s.idleInterval = true)
    (hend : t + 1000 * s.fld (fdReg 0 0x084) 0 11 ≤ s.now) (htime : s.now + 100000 ≤ s.bnd (s.serving.last.getD 0 + 1)) :
    let started := s.intervalEnded.jobCores.foldl (fun u c => u.startCtx c .d) s.intervalEnded
    execIdleIntervalEnd s = .next (started.jobCores.foldl (State.goOnP (s.reqsIn (fun x => decide (x = .prefill))).isEmpty) started) := by
  have hguard : ¬ ((!s.idleInterval) = true ∨ s.now < t + 1000 * s.fld (fdReg 0 0x084) 0 11) := by simp [hopen, Nat.not_lt.2 hend]
  intro started
  unfold execIdleIntervalEnd
  rw [hidle]
  refine (if_neg hguard).trans ?_
  extract_lets late pre counted serving1 s1 s2
  have hlate : late = false := decide_eq_false (Nat.not_lt.2 htime)
  have hcounted : counted = s := if_neg (by simp [hlate])
  have hended : s1 = s.intervalEnded := by
    simp only [s1, hcounted]
    rfl
  have hstarted : s2 = started := (if_neg (by simp [hlate])).trans (by rw [hended])
  rw [hstarted]
  refine congrArg (fun f => Host.Outcome.next (started.jobCores.foldl f started)) (funext fun u => funext fun core => ?_)
  unfold State.goOnP
  cases (u.ctx core .p).mode with
  | idle => cases hpre : (s.reqsIn (fun x => decide (x = .prefill))).isEmpty <;> simp [pre, hpre]
  | _ => rfl

end Wingbeat

/-! ## Orderly stops (R447 to R449) -/

section Stops
variable {s : State}

theorem execOrderlyStop_begins {d : Nat} (himago : s.stage = .imago) (hnone : s.stop.cause = 0) (hd0 : s.dst = .d0) (hdie : s.stopDie = some d) :
    execOrderlyStop s = .next (s.stopBegin 1 d) := by
  simp [execOrderlyStop, himago, hnone, hd0, hdie]

theorem execOrderlyStopDeadline_aborts (hcause : s.stop.cause ≠ 0) (hbegun : s.stop.begun = false) (hrunning : s.stop.stopped = false)
    (hlate : s.stop.t0 + 100000000 ≤ s.now) :
    let aborting : State := { s with
      stop := { s.stop with begun := true }, idleInterval := false, serving := { s.serving with begun := s.serving.begun + 1, phase := 1, idleSince := none } }
    execOrderlyStopDeadline s = .next aborting.boundaryAbort := by
  simp [execOrderlyStopDeadline, hcause, hbegun, hrunning, Nat.not_lt.2 hlate]

/-- Halt the P context of a core, unless it is still, and cancel its chains (R190, R448). -/
def State.haltUnparked (s : State) (core : Nat) : State :=
  match (s.ctx core .p).mode with
  | .idle => s
  | .parked => s
  | .halted => s
  | _ => (s.modCtx core .p (fun k => { k with mode := .halted, qMe := [], qVe := [], qRm := [] })).cancelChains core .p

theorem execParkDeadline_halts (hcause : s.stop.cause ≠ 0) (hrunning : s.stop.stopped = false) (hlate : s.stop.t0 + 500000000 ≤ s.now) :
    execParkDeadline s = .next (s.jobCores.foldl State.haltUnparked s).stopReached := by
  exact if_neg (by simp [hcause, hrunning, Nat.not_lt.2 hlate])

/-- A device that has been cool for 10 s leaves its stop; `wait` says whether a calibration pass runs or is to run, which the return then awaits (R449). -/
theorem execOrderlyStopReturn_cooled {t : Nat} {wait : Bool} (hstopped : s.stop.stopped = true) (hcause : s.stop.cause = 1)
    (hcool : s.stop.coolSince = some t) (hlong : t + 10000000000 ≤ s.now) (hwait : (s.calPass.running || s.calPass.pending) = wait) :
    let back := ({ s with stop := {}, calPass := { s.calPass with awaited := wait } } : State).irq .therm 0 5
    execOrderlyStopReturn s = .next (if s.jobPhase = 2 ∨ s.jobPhase = 3 then back.restartZero else back) := by
  subst hwait
  simp [execOrderlyStopReturn, hstopped, hcause, hcool, hlong]

end Stops

/-- Settles O50: each event of a wingbeat and of an orderly stop by its own lemma. -/
theorem wingbeatAndStops : Obligations.WingbeatAndStops := by
  unfold Obligations.WingbeatAndStops
  refine ⟨?wingbeat, ?stops⟩
  case wingbeat =>
    intro s t f k s1 begun slots committed tables ended go
    refine ⟨execWingbeatBoundary_aborts, execBoundaryCommit_commits, execIdleIntervalEnd_starts⟩
  case stops =>
    intro s d t aborting halted back
    refine ⟨execOrderlyStop_begins, execOrderlyStopDeadline_aborts, execParkDeadline_halts, fun hstopped hcause hcool hlong => ?_⟩
    have hreturn := fun {wait} => execOrderlyStopReturn_cooled (wait := wait) hstopped hcause hcool hlong
    refine ⟨fun hjob hrun hpend => ?_, fun hjob hpass => ?_, fun hjob => ?_⟩
    · exact (hreturn (by simp [hrun, hpend])).trans (congrArg _ (if_pos (.inr hjob)))
    · exact (hreturn (by simpa using hpass)).trans (congrArg _ (if_pos (.inr hjob)))
    · exact (hreturn rfl).trans (congrArg _ (if_neg (by simp [hjob])))

end Sys2Proof.Machine
end

section
/-!
The states of a group of the photonic base (R216 to R218, R228): what a command of GROUP_CMD does where its write is taken, how a group falls asleep and wakes, and
what a wake that fails and a token that is lost lead to. One lemma per outcome of each event; the statement GroupStates is put together from them.
-/
namespace Sys2Proof.Machine

/-! ## What leaves the groups and the writer sites alone -/

section Reading
variable (s : State)

@[simp] theorem State.site_setGrp (g : Nat) (x : Group) (n : Nat) : (s.setGrp g x).site n = s.site n := rfl
@[simp] theorem State.site_bump (a lsb w v n : Nat) : (s.bump a lsb w v).site n = s.site n := rfl
@[simp] theorem State.grp_bump (a lsb w v g : Nat) : (s.bump a lsb w v).grp g = s.grp g := rfl

end Reading

/-! ## GROUP_CMD (R216, R218, R238) -/

section Commands
variable {s : State} {g : Nat}

/-- A write of GROUP_CMD that is taken does what its action says. -/
theorem State.groupCmd_taken {ini : Initiator} {ep : Byte} {grp : Fin 1158} (h : s.takes ini ep .phoHome (grpHome grp) 0x048) {f : State → State} {t : State}
    (hf : f s = t) : s.busDo ini ep .phoHome (grpHome grp) 0x048 f = t.answer ini 0 := by
  obtain ⟨hopen, hheld⟩ := h
  exact hf ▸ State.busDo_taken f (Laws.OwnWrite.grpHome_lt grp) (by decide) hopen hheld

theorem State.askBlock_service (why : Nat) (h : (s.grp g).state = .service) :
    s.askBlock g why = (s.setGrp g { s.grp g with blockFor := why }).cmdTaken g true := if_pos h

theorem State.askBlock_ignored (why : Nat) (h : (s.grp g).state ≠ .service) : s.askBlock g why = s.cmdIgnored g := if_neg h

theorem State.unblock_blocked (h : (s.grp g).state = .blocked) :
    s.unblock g = (s.setGrp g { s.grp g with state := .service, token := .free, tokenAt := 58, tokenSeen := s.now }).cmdTaken g false := if_pos h

theorem State.groupWakeCmd_asleep (hstate : (s.grp g).state = .asleep) (htoken : (s.grp g).token = .sleep) :
    s.groupWakeCmd g = (s.setGrp g { s.grp g with state := .waking, token := .kept, wakeAt := s.now }).cmdTaken g true := if_pos ⟨hstate, htoken⟩

end Commands

section Events
variable {s : State} {grp : Fin 1158}

/-! ## Block and sleep (R216, R218) -/

theorem execGroupBlocked_blocks (hstate : (s.grp grp).state = .service) (htoken : (s.grp grp).token = .free) (hblock : (s.grp grp).blockFor = 1) :
    execGroupBlocked grp s = .next ((s.setGrp grp { s.grp grp with
      state := .blocked, token := .kept, blockFor := 0, tokenAt := 58, tokenSeen := s.now, passOnce := (s.grp grp).stillPass (grpHome grp) 58 }).cmdTaken grp false) := by
  simp [execGroupBlocked, hstate, htoken, hblock]

/-- In D0 a group sleeps once SLEEP_IDLE nanoseconds, where that is not zero, have passed without a burst. -/
theorem execGroupSleepEntry_idle (hstate : (s.grp grp).state = .service) (htoken : (s.grp grp).token = .free) (hdst : s.dst = .d0)
    (hset : s.fld (homeReg grp 0x050) 0 32 ≠ 0) (hidle : (s.grp grp).lastBurst + s.fld (homeReg grp 0x050) 0 32 ≤ s.now) :
    execGroupSleepEntry grp s = .next ((s.setGrp grp { s.grp grp with
      state := .asleep, token := .sleep, blockFor := 0, tokenAt := 58, tokenSeen := s.now, passOnce := (s.grp grp).stillPass (grpHome grp) 58 }).cmdTaken grp false) :=
  if_pos ⟨hstate, htoken, by simp [hdst, hset, hidle]⟩

/-! ## Waking (R218) -/

theorem execWake_held {w : Nat} (hstate : (s.grp grp).state = .asleep) (htoken : (s.grp grp).token = .held w) :
    execWake grp s = .next (s.setGrp grp { s.grp grp with state := .waking }) := by
  simp [execWake, htoken, hstate]

/-- At READY the writer that holds the token of a waking group sends the burst that it kept, and the token goes on FREE from the writer. -/
theorem execReady_held {w : Nat} {b : Burst} (hstate : (s.grp grp).state = .waking) (htoken : (s.grp grp).token = .held w)
    (hburst : (s.site w).bursts.find? (fun k => decide (k.grp = grp.val) && decide (k.due ≠ 0)) = some b) :
    execReady grp s = .next (((s.bump (homeReg grp 0x064) 0 16 1).setGrp grp { s.grp grp with
      state := .service, token := .free, tokenAt := upstream (grpHome grp) w, tokenSeen := s.now, wakeFails := 0,
      passOnce := (if (s.grp grp).passOnce.contains w then (s.grp grp).passOnce else w :: (s.grp grp).passOnce) }).launch w b) := by
  simp only [execReady, hstate, htoken, State.site_setGrp, State.site_bump, hburst, ne_eq, not_true_eq_false, if_false]

/-- At READY after a wake command the token goes on FREE from the master, and GROUP_CMD is done. -/
theorem execReady_kept (hstate : (s.grp grp).state = .waking) (htoken : (s.grp grp).token = .kept) :
    execReady grp s = .next (((s.bump (homeReg grp 0x064) 0 16 1).setGrp grp { s.grp grp with
      state := .service, token := .free, tokenAt := 58, tokenSeen := s.now, wakeFails := 0 }).cmdTaken grp false) := by
  simp only [execReady, hstate, htoken, ne_eq, not_true_eq_false, if_false]

/-- A wake failure counted: the count of the home channel, its interrupt, and where the master holds the token the end of its command. -/
def State.wakeFailed (s : State) (g : Nat) : State :=
  let counted := (s.bump (homeReg g 0x064) 16 16 1).irq .phoHome (grpHome g) 5
  if (s.grp g).token = .kept then counted.cmdTimedOut g else counted

theorem execWakeFailure_again (hstate : (s.grp grp).state = .waking) (hlate : (s.grp grp).wakeAt + 2000 ≤ s.now) (hfails : (s.grp grp).wakeFails < 2) :
    execWakeFailure grp s = .next ((s.wakeFailed grp).setGrp grp { s.grp grp with
      state := .asleep, token := .sleep, tokenSeen := s.now, wakeFails := (s.grp grp).wakeFails + 1 }) := by
  simp [execWakeFailure, State.wakeFailed, hstate, Nat.not_lt.2 hlate, Nat.not_le.2 hfails]

/-- The third failure in a row faults the group. -/
theorem execWakeFailure_faults (hstate : (s.grp grp).state = .waking) (hlate : (s.grp grp).wakeAt + 2000 ≤ s.now) (hfails : 2 ≤ (s.grp grp).wakeFails) :
    execWakeFailure grp s = .next ((s.wakeFailed grp).faultGroup grp) := by
  simp [execWakeFailure, State.wakeFailed, hstate, Nat.not_lt.2 hlate, hfails]

/-! ## A lost token (R217) -/

theorem execTokenRegenerate_held {w : Nat} (hstate : (s.grp grp).state = .service) (htoken : (s.grp grp).token = .held w) (hrun : (s.grp grp).paused = false)
    (hseen : (s.grp grp).tokenSeen + s.fld (homeReg grp 0x054) 0 16 ≤ s.now) (hburst : (s.grp grp).lastBurst + 200 ≤ s.now) :
    execTokenRegenerate grp s = .next (((s.setGrp grp { s.grp grp with state := .service, token := .free, tokenAt := 58, tokenSeen := s.now }).bump
      (homeReg grp 0x060) 0 16 1).irq .phoHome (grpHome grp) 4) := by
  simp [execTokenRegenerate, hstate, htoken, hrun, hseen, hburst]

end Events

/-- Settles O34: every event from the states its rule lists, each by its own lemma. -/
theorem groupStates : Obligations.GroupStates := by
  unfold Obligations.GroupStates
  intro s ini ep grp w b g x free does woken failed
  have hfailed : x.token ≠ .kept → s.wakeFailed g = failed := fun htoken => if_neg htoken
  have htimedOut : x.token = .kept → s.wakeFailed g = failed.cmdTimedOut g := fun htoken => if_pos htoken
  refine ⟨fun htakes => ?commands, execGroupBlocked_blocks, execGroupSleepEntry_idle, execWake_held, execReady_held, execReady_kept,
    fun hstate htoken hlate hfails => ?again, fun hstate htoken hlate hfails => ?timedOut, fun hstate htoken hlate hfails => ?faults, execTokenRegenerate_held⟩
  case commands =>
    have htaken {f : State → State} {t : State} (hf : f s = t) := congrArg (Host.Outcome.next (φ := Fault) (ρ := Refusal)) (State.groupCmd_taken htakes hf)
    exact ⟨fun h => htaken (State.askBlock_service 1 h), fun h => htaken (State.askBlock_service 2 h), fun h => htaken (State.unblock_blocked h),
      fun h htoken => htaken (State.groupWakeCmd_asleep h htoken), fun h => htaken (State.askBlock_ignored 1 h)⟩
  case again => exact hfailed htoken ▸ execWakeFailure_again hstate hlate hfails
  case timedOut => exact htimedOut htoken ▸ execWakeFailure_again hstate hlate hfails
  case faults => exact hfailed htoken ▸ execWakeFailure_faults hstate hlate hfails

end Sys2Proof.Machine
end

section
/-!
The lanes of a group (R226 to R230) and how a group enters SERVICE (R201, R228): one lemma per outcome of each lane event, and what the start of a group makes of its
lane map and its lanes. The statement LanesAndStart is put together from them.
-/
namespace Sys2Proof.Machine

/-! ## Reading a group after writing one -/

section Reading
variable (s : State)

/-- A group that is not OFF reads back. -/
theorem State.grp_setGrp (g : Nat) {x : Group} (h : x.state ≠ .off) : (s.setGrp g x).grp g = x :=
  sget_sset_same_ne _ _ _ fun hx => h (congrArg Group.state hx)

@[simp] theorem State.grp_setGrp_ne {g j : Nat} (x : Group) (h : j ≠ g) : (s.setGrp g x).grp j = s.grp j := sget_sset_ne _ _ _ _ h

end Reading

section Lanes
variable {s : State} {grp : Fin 1158} {off : Fin 10}

/-! ## Lock and training (R226) -/

theorem execLaneLockAchieved_trains (hstate : ((s.grp grp).lane off).state = .locking) (hconfirmed : ((s.grp grp).lane off).confirmed = true)
    (hcheck : ((s.grp grp).lane off).check = []) :
    execLaneLockAchieved grp off s = .next (s.modLane grp off fun k => { k with state := .training, since := s.now, tries := 0 }) :=
  if_pos ⟨hstate, hconfirmed, hcheck⟩

/-- A TS names the slot it was sent on (R208). -/
@[simp] theorem tsSlot_setTs (g : Nat) (slot level : Byte) : tsSlot g (setTs slot.toNat (grpHome g) (grpNo g) level.toNat) = some slot.toNat := by
  simp [tsSlot, setTs, charD]

theorem execTsMatch_standby {seen : TsSeen} (hstate : ((s.grp grp).lane seen.off).state = .training) (hconfirmed : ((s.grp grp).lane seen.off).confirmed = true)
    (htrainer : (s.trainer grp).isSome = true) (hslot : tsSlot grp seen.set = some (grpSlot grp seen.off)) (hheld : 1000 ≤ seen.held)
    (hsince : ((s.grp grp).lane seen.off).since + seen.held ≤ s.now) :
    execTsMatch grp seen s = .next (s.modLane grp seen.off fun k => { k with state := .standby, since := s.now, tries := 0, locks := 0 }) :=
  if_pos ⟨hstate, hconfirmed, htrainer, hslot, hheld, hsince⟩

theorem execTsWrongSlot_relocks {seen : TsSeen} {slot : Nat} (hstate : ((s.grp grp).lane seen.off).state = .training) (hslot : tsSlot grp seen.set = some slot)
    (hwrong : slot ≠ grpSlot grp seen.off) :
    execTsWrongSlot grp seen s = .next (((s.modLane grp seen.off fun k =>
      { k with state := .locking, since := s.now, confirmed := false, locks := k.locks + 1, sweeps := 0, sweepAt := none }).laneLog grp seen.off 3).irq .phoHome (grpHome grp) 3) :=
  if_pos ⟨hstate, by simp [hslot], by simpa [hslot] using hwrong⟩

theorem execTrainingTimeout_again (hstate : ((s.grp grp).lane off).state = .training) (hlate : ((s.grp grp).lane off).since + 10000 ≤ s.now)
    (htries : ((s.grp grp).lane off).tries < 2) :
    execTrainingTimeout grp off s = .next (s.modLane grp off fun k => { k with tries := k.tries + 1, since := s.now }) := by
  simp [execTrainingTimeout, hstate, Nat.not_lt.2 hlate, htries]

theorem execTrainingTimeout_fails (hstate : ((s.grp grp).lane off).state = .training) (hlate : ((s.grp grp).lane off).since + 10000 ≤ s.now)
    (htries : 2 ≤ ((s.grp grp).lane off).tries) : execTrainingTimeout grp off s = .next ((s.laneTo grp off .failed).laneLog grp off 4) := by
  simp [execTrainingTimeout, hstate, Nat.not_lt.2 hlate, Nat.not_lt.2 htries]

/-! ## A hard failure (R227, R228, R230) -/

/-- A lane has failed, before its group sees to it: it is FAILED, logged with its cause, and lane_fail is raised. -/
def State.laneLost (s : State) (g off cause : Nat) : State := ((s.laneTo g off .failed).laneLog g off cause).irq .phoHome (grpHome g) 0

theorem execLaneHardFail_receive {loss : LaneLoss} {k : Fin 8} (hstate : ((s.grp grp).lane off).state = .active)
    (hhard : 10000 ≤ loss.dark ∨ 8 ≤ onesIn ((s.grp grp).lane off).hist.toNat 32)
    (hlane : ((s.laneLost grp off (if 10000 ≤ loss.dark then 1 else 2)).grp grp).laneOf off = some k) :
    execLaneHardFail (.receive grp off) loss s = .next ((s.laneLost grp off (if 10000 ≤ loss.dark then 1 else 2)).replaceLane grp k) := by
  have hfails : s.failLane grp off (if 10000 ≤ loss.dark then 1 else 2) = (s.laneLost grp off (if 10000 ≤ loss.dark then 1 else 2)).replaceLane grp k := by
    unfold State.laneLost at hlane ⊢
    simp only [State.failLane, hlane]
  simp [execLaneHardFail, hstate, hhard, hfails]

theorem State.replaceLane_spares {g : Nat} {k : Fin 8} {o : Fin 10} (hnone : (s.grp g).sparing = none) (hspare : (s.grp g).spare = some o) :
    s.replaceLane g k = s.startSparing g k o := by
  simp [State.replaceLane, hspare, hnone]

theorem State.replaceLane_faults {g : Nat} {k : Fin 8} (hnone : (s.grp g).sparing = none) (hspare : (s.grp g).spare = none)
    (hstate : (s.grp g).state = .service) : s.replaceLane g k = s.faultGroup g := by
  simp [State.replaceLane, hspare, hnone, Group.inService, hstate]

/-! ## Sparing (R229) -/

theorem State.groupSpareCmd_spares {g : Nat} {k : Fin 8} (hstate : (s.grp g).state = .service) (hnone : (s.grp g).sparing = none)
    (hlane : ((s.grp g).lane off).state = .standby) : s.groupSpareCmd g k (BitVec.ofNat 4 off).toNat = (s.startSparing g k off).cmdTaken g true := by
  have hoff : (BitVec.ofNat 4 off.val).toNat = off.val := Nat.mod_eq_of_lt (by omega)
  rw [hoff, State.groupSpareCmd, if_pos ⟨by simp [Group.inService, hstate], by simp [hnone], off.isLt, hlane⟩, Fin.ofNat_val_eq_self]

/-- A group at t2 of a sparing: the new slot is ACTIVE in the map, and the old one, where it was ACTIVE, goes to CAL, or to FAILED where its line has faded. -/
def State.switched (s : State) (g : Nat) (p : Sparing) : Group :=
  let x := s.grp g
  let x1 := (x.setLane p.new { x.lane p.new with state := .active, viol := 0, since := s.now }).setLane p.old
    (if (x.lane p.old).state = .active then { state := (if s.lineFaded g p.old then .failed else .cal), since := s.now } else x.lane p.old)
  { x1 with map := x1.map.set p.lane p.new, sparing := some { p with switched := true } }

theorem execSparingSwitch_switches {p : Sparing} (hsparing : (s.grp grp).sparing = some p) (hbefore : p.switched = false) (hgap : p.t1 + 40 ≤ s.now)
    (hnew : ((s.grp grp).lane p.new).state = .shadow) :
    execSparingSwitch grp s = .next (((s.setGrp grp (s.switched grp p)).irq .phoHome (grpHome grp) 1).clearLimits grp) := by
  simp [execSparingSwitch, hsparing, hbefore, Nat.not_lt.2 hgap, hnew, State.switched]

/-- Where no lane of the map has failed and none lies on a faded line, the end of a sparing starts no other. -/
theorem execSparingEnd_ends {p : Sparing} (hsparing : (s.grp grp).sparing = some p) (hswitched : p.switched = true)
    (hwell : ∀ k : Fin 8, ((s.grp grp).lanes.get ((s.grp grp).map.get k)).state ≠ .failed ∧ s.lineFaded grp ((s.grp grp).map.get k) = false) :
    execSparingEnd grp s = .next ((s.setGrp grp { s.grp grp with sparing := none }).cmdTaken grp false) := by
  have hfailed : (List.finRange 8).find? (fun k => decide (((s.grp grp).lanes.get ((s.grp grp).map.get k)).state = .failed)) = none :=
    List.find?_eq_none.2 fun k _ => by simp [(hwell k).1]
  have hfaded : (List.finRange 8).find? (fun k => s.lineFaded grp ((s.grp grp).map.get k)) = none :=
    List.find?_eq_none.2 fun k _ => by simp [(hwell k).2]
  simp only [execSparingEnd, hsparing, hswitched, hfailed, hfaded, Bool.not_true, Bool.false_eq_true, if_false]

end Lanes

/-! ## The start of a group (R201, R228) -/

/-- The slot offsets in STANDBY, in order. -/
def Group.standbys (x : Group) : List (Fin 10) := (List.finRange 10).filter (fun o => decide ((x.lanes.get o).state = .standby))

/-- A group that enters SERVICE: its 8 lowest slots in STANDBY are ACTIVE and form the lane map, and its token is FREE. -/
def Group.started (x : Group) (now : Nat) : Group :=
  { x with
    state := .service
    map := Vector.ofFn fun k : Fin 8 => x.standbys.getD k.val 0
    lanes := Vector.ofFn fun o : Fin 10 => if (x.standbys.take 8).contains o then { x.lanes.get o with state := .active, viol := 0, since := now } else x.lanes.get o
    token := .free, tokenAt := 58, tokenSeen := now, lastBurst := now, passOnce := [], seen := [], blockFor := 0 }

theorem execGroupStart_starts {s : State} {grp : Fin 1158} (hstate : (s.grp grp).state = .training) (henough : 8 ≤ (s.grp grp).standbys.length) :
    execGroupStart grp s = .next (s.setGrp grp ((s.grp grp).started s.now)) := by
  unfold execGroupStart
  rw [if_neg (not_not.2 hstate)]
  exact if_pos henough

section Start
variable {x : Group} (now : Nat)

theorem Group.mem_standbys {o : Fin 10} : o ∈ x.standbys ↔ (x.lanes.get o).state = .standby := by simp [Group.standbys]

theorem Group.started_lanes_get (o : Fin 10) : (x.started now).lanes.get o =
    if (x.standbys.take 8).contains o then { x.lanes.get o with state := .active, viol := 0, since := now } else x.lanes.get o :=
  (Vector.get_eq_getElem _ _).trans (Vector.getElem_ofFn _)

theorem Group.started_lanes_get_of_ne {o : Fin 10} (h : (x.lanes.get o).state ≠ .standby) : (x.started now).lanes.get o = x.lanes.get o := by
  have hout : o ∉ x.standbys.take 8 := fun ho => h (Group.mem_standbys.1 (List.mem_of_mem_take ho))
  rw [Group.started_lanes_get, if_neg (by simpa using hout)]

section
variable (henough : 8 ≤ x.standbys.length)
include henough

theorem Group.started_map_get (k : Fin 8) : (x.started now).map.get k = x.standbys[k.val] := by
  have hk : k.val < x.standbys.length := by omega
  exact ((Vector.get_eq_getElem _ _).trans (Vector.getElem_ofFn _)).trans (by simp [hk])

theorem Group.started_lanes_active (k : Fin 8) : ((x.started now).lanes.get ((x.started now).map.get k)).state = .active := by
  have hin : x.standbys[k.val] ∈ x.standbys.take 8 := List.mem_take_iff_getElem.2 ⟨k, by omega, rfl⟩
  rw [Group.started_map_get now henough, Group.started_lanes_get, if_pos (by simpa using hin)]

theorem Group.started_map_lt {k j : Fin 8} (h : k < j) : (x.started now).map.get k < (x.started now).map.get j := by
  have hsorted : x.standbys.Pairwise (· < ·) := (List.pairwise_lt_finRange 10).filter _
  rw [Group.started_map_get now henough, Group.started_map_get now henough]
  exact List.pairwise_iff_getElem.1 hsorted k j _ _ h

end
end Start

/-- Settles O35: the events of a lane each by its own lemma, and a start by what `Group.started` makes of the map and the lanes. -/
theorem lanesAndStart : Obligations.LanesAndStart := by
  unfold Obligations.LanesAndStart
  refine ⟨?lanes, ?start⟩
  case lanes =>
    intro s ini ep grp off spare lane dark bad held slot level p g x l becomes set hard lost switched
    refine ⟨execLaneLockAchieved_trains, fun hstate hconfirmed htrainer hslot => execTsMatch_standby (seen := ⟨off, set, held⟩) hstate hconfirmed htrainer ((tsSlot_setTs g slot level).trans (congrArg some hslot)),
      fun hstate hwrong => execTsWrongSlot_relocks (seen := ⟨off, set, held⟩) hstate (tsSlot_setTs g slot level) hwrong, execTrainingTimeout_again, execTrainingTimeout_fails,
      fun ⟨hstate, hhard⟩ hlane hnone hspare => ?spares, fun ⟨hstate, hhard⟩ hlane hnone hspare hservice => ?faults,
      fun htakes hstate hnone hlane => congrArg _ (State.groupCmd_taken htakes (State.groupSpareCmd_spares hstate hnone hlane)), execSparingSwitch_switches, execSparingEnd_ends⟩
    case spares => exact (execLaneHardFail_receive (loss := ⟨dark, bad⟩) hstate hhard hlane).trans (congrArg _ (State.replaceLane_spares hnone hspare))
    case faults => exact (execLaneHardFail_receive (loss := ⟨dark, bad⟩) hstate hhard hlane).trans (congrArg _ (State.replaceLane_faults hnone hspare hservice))
  case start =>
    intro s grp x up hstate henough
    have hread : (s.setGrp grp (x.started s.now)).grp grp = x.started s.now := s.grp_setGrp grp GroupState.noConfusion
    refine ⟨_, execGroupStart_starts hstate henough, rfl, fun g hg => s.grp_setGrp_ne _ hg, ?_⟩
    rw [hread]
    exact ⟨rfl, rfl, rfl, fun k => by rw [Group.started_map_get _ henough]; exact List.getElem?_eq_getElem _, Group.started_lanes_active _ henough,
      fun _ _ => Group.started_map_lt _ henough, fun o => Group.started_lanes_get_of_ne _⟩

end Sys2Proof.Machine
end

section
/-!
The line code (R206) read back, and a burst on its eight lanes read back as its cells (R207, R209), from whatever disparities the lanes began with.
-/
namespace Sys2Proof.Machine

/-! ## A character read back (R206) -/

/-- Every D character has a code group; of the K characters those of the table do. -/
def hasCode (c : LineChar) : Bool := !c.k || tableK.any (fun e => decide (e.1 = c.b.toNat))

/-- The code tables: at either disparity a code group has ten bits and stands for one character. -/
theorem codeOf_lt_and_charOf_codeOf : ∀ rd k b, hasCode ⟨k, b⟩ = true →
    codeOf rd ⟨k, b⟩ < 2 ^ 10 ∧ charOf rd (codeOf rd ⟨k, b⟩) = some ⟨k, b⟩ := by decide +kernel

theorem decodeLane_encodeLane : ∀ (l : List LineChar) (rd : Bool), (∀ c ∈ l, hasCode c = true) → decodeLane rd (encodeLane rd l).1 = l.map some
  | [], _, _ => rfl
  | c :: t, rd, h => by
    obtain ⟨hlt, hread⟩ := codeOf_lt_and_charOf_codeOf rd c.k c.b (h c List.mem_cons_self)
    have htoNat : (BitVec.ofNat 10 (codeOf rd c)).toNat = codeOf rd c := Nat.mod_eq_of_lt hlt
    have htail := decodeLane_encodeLane t (dispAfter rd (codeOf rd c) 10) fun d hd => h d (List.mem_cons_of_mem c hd)
    simp only [encodeLane, decodeLane, htoNat, htail, List.map_cons]
    rw [hread]

/-- A lane that begins with a comma is read at its own disparity: the two code groups of K28.5 differ. -/
theorem readLane_encodeLane_comma {l : List LineChar} (rd : Bool) (h : ∀ c ∈ l, hasCode c = true) :
    readLane (encodeLane rd (comma :: l)).1 = (comma :: l).map some := by
  have hrd : decide (some (BitVec.ofNat 10 (codeOf rd comma)) = some (BitVec.ofNat 10 (codeOf true comma))) = rd := by cases rd <;> decide
  have hcomma : ∀ c ∈ comma :: l, hasCode c = true := List.forall_mem_cons.2 ⟨by decide, h⟩
  rw [readLane, ← decodeLane_encodeLane (comma :: l) rd hcomma]
  exact congrArg (fun d => decodeLane d _) hrd

/-! ## The characters of a burst (R207, R209) -/

theorem hasCode_of_mem_burstChars (cells : List CellBits) (lane : Nat) : ∀ c ∈ burstChars cells lane, hasCode c = true := by
  have hdata : ∀ v, hasCode (charD v) = true := fun _ => rfl
  have hsob : ∀ c ∈ setSob, hasCode c = true := by decide
  have heob : ∀ c ∈ setEob, hasCode c = true := by decide
  simp only [burstChars, List.forall_mem_append, List.forall_mem_flatMap, cellChars, List.forall_mem_map]
  exact ⟨⟨hsob, fun _ _ _ _ => hdata _⟩, heob⟩

theorem length_flatMap_cellChars (lane : Nat) (cells : List CellBits) : (cells.flatMap fun c => cellChars c lane).length = 6 * cells.length := by
  simp [List.length_flatMap, cellChars, Nat.mul_comm]

theorem length_burstChars (cells : List CellBits) (lane : Nat) : (burstChars cells lane).length = 6 * cells.length + 3 := by
  simp only [burstChars, List.length_append, length_flatMap_cellChars, setSob, setEob, List.length_cons, List.length_nil]
  omega

/-- Six characters stand for each cell. -/
theorem getElem?_flatMap_cellChars (lane : Nat) {j : Nat} (hj : j < 6) : ∀ (cells : List CellBits) (k : Nat),
    (cells.flatMap fun c => cellChars c lane)[6 * k + j]? = cells[k]?.map fun c => charD (bits c.toNat (8 * (8 * j + lane)) 8)
  | [], _ => rfl
  | c :: t, 0 => by
    have hlen : j < (cellChars c lane).length := by simpa [cellChars] using hj
    rw [List.flatMap_cons, Nat.mul_zero, Nat.zero_add, List.getElem?_append_left hlen]
    simp [cellChars, hj]
  | c :: t, k + 1 => by
    have hlen : (cellChars c lane).length = 6 := by simp [cellChars]
    rw [List.flatMap_cons, List.getElem?_append_right (by omega), hlen, show 6 * (k + 1) + j - 6 = 6 * k + j by omega, getElem?_flatMap_cellChars lane hj t k, List.getElem?_cons_succ]

/-- After the two characters of SOB, character `j` of the cell at place `k`. -/
theorem getElem?_burstChars {cells : List CellBits} (lane : Nat) {j k : Nat} (hj : j < 6) (hk : k < cells.length) :
    (burstChars cells lane)[2 + 6 * k + j]? = some (charD (bits cells[k].toNat (8 * (8 * j + lane)) 8)) := by
  have hsob : setSob.length = 2 := rfl
  have hlen := length_flatMap_cellChars lane cells
  rw [burstChars, List.append_assoc, List.getElem?_append_right (by omega), List.getElem?_append_left (by omega),
    show 2 + 6 * k + j - setSob.length = 6 * k + j by omega, getElem?_flatMap_cellChars lane hj, List.getElem?_eq_getElem hk, Option.map_some]

/-! ## The bytes of a cell (R207) -/

/-- A number is the sum of its bytes. -/
theorem sum_bytes (v : Nat) : ∀ n, ((List.range n).map fun i => bits v (8 * i) 8 * 2 ^ (8 * i)).sum = v % 2 ^ (8 * n)
  | 0 => by simp [Nat.mod_one]
  | n + 1 => by
    rw [List.range_succ, List.map_append, List.sum_append, sum_bytes v n, List.map_singleton, List.sum_singleton, Nat.mul_succ, pow_add, Nat.mod_mul, bits,
      Nat.mul_comm (2 ^ (8 * n))]

theorem sum_bytes_toNat {n : Nat} (v : BitVec (8 * n)) : ((List.range n).map fun i => bits v.toNat (8 * i) 8 * 2 ^ (8 * i)).sum = v.toNat :=
  (sum_bytes v.toNat n).trans (Nat.mod_eq_of_lt v.isLt)

/-- Byte `i` of the cell at place `k` of a burst, on its lane as read. -/
def laneByte (ls : List (List (Option LineChar))) (k i : Nat) : Option Nat := dataByte ((ls.getD (i % 8) []).getD (2 + 6 * k + i / 8) none)

/-- A cell is read from its bytes, without a bad character. -/
theorem cellAt_of_bytes {ls : List (List (Option LineChar))} {k : Nat} {c : CellBits} (h : ∀ i, i < 48 → laneByte ls k i = some (bits c.toNat (8 * i) 8)) :
    cellAt ls k = (c, 0) := by
  have hbytes : (List.range 48).map (fun i => (laneByte ls k i).getD 0 * 2 ^ (8 * i)) = (List.range 48).map (fun i => bits c.toNat (8 * i) 8 * 2 ^ (8 * i)) :=
    List.map_congr_left fun i hi => by rw [h i (List.mem_range.1 hi), Option.getD_some]
  have hviols : (List.range 8).map (fun l => b2n ((List.range 6).any fun j => (laneByte ls k (8 * j + l)).isNone) * 2 ^ l) = (List.range 8).map fun _ => 0 := by
    refine List.map_congr_left fun l hl => ?_
    have hgood : (List.range 6).any (fun j => (laneByte ls k (8 * j + l)).isNone) = false := List.any_eq_false.2 fun j hj => by
      have hlane : 8 * j + l < 48 := by
        rw [List.mem_range] at hj hl
        omega
      simp [h _ hlane]
    rw [hgood, b2n, if_neg Bool.false_ne_true, Nat.zero_mul]
  have hwhole : ((List.range 48).map fun i => bits c.toNat (8 * i) 8 * 2 ^ (8 * i)).sum = c.toNat := sum_bytes_toNat (n := 48) c
  change (BitVec.ofNat 384 ((List.range 48).map fun i => (laneByte ls k i).getD 0 * 2 ^ (8 * i)).sum,
    BitVec.ofNat 8 ((List.range 8).map fun l => b2n ((List.range 6).any fun j => (laneByte ls k (8 * j + l)).isNone) * 2 ^ l).sum) = _
  rw [hbytes, hviols, hwhole, BitVec.ofNat_toNat, BitVec.setWidth_eq]
  rfl

/-! ## A burst read back (R206, R207, R209) -/

/-- What a reader finds on the eight lanes of a burst: its characters, all of them good. -/
def burstRead (cells : List CellBits) : List (List (Option LineChar)) := (List.range 8).map fun l => (burstChars cells l).map some

theorem map_readLane_burstLanes (rd : BitVec 8) (cells : List CellBits) : (burstLanes rd cells).1.map readLane = burstRead cells := by
  simp only [burstLanes, List.map_map, burstRead]
  exact List.map_congr_left fun l _ => readLane_encodeLane_comma (rd.getLsbD l) fun c hc => hasCode_of_mem_burstChars cells l c (List.mem_cons_of_mem comma hc)

theorem burstRead_getD (cells : List CellBits) {l : Nat} (h : l < 8) : (burstRead cells).getD l [] = (burstChars cells l).map some := by
  simp [burstRead, h]

/-- Byte `i` of a cell is character `i / 8` on lane `i mod 8`. -/
theorem laneByte_burstRead {cells : List CellBits} {k i : Nat} (hk : k < cells.length) (hi : i < 48) :
    laneByte (burstRead cells) k i = some (bits cells[k].toNat (8 * i) 8) := by
  have hplace : 8 * (8 * (i / 8) + i % 8) = 8 * i := by omega
  have hbyte : bits cells[k].toNat (8 * i) 8 % 256 = bits cells[k].toNat (8 * i) 8 := Nat.mod_mod _ _
  have hchar := getElem?_burstChars (i % 8) (show i / 8 < 6 by omega) hk
  rw [laneByte, burstRead_getD cells (Nat.mod_lt i (by omega)), List.getD_eq_getElem?_getD, List.getElem?_map, hchar, hplace]
  simpa [dataByte, charD] using hbyte

theorem cellAt_burstRead {cells : List CellBits} {k : Nat} (hk : k < cells.length) : cellAt (burstRead cells) k = (cells[k], 0) :=
  cellAt_of_bytes fun _ hi => laneByte_burstRead hk hi

theorem readBurst_burstLanes (rd : BitVec 8) {cells : List CellBits} (hone : 1 ≤ cells.length) (hmax : cells.length ≤ 16) :
    readBurst (burstLanes rd cells).1 = some (cells.map fun c => (c, 0)) := by
  have hlanes : (burstLanes rd cells).1.length = 8 := by simp [burstLanes]
  have hshort : min 16 ((((burstRead cells).map List.length).foldl min 1000 - 2) / 6) = cells.length := by
    have hlens : (burstRead cells).map List.length = List.replicate 8 (6 * cells.length + 3) := by simp [burstRead, length_burstChars, Function.comp_def]
    simp only [hlens, List.replicate, List.foldl_cons, List.foldl_nil]
    omega
  have hsob : (burstRead cells).all (fun l => decide (l.take 2 = setSob.map some)) = true := by
    simp [burstRead, burstChars, setSob, comma]
  have hheader : (List.range 12).all (fun i => (laneByte (burstRead cells) 0 i).isSome) = true :=
    List.all_eq_true.2 fun i hi => by rw [laneByte_burstRead hone (Nat.lt_trans (List.mem_range.1 hi) (by omega)), Option.isSome_some]
  have hcells : (List.range cells.length).map (cellAt (burstRead cells)) = cells.map fun c => (c, 0) :=
    List.ext_getElem (by simp) fun k _ hk => by simpa using cellAt_burstRead (by simpa using hk)
  rw [readBurst, map_readLane_burstLanes, hshort]
  exact (if_pos ⟨hlanes, hone, hsob, by simpa only [laneByte, Nat.mul_zero, Nat.add_zero] using hheader⟩).trans (congrArg some hcells)

theorem laneViols_burstLanes (rd : BitVec 8) (cells : List CellBits) : laneViols (burstLanes rd cells).1 = List.replicate 8 0 := by
  have hread : laneViols (burstLanes rd cells).1 = ((burstLanes rd cells).1.map readLane).map fun l => (l.filter fun c => c.isNone).length := by
    simp [laneViols, Function.comp_def]
  rw [hread, map_readLane_burstLanes]
  simp [burstRead, Function.comp_def, List.filter_map]

end Sys2Proof.Machine
end

section
/-!
Tokens, bursts and their status (R202 to R204, R211 to R214, R217 to R223): which token characters a writer takes and what it then sends, what the reader accepts of a
burst and answers, and what a writer does with the answer or without one. One lemma per outcome of each event; the statement BurstProtocol is put together from them.
-/
namespace Sys2Proof.Machine

/-! ## Capture and release (R211 to R214, R217 to R219) -/

section Tokens
variable {s : State} {site : Fin 59} {grp : Fin 1158} {asked : Nat} {cells : List CellBits}

theorem State.not_bypassed_of_mayCapture {n g : Nat} (h : s.mayCapture n g = true) : s.bypassed n = false := by
  simp only [State.mayCapture, Bool.and_eq_true, Bool.not_eq_true'] at h
  tauto

/-- Whether the token character comes to a site past relays whose rings hold their lock. -/
def State.lit (s : State) (site g : Nat) : Prop :=
  (site :: passed (grpHome g) (s.grp g).tokenAt (upstream (grpHome g) site)).any (fun n => s.relayDark n (grpWave g)) = false

/-- A FREE or SLEEP token that a writer may capture is captured. -/
theorem execTokenCapture_captures {char : Byte} (hmay : s.mayCapture site grp = true) (hlit : s.lit site grp) (hasked : asked < s.now)
    (hmaster : s.masterHolds site grp = false)
    (hchar : (char.toNat = tokenFree ∧ (s.grp grp).token = .free ∧ (s.grp grp).state = .service) ∨ (char.toNat = tokenSleep ∧ (s.grp grp).token = .sleep ∧ (s.grp grp).state = .asleep)) :
    execTokenCapture site grp ⟨some char, asked⟩ cells s = .next (s.capture site grp asked cells) := by
  have hopen := State.not_bypassed_of_mayCapture hmay
  have htoken : char.toNat = tokenFree ∨ char.toNat = tokenSleep := hchar.imp And.left And.left
  unfold State.lit at hlit
  unfold execTokenCapture
  dsimp only
  rw [if_neg (by simp [hopen]), if_neg (by simp [hlit]), if_neg (by tauto), if_neg (by simp [hchar, hmay, hasked]), hmaster]
  rfl

/-- A relay counts a token character that is none of the three, and a code violation. -/
theorem execTokenCapture_counts {char : Option Byte} (hopen : s.bypassed site = false) (hlit : s.lit site grp)
    (hbad : ∀ c, char = some c → c ≠ 0x5A ∧ c ≠ 0xA5 ∧ c ≠ 0) : execTokenCapture site grp ⟨char, asked⟩ cells s = .next (s.tokenError site grp) := by
  have hvalue : ∀ c d : Byte, c ≠ d → c.toNat ≠ d.toNat := fun _ _ h he => h (BitVec.eq_of_toNat_eq he)
  unfold State.lit at hlit
  unfold execTokenCapture
  dsimp only
  rw [if_neg (by simp [hopen]), if_neg (by simp [hlit])]
  refine if_pos ?_
  cases char with
  | none => decide
  | some c =>
    obtain ⟨hfree, hsleep, hnone⟩ := hbad c rfl
    exact ⟨hvalue c _ hfree, hvalue c _ hsleep, hvalue c _ hnone⟩

/-- A new burst of a writer on a group: its cells stamped with the next burst id and their places (R213, R221, R224). -/
def State.newBurst (s : State) (site g tx : Nat) (cells : List CellBits) : Burst :=
  let id := sget 0 (s.site site).nextId g
  { grp := g, id := id, cells := (List.range cells.length).map fun i => stampCell (cells.getD i 0) id i, tx := tx }

theorem State.burstToSend_new {site g tx : Nat} (hnone : ∀ b ∈ (s.site site).bursts, b.grp ≠ g) (hone : 1 ≤ cells.length) (hmax : cells.length ≤ 16)
    (horder : s.orderKept site g cells = true) : s.burstToSend site g tx cells = some (s.newBurst site g tx cells) := by
  have hfind : (s.site site).bursts.find? (fun b => decide (b.grp = g)) = none := List.find?_eq_none.2 fun b hb => by simp [hnone b hb]
  have hsome : cells.isEmpty = false := List.isEmpty_eq_false_iff.2 (List.length_pos_iff.1 hone)
  simp only [State.burstToSend, hfind, List.take_of_length_le hmax, hsome, horder, Bool.not_true, Bool.false_eq_true, or_self, if_false]
  rfl

/-- A writer has taken a token, before it sends. -/
def State.tokenHeld (s : State) (site g asked : Nat) : State :=
  let x := s.grp g
  (s.setGrp g { x with
    token := .held site, passOnce := (x.stillPass (grpHome g) (upstream (grpHome g) site)).filter (fun k => decide (k ≠ site)), tokenSeen := s.now, wakeAt := s.now }).raiseTo
    (siteReg site 0x05C) 0 16 (s.now - asked)

section Capture
variable {n g tx : Nat} {b : Burst} (htx : s.freeTx n = some tx) (hburst : s.burstToSend n g tx cells = some b)
include htx hburst

theorem State.capture_sends (htoken : (s.grp g).token = .free) (hpass : n ∉ (s.grp g).stillPass (grpHome g) (upstream (grpHome g) n)) :
    s.capture n g asked cells = (s.tokenHeld n g asked).launch n b := by
  simp [State.capture, htx, hburst, htoken, hpass, State.tokenHeld]

theorem State.capture_passes (hdue : b.due = 0) (htoken : (s.grp g).token = .free) (hpass : n ∈ (s.grp g).stillPass (grpHome g) (upstream (grpHome g) n)) :
    s.capture n g asked cells = s.setGrp g { s.grp g with
      passOnce := ((s.grp g).stillPass (grpHome g) (upstream (grpHome g) n)).filter (fun k => decide (k ≠ n)), tokenAt := upstream (grpHome g) n } := by
  simp [State.capture, htx, hburst, htoken, hpass, hdue]

theorem State.capture_wakes (htoken : (s.grp g).token = .sleep) :
    s.capture n g asked cells = ((s.tokenHeld n g asked).setSite n (((s.tokenHeld n g asked).site n).keep { b with due := 4, why := b.due })).emit (.lineSet n g setWake) := by
  simp [State.capture, htx, hburst, htoken, State.tokenHeld]

end Capture

theorem execTokenRelease_frees {ended : BurstEnd} (hstate : (s.grp ended.grp).state = .service) (htoken : (s.grp ended.grp).token = .held site) :
    let x := s.grp ended.grp
    let released := s.setGrp ended.grp { x with
      token := .free, tokenAt := upstream (grpHome ended.grp) site, tokenSeen := s.now, passOnce := (if x.passOnce.contains site.val then x.passOnce else site.val :: x.passOnce) }
    execTokenRelease site ended s = .next (if ended.ranOn then released.irq .phoSite site 0 else released) := if_pos ⟨htoken, hstate⟩

end Tokens

/-! ## Acceptance (R220, R222) -/

/-- Good cells at the expected index are all accepted, and the rest of the burst is taken from there on. -/
theorem takeCells_good : ∀ (cells : List CellBits) (n : Nat) (rest : List (CellBits × BitVec 8)), (∀ c ∈ cells, cellGood c = true) →
    takeCells n n (cells.map (fun c => (c, 0)) ++ rest) =
      let r := takeCells (n + cells.length) (n + cells.length) rest
      (r.1, cells ++ r.2.1, r.2.2.1, r.2.2.2)
  | [], _, _, _ => rfl
  | c :: t, n, rest, h => by
    have hgood := h c List.mem_cons_self
    have htail := takeCells_good t (n + 1) rest fun d hd => h d (List.mem_cons_of_mem c hd)
    simp only [List.map_cons, List.cons_append, List.length_cons]
    rw [takeCells, if_neg (by simp [hgood]), if_neg (Nat.lt_irrefl n), if_pos rfl, htail, Nat.add_right_comm n 1, Nat.add_assoc n]

theorem takeCells_bad (n : Nat) {bad : CellBits × BitVec 8} (rest : List (CellBits × BitVec 8)) (h : bad.2 ≠ 0 ∨ cellGood bad.1 = false) :
    takeCells n n (bad :: rest) = (n, [], 0, some (n, decide (bad.2 = 0))) := by
  rw [takeCells, if_pos (by simpa using h)]

/-- Cells of types that are not reserved all go to the reading die, in order. -/
theorem foldl_deliver (h : Nat) : ∀ (cells : List CellBits) (s : State), (∀ c ∈ cells, typeReserved (bits c.toNat 0 8) = false) →
    cells.foldl (fun t c => t.deliver h c) s = { s with out := s.out ++ cells.map (Msg.accepted h) }
  | [], s, _ => by simp
  | c :: t, s, hc => by
    have hfirst : s.deliver h c = s.emit (.accepted h c) := if_neg (by simp [hc c List.mem_cons_self])
    rw [List.foldl_cons, hfirst, foldl_deliver h t _ fun d hd => hc d (List.mem_cons_of_mem c hd)]
    simp [State.emit]

theorem State.sameButRegs_bump (s : State) (a lsb w v : Nat) : s.sameButRegs (s.bump a lsb w v) := rfl

/-- A burst of which `cells` are accepted, none discarded as a duplicate, is answered. -/
theorem execBurstReceive_answers {s : State} {grp : Fin 1158} {site : Fin 59} {lower upper : List (List (BitVec 10))} {first : CellBits × BitVec 8} {got : List (CellBits × BitVec 8)}
    {cells : List CellBits} {id n : Nat} {nak : Option (Nat × Bool)} (hstate : (s.grp grp).state = .service) (hread : readBurst (lower ++ upper) = some (first :: got))
    (hid : bits first.1.toNat 24 4 = id) (hplace : bits first.1.toNat 28 4 = 0) (hnew : ∀ k, sfind (s.grp grp).seen site.val ≠ some (id, k))
    (htakes : takeCells 0 0 (first :: got) = (n, cells, 0, nak)) (htypes : ∀ c ∈ cells, typeReserved (bits c.toNat 0 8) = false) (hroom : s.backlog (grpWave grp) < 31) :
    ∃ t, execBurstReceive grp site lower upper s = .next t ∧ t.out = s.out ++ cells.map (fun c => Msg.accepted (grpHome grp) c) ∧
      t.statusQ = s.statusQ ++ [⟨grpWave grp, grp, site, id, nak.map Prod.fst⟩] ∧ t.statusHeld = s.statusHeld ∧
      sfind (t.grp grp).seen site.val = some (id, n) ∧ t.mainMem = s.mainMem ∧ t.rowStore = s.rowStore ∧ t.sites = s.sites := by
  unfold execBurstReceive
  extract_lets lanes g h x counted x1 last w
  rw [if_neg (not_not.2 hstate), hread]
  dsimp -zeta only
  extract_lets c0 id' repeats next r s1 s2 s3 s4 s5
  have hid' : id' = id := hid
  have hnext : next = 0 := by
    cases hlast : last with
    | none => simp only [next, hlast]
    | some l =>
      have hold : l.1 ≠ id' := fun he => hnew l.2 (hlast.trans (by rw [← hid', ← he]))
      simp only [next, hlast, hold, if_false]
  have hr : r = (n, cells, 0, nak) := by
    have hfirst : bits c0.toNat 28 4 = 0 := hplace
    simp only [r, hnext, hfirst, htakes]
  have hs2 : s2 = { s1 with out := s.out ++ cells.map (Msg.accepted h) } := by
    simp only [s2, hr]
    exact foldl_deliver h cells s1 htypes
  have hs3 : s2.sameButRegs s3 := (s2.sameButRegs_bump _ _ _ _).trans (State.sameButRegs_bump _ _ _ _ _)
  have hs4 : s2.sameButRegs s4 := by
    cases hnak : r.2.2.2 with
    | none => simpa only [s4, hnak] using hs3
    | some bad => simpa only [s4, hnak] using hs3.trans ((s3.sameButRegs_bump _ _ _ _).trans (State.sameButRegs_bump _ _ _ _ _))
  have hframe : s5 = { s with out := s.out ++ cells.map (Msg.accepted h), regs := s5.regs, groups := s5.groups, statusQ := s5.statusQ } := by
    simp only [s5]
    rw [hs4, hs2]
    rfl
  have hqueue : s5.statusQ = s.statusQ ++ [⟨w, g, site, id, nak.map Prod.fst⟩] := by
    simp only [s5, hr, hid']
    rw [hs4, hs2]
    rfl
  have hbacklog : s5.backlog w < 32 := by
    have hmore : s5.backlog w = s.backlog w + 1 := by simp [State.backlog, hqueue]
    have hless : s.backlog w < 31 := hroom
    omega
  have hgroup : s5.grp g = { x1 with seen := sput x1.seen site (id', r.1) } := by
    have hsame : s5.groups = s1.groups := by
      simp only [s5]
      rw [hs4, hs2]
    have hservice : x1.state ≠ .off := fun he => GroupState.noConfusion (hstate.symm.trans he)
    rw [State.grp, hsame]
    exact s.grp_setGrp g hservice
  have hseen : sfind (s5.grp g).seen site.val = some (id, n) := by
    rw [hgroup, hid', hr]
    exact sfind_sput _ _ _
  exact ⟨s5, if_neg fun hfull => absurd hfull.1 (Nat.not_le.2 hbacklog), (congrArg State.out hframe :), hqueue, (congrArg State.statusHeld hframe :), hseen,
    (congrArg State.mainMem hframe :), (congrArg State.rowStore hframe :), (congrArg State.sites hframe :)⟩

section Receive
variable {s : State} {grp : Fin 1158} {site : Fin 59} {lower upper : List (List (BitVec 10))} {cells : List CellBits} {id : Nat}

/-- A new burst is answered whose good cells have the indices 0, 1, … from its first cell on: all of them are accepted, and the answer is the fate of what follows them. -/
theorem execBurstReceive_accepts {rest : List (CellBits × BitVec 8)} {nak : Option (Nat × Bool)} (hstate : (s.grp grp).state = .service)
    (hread : readBurst (lower ++ upper) = some (cells.map (fun c => (c, 0)) ++ rest)) (hsome : cells ≠ []) (hnew : ∀ k, sfind (s.grp grp).seen site.val ≠ some (id, k))
    (hindex : ∀ i, i < cells.length → bits (cells.getD i 0).toNat 24 4 = id ∧ bits (cells.getD i 0).toNat 28 4 = i)
    (hgood : ∀ c ∈ cells, cellGood c = true ∧ typeReserved (bits c.toNat 0 8) = false) (hroom : s.backlog (grpWave grp) < 31)
    (hrest : takeCells cells.length cells.length rest = (cells.length, [], 0, nak)) :
    ∃ t, execBurstReceive grp site lower upper s = .next t ∧ t.out = s.out ++ cells.map (fun c => Msg.accepted (grpHome grp) c) ∧
      t.statusQ = s.statusQ ++ [⟨grpWave grp, grp, site, id, nak.map Prod.fst⟩] ∧ t.statusHeld = s.statusHeld ∧
      sfind (t.grp grp).seen site.val = some (id, cells.length) ∧ t.mainMem = s.mainMem ∧ t.rowStore = s.rowStore ∧ t.sites = s.sites := by
  obtain ⟨c, cs, rfl⟩ := List.exists_cons_of_ne_nil hsome
  obtain ⟨hid, hplace⟩ := hindex 0 (Nat.succ_pos _)
  have htakes : takeCells 0 0 ((c :: cs).map (fun c => (c, 0)) ++ rest) = ((c :: cs).length, c :: cs, 0, nak) := by
    rw [takeCells_good (c :: cs) 0 rest fun d hd => (hgood d hd).1, Nat.zero_add, hrest]
    simp
  exact execBurstReceive_answers hstate hread hid hplace hnew htakes (fun d hd => (hgood d hd).2) hroom

theorem execBurstReceive_unreadable (hstate : (s.grp grp).state = .service) (hread : readBurst (lower ++ upper) = none) :
    execBurstReceive grp site lower upper s = .next (s.setGrp grp { (s.grp grp).countViol (laneViols (lower ++ upper)) with lastBurst := s.now }) := by
  simp only [execBurstReceive, hstate, hread, ne_eq, not_true_eq_false, if_false]

end Receive

/-! ## Status at the writer (R221) -/

/-- What a site keeps of a burst is no retry limit. -/
theorem Site.keep_limits (x : Site) (b : Burst) : { x.keep b with limits := x.limits } = x.keep b := by
  unfold Site.keep
  split <;> rfl

section Status
variable {s : State} {site : Fin 59} {grp : Fin 1158} {b : Burst}

theorem execBurstAck_frees {id : BitVec 4} (h : (s.site site).awaiting grp id.toNat = some b) :
    execBurstAck site grp id s = .next ((s.setSite site { s.site site with bursts := dropFirst (fun k => decide (k = b)) (s.site site).bursts }).statusSent grp site id.toNat) := by
  simp only [execBurstAck, h]

/-- Before the fourth attempt a burst is due again as it is. -/
theorem State.burstFailed_again {n : Nat} (why start : Nat) (htries : b.tries < 4) :
    s.burstFailed n b why start = s.setSite n ((s.site n).keep { b with due := why, start := start }) := by
  simp [State.burstFailed, Nat.not_le.2 htries, Site.keep_limits]

/-- A writer site whose burst has failed its fourth attempt: the burst is due again, at the retry limit from now on, and so is counted for its transmitter. -/
def Site.limited (x : Site) (b : Burst) (why start now : Nat) : Site :=
  { x.keep { b with due := why, start := start, limitAt := some now } with limits := x.limits.filter (fun l => decide (now < l.2.2 + 1000000)) ++ [(b.tx, b.grp, now)] }

theorem State.burstFailed_limit {n : Nat} (why start : Nat) (htries : 4 ≤ b.tries) (hfirst : b.limitAt = none) :
    s.burstFailed n b why start = (s.setSite n ((s.site n).limited b why start s.now)).irq .phoSite n 1 := by
  simp [State.burstFailed, Site.limited, htries, hfirst]

theorem execBurstNak_fails {id idx : BitVec 4} (h : (s.site site).awaiting grp id.toNat = some b) (hidx : idx.toNat < b.cells.length) :
    execBurstNak site grp id idx s = .next ((s.statusSent grp site id.toNat).burstFailed site b 1 idx.toNat) := by
  simp only [execBurstNak, h]
  exact if_neg (Nat.not_le.2 hidx)

theorem execStatusTimeout_fails (h : (s.site site).bursts.find? (fun k => decide (k.grp = grp.val) && decide (k.due = 0)) = some b)
    (hlate : b.sentAt + s.fld (siteReg site 0x050) 0 16 ≤ s.now) :
    execStatusTimeout site grp s = .next ((s.irq .phoSite site 3).burstFailed site b 2 b.start) := by
  simp only [execStatusTimeout, h]
  exact if_neg (Nat.not_lt.2 hlate)

theorem execRetryLimitExpiry_faults {t : Nat} (h : (s.site site).bursts.find? (fun k => decide (k.grp = grp.val)) = some b) (hlimit : b.limitAt = some t)
    (hfirst : b.expired = false) (hlate : t + 1000000 ≤ s.now) :
    execRetryLimitExpiry site grp s = .next ((s.setSite site ((s.site site).keep { b with expired := true })).jobFault 5 2 (homeDie site) grp) := by
  simp only [execRetryLimitExpiry, h, hlimit]
  exact if_neg (by simp [hfirst, Nat.not_lt.2 hlate])

end Status

/-- Settles O33: the token by what a capture does, the lanes by the line code read back, the reader by what it takes of a burst, the writer by what a failed attempt does. -/
theorem burstProtocol : Obligations.BurstProtocol := by
  unfold Obligations.BurstProtocol
  refine ⟨?tokens, fun rd cells hone hmax => ⟨readBurst_burstLanes rd hone hmax, laneViols_burstLanes rd cells⟩, ?receive, ?status⟩
  case tokens =>
    intro s site grp asked tx cells char g x y d left released id stamped held reaches
    refine ⟨fun hmay htx hnone hone hmax horder hasked hlit hmaster => ?captures, fun hopen hlit hfree hsleep hnone => ?counts, fun hstate htoken =>
      ⟨execTokenRelease_frees (ended := ⟨grp, false⟩) hstate htoken, execTokenRelease_frees (ended := ⟨grp, true⟩) hstate htoken⟩⟩
    case captures =>
      have hburst := State.burstToSend_new (tx := tx) hnone hone hmax horder
      have hcapture {c : Byte} := execTokenCapture_captures (char := c) (cells := cells) hmay hlit hasked hmaster
      exact ⟨fun hstate htoken hpass => (hcapture (.inl ⟨rfl, htoken, hstate⟩)).trans (congrArg _ (State.capture_sends htx hburst htoken hpass)),
        fun hstate htoken hpass => (hcapture (.inl ⟨rfl, htoken, hstate⟩)).trans (congrArg _ (State.capture_passes htx hburst rfl htoken hpass)),
        fun hstate htoken => (hcapture (.inr ⟨rfl, htoken, hstate⟩)).trans (congrArg _ (State.capture_wakes htx hburst htoken))⟩
    case counts =>
      have hbad : ∀ c, some char = some c → c ≠ 0x5A ∧ c ≠ 0xA5 ∧ c ≠ 0 := by
        rintro _ ⟨⟩
        exact ⟨hfree, hsleep, hnone⟩
      exact ⟨execTokenCapture_counts hopen hlit hbad, execTokenCapture_counts (char := none) hopen hlit nofun⟩
  case receive =>
    intro s grp site lower upper cells bad rest id g h read lanes answered hstate
    refine ⟨fun hsome hnew hindex hgood hroom => ⟨fun hread => ?whole, fun hread hbad => ?cut⟩, execBurstReceive_unreadable hstate⟩
    case whole => exact execBurstReceive_accepts (rest := []) hstate (hread.trans (congrArg some (List.append_nil _).symm)) hsome hnew hindex hgood hroom rfl
    case cut => exact execBurstReceive_accepts hstate hread hsome hnew hindex hgood hroom (takeCells_bad cells.length rest hbad)
  case status =>
    intro s site grp id idx b t x sent
    refine ⟨fun hawaits => ⟨execBurstAck_frees hawaits, fun hidx htries => ?again, fun hidx htries hfirst => ?limit⟩, fun hfind hlate htries => ?timeout, execRetryLimitExpiry_faults⟩
    case again => exact (execBurstNak_fails hawaits hidx).trans (congrArg _ (State.burstFailed_again 1 _ htries))
    case limit =>
      exact ⟨_, (execBurstNak_fails hawaits hidx).trans (congrArg _ (State.burstFailed_limit 1 _ htries hfirst)), rfl, fun n hn => sget_sset_ne _ _ _ _ hn⟩
    case timeout => exact (execStatusTimeout_fails hfind hlate).trans (congrArg _ (State.burstFailed_again 2 _ htries))

end Sys2Proof.Machine
end

section
/-!
The laser source modules and the reference light (R246 to R249, R253, R276, R277): what identification, a failed module, the interlock and a probe leave, and the
statement LightSources.
-/
namespace Sys2Proof.Machine

/-! ## Lines and modules read back -/

section Reading
variable (s : State)

theorem State.line_modLine_same {f l : Nat} {g : LaserLine → LaserLine} (h : g (s.line f l) ≠ {}) : (s.modLine f l g).line f l = g (s.line f l) :=
  sget_sset_same_ne _ _ _ h

theorem State.line_modLine_ne {f l f' l' : Nat} (g : LaserLine → LaserLine) (h : 41 * f' + l' ≠ 41 * f + l) : (s.modLine f l g).line f' l' = s.line f' l' :=
  sget_sset_ne _ _ _ _ h

theorem State.lsm_modLsm_same {k : Nat} (hk : k < 7) (g : Lsm → Lsm) : (s.modLsm k g).lsm k = g (s.lsm k) := by
  simp [State.lsm, State.modLsm, hk]

theorem State.lsm_modLsm_ne {k i : Nat} (g : Lsm → Lsm) (h : i ≠ k) : (s.modLsm k g).lsm i = s.lsm i := by
  simp [State.lsm, State.modLsm, List.getElem?_set_ne (Ne.symm h)]

/-- A module that is down: its mode is the one named, and no output is enabled. -/
theorem State.lsm_lsmDown {k : Nat} (hk : k < 7) (m : LsmMode) : (s.lsmDown k m).lsm k = { s.lsm k with mode := m, enabled := 0 } := by
  rw [← s.lsm_modLsm_same hk fun x => { x with mode := m, enabled := 0 }, State.lsmDown]
  split <;> rfl

theorem State.lsmDown_eq (k : Nat) (m : LsmMode) : ∃ l w, s.lsmDown k m = { s with lsms := l, bootWait := w } := by
  unfold State.lsmDown
  split <;> exact ⟨_, _, rfl⟩

end Reading

/-! ## Runs of updates -/

section Runs
variable {α : Type} {f : State → α → State}

/-- What each update of a run keeps, and one of them brings about from any state that meets an invariant, holds at the end. -/
theorem foldl_reaches {I P : State → Prop} (hinv : ∀ t a, I t → I (f t a)) (hkeeps : ∀ t a, I t → P t → P (f t a)) {x : α} (hx : ∀ t, I t → P (f t x)) :
    ∀ {l : List α}, x ∈ l → ∀ {s : State}, I s → P (l.foldl f s)
  | a :: l, hmem, s, hs => by
    rcases List.mem_cons.1 hmem with rfl | hl
    · exact (List.foldlRecOn (motive := fun t => I t ∧ P t) l f ⟨hinv s x hs, hx s hs⟩ fun t ⟨ht, hp⟩ a _ => ⟨hinv t a ht, hkeeps t a ht hp⟩).2
    · exact foldl_reaches hinv hkeeps hx hl (hinv s a hs)

/-- Two states that differ in the laser lines alone. -/
def State.sameButLines (s t : State) : Prop := t = { s with lines := t.lines }

theorem State.sameButLines.trans {s t u : State} (h : s.sameButLines t) (h' : t.sameButLines u) : s.sameButLines u := by
  unfold State.sameButLines at *
  rw [h', h]

theorem State.sameButLines_modLine (s : State) (f l : Nat) (g : LaserLine → LaserLine) : s.sameButLines (s.modLine f l g) := rfl

theorem foldl_sameButLines (h : ∀ (t : State) x, t.sameButLines (f t x)) (l : List α) (s : State) : s.sameButLines (l.foldl f s) :=
  List.foldlRecOn (motive := s.sameButLines) l f rfl fun t ht x _ => ht.trans (h t x)

end Runs

/-! ## Bringing up a module (R246, R247) -/

/-- A line that is lit: commissioned afresh for a new module, else with the measurements still to come. -/
def LaserLine.relit (fresh : Bool) (y : LaserLine) : LaserLine := if fresh then { lit := true } else { y with lit := true, first := none }

theorem LaserLine.lit_relit (fresh : Bool) (y : LaserLine) : (y.relit fresh).lit = true := by
  cases fresh <;> rfl

theorem LaserLine.ne_reset_of_lit {y : LaserLine} (h : y.lit = true) : y ≠ {} := fun hy => Bool.noConfusion (h.symm.trans (congrArg LaserLine.lit hy))

/-- Every line of some fibres lit. -/
def State.lightFibres (s : State) (fs : List Nat) (fresh : Bool) : State :=
  fs.foldl (fun t f => (List.range (fibreLines f)).foldl (fun u l => u.modLine f l (LaserLine.relit fresh)) t) s

theorem State.sameButLines_lightFibres (s : State) (fs : List Nat) (fresh : Bool) : s.sameButLines (s.lightFibres fs fresh) :=
  foldl_sameButLines (fun t f => foldl_sameButLines (fun u l => u.sameButLines_modLine f l _) _ t) fs s

@[simp] theorem State.lsm_lightFibres (s : State) (fs : List Nat) (fresh : Bool) (k : Nat) : (s.lightFibres fs fresh).lsm k = s.lsm k := by
  rw [s.sameButLines_lightFibres fs fresh]
  rfl

@[simp] theorem State.groups_lightFibres (s : State) (fs : List Nat) (fresh : Bool) : (s.lightFibres fs fresh).groups = s.groups := by
  rw [s.sameButLines_lightFibres fs fresh]

theorem State.lit_modLine_relit (s : State) (f l : Nat) (fresh : Bool) : ((s.modLine f l (LaserLine.relit fresh)).line f l).lit = true := by
  rw [s.line_modLine_same (LaserLine.ne_reset_of_lit (LaserLine.lit_relit _ _))]
  exact LaserLine.lit_relit _ _

theorem State.lit_modLine_relit_keeps {s : State} {f l : Nat} (h : (s.line f l).lit = true) (f' l' : Nat) (fresh : Bool) :
    ((s.modLine f' l' (LaserLine.relit fresh)).line f l).lit = true := by
  by_cases hkey : 41 * f + l = 41 * f' + l'
  · have hline : ∀ t : State, t.line f l = t.line f' l' := fun t => congrArg (sget ({} : LaserLine) t.lines) hkey
    rw [hline]
    exact s.lit_modLine_relit f' l' fresh
  · rwa [s.line_modLine_ne _ hkey]

theorem State.lit_lightFibres {fs : List Nat} {f l : Nat} (hf : f ∈ fs) (hl : l < fibreLines f) (s : State) (fresh : Bool) :
    ((s.lightFibres fs fresh).line f l).lit = true := by
  refine foldl_reaches (I := fun _ => True) (P := fun t => (t.line f l).lit = true) (fun _ _ _ => trivial) (fun t f' _ ht => ?keeps) (fun t _ => ?lights) hf trivial
  case keeps => exact List.foldlRecOn (motive := fun u : State => (u.line f l).lit = true) _ _ ht fun u hu l' _ => u.lit_modLine_relit_keeps hu f' l' fresh
  case lights =>
    exact foldl_reaches (I := fun _ => True) (P := fun u : State => (u.line f l).lit = true) (fun _ _ _ => trivial) (fun u l' _ hu => u.lit_modLine_relit_keeps hu f l' fresh)
      (fun u _ => u.lit_modLine_relit f l fresh) (List.mem_range.2 hl) trivial

/-- A module whose probes have all passed: its serial number stored, folded into 64 bits, and the used outputs at full power. -/
def State.fullPower (s : State) (k : Nat) (folded : Dword) : State :=
  (s.wr64 (lsmReg k 0x048) folded).modLsm k (fun x => { x with mode := .lit, approved := true, enabled := lsmUsed k, shut := 0, enHigh := false, cmisRow := 0 })

theorem State.lsm_fullPower (s : State) {k : Nat} (hk : k < 7) (folded : Dword) :
    (s.fullPower k folded).lsm k = { s.lsm k with mode := .lit, approved := true, enabled := lsmUsed k, shut := 0, enHigh := false, cmisRow := 0 } :=
  State.lsm_modLsm_same _ hk _

/-- A serial number as LSM.SERIAL shows it: folded into 64 bits (R279). -/
def foldedSerial (serial : BitVec 128) : Dword := BitVec.ofNat 64 (bits serial.toNat 0 64 ^^^ bits serial.toNat 64 64)

theorem and_eq_self_of_and_not {w : Nat} {a b : BitVec w} (h : a &&& ~~~b = 0) : a &&& b = a :=
  calc a &&& b = (a &&& b) ||| (a &&& ~~~b) := by rw [h]; simp
    _ = a &&& (b ||| ~~~b) := BitVec.and_or_distrib_left.symm
    _ = a := by simp

section Identify
variable {s : State} {lsm : Fin 7} {names : BitVec 256} {read : LsmRead} {probes : BitVec 4} (hlarva : s.stage = .larva)
include hlarva

theorem execLsmIdentify_absent : execLsmIdentify lsm false names read probes s = .next (s.lsmDown lsm .absent) := by
  simp [execLsmIdentify, hlarva]

theorem execLsmIdentify_probes (hnamed : s.modelApproved names = true) (hmode : (s.lsm lsm).mode ≠ .probe) :
    execLsmIdentify lsm true names read probes s = .next (s.modLsm lsm (fun x =>
      { x with mode := .probe, approved := true, outputs := read.outputs, pairs := read.pairs, enabled := lsmUsed lsm, shut := 0, enHigh := false, cmisRow := 0 })) := by
  simp [execLsmIdentify, hlarva, hnamed, hmode]

theorem execLsmIdentify_lights (hnamed : s.modelApproved names = true) (hmode : (s.lsm lsm).mode = .probe) (hgood : lsmUsed lsm &&& ~~~probes = 0) :
    execLsmIdentify lsm true names read probes s = .next ((s.fullPower lsm (foldedSerial read.serial)).lightFibres (lsmFibres lsm (lsmUsed lsm))
      (decide (s.rd64 (lsmReg lsm 0x048) ≠ foldedSerial read.serial))).startGroups := by
  simp only [execLsmIdentify, hlarva, hnamed, hmode, hgood, and_eq_self_of_and_not hgood, ne_eq, not_true_eq_false, if_false, if_true, Bool.not_true, Bool.false_eq_true]
  rfl

end Identify

/-! ## Modules that fail or are removed (R246, R249) -/

section Failures
variable {s : State} {lsm : Fin 7}

theorem execCmisFail_good (retries : Fin 4) :
    execCmisFail lsm retries true s = .next ((s.bump (lsmReg lsm 0x074) 0 16 retries).modLsm lsm (fun x => { x with cmisRow := 0 })) := rfl

/-- A failed transaction counted. -/
def State.cmisCounted (s : State) (k : Nat) (retries : Nat) : State := ((s.bump (lsmReg k 0x074) 0 16 retries).bump (lsmReg k 0x074) 16 16 1).irq .lsm k 8

/-- The module after its third failed transaction in a row. -/
def State.cmisFaulted (s : State) (k : Nat) (retries : Nat) : State :=
  (((s.cmisCounted k retries).modLsm k (fun x => { x with cmisRow := (s.lsm k).cmisRow + 1 })).lsmDown k .fault).irq .lsm k 7

theorem State.sameButRegs_irq (s : State) (t : PageType) (i b : Nat) : s.sameButRegs (s.irq t i b) := rfl

theorem State.sameButRegs_cmisCounted (s : State) (k : Nat) (retries : Nat) : s.sameButRegs (s.cmisCounted k retries) :=
  ((s.sameButRegs_bump _ _ _ _).trans (State.sameButRegs_bump _ _ _ _ _)).trans (State.sameButRegs_irq _ _ _ _)

theorem State.cmisFaulted_eq (s : State) (k : Nat) (retries : Nat) : ∃ l r w, s.cmisFaulted k retries = { s with lsms := l, regs := r, bootWait := w } := by
  obtain ⟨l, w, hdown⟩ := ((s.cmisCounted k retries).modLsm k (fun x => { x with cmisRow := (s.lsm k).cmisRow + 1 })).lsmDown_eq k .fault
  obtain ⟨r, hcounted⟩ : ∃ r, s.cmisCounted k retries = { s with regs := r } := ⟨_, s.sameButRegs_cmisCounted k retries⟩
  rw [State.cmisFaulted, hdown, State.modLsm, hcounted]
  exact ⟨l, _, w, State.sameButRegs_irq _ _ _ _⟩

theorem State.lsm_cmisFaulted (s : State) {k : Nat} (hk : k < 7) (retries : Nat) :
    ((s.cmisFaulted k retries).lsm k).mode = .fault ∧ ((s.cmisFaulted k retries).lsm k).enabled = 0 := by
  have hdown : (s.cmisFaulted k retries).lsm k = _ := State.lsm_lsmDown _ hk .fault
  rw [hdown]
  exact ⟨rfl, rfl⟩

theorem execCmisFail_third (retries : Fin 4) (h : (s.lsm lsm).cmisRow = 2) :
    execCmisFail lsm retries false s = .next ((s.cmisFaulted lsm retries).darken (lsmFibres lsm 15)) := by
  simp only [execCmisFail, h, Bool.false_eq_true, if_false, if_true, State.cmisFaulted, State.cmisCounted]

theorem execLsmRemoval_awake (h : s.dst = .d0 ∨ s.dst = .d1) :
    execLsmRemoval lsm s = .next (((s.lsmDown lsm .absent).modLsm lsm (fun x => { x with swapping := none })).darken (lsmFibres lsm 15)) := if_pos h

theorem execLsmRemoval_off (h0 : s.dst ≠ .d0) (h1 : s.dst ≠ .d1) :
    execLsmRemoval lsm s = .next ((s.lsmDown lsm .absent).modLsm lsm (fun x => { x with swapping := none })) := if_neg (not_or_intro h0 h1)

end Failures

/-! ## REF_LIGHT (R253) -/

section Reference
variable {s : State}

theorem execRefLightLoss_holds (h : s.stage = .pupa ∨ s.stage = .imago) :
    execRefLightLoss s = .next { (List.range 7).foldl (fun u i => u.irq .lsm i 6) s with
      refLight := { s.refLight with valid := false, since := s.now, holdover := some (s.refLight.holdover.getD s.now) } } := if_pos h

theorem execRefLightRestored_ends (hvalid : s.refLight.valid = true) (hlong : s.refLight.since + 10000000000 ≤ s.now) :
    execRefLightRestored s = .next { s with refLight := { s.refLight with holdover := none, expired := false } } := by
  simp [execRefLightRestored, hvalid, hlong]

theorem execRefLightRestored_returns (hstage : s.stage ≠ .larva) (hvalid : s.refLight.valid = false) :
    execRefLightRestored s = .next { s with refLight := { s.refLight with valid := true, since := s.now }, bootWait := (if s.bootWait = 2 then 0 else s.bootWait) } := by
  simp [execRefLightRestored, hvalid, hstage]

theorem execHoldoverExpiry_stops {t : Nat} (hheld : s.refLight.holdover = some t) (hfirst : s.refLight.expired = false) (hlate : t + 3600000000000 ≤ s.now) :
    execHoldoverExpiry s = .next { s with refLight := { s.refLight with expired := true }, stopAsked := some (3, 0) } := by
  simp [execHoldoverExpiry, hheld, hfirst, Nat.not_lt.2 hlate]

end Reference

/-! ## The interlock (R275 to R277) -/

section Interlock
variable {s : State} {fibre : Fin 26} {tap : Int}

/-- An input found unmated, its output shut, and a swap on it taken from its module. -/
def State.inputShut (s : State) (f : Nat) (tap : Int) (confirmed : Bool) : State :=
  let j := (fibreLsm f).2
  (s.modInput f (fun i => { i with tap := tap, mated := false, lowSince := some (s.now - 10000), disabledAt := some s.now, confirmed := confirmed, probeAt := s.now })).modLsm
    (fibreLsm f).1 (fun x => { x with
      enabled := x.enabled &&& ~~~(BitVec.twoPow 4 j), shut := x.shut ||| BitVec.twoPow 4 j, mode := .shut, swapping := x.swapping.filter (fun w => !w.1.getLsbD j) })

theorem execInterlockUnmated_shuts (confirmed : Bool) (hlow : tap < -1000) (hon : (s.lsm (fibreLsm fibre).1).enabled.getLsbD (fibreLsm fibre).2 = true) :
    execInterlockUnmated fibre tap confirmed s = .next ((((s.inputShut fibre tap confirmed).irq .lsm (fibreLsm fibre).1 5).swapOff (fibreLsm fibre).1
      ((s.lsm (fibreLsm fibre).1).swapping.filter (fun w => w.1.getLsbD (fibreLsm fibre).2))).darken [fibre.val]) := by
  simp only [execInterlockUnmated, Int.not_le.2 hlow, hon, if_false, Bool.not_true, Bool.false_eq_true, State.inputShut]

theorem execInterlockUnmated_confirms (hlow : tap < -1000) (hoff : (s.lsm (fibreLsm fibre).1).enabled.getLsbD (fibreLsm fibre).2 = false)
    (hshut : (s.lsm (fibreLsm fibre).1).shut.getLsbD (fibreLsm fibre).2 = true) :
    execInterlockUnmated fibre tap true s = .next (s.modInput fibre (fun i => { i with confirmed := true })) := by
  simp only [execInterlockUnmated, Int.not_le.2 hlow, hoff, hshut, if_false, if_true, Bool.not_false, and_self]

theorem execInterlockEnableDrop_drops {t : Nat} (hlow : (s.input fibre).lowSince = some t) (hopen : (s.input fibre).confirmed = false)
    (hshut : (s.lsm (fibreLsm fibre).1).shut.getLsbD (fibreLsm fibre).2 = true) (hlate : t + 900000 ≤ s.now) :
    execInterlockEnableDrop fibre s =
      .next ((s.modLsm (fibreLsm fibre).1 (fun x => { x with enHigh := true, enabled := 0 })).darken (lsmFibres (fibreLsm fibre).1 15)) := by
  simp only [execInterlockEnableDrop, hlow]
  exact if_neg (by simp [hopen, hshut, Nat.not_lt.2 hlate])

theorem natAbs_le_iff {x : Int} {n : Nat} : x.natAbs ≤ n ↔ -(n : Int) ≤ x ∧ x ≤ n := by omega

theorem execProbe_probes (hauto : s.fld (lsmReg (fibreLsm fibre).1 0x06C) 0 1 = 1) (hshut : (s.lsm (fibreLsm fibre).1).shut.getLsbD (fibreLsm fibre).2 = true)
    (hlate : (s.input fibre).probeAt + 1000000000 ≤ s.now) :
    execProbe fibre tap s = .next (let u := s.modInput fibre (fun x => { x with tap := tap, probeAt := s.now })
      if -300 ≤ tap ∧ tap ≤ 300 then u.restoreOutput fibre else u) := by
  have hdue : ¬ (s.fld (lsmReg (fibreLsm fibre).1 0x06C) 0 1 = 0 ∨ (!(s.lsm (fibreLsm fibre).1).shut.getLsbD (fibreLsm fibre).2) = true ∨
      s.now < (s.input fibre).probeAt + 1000000000) := by
    simp [hauto, hshut, Nat.not_lt.2 hlate]
  simp only [execProbe, if_neg hdue, natAbs_le_iff, Nat.cast_ofNat]

/-- A write of an LSM register that is taken does what the register's command says. -/
theorem State.lsmCmd_taken {ini : Initiator} {ep : Byte} {lsm : Fin 7} {off : Nat} (hoff : off < 4096) (h : s.takes ini ep .lsm lsm off) (f : State → State) :
    s.busDo ini ep .lsm lsm off f = (f s).answer ini 0 := by
  obtain ⟨hopen, hheld⟩ := h
  exact State.busDo_taken f lsm.isLt hoff hopen hheld

end Interlock

/-- Settles O37: each event of a module, of REF_LIGHT and of the interlock by its own lemma. -/
theorem lightSources : Obligations.LightSources := by
  unfold Obligations.LightSources
  intro s ini ep lsm names serial retries fibre tap confirmed outs probes outputs pairs t k used identify counted gone warned f m j unmated shut
  refine ⟨execLsmIdentify_probes, fun hlarva hnamed hmode hgood => ?lights, execLsmIdentify_absent, execCmisFail_good retries, fun hrow => ?third, execLsmRemoval_awake,
    execLsmRemoval_off, execRefLightLoss_holds, execRefLightRestored_ends, execRefLightRestored_returns, execHoldoverExpiry_stops, execInterlockUnmated_shuts confirmed,
    execInterlockUnmated_confirms, execInterlockEnableDrop_drops, execProbe_probes, fun htakes => congrArg _ (State.lsmCmd_taken (by decide) htakes _)⟩
  case lights =>
    have hlsm (fresh : Bool) := (State.lsm_lightFibres _ (lsmFibres k used) fresh k).trans (s.lsm_fullPower lsm.isLt (foldedSerial serial))
    exact ⟨_, execLsmIdentify_lights hlarva hnamed hmode hgood, congrArg Lsm.mode (hlsm _), congrArg Lsm.enabled (hlsm _), congrArg Lsm.approved (hlsm _),
      congrArg Lsm.shut (hlsm _),
      State.groups_lightFibres _ _ _, fun i hi => (State.lsm_lightFibres _ _ _ i).trans (State.lsm_modLsm_ne _ _ hi),
      fun g hg l hl => State.lit_lightFibres hg hl _ _⟩
  case third =>
    obtain ⟨hmode, henabled⟩ := s.lsm_cmisFaulted lsm.isLt retries
    obtain ⟨l, r, w, heq⟩ := s.cmisFaulted_eq k retries
    exact ⟨_, execCmisFail_third retries hrow, hmode, henabled, by rw [heq]⟩

end Sys2Proof.Machine
end

section
/-!
Laser lines and the swap of a laser (R251, R252, R269 to R273, R275, R279): what a visit of a line monitor leaves, how a line fades, recovers and has its swap decided,
what each step of a swap does, and the statement LaserLines.
-/
namespace Sys2Proof.Machine

/-! ## Visits (R251, R252) -/

section Visits
variable {s : State} {fibre : Fin 26} {line : Fin 41}

theorem LaserLine.ne_reset_of_first {y : LaserLine} (h : y.first ≠ none) : y ≠ {} := fun hy => h (congrArg LaserLine.first hy)

/-- Of two updates of a line both are made, where the first lists it. -/
theorem State.modLine_modLine (s : State) (f l : Nat) {z : LaserLine} (g : LaserLine → LaserLine) (h : z ≠ {}) :
    (s.modLine f l (fun _ => z)).modLine f l g = s.modLine f l (fun _ => g z) := by
  have hline : (s.modLine f l (fun _ => z)).line f l = z := s.line_modLine_same h
  simp only [State.modLine] at hline ⊢
  rw [hline, sset_sset_same_ne _ _ _ h]

/-- The monitor of a fibre gone on from a line. -/
def State.goneOn (s : State) (f l : Nat) : State := s.modInput f (fun i => { i with visit := (l + 1) % fibreLines f })

@[simp] theorem State.line_goneOn (s : State) (f l f' l' : Nat) : (s.goneOn f l).line f' l' = s.line f' l' := rfl
@[simp] theorem State.now_goneOn (s : State) (f l : Nat) : (s.goneOn f l).now = s.now := rfl
@[simp] theorem State.stage_goneOn (s : State) (f l : Nat) : (s.goneOn f l).stage = s.stage := rfl

theorem State.modInput_visit {f l : Nat} (h : (s.input f).visit = l) :
    s.modInput f (fun i => if i.visit = l then { i with visit := (l + 1) % fibreLines f } else i) = s.goneOn f l := by
  simp only [State.goneOn, State.modInput, h, if_true]

theorem State.visits_of_turn {f l : Nat} (hl : l < fibreLines f) (h : (s.input f).visit = l) : s.visits f l = true := by
  simp [State.visits, hl, h]

/-- What a visit leaves of a line that shows no fade: power and offset measured. -/
def LaserLine.measured (y : LaserLine) (power offset : Int) (now : Nat) : LaserLine :=
  { y with power := power, offset := offset, first := some (y.first.getD now), recoverAt := none
           hist := (now, power) :: y.hist.filter (fun e => decide (now < e.1 + 200000000)) }

theorem LaserLine.measured_ne_reset (y : LaserLine) (power offset : Int) (now : Nat) : y.measured power offset now ≠ {} :=
  LaserLine.ne_reset_of_first (Option.some_ne_none _)

/-- A line on the grid is not steered. -/
theorem execLineMonitorVisit_onGrid {power offset : Int} (hl : line < fibreLines fibre) (hmode : (s.line fibre line).mode = .normal)
    (hturn : (s.input fibre).visit = line) (hstage : s.stage ≠ .larva) (hgrid : (offset + Config.residual line).natAbs ≤ 10) :
    execLineMonitorVisit fibre line power offset s = .next ((s.goneOn fibre line).modLine fibre line (fun _ =>
      (s.line fibre line).measured power (offset + Config.residual line) s.now)) := by
  simp [execLineMonitorVisit, State.visits_of_turn hl hturn, State.modInput_visit hturn, hmode, hstage, Nat.not_lt.2 hgrid, LaserLine.measured]

/-- A line off the grid is steered back, at most once in 10 ms. -/
theorem execLineMonitorVisit_steers {power offset : Int} (hl : line < fibreLines fibre) (hmode : (s.line fibre line).mode = .normal)
    (hturn : (s.input fibre).visit = line) (hoff : 10 < (offset + Config.residual line).natAbs)
    (hlast : ∀ t, (s.line fibre line).steered = some t → t + 10000000 ≤ s.now) (hrange : ((s.line fibre line).tune - (offset + Config.residual line)).natAbs ≤ 500) :
    execLineMonitorVisit fibre line power offset s = .next (((s.goneOn fibre line).modLine fibre line (fun _ =>
      { (s.line fibre line).measured power (offset + Config.residual line) s.now with
        tune := (s.line fibre line).tune - (offset + Config.residual line), steered := some s.now })).bump (lsmReg (fibreLsm fibre).1 0x07C) 0 16 1) := by
  simp only [execLineMonitorVisit, State.visits_of_turn hl hturn, State.modInput_visit hturn, State.line_goneOn, State.now_goneOn, hmode, hoff, Nat.not_lt.2 hrange,
    LaserLine.measured, decide_true, Bool.true_and, Bool.not_true, Bool.false_eq_true, if_false]
  refine (if_neg ?due).trans (congrArg (fun t => Host.Outcome.next (State.bump t (lsmReg (fibreLsm fibre).1 0x07C) 0 16 1))
    (State.modLine_modLine _ _ _ _ (LaserLine.ne_reset_of_first (Option.some_ne_none _))))
  case due =>
    cases hsteered : (s.line fibre line).steered with
    | none => simp
    | some t => simp [hlast t hsteered]

theorem execCommissioning_records {power : Int} (hl : line < fibreLines fibre) (hlit : (s.line fibre line).lit = true) (hnone : (s.line fibre line).base = none) :
    execCommissioning fibre line power s = .next ((s.modLine fibre line (fun y => { y with base := some power })).amend 0x09 false (fibre * 64 + line)
      ((power % 2 ^ 64).toNat)) := by
  simp [execCommissioning, Nat.not_le.2 hl, hlit, hnone]

end Visits

/-! ## Fades (R270, R271) -/

section Fades
variable {s : State} {fibre : Fin 26} {line : Fin 41}

/-- A swap is decided where none is under way on the pair, and the pair has its standby. -/
theorem State.decideSwap_decides {f l : Nat} (hnone : ∀ k ∈ s.pairFibres f, (s.line k l).swap = none) (hstandby : (s.line f l).standbyGone = false) :
    s.decideSwap f l = s.modPair f l (fun y => { y with mode := .swapping, standbyLit := true, swap := some { decided := s.now } }) := by
  have hany : (s.pairFibres f).any (fun k => (s.line k l).swap.isSome) = false := by
    rw [List.any_eq_false]
    exact fun k hk => by simp [hnone k hk]
  simp only [State.decideSwap, hany, hstandby, Bool.false_eq_true, if_false]

theorem execFadeCrossing_warns (hmode : (s.line fibre line).mode = .normal) (hlow : (s.line fibre line).loss ≤ -150) (habove : -250 < (s.line fibre line).loss) :
    execFadeCrossing fibre line s = .next ((s.modPair fibre line (fun y => { y with mode := .warning, recoverAt := none })).irq .lsm (fibreLsm fibre).1 0) := by
  have h250 : ¬ (s.line fibre line).loss ≤ -250 := Int.not_le.2 habove
  have h300 : ¬ (s.line fibre line).loss ≤ -300 := by omega
  simp only [execFadeCrossing, hmode, hlow, h250, h300, and_self, false_and, if_true, if_false]

theorem execFadeCrossing_lights (hmode : (s.line fibre line).mode = .warning) (hlow : (s.line fibre line).loss ≤ -250) (habove : -300 < (s.line fibre line).loss)
    (hstandby : (s.line fibre line).standbyGone = false) :
    execFadeCrossing fibre line s =
      .next ((s.modPair fibre line (fun y => { y with mode := .standbyLit, standbyLit := true, recoverAt := none })).irq .lsm (fibreLsm fibre).1 1) := by
  have h300 : ¬ (s.line fibre line).loss ≤ -300 := Int.not_le.2 habove
  simp [execFadeCrossing, hmode, hlow, h300, hstandby]

theorem execFadeCrossing_decides (hmode : (s.line fibre line).mode = .standbyLit) (hlow : (s.line fibre line).loss ≤ -300) :
    execFadeCrossing fibre line s = .next (s.decideSwap fibre line) := by
  simp [execFadeCrossing, hmode, hlow]

theorem execFadeRecovery_clears {t : Nat} (hmode : (s.line fibre line).mode = .warning) (hrecover : (s.line fibre line).recoverAt = some t)
    (hlong : t + 10000000000 ≤ s.now) :
    execFadeRecovery fibre line s = .next (s.modPair fibre line (fun y => { y with mode := .normal, recoverAt := none })) := by
  simp only [execFadeRecovery, hmode, hrecover, if_pos hlong]

theorem execFadeRecovery_extinguishes {t : Nat} (hmode : (s.line fibre line).mode = .standbyLit) (hrecover : (s.line fibre line).recoverAt = some t)
    (hlong : t + 60000000000 ≤ s.now) :
    execFadeRecovery fibre line s = .next (s.modPair fibre line (fun y => { y with mode := .warning, standbyLit := false, ready := false, recoverAt := none })) := by
  simp only [execFadeRecovery, hmode, hrecover, if_pos hlong]

theorem execRapidFade_decides {lsm : Fin 7} {out : Fin 4} {t : Nat} (hfibre : 4 * lsm.val + out.val = fibre.val) (hfirst : (s.line fibre line).first = some t)
    (hminute : t + 60000000000 ≤ s.now) (hfalls : (s.line fibre line).falling = true) (hlow : (s.line fibre line).loss ≤ -50) :
    execRapidFade lsm out line s = .next (s.decideSwap fibre line) := by
  simp [execRapidFade, hfibre, fibre.isLt, hfirst, hminute, hfalls, hlow]

theorem State.setLineSel_stores {lsm v : Nat} (hout : bits v 0 2 < (if lsm = 6 then 2 else 4)) (hline : bits v 0 6 < (if lsm = 6 then 10 else 41)) :
    s.setLineSel lsm v = s.wr (lsmReg lsm 0x060) (BitVec.ofNat 32 (v &&& 0x13F)) := if_pos ⟨hout, hline⟩

end Fades

/-! ## The steps of a swap (R272, R275) -/

section Swaps
variable {s : State} {lsm : Fin 7} {outs : BitVec 4} {line : Fin 41}

/-- A run of updates that keep the time may take it from its first state. -/
theorem foldl_at_now {α : Type} {g : Nat → State → α → State} (h : ∀ n t a, (g n t a).now = t.now) {n : Nat} : ∀ (l : List α) {s : State}, s.now = n →
    l.foldl (fun t a => g t.now t a) s = l.foldl (g n) s
  | [], _, _ => rfl
  | a :: l, s, hs => by rw [List.foldl_cons, foldl_at_now h l ((h _ _ _).trans hs), hs, List.foldl_cons]

@[simp] theorem State.now_modLsm (s : State) (k : Nat) (g : Lsm → Lsm) : (s.modLsm k g).now = s.now := rfl
@[simp] theorem State.now_bump (s : State) (a lsb w n : Nat) : (s.bump a lsb w n).now = s.now := rfl
@[simp] theorem State.now_irq (s : State) (t : PageType) (i b : Nat) : (s.irq t i b).now = s.now := rfl
@[simp] theorem State.now_modLine (s : State) (f l : Nat) (g : LaserLine → LaserLine) : (s.modLine f l g).now = s.now := rfl
@[simp] theorem State.now_amend (s : State) (kind : Nat) (bound : Bool) (res value : Nat) : (s.amend kind bound res value).now = s.now := rfl

/-- Update the swap of a line on some fibres. -/
def State.modSwaps (s : State) (fs : List Nat) (l : Nat) (h : Swap → Swap) : State := fs.foldl (fun t f => t.modLine f l (fun y => { y with swap := y.swap.map h })) s

theorem State.sameButLines_modSwaps (s : State) (fs : List Nat) (l : Nat) (h : Swap → Swap) : s.sameButLines (s.modSwaps fs l h) :=
  foldl_sameButLines (fun t f => t.sameButLines_modLine f l _) fs s

theorem State.grp_modSwaps (s : State) (fs : List Nat) (l : Nat) (h : Swap → Swap) (g : Nat) : (s.modSwaps fs l h).grp g = s.grp g := by
  rw [s.sameButLines_modSwaps fs l h]
  rfl

/-- A pair whose swap may be triggered has a first fibre, and a swap on it. -/
theorem State.pairReady_head {fs : List Nat} {l : Nat} (h : s.pairReady fs l = true) : ∃ f rest w, fs = f :: rest ∧ (s.line f l).swap = some w := by
  cases fs with
  | nil => exact absurd h Bool.false_ne_true
  | cons f rest =>
    cases hswap : (s.line f l).swap with
    | none => simp [State.pairReady, hswap] at h
    | some w => exact ⟨f, rest, w, rfl, hswap⟩

theorem execSwapTrigger_triggers (hfree : (s.lsm lsm).swapping = none) (hready : s.pairReady (lsmFibres lsm outs) line = true)
    (houts : ∀ f ∈ lsmFibres lsm outs, s.pairOuts f = outs) (hfirst : ∀ f ∈ lsmFibres lsm outs, ∀ w, (s.line f line).swap = some w → s.swapBefore lsm w.decided = false)
    (hgroups : ∀ e ∈ pairGroups (lsmFibres lsm outs) line, (s.grp e.1).sparing = none)
    (hports : ∀ f ∈ lsmFibres lsm outs, ∀ p ∈ fibrePorts f, (s.port p).spare = none) :
    execSwapTrigger lsm outs line s = .next ((s.modLsm lsm (fun x => { x with swapping := some (outs, line.val) })).modSwaps (lsmFibres lsm outs) line
      (fun v => { v with trigger := some s.now })) := by
  obtain ⟨f, rest, w, hfs, hswap⟩ := State.pairReady_head hready
  have hbefore := hfirst f (hfs ▸ List.mem_cons_self) w hswap
  have hout : (lsmFibres lsm outs).all (fun f => decide (s.pairOuts f = outs)) = true := List.all_eq_true.2 fun f hf => decide_eq_true (houts f hf)
  have hgrp : (pairGroups (lsmFibres lsm outs) line).any (fun e => (s.grp e.1).sparing.isSome) = false := by
    rw [List.any_eq_false]
    exact fun e he => by simp [hgroups e he]
  have hport : (lsmFibres lsm outs).any (fun f => (fibrePorts f).any (fun p => (s.port p).spare.isSome)) = false := by
    rw [List.any_eq_false]
    exact fun f hf => by simpa using fun p hp => hports f hf p hp
  rw [execSwapTrigger]
  simp only [hfree, hready, hout, hgrp, hport]
  rw [hfs]
  simp only [hswap, hbefore]
  exact congrArg Host.Outcome.next (foldl_at_now (g := fun n t f => t.modLine f line (fun y => { y with swap := y.swap.map (fun w => { w with trigger := some n }) }))
    (fun _ t f => t.now_modLine f line _) (f :: rest) (s.now_modLsm lsm _))

/-! ### The groups and the ports of a pair -/

/-- The master of a group that uses a line keeps its token for a swap (R272 t2). -/
def State.pauseGroup (s : State) (e : Nat × Nat) : State :=
  let x := s.grp e.1
  if x.uses e.2 then s.setGrp e.1 { x with paused := true, token := (if x.token = .free then .kept else x.token) } else s

/-- The master of a group that pauses for a swap launches a FREE token (R272 t4). -/
def State.resumeGroup (s : State) (e : Nat × Nat) : State :=
  let x := s.grp e.1
  if x.paused then s.setGrp e.1 { x with paused := false, token := (if x.token = .kept ∧ x.state = .service then .free else x.token), tokenAt := 58, tokenSeen := s.now } else s

/-- Two states that differ in the groups alone. -/
def State.sameButGroups (s t : State) : Prop := t = { s with groups := t.groups }

theorem State.sameButGroups.lines_eq {s t : State} (h : s.sameButGroups t) : t.lines = s.lines := by
  rw [h]

theorem State.sameButGroups.after_lines {s t u : State} (h : s.sameButLines t) (h' : t.sameButGroups u) : u = { s with lines := u.lines, groups := u.groups } := by
  unfold State.sameButGroups State.sameButLines at *
  rw [h', h]

/-- An update of one group: the groups alone are changed, and of them no other. -/
def State.atGroup (s t : State) (g : Nat) : Prop := s.sameButGroups t ∧ ∀ k, k ≠ g → t.grp k = s.grp k

theorem State.atGroup_setGrp (s : State) (g : Nat) (x : Group) : s.atGroup (s.setGrp g x) g := ⟨rfl, fun _ hk => s.grp_setGrp_ne x hk⟩
theorem State.atGroup_self (s : State) (g : Nat) : s.atGroup s g := ⟨rfl, fun _ _ => rfl⟩

theorem State.atGroup_pauseGroup (s : State) (e : Nat × Nat) : s.atGroup (s.pauseGroup e) e.1 := by
  dsimp only [State.pauseGroup]
  split
  · exact s.atGroup_setGrp _ _
  · exact s.atGroup_self _

theorem State.atGroup_resumeGroup (s : State) (e : Nat × Nat) : s.atGroup (s.resumeGroup e) e.1 := by
  dsimp only [State.resumeGroup]
  split
  · exact s.atGroup_setGrp _ _
  · exact s.atGroup_self _

/-- A run over some groups changes the groups alone, and of them no other. -/
theorem foldl_atGroup {f : State → Nat × Nat → State} (h : ∀ (t : State) e, t.atGroup (f t e) e.1) (l : List (Nat × Nat)) (s : State) :
    s.sameButGroups (l.foldl f s) ∧ ∀ g, g ∉ l.map Prod.fst → (l.foldl f s).grp g = s.grp g := by
  refine ⟨List.foldlRecOn (motive := s.sameButGroups) l f rfl fun t ht e _ => ?same, fun g hg =>
    List.foldlRecOn (motive := fun t : State => t.grp g = s.grp g) l f rfl fun t ht e he => ((h t e).2 g ?other).trans ht⟩
  case same =>
    have hstep := (h t e).1
    unfold State.sameButGroups at *
    rw [hstep, ht]
  case other => exact fun hge => hg (hge ▸ List.mem_map_of_mem he)

theorem execSwapPauseStart_pauses {w : Swap} {t1 : Nat} (hswap : s.swapAt lsm outs line = some w) (htrigger : w.trigger = some t1) (hbefore : w.paused = false)
    (hlate : t1 + 7500 ≤ s.now) :
    execSwapPauseStart lsm outs line s = .next ((pairGroups (lsmFibres lsm outs) line).foldl State.pauseGroup
      (s.modSwaps (lsmFibres lsm outs) line (fun v => { v with paused := true }))) := by
  simp only [execSwapPauseStart, hswap, htrigger]
  exact if_neg (by simp [hbefore, Nat.not_lt.2 hlate])

/-- The ports of a pair's fibres go on with the sparings that waited for the swap (R275, R298). -/
def State.portsGoOn (s : State) (fs : List Nat) : State := fs.foldl (fun t f => (fibrePorts f).foldl (fun u p => u.portSpareNext p) t) s

theorem execSwapPauseEnd_resumes {w : Swap} {t1 : Nat} (hswap : s.swapAt lsm outs line = some w) (htrigger : w.trigger = some t1) (hpaused : w.paused = true)
    (hbefore : w.resumed = false) (hlate : t1 + 9500 ≤ s.now) :
    execSwapPauseEnd lsm outs line s = .next ((pairGroups (lsmFibres lsm outs) line).foldl State.resumeGroup
      ((s.modSwaps (lsmFibres lsm outs) line (fun v => { v with resumed := true })).portsGoOn (lsmFibres lsm outs))) := by
  simp only [execSwapPauseEnd, hswap, htrigger]
  exact if_neg (by simp [hpaused, hbefore, Nat.not_lt.2 hlate])

/-- Two states with the same laser lines and the same groups. -/
def State.sameLight (s t : State) : Prop := t.lines = s.lines ∧ t.groups = s.groups

theorem State.sameLight.trans {s t u : State} (h : s.sameLight t) (h' : t.sameLight u) : s.sameLight u := ⟨h'.1.trans h.1, h'.2.trans h.2⟩

theorem State.sameLight.grp_eq {s t : State} (h : s.sameLight t) (g : Nat) : t.grp g = s.grp g := congrArg (fun m => sget ({} : Group) m g) h.2

theorem foldl_sameLight {α : Type} {f : State → α → State} (h : ∀ (t : State) a, t.sameLight (f t a)) (l : List α) (s : State) : s.sameLight (l.foldl f s) :=
  List.foldlRecOn (motive := s.sameLight) l f ⟨rfl, rfl⟩ fun t ht a _ => ht.trans (h t a)

theorem State.sameLight_passOver (s : State) : s.sameLight s.passOver := by
  unfold State.passOver
  split <;> exact ⟨rfl, rfl⟩

theorem State.sameLight_setPort (s : State) (p : Nat) (x : Port) : s.sameLight (s.setPort p x) := ⟨rfl, rfl⟩
theorem State.sameLight_irq (s : State) (t : PageType) (i b : Nat) : s.sameLight (s.irq t i b) := ⟨rfl, rfl⟩
theorem State.sameLight_jobFault (s : State) (cls code die inst : Nat) : s.sameLight (s.jobFault cls code die inst) := ⟨rfl, rfl⟩
theorem State.sameLight_lctl (s : State) (p op lane off : Nat) : s.sameLight (s.lctl p op lane off) := ⟨rfl, rfl⟩

theorem State.sameLight_portDown (s : State) (p : Nat) (tx : Bool) : s.sameLight (s.portDown p tx) :=
  ((((s.sameLight_setPort p _).trans (State.sameLight_irq _ _ _ _)).trans (State.sameLight_irq _ _ _ _)).trans (State.sameLight_jobFault _ _ _ _ _)).trans
    (State.sameLight_passOver _)

theorem State.sameLight_portSpareNext (s : State) (p : Nat) : s.sameLight (s.portSpareNext p) := by
  have hself : s.sameLight s := ⟨rfl, rfl⟩
  have hirq (x : Port) (b : Nat) := (s.sameLight_setPort p x).trans (State.sameLight_irq _ .xport p b)
  unfold State.portSpareNext
  extract_lets x
  split
  case h_1 => exact hself
  case h_2 =>
    extract_lets onto failed unspared
    clear_value onto failed
    split
    case isTrue => exact hself
    case isFalse =>
      cases onto with
      | some o =>
        dsimp only
        split
        · exact hself
        · exact (hirq _ 2).trans (State.sameLight_lctl _ _ _ _ _)
      | none =>
        dsimp only
        split
        · exact hself
        · split
          · exact (hirq _ 6).trans (State.sameLight_portDown _ _ _)
          · exact hirq _ 6

theorem State.sameLight_portsGoOn (s : State) (fs : List Nat) : s.sameLight (s.portsGoOn fs) :=
  foldl_sameLight (fun t _ => foldl_sameLight (fun u p => u.sameLight_portSpareNext p) _ t) fs s

end Swaps

/-! ## The check of a swap (R273) -/

section Check
variable {s : State} {lsm : Fin 7} {outs : BitVec 4} {line : Fin 41} {w : Swap} {power offset : Int} (hswap : s.swapAt lsm outs line = some w) (hresumed : w.resumed = true)
include hswap hresumed

/-- A swap back has no check. -/
theorem execSwapCheck_back (hback : w.back = true) : execSwapCheck lsm outs line power offset s =
    .next (((lsmFibres lsm outs).foldl (fun t f => t.modLine f line (fun y => y.swapped true power offset)) (s.modLsm lsm (fun x => { x with swapping := none }))).bump
      (lsmReg lsm 0x068) 16 16 1) := by
  simp [execSwapCheck, hswap, hresumed, hback]

/-- A new laser within 0.50 GHz, and on every fibre no more than 3 dB below what the old one gave, stays. -/
theorem execSwapCheck_keepsNew (hback : w.back = false) (hoffset : offset.natAbs ≤ 50)
    (hpower : ∀ f ∈ lsmFibres lsm outs, ∀ b, (s.line f line).base = some b → b - 300 ≤ power) : execSwapCheck lsm outs line power offset s =
    .next ((lsmFibres lsm outs).foldl (fun t f => (t.modLine f line (fun y => y.swapped false power offset)).amend 0x0A false (f * 64 + line) 0)
      (((s.modLsm lsm (fun x => { x with swapping := none })).bump (lsmReg lsm 0x068) 0 16 1).irq .lsm lsm 2)) := by
  simp only [execSwapCheck, hswap, hresumed, hback, Nat.not_lt.2 hoffset, decide_false, Bool.not_true, Bool.not_false, Bool.true_and, Bool.or_false, Bool.false_eq_true, if_false]
  refine if_neg fun hbad => ?_
  obtain ⟨f, hf, hlow⟩ := List.any_eq_true.1 hbad
  split at hlow
  next b hb => exact absurd (hpower f hf b hb) (Int.not_le.2 (of_decide_eq_true hlow))
  next => exact Bool.noConfusion hlow

/-- A new laser more than 0.50 GHz off is swapped back. -/
theorem execSwapCheck_off (hback : w.back = false) (hoffset : 50 < offset.natAbs) : execSwapCheck lsm outs line power offset s =
    .next ((lsmFibres lsm outs).foldl (fun t f => (t.modLine f line (fun y =>
        { y with oldBase := y.base, standbyGone := true, swap := some { decided := s.now, back := true } })).amend 0x0A false (f * 64 + line) 1)
      (((s.modLsm lsm (fun x => { x with swapping := none })).bump (lsmReg lsm 0x068) 0 16 1).irq .lsm lsm 3)) := by
  simp only [execSwapCheck, hswap, hresumed, hback, hoffset, decide_true, Bool.not_true, Bool.not_false, Bool.true_and, Bool.or_true, Bool.false_eq_true, if_false, if_true]
  exact congrArg Host.Outcome.next (foldl_at_now (g := fun n t f => (t.modLine f line (fun y =>
    { y with oldBase := y.base, standbyGone := true, swap := some { decided := n, back := true } })).amend 0x0A false (f * 64 + line) 1) (fun _ t f => (t.modLine f line _).now_amend _ _ _ _) _ (by simp))

end Check

/-- Settles O38: a visit by what it measures, the fades and the decision of a swap by the case each meets, each step of a swap by its own lemma. -/
theorem laserLines : Obligations.LaserLines := by
  unfold Obligations.LaserLines
  refine ⟨?lines, ?swaps⟩
  case lines =>
    intro s ini ep lsm at7 out fibre line power offset t v f l y m becomes pair real visited went hl
    refine ⟨fun hmode hturn hstage hlow hhigh => execLineMonitorVisit_onGrid hl hmode hturn hstage (natAbs_le_iff.2 ⟨hlow, hhigh⟩),
      fun hmode hturn hoff hlast hrange => execLineMonitorVisit_steers hl hmode hturn hoff hlast hrange, execCommissioning_records hl, execFadeCrossing_warns,
      execFadeCrossing_lights, fun hmode hlow hnone hstandby => ?standby, execFadeRecovery_clears, execFadeRecovery_extinguishes,
      fun hfibre hfirst hminute hfalls hlow hnone hstandby => ?rapid, fun htakes hout hline => ?lineSel⟩
    case standby => exact (execFadeCrossing_decides hmode hlow).trans (congrArg _ (State.decideSwap_decides hnone hstandby))
    case rapid => exact (execRapidFade_decides hfibre hfirst hminute hfalls hlow).trans (congrArg _ (State.decideSwap_decides hnone hstandby))
    case lineSel =>
      exact congrArg _ ((State.lsmCmd_taken (by decide) htakes _).trans (congrArg (fun u => State.answer u ini 0) (State.setLineSel_stores hout hline)))
  case swaps =>
    intro s lsm outs line w t1 power offset k l fs each groups
    refine ⟨execSwapTrigger_triggers, fun hswap htrigger => ⟨fun hbefore hlate => ?pause, fun hpaused hbefore hlate => ?resume⟩, execSwapCheck_back,
      fun hswap hresumed hback hlow hhigh hpower => execSwapCheck_keepsNew hswap hresumed hback (natAbs_le_iff.2 ⟨hlow, hhigh⟩) hpower, execSwapCheck_off⟩
    case pause =>
      have hswaps := s.sameButLines_modSwaps fs l (fun v => { v with paused := true })
      obtain ⟨hsame, hothers⟩ := foldl_atGroup State.atGroup_pauseGroup groups (s.modSwaps fs l (fun v => { v with paused := true }))
      exact ⟨_, execSwapPauseStart_pauses hswap htrigger hbefore hlate, hsame.lines_eq, hsame.after_lines hswaps,
        fun g hg => (hothers g hg).trans (s.grp_modSwaps _ _ _ g)⟩
    case resume =>
      obtain ⟨hsame, hothers⟩ := foldl_atGroup State.atGroup_resumeGroup groups ((s.modSwaps fs l (fun v => { v with resumed := true })).portsGoOn fs)
      have hports := (s.modSwaps fs l (fun v => { v with resumed := true })).sameLight_portsGoOn fs
      exact ⟨_, execSwapPauseEnd_resumes hswap htrigger hpaused hbefore hlate, hsame.lines_eq.trans hports.1,
        fun g hg => (hothers g hg).trans ((hports.grp_eq g).trans (s.grp_modSwaps _ _ _ g))⟩

end Sys2Proof.Machine
end

section
/-!
Training and discovery of the fabric ports (R264, R290 to R293, R299 to R302): when a port trains, what it hears in XTS, what XSTART does from each state, the limits
of an attempt and of discovery, and the statement PortTraining.
-/
namespace Sys2Proof.Machine

/-! ## Attempts (R290, R292, R299) -/

section Attempts
variable {s : State} {port : Fin 6}

theorem execPortTrainStart_trains (hoff : (s.port port).tx = .off) (hopen : (s.port port).disabled = false) (hused : s.portUsed port = true) (hstage : s.stage = .imago)
    (hspine : s.spineUp = true) (hdst : s.dst = .d0 ∨ s.dst = .d1) (hlit : (s.lsm 6).mode = .lit) : execPortTrainStart port s = .next (s.portTrain port false) := by
  refine if_neg ?_
  rintro (h | h | h | h | h | h | ⟨h0, h1⟩ | h)
  · exact h hoff
  · exact Bool.noConfusion (hopen.symm.trans h)
  · simp [hused] at h
  · exact Stage.noConfusion (hstage.symm.trans h)
  · exact Stage.noConfusion (hstage.symm.trans h)
  · simp [hspine] at h
  · exact hdst.elim h0 h1
  · exact h hlit

section Timeout
variable (htx : (s.port port).tx = .training) (hlate : (s.port port).t0 + 10000000 ≤ s.now) (hmore : (s.port port).oneTry = false)
include htx hlate hmore

theorem execTrainAttemptTimeout_again (hfew : (s.port port).attempts < 2) : execTrainAttemptTimeout port s = .next (s.setPort port
    { (s.port port).rxRestart with t0 := s.now, attempts := (s.port port).attempts + 1, bothSince := none, peerRecv := false }) := by
  simp [execTrainAttemptTimeout, htx, Nat.not_lt.2 hlate, hmore, Nat.not_le.2 hfew]

theorem execTrainAttemptTimeout_out (hmany : 2 ≤ (s.port port).attempts) : execTrainAttemptTimeout port s = .next (s.portOut port 4) := by
  simp [execTrainAttemptTimeout, htx, Nat.not_lt.2 hlate, hmore, hmany]

end Timeout

theorem execXtsAtBoundary_retrains {lanes : BitVec 8} (hrx : (s.port port).rx = .service) (hmost : 6 ≤ popCount lanes.toNat 8) :
    execXtsAtBoundary port lanes s = .next (s.setPort port { (s.port port).rxRestart with rx := .retrain }) := if_pos ⟨hrx, hmost⟩

theorem execDiscoveryTimeout_stops (hnone : s.coordValid = false) (hopen : s.fld (fabReg 0x044) 18 2 = 0) (hstage : s.stage = .imago)
    (hlate : s.discStart + 1000000 * s.fld (fabReg 0x048) 0 16 ≤ s.now) :
    execDiscoveryTimeout s = .next ((List.range 6).foldl (fun t p => t.portOut p 4) ((s.setFld (fabReg 0x044) 18 2 2).irq .fab 0 1)) :=
  if_neg (by simp [hnone, hopen, hstage, Nat.not_lt.2 hlate])

end Attempts

/-! ## XTS (R264, R290, R291, R300, R301) -/

section Xts
variable {s : State} {port : Fin 6} {lane : PortLine} {slot role sender flags : Byte} {coord dims : BitVec 12} {serial : Dword} {expect : BitVec 12} {i : Nat}

theorem execXtsReceive_invalid (h : ∀ i, i < 8 → lane.sets ≠ sixteenXts slot.toNat role.toNat sender.toNat flags.toNat coord.toNat dims.toNat serial.toNat expect.toNat i) :
    execXtsReceive port lane slot role sender flags coord dims serial expect s = .next s := by
  refine if_pos (.inr (.inr (.inr (.inr ?_))))
  rw [Bool.not_eq_true', List.any_eq_false]
  exact fun i hi => by simpa using h i (List.mem_range.1 hi)

section Heard
variable (hrx : (s.port port).rx = .training) (hgrid : lane.light.natAbs ≤ 100) (hi : i < 8)
  (hvalid : lane.sets = sixteenXts slot.toNat role.toNat sender.toNat flags.toNat coord.toNat dims.toNat serial.toNat expect.toNat i)
include hrx hgrid hi hvalid

/-- A port in training hears valid XTS on a line of its grid. -/
theorem Port.hears_training : ¬ ((s.port port).rx = .off ∨ (s.port port).rx = .down ∨ (s.port port).rx = .out ∨ 100 < lane.light.natAbs ∨ (!(List.range 8).any (fun i =>
    decide (lane.sets = sixteenXts slot.toNat role.toNat sender.toNat flags.toNat coord.toNat dims.toNat serial.toNat expect.toNat i))) = true) := by
  have hany : (List.range 8).any (fun i =>
      decide (lane.sets = sixteenXts slot.toNat role.toNat sender.toNat flags.toNat coord.toNat dims.toNat serial.toNat expect.toNat i)) = true :=
    List.any_eq_true.2 ⟨i, List.mem_range.2 hi, decide_eq_true hvalid⟩
  rw [hany]
  simp [hrx, Nat.not_lt.2 hgrid]

theorem execXtsReceive_wrongLock (hslot : slot.toNat ≠ lane.off.val) : execXtsReceive port lane slot role sender flags coord dims serial expect s =
    .next (((s.setPort port ((s.port port).modRx lane.off (fun l => { l with state := .locking, confirmed := false }))).portLog port lane.off 1 3).irq .xport port 3) :=
  (if_neg (Port.hears_training hrx hgrid hi hvalid)).trans (if_pos hslot)

/-- What a port takes from a neighbour's XTS: who the neighbour is, and coordinates where it has none (R290, R300). -/
def State.xtsTaken (s : State) (p : Nat) (sender flags : Byte) (coord : BitVec 12) (serial : Dword) : State :=
  let told := (s.wr (xportReg p 0x048) (BitVec.ofNat 32 (coord.toNat + sender.toNat % 8 * 2 ^ 12 + b2n (bitOf flags.toNat 0) * 2 ^ 15))).wr64 (xportReg p 0x04C) serial
  if sender.toNat = (p ^^^ 1) ∧ bitOf flags.toNat 0 then told.takeCoord p coord.toNat else told

theorem execXtsReceive_faults (hslot : slot.toNat = lane.off.val)
    (hfault : (s.xtsTaken port sender flags coord serial).discFault port sender.toNat flags.toNat coord.toNat dims.toNat ≠ 0) :
    execXtsReceive port lane slot role sender flags coord dims serial expect s = .next ((s.xtsTaken port sender flags coord serial).portOut port
      ((s.xtsTaken port sender flags coord serial).discFault port sender.toNat flags.toNat coord.toNat dims.toNat)) :=
  (if_neg (Port.hears_training hrx hgrid hi hvalid)).trans ((if_neg (not_not_intro hslot)).trans (if_pos hfault))

theorem execXtsReceive_accepts (hslot : slot.toNat = lane.off.val)
    (hgood : (s.xtsTaken port sender flags coord serial).discFault port sender.toNat flags.toNat coord.toNat dims.toNat = 0) :
    execXtsReceive port lane slot role sender flags coord dims serial expect s = .next ((s.xtsTaken port sender flags coord serial).setPort port
      { (s.port port).accept lane.off role with
        peerRecv := bitOf flags.toNat 2, peerSeq := expect.toNat
        bothSince := if bitOf flags.toNat 2 ∧ bitOf flags.toNat 3 then some ((s.port port).bothSince.getD s.now) else none }) := by
  refine (if_neg (Port.hears_training hrx hgrid hi hvalid)).trans ((if_neg (not_not_intro hslot)).trans ((if_neg (not_not_intro hgood)).trans ?_))
  have hasleep : ¬ (s.port port).rx = .asleep := fun h => PortMode.noConfusion (hrx.symm.trans h)
  have hwaking : ¬ (s.port port).rx = .waking := fun h => PortMode.noConfusion (hrx.symm.trans h)
  simp only [if_neg hasleep, if_neg (not_or_intro hasleep hwaking)]
  rfl

end Heard
end Xts

/-! ## XSTART (R290, R292 to R294) -/

section Xstart
variable {s : State} {port : Fin 6}

theorem Port.peerReady_of {x : Port} {now : Nat} (h : ∃ t, x.bothSince = some t ∧ t + 1000 ≤ now) : x.peerReady now = true := by
  obtain ⟨t, hboth, hlong⟩ := h
  simp [Port.peerReady, hboth, hlong]

/-- A port direction that goes from training into service. -/
def Port.started (x : Port) (now : Nat) : Port :=
  { x with tx := .service, rx := .service, attempts := 0, retrains := 0, txNext := x.peerSeq, replay := [], resend := none, timeouts := 0, lastCell := now
           credits := #v[48, 48, 48, 48, 16], txLanes := Vector.ofFn (fun o : Fin 10 => if x.txMap.toList.contains o then .active else .standby) }

theorem execXstart_training (htx : (s.port port).tx = .training) (hreceiving : (s.port port).receiving = true) (hready : (s.port port).peerReady s.now = true)
    (hcoord : s.coordValid = true) (hpeer : s.fld (xportReg port 0x048) 15 1 = 1) :
    execXstart port s = .next ((((s.setPort port ((s.port port).started s.now)).irq .xport port 0).sendOnMap port setXstart).discCheck) := by
  simp only [execXstart, htx]
  exact if_pos ⟨hreceiving, hready, hcoord, hpeer⟩

/-- A port direction that goes from RETRAIN into service, and sends again what the peer still expects. -/
def Port.resumed (x : Port) (now : Nat) : Port :=
  { x with tx := .service, retrains := 0, timeouts := 0, advanced := now, resend := (if x.replay.any (fun e => decide (e.1 = x.peerSeq)) then some x.peerSeq else none)
           resendStart := x.peerSeq, rx := (if x.rx = .retrain ∧ x.receiving then .service else x.rx) }

theorem execXstart_retrain (htx : (s.port port).tx = .retrain) (hready : (s.port port).peerReady s.now = true) :
    execXstart port s = .next ((s.setPort port ((s.port port).resumed s.now)).sendOnMap port setXstart) := by
  simp only [execXstart, htx]
  exact if_pos hready

theorem execXstart_waking (htx : (s.port port).tx = .waking) (hlong : (s.port port).since + 200 ≤ s.now) :
    execXstart port s = .next ((s.setPort port { s.port port with tx := .service, lastCell := s.now }).sendOnMap port setXstart) := by
  simp only [execXstart, htx]
  exact if_pos hlong

end Xstart

/-- Settles O41: each event of a port by its own lemma, XTS and XSTART by what they find. -/
theorem portTraining : Obligations.PortTraining := by
  unfold Obligations.PortTraining
  intro s port off light slot role sender flags coord dims serial expect lanes sets i p x hears valid ready start told u both held again
  exact ⟨execPortTrainStart_trains, fun hnone => execXtsReceive_invalid hnone, fun hrx hgrid hi hvalid hslot => execXtsReceive_wrongLock hrx hgrid hi hvalid hslot,
    fun hrx hgrid hi hvalid hslot => ⟨execXtsReceive_accepts hrx hgrid hi hvalid hslot, execXtsReceive_faults hrx hgrid hi hvalid hslot⟩,
    fun htx hreceiving hready => execXstart_training htx hreceiving (Port.peerReady_of hready), fun htx hready => execXstart_retrain htx (Port.peerReady_of hready),
    execXstart_waking, fun htx hlate hmore => ⟨execTrainAttemptTimeout_again htx hlate hmore, execTrainAttemptTimeout_out htx hlate hmore⟩,
    execXtsAtBoundary_retrains, execDiscoveryTimeout_stops⟩

end Sys2Proof.Machine
end

section
/-!
Power-up, reset by pin, the TAP, a standby laser that is ready and the health report (R271, R423, R528, R530, R557, R564, R566), and the statement PinsAndReports.
-/
namespace Sys2Proof.Machine

/-! ## Power-up and reset (R423, R564, R566) -/

section Power
variable {s : State}

/-- The always-on domain started: the timebase begins at 0, and a trip that is still on record shows. -/
def State.alwaysOn (s : State) : State :=
  let started : State := { s with dst := .d0, timebase := 0, reportOut := {}, power := { s.power with rising := false, spans := [] } }
  if started.trip.isSome then started.irq .therm 0 6 else started

theorem State.alwaysOn_eq (s : State) :
    ∃ r, s.alwaysOn = { s with dst := .d0, timebase := 0, reportOut := {}, power := { s.power with rising := false, spans := [] }, regs := r } := by
  dsimp only [State.alwaysOn]
  split
  · exact ⟨_, State.sameButRegs_irq _ _ _ _⟩
  · exact ⟨s.regs, rfl⟩

section Start
variable (hdst : s.dst = .d3) (hrising : s.power.rising = true)
include hdst hrising

theorem execAlwaysOnStart_next : execAlwaysOnStart s = .next (if s.alwaysOn.rstLow then s.alwaysOn else s.alwaysOn.ovumStart) :=
  if_neg (by simp [hdst, hrising])

/-- With RESET_N high the device starts from Ovum. -/
theorem execAlwaysOnStart_ovum (hhigh : s.rstLow = false) : execAlwaysOnStart s = .next s.alwaysOn.ovumStart := by
  obtain ⟨r, heq⟩ := s.alwaysOn_eq
  rw [execAlwaysOnStart_next hdst hrising, if_neg]
  rw [heq]
  simp [hhigh]

/-- With RESET_N low the device waits. -/
theorem execAlwaysOnStart_held (hlow : s.rstLow = true) : execAlwaysOnStart s = .next s.alwaysOn := by
  obtain ⟨r, heq⟩ := s.alwaysOn_eq
  rw [execAlwaysOnStart_next hdst hrising, if_pos]
  rw [heq]
  exact hlow

end Start

/-- The machine with RESET_N low: every domain off, the always-on domain reset, the count of boots kept. -/
def State.resetLow (s : State) : State := { ((s.surgeEnd 7).bare.setFld bootReg 16 16 (s.fld bootReg 16 16)) with rstLow := true }

theorem execResetAssert_resets (h : s.dst ≠ .d3) : execResetAssert s = .next s.resetLow := if_neg h

theorem State.resetLow_leaves (s : State) : s.resetLow.rstLow = true ∧ s.resetLow.timebase = s.timebase ∧ s.resetLow.trip = s.trip ∧ s.resetLow.spineUp = false ∧
    s.resetLow.cores = [] ∧ s.resetLow.mainMem = {} ∧ s.resetLow.rowStore = {} ∧ s.resetLow.mgmt = State.reset.mgmt ∧ s.resetLow.vault.folio = s.vault.folio := by
  rw [State.resetLow, State.surgeEnd_eq]
  exact ⟨rfl, rfl, rfl, rfl, rfl, rfl, rfl, rfl, rfl⟩

end Power

/-! ## A standby that is ready (R271) -/

/-- A line whose standby is ready: a swap that waits for it is decided now. -/
def LaserLine.standbyNow (y : LaserLine) (now : Nat) : LaserLine :=
  { y with ready := true, swap := y.swap.map (fun w => if w.trigger.isNone then { w with decided := now } else w) }

theorem LaserLine.standbyNow_ne_reset (y : LaserLine) (now : Nat) : y.standbyNow now ≠ {} := fun h => Bool.noConfusion (congrArg LaserLine.ready h)

/-- The standby of a line on one fibre is ready, where it is lit and was not. -/
def State.standbyReady (s : State) (l f : Nat) : State :=
  if fibreLines f ≤ l ∨ !(s.line f l).standbyLit ∨ (s.line f l).ready then s else s.modLine f l (fun y => y.standbyNow s.now)

theorem execLsmStandbyReady_next {s : State} (lsm : Fin 7) (outs : BitVec 4) (line : Fin 41) :
    execLsmStandbyReady lsm outs line s = .next ((lsmFibres lsm outs).foldl (fun t f => t.standbyReady line f) s) := rfl

theorem State.sameButLines_standbyReady (s : State) (l f : Nat) : s.sameButLines (s.standbyReady l f) := by
  unfold State.standbyReady
  split
  · rfl
  · exact s.sameButLines_modLine f l _

/-- What a standby that becomes ready leaves of any fibre's line: all, but on its own fibre whether it is ready and its swap. -/
theorem State.line_standbyReady (s : State) (l f k : Nat) :
    (s.standbyReady l f).line k l = s.line k l ∨ (k = f ∧ (s.standbyReady l f).line k l = (s.line k l).standbyNow s.now) := by
  unfold State.standbyReady
  split
  · exact .inl rfl
  · by_cases hk : k = f
    · subst hk
      exact .inr ⟨rfl, s.line_modLine_same (LaserLine.standbyNow_ne_reset _ _)⟩
    · exact .inl (s.line_modLine_ne _ (by omega))

/-- A lit standby, in a line's mode. -/
def State.standbyIn (s : State) (f l : Nat) (m : LineMode) : Prop := (s.line f l).standbyLit = true ∧ (s.line f l).mode = m

theorem State.standbyIn_standbyReady {s : State} {f l : Nat} {m : LineMode} (h : s.standbyIn f l m) (k : Nat) : (s.standbyReady l k).standbyIn f l m := by
  unfold State.standbyIn
  rcases s.line_standbyReady l k f with heq | ⟨_, heq⟩ <;> rw [heq] <;> exact h

theorem State.ready_standbyReady {s : State} {f l : Nat} (h : (s.line f l).ready = true) (k : Nat) : ((s.standbyReady l k).line f l).ready = true := by
  rcases s.line_standbyReady l k f with heq | ⟨_, heq⟩ <;> rw [heq]
  · exact h
  · rfl

theorem State.standbyReady_ready {s : State} {f l : Nat} {m : LineMode} (hl : l < fibreLines f) (h : s.standbyIn f l m) : ((s.standbyReady l f).line f l).ready = true := by
  cases hready : (s.line f l).ready with
  | true => exact State.ready_standbyReady hready f
  | false =>
    have hchanges : s.standbyReady l f = s.modLine f l (fun y => y.standbyNow s.now) := if_neg (by simp [Nat.not_le.2 hl, h.1, hready])
    rw [hchanges, s.line_modLine_same (LaserLine.standbyNow_ne_reset _ _)]
    rfl

/-! ## The health report (R528, R530) -/

/-- Two states with the same report figures, job and main memory. -/
def State.sameReport (s t : State) : Prop := t.reportOut = s.reportOut ∧ t.job = s.job ∧ t.mainMem = s.mainMem

theorem State.sameReport_self (s : State) : s.sameReport s := ⟨rfl, rfl, rfl⟩

theorem State.sameReport.trans {s t u : State} (h : s.sameReport t) (h' : t.sameReport u) : s.sameReport u :=
  ⟨h'.1.trans h.1, h'.2.1.trans h.2.1, h'.2.2.trans h.2.2⟩

theorem State.sameButRegs.sameReport {s t : State} (h : s.sameButRegs t) : s.sameReport t := by
  rw [h]
  exact s.sameReport_self

theorem foldl_sameReport {α : Type} {f : State → α → State} (h : ∀ (t : State) a, t.sameReport (f t a)) (l : List α) (s : State) : s.sameReport (l.foldl f s) :=
  List.foldlRecOn (motive := s.sameReport) l f s.sameReport_self fun t ht a _ => ht.trans (h t a)

theorem foldl_sameReport_snd {α β : Type} {f : β × State → α → β × State} (h : ∀ (x : β × State) a, x.2.sameReport (f x a).2) (l : List α) (x : β × State) :
    x.2.sameReport (l.foldl f x).2 :=
  List.foldlRecOn (motive := fun y => x.2.sameReport y.2) l f x.2.sameReport_self fun y hy a _ => State.sameReport.trans hy (h y a)

section Report
variable (s : State)

theorem State.sameReport_markCore (n p : Nat) : s.sameReport (s.markCore n p) := by
  unfold State.markCore
  dsimp only
  split
  · exact s.sameReport_self
  · exact ⟨rfl, rfl, rfl⟩

theorem State.sameReport_eccMarks : s.sameReport s.eccMarks :=
  foldl_sameReport (fun t n => foldl_sameReport (fun u p => u.sameReport_markCore n p) _ t) _ s

theorem State.sameButRegs_rcClear (t : PageType) (i off : Nat) : s.sameButRegs (s.rcClear t i off) := by
  unfold State.rcClear
  dsimp only
  split
  · rfl
  · refine State.sameButRegs.trans (t := if s.rdn (keptAddr t i off) &&& rcBits t off = 0 then s
      else s.wr (keptAddr t i off) (BitVec.ofNat 32 (s.rdn (keptAddr t i off) &&& (all32 ^^^ rcBits t off)))) ?_ (foldl_sameButRegs (fun u l => ?_) _ _)
    · split <;> rfl
    · split <;> rfl

theorem State.sameReport_objNext : s.sameReport s.objNext.2 := by
  unfold State.objNext
  split
  · exact s.sameReport_self
  · split <;> exact ⟨rfl, rfl, rfl⟩

theorem State.sameReport_lookPair (t : PageType) (i off : Nat) : s.sameReport (s.lookPair t i off).2 := by
  cases hu : unmeasured t off with
  | false => rw [State.lookPair_measured hu]; exact s.sameReport_self
  | true => rw [State.lookPair_unmeasured hu]; exact ⟨rfl, rfl, rfl⟩

/-- A read of a register leaves the report figures, the job and main memory alone. -/
theorem State.sameReport_readReg (ini : Initiator) (t : PageType) (i off : Nat) : s.sameReport (s.readReg ini t i off).2 := by
  have hpair := s.sameReport_lookPair t i off
  unfold State.readReg
  dsimp only
  split
  · exact s.sameReport_self
  · split
    · exact s.sameReport_objNext
    · split
      · exact hpair
      · split
        · split
          · exact ⟨rfl, rfl, rfl⟩
          · exact hpair
        · split
          · exact hpair
          · exact (s.sameButRegs_rcClear t i off).sameReport

theorem State.sameReport_readAll (t : PageType) (off : Nat) : s.sameReport (s.readAll t off).2 := by
  unfold State.readAll
  refine foldl_sameReport_snd (fun y i => ?_) _ (([] : List Nat), s)
  exact y.2.sameReport_readReg _ t i off

theorem State.sameReport_readTotals : s.sameReport s.readTotals.2 := by
  unfold State.readTotals
  refine foldl_sameReport_snd (fun y r => ?_) _ (([] : List ((PageType × Nat) × List Nat)), s)
  exact y.2.sameReport_readAll r.1 r.2

/-- A report formed on some readings of the second: it has the next number, and the figures of its second start anew. -/
theorem State.formHealth_of_readTotals {x : List ((PageType × Nat) × List Nat) × State} (h : s.eccMarks.readTotals = x) :
    s.formHealth.reportOut.num = x.2.reportOut.num + 1 ∧ s.formHealth.reportOut.records = x.2.reportOut.records ∧ s.formHealth.reportOut.inputPeak = 0 ∧
    s.formHealth.reportOut.figs = [] ∧ s.formHealth.reportOut.busy = 0 ∧ s.formHealth.job = x.2.job ∧ s.formHealth.mainMem = x.2.mainMem := by
  rw [State.formHealth, h]
  exact ⟨rfl, rfl, rfl, rfl, rfl, rfl, rfl⟩

theorem State.formHealth_forms : s.formHealth.reportOut.num = s.reportOut.num + 1 ∧ s.formHealth.reportOut.records = s.reportOut.records ∧
    s.formHealth.reportOut.inputPeak = 0 ∧ s.formHealth.reportOut.figs = [] ∧ s.formHealth.reportOut.busy = 0 ∧ s.formHealth.job = s.job ∧
    s.formHealth.mainMem = s.mainMem := by
  obtain ⟨hreport, hjob, hmem⟩ : s.sameReport s.eccMarks.readTotals.2 := s.sameReport_eccMarks.trans s.eccMarks.sameReport_readTotals
  rw [← hreport, ← hjob, ← hmem]
  exact s.formHealth_of_readTotals rfl

end Report

theorem execHealthReportForm_forms {s : State} (hactive : s.tally.active.isSome = true) (hovum : s.stage ≠ .ovum) (hrecovery : s.stage ≠ .recovery) (hdst : s.dst ≠ .d3) :
    execHealthReportForm s = .next s.formHealth := by
  refine if_neg ?_
  rintro (h | h | h | h)
  · simp [Option.isNone_iff_eq_none.1 h] at hactive
  · exact hovum h
  · exact hrecovery h
  · exact hdst h

/-- Settles O60: power-up by `State.alwaysOn`, reset by `State.resetLow_leaves`, the TAP by its definition, a standby by what each fibre's step keeps, the report by
`State.formHealth_forms`. -/
theorem pinsAndReports : Obligations.PinsAndReports := by
  unfold Obligations.PinsAndReports
  intro s pins load lsm outs line f tapped y
  obtain ⟨r, hon⟩ := s.alwaysOn_eq
  refine ⟨fun hdst => if_pos hdst, fun hdst hrising hhigh => ⟨_, execAlwaysOnStart_ovum hdst hrising hhigh, rfl, rfl, ?ovum⟩,
    fun hdst hrising hlow => ⟨_, execAlwaysOnStart_held hdst hrising hlow, ?held⟩, fun hdst => ⟨_, execResetAssert_resets hdst, s.resetLow_leaves⟩, fun hdst => if_pos hdst,
    rfl, rfl, rfl, rfl, fun hlow => if_pos hlow, fun hhigh => if_neg (Bool.eq_false_iff.1 hhigh), fun hf hl hlit hready => ?standby,
    fun hactive hovum hrecovery hdst => ⟨_, execHealthReportForm_forms hactive hovum hrecovery hdst, s.formHealth_forms⟩⟩
  case ovum =>
    rw [hon]
    exact ⟨rfl, rfl⟩
  case held =>
    rw [hon]
    exact ⟨rfl, rfl, rfl, hlow⟩
  case standby =>
    have hin : s.standbyIn f line y.mode := ⟨hlit, rfl⟩
    refine ⟨_, execLsmStandbyReady_next lsm outs line, ?ready, ?mode, foldl_sameButLines (fun t k => t.sameButLines_standbyReady line k) _ s⟩
    case ready =>
      exact foldl_reaches (I := fun t => t.standbyIn f line y.mode) (P := fun t => (t.line f line).ready = true) (fun t k ht => State.standbyIn_standbyReady ht k)
        (fun t k _ ht => State.ready_standbyReady ht k) (fun t ht => State.standbyReady_ready hl ht) hf hin
    case mode => exact (List.foldlRecOn (motive := fun t : State => t.standbyIn f line y.mode) _ _ hin fun t ht k _ => State.standbyIn_standbyReady ht k).2

end Sys2Proof.Machine
end

section
/-!
A fabric port after an update, what its receiver does with each codeword (R282 to R288), and the statement Codewords.
-/
namespace Sys2Proof.Machine

/-! ## A port after an update -/

section Ports
variable {s : State} {port : Fin 6}

theorem State.emit_of_sameButRegs {s t : State} (h : s.sameButRegs t) (m : Msg) : t.emit m = { s with regs := (t.emit m).regs, out := s.out ++ [m] } := by
  rw [h]
  rfl

@[simp] theorem State.port_setPort (x : Port) : (s.setPort port x).port port = x := by simp [State.port, State.setPort]
@[simp] theorem State.port_setPort_ne {p q : Nat} (x : Port) (h : q ≠ p) : (s.setPort p x).port q = s.port q := by
  simp [State.port, State.setPort, List.getD, h.symm]
@[simp] theorem State.setPort_setPort (p : Nat) (x y : Port) : (s.setPort p x).setPort p y = s.setPort p y := by
  simp [State.setPort]
@[simp] theorem State.now_setPort (p : Nat) (x : Port) : (s.setPort p x).now = s.now := rfl
end Ports

/-! ## Codewords (R282 to R288) -/

section Codewords
variable {s : State} {port : Fin 6} {off : Fin 10} {chars : List Byte} {bad disp : BitVec 136}

/-- A receiver that takes codewords. -/
def Port.takesWords (x : Port) : Prop := x.rx = .service ∨ x.rx = .waking ∨ (x.rx = .retrain ∧ x.receiving = true)

/-- The code violations of a codeword. -/
def wordViols (bad disp : BitVec 136) : Nat := ((List.range 136).filter (fun i => bitOf bad.toNat i || bitOf disp.toNat i)).length

@[simp] theorem wordViols_zero : wordViols 0 0 = 0 := by simp [wordViols, bitOf]
theorem rsErased_zero : rsErased (0 : BitVec 136).toNat (0 : BitVec 136).toNat = [] := by simp [rsErased, bitOf]

/-- A received word whose syndromes are all zero is its own correction. -/
theorem rsDecode_clean {w : List Nat} (h : ∀ j, j < 8 → rsSyndrome w j = 0) : rsDecode w [] = some (w, 0) := by
  have hall : (rsSyndromes w).all (· = 0) = true := by simpa [rsSyndromes] using h
  simp [rsDecode, hall]

section Takes
variable (hlen : chars.length = 136) (htakes : (s.port port).takesWords)
include hlen htakes

theorem Port.not_refusesWords : ¬ (chars.length ≠ 136 ∨
    (!decide ((s.port port).rx = .service ∨ (s.port port).rx = .waking ∨ ((s.port port).rx = .retrain ∧ (s.port port).receiving = true))) = true) := by
  rintro (hne | hno)
  · exact hne hlen
  · exact (of_decide_eq_false ((Bool.not_eq_true' _).mp hno)) htakes

/-- A codeword that cannot be corrected is counted and loses its bytes (R285, R287). -/
theorem execCodewordDecode_fails (hfails : rsDecode (chars.map BitVec.toNat) (rsErased bad.toNat disp.toNat) = none) :
    execCodewordDecode port off chars bad disp s = .next (((s.setPort port ((({ s.port port with rx := .service } : Port).modRx off
      (fun l => { l with bad := l.bad + 1, good := 0, viol := min 65535 (l.viol + wordViols bad disp) })).takeWord off (List.replicate 128 none))).bump
        (xportReg port 0x064) 16 16 1).emit (.released port off [])) := by
  simp only [execCodewordDecode, if_neg (Port.not_refusesWords hlen htakes), hfails]
  rfl

/-- A codeword that decodes releases its message bytes; the counts of corrections are registers (R284, R285, R287). -/
theorem execCodewordDecode_releases {w : List Nat} {v : Nat} (hdec : rsDecode (chars.map BitVec.toNat) (rsErased bad.toNat disp.toNat) = some (w, v)) :
    ∃ t, execCodewordDecode port off chars bad disp s = .next t ∧ t = { s.setPort port ((({ s.port port with rx := .service } : Port).modRx off
      (fun l => { l with bad := 0, good := l.good + 1, viol := min 65535 (l.viol + wordViols bad disp) })).takeWord off
        ((w.take 128).map (fun b => some (BitVec.ofNat 8 b)))) with regs := t.regs, out := s.out ++ [.released port off ((w.take 128).map (BitVec.ofNat 8))] } := by
  simp only [execCodewordDecode, if_neg (Port.not_refusesWords hlen htakes), hdec]
  exact ⟨_, rfl, State.emit_of_sameButRegs ((((State.sameButRegs_bump _ _ _ _ _).trans (State.sameButRegs_bump _ _ _ _ _)).trans (State.sameButRegs_bump _ _ _ _ _))) _⟩

end Takes

/-- The message bytes of a word that stands as it was received. -/
theorem map_ofNat_take_toNat (n : Nat) (chars : List Byte) : ((chars.map BitVec.toNat).take n).map (BitVec.ofNat 8) = chars.take n := by
  simp [← List.map_take, Function.comp_def]

theorem execAlignmentLoss_asks (hrx : (s.port port).rx = .service) (hmany : 128 ≤ ((s.port port).rxLane off).bad) (hmap : off ∈ (s.port port).rxMap.toList) :
    execAlignmentLoss port off s = .next ((((s.setPort port { (s.port port).rxRestart with rx := .retrain }).portLog port off 1 5).irq .xport port 4).lctl port 6 0 0) :=
  if_neg (by simp [hrx, hmany, hmap])

end Codewords

/-- Settles O40: a clean word decodes to itself (`rsDecode_clean`), and each outcome of the decoder has its own lemma. -/
theorem codewords : Obligations.Codewords := by
  unfold Obligations.Codewords
  intro s port off chars bad disp p x served viol taken clean failing asked
  refine ⟨fun hlen htaken hzero => ?_, execCodewordDecode_fails, execAlignmentLoss_asks⟩
  have hdec : rsDecode (chars.map BitVec.toNat) (rsErased (0 : BitVec 136).toNat (0 : BitVec 136).toNat) = some (chars.map BitVec.toNat, 0) := by
    rw [rsErased_zero, rsDecode_clean hzero]
  have hbytes := map_ofNat_take_toNat 128 chars
  have hsome : ((chars.map BitVec.toNat).take 128).map (fun b => some (BitVec.ofNat 8 b)) = (chars.take 128).map some := by
    rw [← hbytes, List.map_map]
    rfl
  have hreleases := execCodewordDecode_releases (off := off) hlen htaken hdec
  rwa [hbytes, hsome, wordViols_zero] at hreleases

end Sys2Proof.Machine
end

section
/-!
The states of a port direction, the actions of XPORT.CMD, the steps of a sparing and the rank map (R293 to R297, R306, R326, R327), and the statement PortStates.
-/
namespace Sys2Proof.Machine

/-! ## Sleep, wake, retrain and pause (R293, R294, R297) -/

section States
variable {s : State} {port : Fin 6}

theorem execPortSleep_sleeps (htx : (s.port port).tx = .service) (hdst : s.dst = .d1) (hreplay : (s.port port).replay = []) (howed : ∀ v ∈ (s.port port).owed.toList, v = 0) :
    execPortSleep port s = .next ((((s.portSend port (colsOf setSleep)).portFill port).modPort port (fun y => { y with tx := .asleep })).passOver) :=
  if_pos ⟨htx, by simp [hdst], by simp [hreplay], List.all_eq_true.2 fun v hv => decide_eq_true (howed v hv)⟩

theorem execSleep_sleeps {its : List RxItem} (hrx : (s.port port).rx = .service) (hitems : (s.port port).rxItems = .sleep :: its) :
    execSleep port s = .next (s.setPort port { s.port port with rx := .asleep, rxItems := its }) := by
  simp only [execSleep, hitems, if_pos hrx]

theorem execPortWake_wakes (htx : (s.port port).tx = .asleep) (hdst : s.dst = .d0 ∨ s.dst = .d1)
    (hwork : (s.port port).unacked ≠ 0 ∨ (s.port port).nakDue = true ∨ (s.port port).inject ≠ []) : execPortWake port s =
    .next (((s.setPort port { s.port port with tx := .waking, since := s.now }).sendOnMap port (List.replicate 16 setWake).flatten).sendXts port) := by
  refine if_pos ⟨htx, hdst, ?_⟩
  rcases hwork with hunacked | hnak | hinject
  · exact .inr (.inl hunacked)
  · exact .inr (.inr (.inr hnak))
  · exact .inl (by simp [State.portHasCell, hinject])

/-- A direction that has entered RETRAIN (R293). -/
def State.retraining (s : State) (p : Nat) : State :=
  (((s.setPort p { s.port p with tx := .retrain, since := s.now, peerRecv := false, bothSince := none }).bump (xportReg p 0x07C) 0 16 1).irq .xport p 4).sendXts p

theorem State.enterRetrain_service {p : Nat} (htx : (s.port p).tx = .service) : s.enterRetrain p = s.retraining p := if_pos htx

section RetrainTimeout
variable (htx : (s.port port).tx = .retrain) (hlate : (s.port port).since + 1000000 ≤ s.now)
include htx hlate

theorem execRetrainTimeout_again (hfew : (s.port port).retrains < 2) : execRetrainTimeout port s = .next (((s.setPort port
    { s.port port with retrains := (s.port port).retrains + 1, since := s.now, bothSince := none, peerRecv := false }).bump (xportReg port 0x07C) 0 16 1).sendXts port) := by
  simp [execRetrainTimeout, htx, Nat.not_lt.2 hlate, Nat.not_le.2 hfew]

theorem execRetrainTimeout_down (hmany : 2 ≤ (s.port port).retrains) : execRetrainTimeout port s = .next (s.portDown port true) := by
  simp [execRetrainTimeout, htx, Nat.not_lt.2 hlate, hmany]

end RetrainTimeout

section Pause
variable (htx : (s.port port).tx = .service) (hnone : .standby ∉ (s.port port).txLanes.toList)
include htx hnone

theorem execPauseReq_pauses : execPauseReq port s = .next ((s.setPort port { s.port port with tx := .paused, since := s.now, peerRecv := false }).sendXts port) :=
  congrArg _ (if_pos ⟨htx, by simpa using hnone⟩)

theorem execPausedEntry_pauses (hidle : s.idleInterval = true) (hpass : s.calPass.running = true) : execPausedEntry port s =
    .next ((s.setPort port { s.port port with tx := .paused, since := s.now, peerRecv := false }).sendXts port) :=
  (if_pos ⟨hidle, hpass⟩).trans (execPauseReq_pauses htx hnone)

end Pause

theorem execPausedEnd_serves (htx : (s.port port).tx = .paused) (hend : (s.port port).peerRecv = true ∨ (s.port port).since + 199000 ≤ s.now) : execPausedEnd port s =
    .next ((((s.setPort port { s.port port with tx := .service, calDue := [] }).sendOnMap port setXstart).portSpareNext port).portCalDone port) := if_pos ⟨htx, hend⟩

end States

/-! ## The actions of XPORT.CMD (R295, R326) -/

section Commands
variable {s : State} {port : Fin 6}

theorem State.xportCmd_taken {ini : Initiator} {ep : Byte} {f : State → State} {t : State} (htakes : s.takes ini ep .xport port 0x05C) (hdoes : f s = t) :
    s.busDo ini ep .xport port 0x05C f = t.answer ini 0 := by
  rw [State.busDo_taken f port.isLt (by decide) htakes.1 htakes.2, hdoes]

theorem State.portRetrainDo_retrains (htx : (s.port port).tx = .service) : s.portRetrainDo port = s.retraining port := by
  simp [State.portRetrainDo, htx, State.enterRetrain_service htx]

/-- The next sparing due begins on the STANDBY slot that it names (R295, R298). -/
theorem State.portSpareNext_named {x : Port} {lane : Fin 8} {off : Fin 10} {rest : List (Fin 8 × Option (Fin 10))} (hx : s.port port = x)
    (hwant : x.spareWant = (lane, some off) :: rest) (htx : x.tx = .service) (hnone : x.spare = none) (hswap : s.portSwap port false = false)
    (hstandby : x.txLane off = .standby) (hcal : off ∉ x.inPlace) :
    s.portSpareNext port = ((s.setPort port { x.setTx off .shadow with spareWant := rest, spare := some ⟨lane, x.txMap.get lane, off, s.now⟩ }).irq .xport port 2).lctl port 2 lane off := by
  simp [State.portSpareNext, hx, hwant, htx, hnone, hswap, hstandby, hcal]

theorem State.portSpareDo_spares {lane : Fin 8} {off : Fin 10} (htx : (s.port port).tx = .service) (hnone : (s.port port).spare = none) (hswap : s.portSwap port false = false)
    (hstandby : (s.port port).txLane off = .standby) (hcal : off ∉ (s.port port).inPlace) : s.portSpareDo port lane off =
    ((s.setPort port { (s.port port).setTx off .shadow with spare := some ⟨lane, (s.port port).txMap.get lane, off, s.now⟩ }).irq .xport port 2).lctl port 2 lane off := by
  have hmay : ¬ ((s.port port).tx = .out ∨ (s.port port).spare.isSome = true ∨ (s.port port).txLane off ≠ .standby) := by simp [htx, hnone, hstandby]
  have hoff : Fin.ofNat 10 off.val = off := Fin.ofNat_val_eq_self off
  have hnamed := State.portSpareNext_named (s := s.setPort port { s.port port with spareWant := (lane, some off) :: (s.port port).spareWant }) (State.port_setPort _) rfl htx hnone
    hswap hstandby hcal
  simp only [State.portSpareDo, if_neg hmay, hoff, hnamed, State.setPort_setPort]
  rfl

theorem State.portDisableDo_disables (hin : (s.port port).tx ≠ .out) : s.portDisableDo port =
    (s.setPort port { s.port port with tx := .off, rx := .off, disabled := true, replay := [], resend := none, txMsg := [] }).passOver := if_neg hin

theorem State.portEnableDo_trains (hin : (s.port port).tx ≠ .out) (hdisabled : (s.port port).disabled = true) : s.portEnableDo port = s.portTrain port false :=
  (if_neg hin).trans (if_pos hdisabled)

theorem State.portEnableDo_out (hout : (s.port port).tx = .out) : s.portEnableDo port = s.errCount .xport port 2 := if_pos hout

end Commands

/-! ## The steps of a sparing (R293, R295, R296) -/

section Sparing
variable {s : State} {port : Fin 6} {lane : Fin 8} {off : Fin 10} {k : PortSpare}

section Request
variable (hnone : (s.port port).spare = none)
include hnone

theorem execSpareReq_next : execSpareReq port lane s = .next (s.portHard port lane) := if_neg (by simp [Port.sparing, hnone])

theorem execSpareReq_down (hserves : (s.port port).tx = .service ∨ (s.port port).tx = .paused) (hgone : .standby ∉ (s.port port).txLanes.toList) : execSpareReq port lane s =
    .next (((s.setPort port ((s.port port).setTx ((s.port port).txMap.get lane) .failed)).irq .xport port 6).portDown port true) :=
  (execSpareReq_next hnone).trans (congrArg _ (if_pos ⟨hserves, by simp [Port.sparing, hnone], by simpa using hgone⟩))

theorem execSpareReq_asks (hmay : (s.port port).tx ≠ .service ∧ (s.port port).tx ≠ .paused ∨ .standby ∈ (s.port port).txLanes.toList) : execSpareReq port lane s =
    .next ((s.setPort port ((s.port port).setTx ((s.port port).txMap.get lane) .failed)).portSpareAsk port lane) := by
  refine (execSpareReq_next hnone).trans (congrArg _ (if_neg ?_))
  rintro ⟨hserves, -, hgone⟩
  rcases hmay with ⟨hservice, hpaused⟩ | hstandby
  · exact hserves.elim hservice hpaused
  · simp [hstandby] at hgone

end Request

theorem execSpareBegin_shadows (hnone : (s.port port).rxSpare = none) : execSpareBegin port lane off s = .next (s.setPort port
    { ((s.port port).modRx off (fun l => { l with state := .shadow, good := 0, bad := 0 })) with rxSpare := some ⟨lane, (s.port port).rxMap.get lane, off, s.now⟩ }) :=
  if_neg (by simp [hnone])

theorem execSpareSwitch_switches (hspare : (s.port port).rxSpare = some k) (hgood : 16 ≤ ((s.port port).rxLane k.new).good) (hold : ((s.port port).rxLane k.old).state = .active) :
    execSpareSwitch port true s = .next ((s.setPort port { (((s.port port).modRx k.new (fun l => { l with state := .active, viol := 0 })).modRx k.old
      (fun l => { l with state := .cal })) with rxMap := (s.port port).rxMap.set k.lane k.new, rxSpare := none }).lctl port 3 k.lane k.new) := by
  simp [execSpareSwitch, hspare, Nat.not_lt.2 hgood, hold]

theorem execSpareDone_moves (hspare : (s.port port).spare = some k) (hlane : k.lane = lane) : execSpareDone port lane s = .next ((s.setPort port
    { (((s.port port).setTx k.new .active).setTx k.old (if (s.port port).txLane k.old = .failed then .failed else .cal)) with
      txMap := (s.port port).txMap.set lane k.new, spare := none, calSince := sput (s.port port).calSince k.old s.now }).portSpareNext port) := by
  simp only [execSpareDone, hspare, if_neg (not_not_intro hlane)]

theorem execSpareShadowTimeout_fails (hspare : (s.port port).spare = some k) (hlate : k.t1 + 10000 ≤ s.now) : execSpareShadowTimeout port s = .next ((s.setPort port
    { ((s.port port).setTx k.new .failed) with spare := none, spareWant := (k.lane, none) :: (s.port port).spareWant }).portSpareNext port) := by
  simp only [execSpareShadowTimeout, hspare, if_neg (Nat.not_lt.2 hlate)]

end Sparing

/-! ## A calibration of the port's lanes (R296) -/

/-- The slots of a direction that stand by. -/
def Port.standbys (x : Port) : List (Fin 10) := (List.finRange 10).filter (fun o => decide (x.txLanes.get o = .standby))
/-- The lanes of a direction in ascending slot offset, those whose ring is due first. -/
def Port.calLanes (x : Port) : List (Fin 8) :=
  let all := (List.finRange 10).filterMap (fun o => (List.finRange 8).find? (fun k => decide (x.txMap.get k = o)))
  all.filter (fun k => x.calDue.contains (x.txMap.get k)) ++ all.filter (fun k => !x.calDue.contains (x.txMap.get k))

theorem State.portCalStart_none {s : State} {p : Nat} (h : (s.port p).standbys = []) : s.portCalStart p = s := if_pos (.inr h)

theorem State.portCalStart_starts {s : State} {p : Nat} (htx : (s.port p).tx = .service) (h : (s.port p).standbys ≠ []) : s.portCalStart p =
    let x := s.port p
    let fresh := x.standbys.filter (fun o => decide (o ∉ x.inPlace))
    s.setPort p { x with
      inPlace := x.inPlace ++ fresh, calFresh := none, calSince := fresh.foldl (fun m o => sput m o s.now) x.calSince
      spareWant := x.spareWant ++ (x.calLanes.filter (fun k => decide (∀ w ∈ x.spareWant, w.1 ≠ k))).map (fun k => (k, none)) } := by
  have hfresh : (fun o => decide (o ∉ (s.port p).inPlace)) = (fun o => !(s.port p).inPlace.contains o) := by
    funext o
    simp
  have hasked : (fun k => decide (∀ w ∈ (s.port p).spareWant, w.1 ≠ k)) = (fun k => !(s.port p).spareWant.any (fun w => decide (w.1 = k))) := by
    funext k
    rw [Bool.eq_iff_iff, Bool.not_eq_true', List.any_eq_false]
    simp
  simp only [hfresh, hasked]
  refine if_neg ?_
  rintro (hno | hnone)
  · exact hno htx
  · exact h hnone

/-- Settles O42: each event of a port direction by its own lemma, each action of XPORT.CMD by what it does where the write is taken. -/
theorem portStates : Obligations.PortStates := by
  unfold Obligations.PortStates
  refine ⟨?states, ?sparing⟩
  case states =>
    intro s ini ep port lane off its p x does retrained paused shadow
    refine ⟨execPortSleep_sleeps, execSleep_sleeps, execPortWake_wakes, fun htx => ?retrain, execRetrainTimeout_again, execRetrainTimeout_down,
      fun htx hnone => ⟨execPauseReq_pauses htx hnone, execPausedEntry_pauses htx hnone⟩,
      execPausedEnd_serves, fun htakes => ?commands⟩
    case retrain => exact ⟨congrArg _ (State.enterRetrain_service htx), congrArg _ (State.enterRetrain_service htx)⟩
    case commands =>
      refine ⟨fun htx => congrArg _ (State.xportCmd_taken htakes (State.portRetrainDo_retrains htx)),
        fun htx hnone hswap hstandby hcal => congrArg _ (State.xportCmd_taken htakes ?_),
        fun hin => congrArg _ (State.xportCmd_taken htakes (State.portDisableDo_disables hin)),
        fun hin hdisabled => congrArg _ (State.xportCmd_taken htakes (State.portEnableDo_trains hin hdisabled)),
        fun hout => congrArg _ (State.xportCmd_taken htakes (State.portEnableDo_out hout))⟩
      have hoff : (BitVec.ofNat 4 off.val).toNat = off.val := Nat.mod_eq_of_lt (by omega)
      rw [hoff, State.portSpareDo_spares htx hnone hswap hstandby hcal]
  case sparing =>
    intro s ini ep port lane off k page reg v p x moved done lost standby fresh all lanes
    refine ⟨fun hnone => ⟨fun ⟨hserves, hgone⟩ => execSpareReq_down hnone hserves hgone, execSpareReq_asks hnone⟩, execSpareBegin_shadows, execSpareSwitch_switches,
      execSpareDone_moves, execSpareShadowTimeout_fails, fun htx hstandby => congrArg _ (State.portCalStart_starts htx hstandby),
      fun _ hnone => congrArg _ (State.portCalStart_none hnone), fun htakes => ?rankmap, rfl⟩
    case rankmap => exact congrArg _ (State.busDo_taken _ page.isLt (by omega) htakes.1 htakes.2)

end Sys2Proof.Machine
end

section
/-!
The cells of a fabric port (R287, R303, R311, R316 to R322): the fields and the check sum of a sealed cell, what a port does with each cell that it receives, its
acknowledgements and credits, the cell that a slot sends, and the statement LinkCells.
-/
namespace Sys2Proof.Machine

/-! ## Fields of a number -/

/-- A field of a number depends on no higher bit. -/
theorem bits_congr {u v n lsb w : Nat} (h : u % 2 ^ n = v % 2 ^ n) (hle : lsb + w ≤ n) : bits u lsb w = bits v lsb w := by
  have hcut (y : Nat) : bits y lsb w = y % 2 ^ n % 2 ^ (lsb + w) / 2 ^ lsb := by
    rw [Nat.mod_mod_of_dvd _ (Nat.pow_dvd_pow 2 hle), pow_add, Nat.mod_mul_right_div_self, bits]
  rw [hcut u, hcut v, h]

/-- A number with a field replaced, in three parts. -/
theorem putBits_eq (v lsb w x : Nat) : putBits v lsb w x = v % 2 ^ lsb + 2 ^ lsb * (x % 2 ^ w + 2 ^ w * (v / 2 ^ lsb / 2 ^ w)) := by
  have hparts : v = v % 2 ^ lsb + 2 ^ lsb * (v / 2 ^ lsb % 2 ^ w + 2 ^ w * (v / 2 ^ lsb / 2 ^ w)) := by
    rw [Nat.mod_add_div, Nat.mod_add_div]
  conv_lhs => rw [hparts]
  exact putBits_middle _ _ (Nat.mod_lt _ (Nat.two_pow_pos lsb)) (Nat.mod_lt _ (Nat.two_pow_pos w))

theorem putBits_mod (v lsb w x : Nat) : putBits v lsb w x % 2 ^ lsb = v % 2 ^ lsb := by
  rw [putBits_eq, Nat.add_mul_mod_self_left, Nat.mod_mod]

theorem bits_putBits_below {lsb l k : Nat} (h : l + k ≤ lsb) (v w x : Nat) : bits (putBits v lsb w x) l k = bits v l k := bits_congr (putBits_mod v lsb w x) h

theorem bits_putBits_same (v lsb w x : Nat) : bits (putBits v lsb w x) lsb w = x % 2 ^ w := by
  rw [putBits_eq, bits, Nat.add_mul_div_left _ _ (Nat.two_pow_pos lsb), Nat.div_eq_of_lt (Nat.mod_lt _ (Nat.two_pow_pos lsb)), Nat.zero_add, Nat.add_mul_mod_self_left,
    Nat.mod_mod]

/-! ## The check sum of a cell (R303) -/

/-- A byte is folded into the CRC bit by bit. -/
theorem crcBytes_byte (c v n : Nat) : crcBytes c v (n + 1) = crcBytes (crcBit^[8] (c ^^^ v % 2 ^ 8)) (v / 2 ^ 8) n := by
  dsimp only [crcBytes, Function.iterate_succ, Function.iterate_zero, Function.comp_apply, id_eq, Nat.reducePow]

theorem crcBytes_congr {n : Nat} (c : Nat) {u v : Nat} (h : u % 2 ^ (8 * n) = v % 2 ^ (8 * n)) : crcBytes c u n = crcBytes c v n := by
  induction n generalizing c u v with
  | zero => rfl
  | succ n ih =>
    rw [Nat.mul_succ, Nat.add_comm, pow_add] at h
    have hbyte : u % 2 ^ 8 = v % 2 ^ 8 := by rw [← Nat.mod_mul_right_mod u (2 ^ 8) (2 ^ (8 * n)), h, Nat.mod_mul_right_mod]
    have hrest : u / 2 ^ 8 % 2 ^ (8 * n) = v / 2 ^ 8 % 2 ^ (8 * n) := by rw [← Nat.mod_mul_right_div_self, h, Nat.mod_mul_right_div_self]
    rw [crcBytes_byte, crcBytes_byte, hbyte, ih _ hrest]

theorem crcBit_lt {c : Nat} (h : c < 2 ^ 32) : crcBit c < 2 ^ 32 := by
  have hhalf : c / 2 < 2 ^ 32 := (Nat.div_le_self c 2).trans_lt h
  unfold crcBit
  split
  · exact Nat.xor_lt_two_pow hhalf (by decide)
  · exact hhalf

theorem crcBits_lt {c : Nat} (h : c < 2 ^ 32) (k : Nat) : crcBit^[k] c < 2 ^ 32 := by
  induction k with
  | zero => exact h
  | succ k ih =>
    rw [Function.iterate_succ_apply']
    exact crcBit_lt ih

theorem crcBytes_lt (n v : Nat) {c : Nat} (h : c < 2 ^ 32) : crcBytes c v n < 2 ^ 32 := by
  induction n generalizing c v with
  | zero => exact h
  | succ n ih =>
    rw [crcBytes_byte]
    exact ih _ (crcBits_lt (Nat.xor_lt_two_pow h ((Nat.mod_lt v (by decide)).trans (by decide))) 8)

theorem crc32c_lt (v n : Nat) : crc32c v n < 2 ^ 32 := Nat.xor_lt_two_pow (crcBytes_lt n v (by decide)) (by decide)

/-- A cell with its check sum (R303). -/
def sealedCell (v : Nat) : CellBits := BitVec.ofNat 384 (putBits v 352 32 (crc32c v 44))

theorem toNat_sealedCell (v : Nat) : (sealedCell v).toNat = putBits v 352 32 (crc32c v 44) % 2 ^ 384 := BitVec.toNat_ofNat _ _

theorem hf_sealedCell {lsb w : Nat} (h : lsb + w ≤ 352) (v : Nat) : hf (sealedCell v) lsb w = bits v lsb w := by
  rw [hf, toNat_sealedCell, bits_congr (n := 384) (Nat.mod_mod _ _) (h.trans (by decide)), bits_putBits_below h]

theorem cellGood_sealedCell (v : Nat) : cellGood (sealedCell v) = true := by
  have hbody : (sealedCell v).toNat % 2 ^ (8 * 44) = v % 2 ^ (8 * 44) := by
    rw [toNat_sealedCell, Nat.mod_mod_of_dvd _ (Nat.pow_dvd_pow 2 (by decide))]
    exact putBits_mod v 352 32 _
  have hsum : bits (sealedCell v).toNat 352 32 = crc32c v 44 := by
    rw [toNat_sealedCell, bits_congr (n := 384) (Nat.mod_mod _ _) (by decide), bits_putBits_same, Nat.mod_eq_of_lt (crc32c_lt v 44)]
  refine decide_eq_true ?_
  rw [hsum, crc32c, crcBytes_congr _ hbody, crc32c]

/-! ## The fields of an external cell (R303) -/

section External
variable (ty dst src job vc cls tag : Nat) (pay : Payload)

/-- An external cell in two parts: its header and its payload. -/
theorem toNat_extCell : ∃ h, h < 2 ^ 96 ∧ h % 2 ^ 8 = ty % 256 ∧ (extCell ty dst src job vc cls tag pay).toNat = h + 2 ^ 96 * pay.toNat := by
  have hpay := pay.isLt
  refine ⟨ty % 256 + dst % 4096 * 2 ^ 8 + src % 4096 * 2 ^ 20 + job % 65536 * 2 ^ 32 + vc % 8 * 2 ^ 48 + cls % 4 * 2 ^ 52 + tag % 2 ^ 17 * 2 ^ 55, by omega, by omega, ?_⟩
  rw [extCell, BitVec.toNat_ofNat, Nat.mod_eq_of_lt (by omega)]
  omega

theorem type_extCell : bits (extCell ty dst src job vc cls tag pay).toNat 0 8 = ty % 256 := by
  obtain ⟨h, -, htype, hcell⟩ := toNat_extCell ty dst src job vc cls tag pay
  rw [hcell, bits]
  omega

theorem pay_extCell (w : Nat) : bits (extCell ty dst src job vc cls tag pay).toNat 96 w = pay.toNat % 2 ^ w := by
  obtain ⟨h, hlt, -, hcell⟩ := toNat_extCell ty dst src job vc cls tag pay
  rw [hcell, bits, Nat.add_mul_div_left _ _ (Nat.two_pow_pos 96), Nat.div_eq_of_lt hlt, Nat.zero_add]

end External

/-! ## Cells received (R287, R316, R319) -/

section Receive
variable {s : State} {port : Fin 6} {cell : CellBits} {its : List RxItem}

/-- A port that finds the expected cell missing: LNAK is due, where it is not already (R319). -/
def Port.cellMissed (x : Port) (now : Nat) : Port := if x.nakSince.isSome then x else { x with nakSince := some now, nakDue := true }

theorem State.missing_setPort (x : Port) : (s.setPort port x).missing port = s.setPort port (x.cellMissed s.now) := by
  simp [State.missing, State.modPort, Port.cellMissed]

/-- The next item of a port's message is lost. -/
theorem execLinkCellReceive_lost (hrx : (s.port port).rx = .service) (hitems : (s.port port).rxItems = .lost :: its) :
    execLinkCellReceive port cell false s = .next ((s.setPort port { s.port port with rxItems := its }).missing port) := by
  simp only [execLinkCellReceive, hrx, hitems]
  rfl

section Cell
variable (hrx : (s.port port).rx = .service) (hitems : (s.port port).rxItems = .cell cell :: its)
include hrx hitems

theorem execLinkCellReceive_bad (hbad : cellGood cell = false) : execLinkCellReceive port cell true s =
    .next ((s.setPort port { s.port port with rxItems := its }).missing port) := by
  simp [execLinkCellReceive, hrx, hitems, hbad]

section Good
variable (hgood : cellGood cell = true)
include hgood

theorem execLinkCellReceive_link (hlink : hf cell 0 8 = 0x10 ∨ hf cell 0 8 = 0x11) : execLinkCellReceive port cell true s =
    .next ((s.setPort port { s.port port with rxItems := its }).routeCell port cell) := by
  simp [execLinkCellReceive, hrx, hitems, hgood, hlink]

section Sequenced
variable (hack : hf cell 0 8 ≠ 0x10) (hnak : hf cell 0 8 ≠ 0x11)
include hack hnak

/-- A port that has accepted a cell (R316, R319). -/
def Port.accepted (x : Port) (cell : CellBits) (now : Nat) : Port :=
  { x with rxNext := (hf cell 72 12 + 1) % 4096, nakSince := none, nakDue := false, unacked := x.unacked + 1, unackedSince := some (x.unackedSince.getD now)
           credits := x.credits.setIfInBounds (hf cell 84 3) (x.credits.toList.getD (hf cell 84 3) 0 + hf cell 88 4) }

theorem execLinkCellReceive_accepts (hnext : hf cell 72 12 = (s.port port).rxNext)
    (hroom : ((s.port port).inBuf.filter (fun e => decide (hf e.2.2 48 3 = hf cell 48 3))).length < vcRoom (hf cell 48 3)) :
    execLinkCellReceive port cell true s =
      .next ((s.setPort port (({ s.port port with rxItems := its } : Port).accepted cell s.now)).routeCell port cell) := by
  simp [execLinkCellReceive, hrx, hitems, hgood, hack, hnak, hnext, Nat.not_le.2 hroom, Port.accepted]

theorem execLinkCellReceive_duplicate (hother : hf cell 72 12 ≠ (s.port port).rxNext) (h1 : 1 ≤ ((s.port port).rxNext + 4096 - hf cell 72 12) % 4096)
    (h2 : ((s.port port).rxNext + 4096 - hf cell 72 12) % 4096 ≤ 2048) : execLinkCellReceive port cell true s =
    .next ((s.setPort port { s.port port with rxItems := its }).bump (xportReg port 0x06C) 16 16 1) := by
  simp [execLinkCellReceive, hrx, hitems, hgood, hack, hnak, hother, h1, h2]

theorem execLinkCellReceive_ahead (hother : hf cell 72 12 ≠ (s.port port).rxNext)
    (h2 : 2048 < ((s.port port).rxNext + 4096 - hf cell 72 12) % 4096) : execLinkCellReceive port cell true s =
    .next ((s.setPort port { s.port port with rxItems := its }).missing port) := by
  simp [execLinkCellReceive, hrx, hitems, hgood, hack, hnak, hother, Nat.not_le.2 h2]

end Sequenced
end Good
end Cell
end Receive

/-! ## Acknowledgement, credits and replay (R311, R316, R319 to R322) -/

section Replies
variable {s : State} {port : Fin 6} {vc : Fin 5} {seq : BitVec 12} {t : Nat}

theorem execXtrt_waits {data : Payload} {tail : BitVec 96} (hhalf : sfind (s.port port).halves vc = some data)
    (hroom : ((s.port port).egress.filter (fun e => decide (e.1 = vc.val))).length < 32) : execXtrt port vc tail s = .next (s.setPort port
      { s.port port with halves := serase (s.port port).halves vc, egress := (s.port port).egress ++ [(vc.val, BitVec.ofNat 384 (data.toNat + tail.toNat * 2 ^ 256))] }) := by
  simp only [execXtrt, hhalf, if_neg (Nat.not_le.2 hroom)]

theorem Port.replays_iff (x : Port) (n : Nat) : x.replay.any (fun e => decide (e.1 = n)) = true ↔ ∃ e ∈ x.replay, e.1 = n := by simp

section Held
variable (hheld : ∃ e ∈ (s.port port).replay, e.1 = seq.toNat) (hnone : (s.port port).resend = none)
include hheld hnone

theorem execLack_frees : execLack port seq s = .next (s.setPort port { s.port port with
    replay := ((s.port port).replay.dropWhile (fun e => decide (e.1 ≠ seq.toNat))).drop 1, resend := none, advanced := s.now, timeouts := 0 }) := by
  simp only [execLack, if_pos ((Port.replays_iff _ _).2 hheld), hnone]

theorem execLnak_resends : execLnak port seq s = .next (s.setPort port { s.port port with resend := some seq.toNat, resendStart := seq.toNat }) := by
  simp [execLnak, (Port.replays_iff _ _).2 hheld, State.resendFrom, hnone]

end Held

section NotHeld
variable (hgone : ∀ e ∈ (s.port port).replay, e.1 ≠ seq.toNat)
include hgone

theorem Port.not_replays : ¬ (s.port port).replay.any (fun e => decide (e.1 = seq.toNat)) = true := by
  rintro hany
  obtain ⟨e, hmem, he⟩ := (Port.replays_iff _ _).1 hany
  exact hgone e hmem he

theorem execLack_retrains : execLack port seq s = .next (s.enterRetrain port) := if_neg (Port.not_replays hgone)
theorem execLnak_retrains : execLnak port seq s = .next (s.enterRetrain port) := if_neg (Port.not_replays hgone)

end NotHeld

theorem execLackDue_due (hsince : (s.port port).unackedSince = some t) (hdue : 32 ≤ (s.port port).unacked ∨ t + 100 ≤ s.now) :
    execLackDue port s = .next (s.setPort port { s.port port with ackDue := true }) := by
  simp only [execLackDue, hsince, if_pos hdue]

theorem execLcreditDue_due (hsince : (s.port port).owedSince = some t) (hdue : 32 ≤ (s.port port).owed.toList.sum ∨ t + 500 ≤ s.now) :
    execLcreditDue port s = .next (s.setPort port { s.port port with creditDue := true }) := by
  simp only [execLcreditDue, hsince, if_pos hdue]

theorem execLnakRepeat_due (hsince : (s.port port).nakSince = some t) (hdue : t + 1000 ≤ s.now) :
    execLnakRepeat port s = .next (s.setPort port { s.port port with nakSince := some s.now, nakDue := true }) := by
  simp only [execLnakRepeat, hsince, if_pos hdue]

section Timeout
variable {e : Nat × CellBits} {es : List (Nat × CellBits)} (hreplay : (s.port port).replay = e :: es) (htx : (s.port port).tx = .service)
  (hlate : (s.port port).advanced + s.fld (xportReg port 0x078) 0 16 ≤ s.now)
include hreplay htx hlate

/-- The state in which a replay timeout has been counted (R321). -/
def State.replayLate (s : State) (p : Nat) : State :=
  (s.setPort p { s.port p with advanced := s.now, timeouts := (s.port p).timeouts + 1 }).bump (xportReg p 0x07C) 16 16 1

theorem execReplayTimeout_next : execReplayTimeout port s =
    if 7 ≤ (s.port port).timeouts then .next ((s.replayLate port).enterRetrain port) else .next ((s.replayLate port).resendFrom port e.1) := by
  unfold execReplayTimeout
  extract_lets p x
  split
  next hnil => exact absurd (hreplay.symm.trans hnil) (List.cons_ne_nil e es)
  next first others hcons =>
    obtain ⟨rfl, -⟩ := List.cons.inj (hreplay.symm.trans hcons)
    refine if_neg ?_
    rintro (hno | hearly)
    · exact hno htx
    · exact Nat.not_lt.2 hlate hearly

end Timeout
end Replies

/-! ## What a burst leaves (R286) -/

section Burst
variable {s : State} {port : Fin 6}

/-- The characters that wait for a codeword after a burst. -/
def burstRest (msg : List (List LineChar)) (c : CellBits) : List (List LineChar) :=
  if 128 ≤ (msg ++ burstCols c).length then (msg ++ burstCols c).drop 128 else msg ++ burstCols c

/-- The messages sent after a burst: the cell, and the codewords that are full. -/
def burstOut (out : List Msg) (p : Nat) (msg : List (List LineChar)) (c : CellBits) : List Msg :=
  if 128 ≤ (msg ++ burstCols c).length then out ++ [.portCell p c] ++ [.codewords p (codewordsOf ((msg ++ burstCols c).take 128))] else out ++ [.portCell p c]

theorem State.sendBurst_eq (s : State) (p : Nat) (c : CellBits) : s.sendBurst p c =
    { s.setPort p { s.port p with txMsg := burstRest (s.port p).txMsg c } with out := burstOut s.out p (s.port p).txMsg c } := by
  by_cases hfull : 128 ≤ ((s.port p).txMsg ++ burstCols c).length
  · rw [burstRest, burstOut, if_pos hfull, if_pos hfull]
    exact if_pos hfull
  · rw [burstRest, burstOut, if_neg hfull, if_neg hfull]
    exact if_neg hfull

/-- A burst from a port with other contents but the same waiting characters sends and leaves the same characters. -/
theorem State.sendBurst_setPort {x : Port} (hx : x.txMsg = (s.port port).txMsg) (c : CellBits) : (s.setPort port x).sendBurst port c =
    { s.setPort port { x with txMsg := ((s.sendBurst port c).port port).txMsg } with out := (s.sendBurst port c).out } := by
  have hrest : ((s.sendBurst port c).port port).txMsg = burstRest (s.port port).txMsg c := by
    rw [s.sendBurst_eq]
    exact congrArg Port.txMsg (State.port_setPort _)
  have hout : (s.sendBurst port c).out = burstOut s.out port (s.port port).txMsg c := by rw [s.sendBurst_eq]
  rw [State.sendBurst_eq, hrest, hout, State.port_setPort, State.setPort_setPort, hx]
  rfl

/-- The slots that each of REQ-A and REQ-B has been passed over, after a slot that serves `chosen` (R317). -/
def State.starved (s : State) (p : Nat) (chosen : Option Nat) : Vector Nat 2 :=
  Vector.ofFn (fun v : Fin 2 => if s.eligible p v.val ∧ chosen ≠ some v.val then min 16 ((s.port p).starve.get v + 1) else 0)

/-- The end of a slot: the count of slots passed over. -/
def State.slotOver (s : State) (p : Nat) (chosen : Option Nat) (t : State) : State := t.modPort p (fun y => { y with starve := s.starved p chosen })

/-- The state after a slot in which a port, changed to `x`, sends a cell. -/
def State.slotSends (s : State) (p : Nat) (x : Port) (c : CellBits) (chosen : Option Nat) : State :=
  { s.setPort p { x with txMsg := ((s.sendBurst p c).port p).txMsg, starve := s.starved p chosen } with out := (s.sendBurst p c).out }

theorem State.slotOver_sendBurst {x : Port} (hx : x.txMsg = (s.port port).txMsg) (c : CellBits) (chosen : Option Nat) :
    s.slotOver port chosen ((s.setPort port x).sendBurst port c) = s.slotSends port x c chosen := by
  have hport (y : Port) (o : List Msg) : ({ s.setPort port y with out := o } : State).port port = y := State.port_setPort y
  rw [State.sendBurst_setPort hx, State.slotOver, State.modPort, hport]
  exact congrArg (fun t : State => { t with out := (s.sendBurst port c).out }) (State.setPort_setPort _ _ _)

theorem State.port_slotSends (x : Port) (c : CellBits) (chosen : Option Nat) :
    (s.slotSends port x c chosen).port port = { x with txMsg := ((s.sendBurst port c).port port).txMsg, starve := s.starved port chosen } := State.port_setPort _

theorem State.port_slotSends_ne {q : Nat} (x : Port) (c : CellBits) (chosen : Option Nat) (h : q ≠ port) : (s.slotSends port x c chosen).port q = s.port q :=
  State.port_setPort_ne _ h

end Burst

/-! ## The choice of a slot (R317, R318, R320) -/

section Slot
variable {s : State} {port : Fin 6} (htx : (s.port port).tx = .service) (hswap : s.portSwap port true = false) (hfed : ∀ v : Fin 2, (s.port port).starve.get v < 16)

/-- Neither REQ-A nor REQ-B is starved. -/
theorem State.hungry_none (hfed : ∀ v : Fin 2, (s.port port).starve.get v < 16) :
    (List.range 2).find? (fun v => decide (16 ≤ (s.port port).starve.toList.getD v 0) && s.eligible port v) = none := by
  rw [List.find?_eq_none]
  intro v hv
  have hget : (s.port port).starve.toList.getD v 0 = (s.port port).starve.get ⟨v, List.mem_range.1 hv⟩ := getD_toList_eq_get _ ⟨v, _⟩ 0
  rw [hget, decide_eq_false (Nat.not_le.2 (hfed _)), Bool.false_and]
  exact Bool.false_ne_true

include htx hswap hfed

/-- A LACK that is due goes first. -/
theorem execCellSend_ackDue (hdue : (s.port port).ackDue = true) : execCellSend port s = .next (s.slotOver port none
    ((s.setPort port { s.port port with ackDue := false, unacked := 0, unackedSince := none }).linkCell port 0x10 (((s.port port).rxNext + 4095) % 4096))) := by
  unfold execCellSend
  extract_lets p x hungry pick count pay c
  rw [if_neg (not_not_intro htx), if_neg (Bool.eq_false_iff.1 hswap)]
  have hhungry : hungry = none := State.hungry_none hfed
  rw [hhungry]
  cases x.resend.isNone <;> exact if_pos hdue

/-- With nothing else due, the highest VC that has an eligible cell is served. -/
theorem execCellSend_serves {v : Nat} (hack : (s.port port).ackDue = false) (hnak : (s.port port).nakDue = false) (hresend : (s.port port).resend = none)
    (hcredit : (s.port port).creditDue = false) (hpick : [4, 3, 2, 1, 0].find? (fun v => s.eligible port v) = some v) :
    execCellSend port s = .next (s.slotOver port (some v) (s.sendVc port v)) := by
  unfold execCellSend
  extract_lets p x hungry pick count pay c
  rw [if_neg (not_not_intro htx), if_neg (Bool.eq_false_iff.1 hswap)]
  have hhungry : hungry = none := State.hungry_none hfed
  have hserved : pick = some v := by
    unfold pick
    rw [hhungry]
    exact hpick
  have hx : x.resend = none := hresend
  rw [hhungry, hx, hserved]
  refine (if_neg (Bool.eq_false_iff.1 hack)).trans ((if_neg (Bool.eq_false_iff.1 hnak)).trans ((if_neg ?_).trans rfl))
  rintro ⟨hdue, -⟩
  exact Bool.eq_false_iff.1 hcredit hdue

end Slot

/-! ## The LACK that a slot sends (R305, R320) -/

section LinkCell
variable (s : State) (p ty n : Nat)

/-- The link cell that a port sends: its type and a number. -/
def State.linkBits : CellBits := sealedCell (extCell ty (s.fld (xportReg p 0x048) 0 12) s.coord 0 4 0 (63 * 2048) (BitVec.ofNat 256 n)).toNat

theorem State.linkCell_setPort (x : Port) : (s.setPort p x).linkCell p ty n = (s.setPort p x).sendBurst p (s.linkBits p ty n) := rfl

theorem State.type_linkBits : hf (s.linkBits p ty n) 0 8 = ty % 256 := by rw [State.linkBits, hf_sealedCell (by decide), type_extCell]

theorem State.number_linkBits (hn : n < 2 ^ 12) : bits (s.linkBits p ty n).toNat 96 12 = n := by
  have hfield := hf_sealedCell (lsb := 96) (w := 12) (by decide) (extCell ty (s.fld (xportReg p 0x048) 0 12) s.coord 0 4 0 (63 * 2048) (BitVec.ofNat 256 n)).toNat
  rw [pay_extCell, BitVec.toNat_ofNat, Nat.mod_mod_of_dvd _ (by decide), Nat.mod_eq_of_lt hn] at hfield
  exact hfield

end LinkCell

/-! ## The cell that a VC sends (R303, R317, R318, R321) -/

section Sequenced
variable {s : State} {port : Fin 6}

/-- The VC whose credits go back with the next sequenced cell (R316). -/
def Port.creditVc (x : Port) : Nat := ((List.range 5).find? (fun v => decide (x.owed.toList.getD v 0 ≠ 0))).getD 0
/-- The credits that go back with it. -/
def Port.creditsBack (x : Port) : Nat := min 15 (x.owed.toList.getD x.creditVc 0)

/-- A cell with its link fields and its check sum (R303, R318). -/
def Port.seqCell (x : Port) (c : CellBits) : CellBits :=
  sealedCell (putBits (putBits (putBits c.toNat 72 12 x.txNext) 84 3 x.creditVc) 88 4 x.creditsBack)

theorem Port.cellGood_seqCell (x : Port) (c : CellBits) : cellGood (x.seqCell c) = true := cellGood_sealedCell _

theorem Port.number_seqCell (x : Port) (c : CellBits) : hf (x.seqCell c) 72 12 = x.txNext % 4096 := by
  rw [Port.seqCell, hf_sealedCell (by decide), bits_putBits_below (by decide), bits_putBits_below (by decide), bits_putBits_same]
  rfl

theorem Port.type_seqCell (x : Port) (c : CellBits) : hf (x.seqCell c) 0 8 = hf c 0 8 := by
  rw [Port.seqCell, hf_sealedCell (by decide), bits_putBits_below (by decide), bits_putBits_below (by decide), bits_putBits_below (by decide), hf]

/-- A port that has sent a sequenced cell (R316, R321). -/
def Port.seqSent (x : Port) (c : CellBits) (now : Nat) : Port :=
  let owed := x.owed.setIfInBounds x.creditVc (x.owed.toList.getD x.creditVc 0 - x.creditsBack)
  let paid := owed.toList.all (· = 0)
  { x with owed := owed, owedSince := (if paid then none else x.owedSince), creditDue := (if paid then false else x.creditDue)
           replay := x.replay ++ [(x.txNext, x.seqCell c)], txNext := (x.txNext + 1) % 4096, advanced := (if x.replay.isEmpty then now else x.advanced), lastCell := now }

theorem State.sendSeq_setPort {x : Port} (hroom : x.replay.length < 255) (c : CellBits) :
    (s.setPort port x).sendSeq port c = (s.setPort port (x.seqSent c s.now)).sendBurst port (x.seqCell c) := by
  have hseq (t : State) (h : (t.port port).replay.length < 255) : t.sendSeq port c =
      (t.setPort port ((t.port port).seqSent c t.now)).sendBurst port ((t.port port).seqCell c) := if_neg (Nat.ne_of_lt h)
  rw [hseq _ (by rwa [State.port_setPort]), State.port_setPort, State.setPort_setPort, State.now_setPort]

end Sequenced

/-! ## One cell to inject, and nothing else to send (R316, R317) -/

section Inject
variable {s : State} {port : Fin 6} {vc : Fin 5} {e : Nat × CellBits} (hempty : ∀ q, q < 6 → (s.port q).inBuf = []) (hegress : (s.port port).egress = [])
  (hinject : (s.port port).inject = [e])
include hempty hegress hinject

/-- Only the injected cell waits, on its own VC. -/
theorem State.sourceCell_inject {src : Nat} (v : Nat) (hsrc : src < 5) : s.sourceCell port v src = if src = 4 ∧ e.1 = v then some e.2 else none := by
  have hside : 2 * src + port.val % 2 < 6 ∨ 3 ≤ src := by omega
  unfold State.sourceCell
  split
  next hbuf =>
    have hnone : (s.port (2 * src + port % 2)).inBuf = [] := hempty _ (by omega)
    simp [hnone, show src ≠ 4 by omega]
  next =>
    split
    next hthree => simp [hegress, hthree]
    next =>
      have hfour : src = 4 := by omega
      by_cases hv : e.1 = v <;> simp [hinject, hfour, hv]

theorem State.nextSource_inject (v : Nat) : s.nextSource port v = if e.1 = v then some 4 else none := by
  have hsource : ∀ i ∈ [1, 2, 3, 4, 5].map (fun k => ((s.port port).turn.toList.getD v 0 + k) % 5), (s.sourceCell port v i).isSome = decide (i = 4 ∧ e.1 = v) := by
    intro i hi
    have hlt : i < 5 := by
      obtain ⟨k, -, rfl⟩ := List.mem_map.1 hi
      exact Nat.mod_lt _ (by decide)
    rw [State.sourceCell_inject hempty hegress hinject v hlt]
    split <;> simp_all
  unfold State.nextSource
  extract_lets last
  split
  next hv =>
    have hsome : (([1, 2, 3, 4, 5].map (fun k => (last + k) % 5)).find? (fun i => (s.sourceCell port v i).isSome)).isSome := by
      have hmem : 4 ∈ [1, 2, 3, 4, 5].map (fun k => (last + k) % 5) := by
        simp only [List.map_cons, List.map_nil, List.mem_cons, List.not_mem_nil]
        omega
      exact List.find?_isSome.2 ⟨4, hmem, by simp [hsource 4 hmem, hv]⟩
    obtain ⟨i, hi⟩ := Option.isSome_iff_exists.1 hsome
    have hfour := List.find?_some hi
    rw [hsource i (List.mem_of_find?_eq_some hi)] at hfour
    rw [hi, (of_decide_eq_true hfour).1]
  next hv =>
    rw [List.find?_eq_none]
    intro i hi
    simp [hsource i hi, hv]

variable (hvc : e.1 = vc.val)
include hvc

theorem State.sendVc_inject : s.sendVc port vc = (s.setPort port { s.port port with
    inject := [], credits := (s.port port).credits.set vc ((s.port port).credits.get vc - 1), turn := (s.port port).turn.setIfInBounds vc 4 }).sendSeq port e.2 := by
  have hsource : s.sourceCell port vc 4 = some e.2 := by rw [State.sourceCell_inject hempty hegress hinject _ (by decide), if_pos ⟨rfl, hvc⟩]
  have hnext : s.nextSource port vc = some 4 := by rw [State.nextSource_inject hempty hegress hinject, if_pos hvc]
  have hget : (s.port port).credits.toList.getD vc 0 = (s.port port).credits.get vc := getD_toList_eq_get _ vc 0
  have hdrop : dropFirst (fun d : Nat × CellBits => decide (d.1 = vc.val)) [e] = [] := by simp [dropFirst, hvc]
  have htake : s.takeSource port vc 4 = s.setPort port { s.port port with inject := [] } := by
    rw [← hdrop, ← hinject]
    rfl
  have hset (c : Vector Nat 5) (n : Nat) : c.setIfInBounds vc n = c.set vc n := by
    ext i hi
    simp [Vector.getElem_setIfInBounds, Vector.getElem_set]
  simp only [State.sendVc, hnext, hsource, htake, State.modPort, State.port_setPort, State.setPort_setPort, hget, hset]

variable (hcredit : (s.port port).credits.get vc ≠ 0) (hroom : (s.port port).replay.length < 255)
include hcredit hroom

theorem State.eligible_inject (v : Nat) : s.eligible port v = decide (v = vc.val) := by
  simp only [State.eligible, State.nextSource_inject hempty hegress hinject]
  by_cases hv : v = vc.val
  · subst hv
    rw [getD_toList_eq_get, if_pos hvc, decide_eq_true (Nat.pos_of_ne_zero hcredit), decide_eq_true (hroom.trans (by decide)), decide_eq_true rfl]
    rfl
  · rw [if_neg (fun h => hv (h.symm.trans hvc)), decide_eq_false hv]
    exact Bool.and_false _

/-- The VC of the injected cell is the highest that has an eligible cell. -/
theorem State.pick_inject : [4, 3, 2, 1, 0].find? (fun v => s.eligible port v) = some vc.val := by
  have heligible : (fun v => s.eligible port v) = (fun v => decide (v = vc.val)) := funext (State.eligible_inject hempty hegress hinject hvc hcredit hroom)
  have hfind : ∀ w : Fin 5, [4, 3, 2, 1, 0].find? (fun v => decide (v = w.val)) = some w.val := by decide
  rw [heligible, hfind]

end Inject

/-! ## What the slot sends -/

section Sends
variable {s : State} {port : Fin 6} (htx : (s.port port).tx = .service) (hswap : s.portSwap port true = false) (hfed : ∀ v : Fin 2, (s.port port).starve.get v < 16)
include htx hswap hfed

/-- A port that has sent the LACK that was due. -/
def Port.acked (x : Port) : Port := { x with ackDue := false, unacked := 0, unackedSince := none }

theorem execCellSend_lack (hdue : (s.port port).ackDue = true) : execCellSend port s =
    .next (s.slotSends port (s.port port).acked (s.linkBits port 0x10 (((s.port port).rxNext + 4095) % 4096)) none) := by
  have hsent : s.slotOver port none ((s.setPort port (s.port port).acked).linkCell port 0x10 (((s.port port).rxNext + 4095) % 4096)) =
      s.slotSends port (s.port port).acked (s.linkBits port 0x10 (((s.port port).rxNext + 4095) % 4096)) none := by
    rw [State.linkCell_setPort]
    exact State.slotOver_sendBurst (x := (s.port port).acked) rfl _ _
  exact (execCellSend_ackDue htx hswap hfed hdue).trans (congrArg _ hsent)

/-- A port whose one cell to inject is taken to be sent. -/
def Port.injected (x : Port) (vc : Fin 5) : Port :=
  { x with inject := [], credits := x.credits.set vc (x.credits.get vc - 1), turn := x.turn.setIfInBounds vc 4 }

theorem execCellSend_injected {vc : Fin 5} {e : Nat × CellBits} (hack : (s.port port).ackDue = false) (hnak : (s.port port).nakDue = false)
    (hresend : (s.port port).resend = none) (hdue : (s.port port).creditDue = false) (hroom : (s.port port).replay.length < 255)
    (hempty : ∀ q, q < 6 → (s.port q).inBuf = []) (hegress : (s.port port).egress = []) (hinject : (s.port port).inject = [e]) (hvc : e.1 = vc.val)
    (hcredit : (s.port port).credits.get vc ≠ 0) : execCellSend port s =
      .next (s.slotSends port (((s.port port).injected vc).seqSent e.2 s.now) (((s.port port).injected vc).seqCell e.2) (some vc.val)) := by
  have hsent : s.slotOver port (some vc.val) (s.sendVc port vc) =
      s.slotSends port (((s.port port).injected vc).seqSent e.2 s.now) (((s.port port).injected vc).seqCell e.2) (some vc.val) := by
    rw [State.sendVc_inject hempty hegress hinject hvc, ← Port.injected, State.sendSeq_setPort (x := (s.port port).injected vc) hroom]
    exact State.slotOver_sendBurst (x := ((s.port port).injected vc).seqSent e.2 s.now) rfl _ _
  exact (execCellSend_serves htx hswap hfed hack hnak hresend hdue (State.pick_inject hempty hegress hinject hvc hcredit hroom)).trans (congrArg _ hsent)

end Sends

/-- Settles O43: each cell received by what it is, each acknowledgement and timer by its own lemma; a slot by the cell it chooses and what a burst leaves
(`State.slotOver_sendBurst`). -/
theorem linkCells : Obligations.LinkCells := by
  unfold Obligations.LinkCells
  refine ⟨?receives, ?sends⟩
  case receives =>
    intro s port cell vc data tail seq counts t e es its p x n cv back rest x0 missed taken late
    have hmissed : Host.Outcome.next (φ := Fault) (ρ := Refusal) ((s.setPort port x0).missing port) = .next missed := congrArg _ (State.missing_setPort x0)
    refine ⟨fun hrx hitems hgood hack hnak => ⟨execLinkCellReceive_accepts hrx hitems hgood hack hnak, execLinkCellReceive_duplicate hrx hitems hgood hack hnak,
        fun hother hahead => (execLinkCellReceive_ahead hrx hitems hgood hack hnak hother hahead).trans hmissed⟩,
      fun hrx hitems => ⟨execLinkCellReceive_link hrx hitems, fun hbad => (execLinkCellReceive_bad hrx hitems hbad).trans hmissed⟩,
      fun hrx hitems => (execLinkCellReceive_lost hrx hitems).trans hmissed, rfl, execXtrt_waits, fun hheld hnone => ⟨execLack_frees hheld hnone, execLnak_resends hheld hnone⟩,
      fun hgone => ⟨execLack_retrains hgone, execLnak_retrains hgone⟩, rfl, execLackDue_due, execLcreditDue_due, execLnakRepeat_due, fun hreplay htx hlate => ?timeout⟩
    case timeout =>
      have hnext := execReplayTimeout_next hreplay htx hlate
      exact ⟨fun hfew => hnext.trans (if_neg (Nat.not_le.2 hfew)), fun hmany => hnext.trans (if_pos hmany)⟩
  case sends =>
    intro s port vc e p x ack sentOn htx hswap hfed
    refine ⟨fun hdue => ?ack, fun hack hnak hresend hcredit hroom hempty hegress hinject hvc hcredits => ?cell⟩
    case ack =>
      refine ⟨_, s.linkBits port 0x10 ((x.rxNext + 4095) % 4096), execCellSend_lack htx hswap hfed hdue, ⟨rfl, ?_⟩, s.type_linkBits _ _ _, ?_, ?_⟩
      · rw [State.port_slotSends]
      · exact s.number_linkBits _ _ _ (Nat.mod_lt _ (by decide))
      · rw [State.port_slotSends]
        exact ⟨rfl, rfl, rfl, rfl, fun q hq => State.port_slotSends_ne _ _ _ hq⟩
    case cell =>
      refine ⟨_, (x.injected vc).seqCell e.2, execCellSend_injected htx hswap hfed hack hnak hresend hcredit hroom hempty hegress hinject hvc hcredits, ⟨rfl, ?_⟩,
        Port.cellGood_seqCell _ _, Port.number_seqCell _ _, Port.type_seqCell _ _, ?_⟩
      · rw [State.port_slotSends]
      · rw [State.port_slotSends]
        exact ⟨rfl, rfl, rfl, rfl, fun q hq => State.port_slotSends_ne _ _ _ hq⟩

end Sys2Proof.Machine
end

section
/-!
Fabric management, interrupt messages and the management port (R305, R538, R542, R545 to R547), and the statement ManagementPorts.
-/
namespace Sys2Proof.Machine

/-! ## Fabric management (R305) -/

section Management
variable {s : State}

/-- A read that does not wait is answered to the device that asked (R305). -/
theorem State.spineRead_via {ini : Initiator} {a : Nat} (h : s.readError a ≠ 0 ∨ s.readWaits a = false) (src tag : Nat) :
    s.spineRead ini a (some (src, tag)) = (s.busRead ini a).2.2.fmgmtAnswer src tag a (s.busRead ini a).1 (s.busRead ini a).2.1 := by
  refine if_neg ?_
  rintro ⟨hnone, hwaits⟩
  rcases h with herror | hready
  · exact herror hnone
  · exact Bool.eq_false_iff.1 hready hwaits

/-! ## Interrupt messages (R538, R547) -/

/-- A state that differs only in its management port. -/
def State.sameButMgmt (s t : State) : Prop := t = { s with mgmt := t.mgmt }

theorem State.sameButMgmt_queueIbi (s : State) (p : Nat) (w : Word) : s.sameButMgmt (s.queueIbi p w) := by
  unfold State.queueIbi
  extract_lets q set
  split
  next => rfl
  next => split <;> [rfl; (split <;> rfl)]

/-- An interrupt message leaves only itself, the record of it, and perhaps an entry in the queue of in-band interrupts. -/
theorem State.sendIrq_leaves (s : State) (t : PageType) (i : Nat) : (s.sendIrq t i).out = s.out ++ [.telemetry (pageNo t i) (BitVec.ofNat 64 (s.irqWord t i))] ∧
    s.sendIrq t i = { s with out := (s.sendIrq t i).out, irqSent := (s.sendIrq t i).irqSent, mgmt := (s.sendIrq t i).mgmt } := by
  dsimp only [State.sendIrq]
  split
  next =>
    rw [State.sameButMgmt_queueIbi _ (pageNo t i) (BitVec.ofNat 32 (s.irqWord t i))]
    exact ⟨rfl, rfl⟩
  next => exact ⟨rfl, rfl⟩

section Irq
variable {page : BitVec 16} {t : PageType} {i : Nat} (hpage : pageOf page.toNat = some (t, i))
include hpage

theorem execIrqTelemetry_same (hsame : (sget (0, 0) s.irqSent page.toNat).1 = s.irqWord t i) : execIrqTelemetry page s = .next s := by
  simp only [execIrqTelemetry, hpage]
  exact if_pos (.inr hsame)

variable (hruns : s.leafRuns t i = true)
include hruns

theorem execIrqTelemetry_sends (hchanged : (sget (0, 0) s.irqSent page.toNat).1 ≠ s.irqWord t i) : execIrqTelemetry page s = .next (s.sendIrq t i) := by
  simp only [execIrqTelemetry, hpage]
  exact if_neg (by simp [hruns, hchanged])

theorem execIrqPeriodicMessage_sends (hlast : 2 ^ 32 ≤ (sget (0, 0) s.irqSent page.toNat).1) (hon : 2 ^ 32 ≤ s.irqWord t i)
    (hlate : (sget (0, 0) s.irqSent page.toNat).2 + 1000000 ≤ s.now) : execIrqPeriodicMessage page s = .next (s.sendIrq t i) := by
  simp only [execIrqPeriodicMessage, hpage]
  refine if_neg ?_
  rintro (h | h | h | h)
  · simp [hruns] at h
  · exact Nat.not_lt.2 hlast h
  · exact Nat.not_lt.2 hon h
  · exact Nat.not_lt.2 hlate h

end Irq

/-! ## The management port (R545 to R547) -/

section Up
variable (hup : s.mgmtUp = true)
include hup

theorem execI3cWordWrite_writes {words : List Word} (hsome : 1 ≤ words.length) (hfew : words.length ≤ 16) (addr : Word) : execI3cWordWrite addr words s =
    .next { (s.i3cWords addr.toNat words).2 with mgmt := { (s.i3cWords addr.toNat words).2.mgmt with
      ptr := (addr.toNat + 4 * words.length) % 2 ^ 32, wrStatus := (s.i3cWords addr.toNat words).1 } } := by
  refine (if_neg (by simp [hup])).trans (if_neg ?_)
  rintro (hnil | hmany)
  · simp [hnil] at hsome
  · omega

theorem execI3cPrivateRead_reads {n : Nat} (hn : n ≠ 0) : execI3cPrivateRead n s = if (s.i3cRead s.mgmt.wrStatus n).1 = [] then .next (s.emit .i3cNack) else
    .next (({ (s.i3cRead s.mgmt.wrStatus n).2 with mgmt := { (s.i3cRead s.mgmt.wrStatus n).2.mgmt with wrStatus := 0 } } : State).emit
      (.i3cRead (s.i3cRead s.mgmt.wrStatus n).1)) :=
  (if_neg (by simp [hup])).trans (if_neg hn)

theorem execIbiDelivery_sends {e : Nat × Word} {rest : List (Nat × Word)} (hqueue : s.mgmt.ibi = e :: rest) :
    execIbiDelivery s = .next (({ s with mgmt := { s.mgmt with ibi := rest } } : State).emit (.ibi (ibiBytes e))) := by
  simp only [execIbiDelivery, hqueue]
  exact if_pos hup

end Up

/-- The status of one word written is that of its own write. -/
theorem State.i3cWords_one (a : Nat) (w : Word) : s.i3cWords a [w] = if malformedAddr a then (6, s) else s.writeAt .i3c 0 a w.toNat := by
  have hstatus (x : Nat × State) : (if x.1 ≠ 0 then x.1 else 0, x.2) = x := by
    split
    next => rfl
    next hzero => exact Prod.ext (not_not.1 hzero).symm rfl
  exact hstatus _

/-- The word at the pointer: its status, its value, and what the read leaves (R546). -/
def State.i3cWord (s : State) : Nat × Nat × State := if malformedAddr s.mgmt.ptr then (6, 0, s) else s.busRead .i3c s.mgmt.ptr

/-- One word read from the pointer: its bytes, its status byte with that of the last write, and the pointer moved on. -/
theorem State.i3cRead_one (ws : Nat) (hready : malformedAddr s.mgmt.ptr = true ∨ s.readError s.mgmt.ptr ≠ 0 ∨ s.readWaits s.mgmt.ptr = false) :
    s.i3cRead ws 1 = (leBytes 4 s.i3cWord.2.1 ++ [BitVec.ofNat 8 (s.i3cWord.1 + 16 * ws)],
      { s.i3cWord.2.2 with mgmt := { s.i3cWord.2.2.mgmt with ptr := (s.mgmt.ptr + 4) % 2 ^ 32 } }) := by
  have hmay : ¬ ((!malformedAddr s.mgmt.ptr) = true ∧ s.readError s.mgmt.ptr = 0 ∧ s.readWaits s.mgmt.ptr = true) := by
    rcases hready with h | h | h <;> simp [h]
  exact (if_neg hmay).trans (congrArg (·, _) (List.append_nil _))

theorem execI3cPrivateRead_one (hup : s.mgmtUp = true) (hready : malformedAddr s.mgmt.ptr = true ∨ s.readError s.mgmt.ptr ≠ 0 ∨ s.readWaits s.mgmt.ptr = false) :
    execI3cPrivateRead 1 s = .next (({ s.i3cWord.2.2 with mgmt := { s.i3cWord.2.2.mgmt with ptr := (s.mgmt.ptr + 4) % 2 ^ 32, wrStatus := 0 } } : State).emit
      (.i3cRead (leBytes 4 s.i3cWord.2.1 ++ [BitVec.ofNat 8 (s.i3cWord.1 + 16 * s.mgmt.wrStatus)]))) := by
  rw [execI3cPrivateRead_reads hup one_ne_zero, State.i3cRead_one _ hready, if_neg (by simp)]

theorem State.i3cRead_notReady {ws : Nat} (hwell : malformedAddr s.mgmt.ptr = false) (hnone : s.readError s.mgmt.ptr = 0) (hwaits : s.readWaits s.mgmt.ptr = true) :
    s.i3cRead ws 1 = ([], s) := if_pos ⟨by simp [hwell], hnone, hwaits⟩

theorem execI3cPrivateRead_notReady (hup : s.mgmtUp = true) (hwell : malformedAddr s.mgmt.ptr = false) (hnone : s.readError s.mgmt.ptr = 0)
    (hwaits : s.readWaits s.mgmt.ptr = true) : execI3cPrivateRead 1 s = .next (s.emit .i3cNack) := by
  rw [execI3cPrivateRead_reads hup one_ne_zero, State.i3cRead_notReady hwell hnone hwaits, if_pos rfl]

end Management

/-- Settles O11: fabric management by the read or the write it makes, interrupt messages by `State.sendIrq_leaves`, the management port by its words and whether
it is up. -/
theorem managementPorts : Obligations.ManagementPorts := by
  unfold Obligations.ManagementPorts
  intro s m15 src tag addr28 addr data w code dyn page t i p rest words rd wrt ptr one got status last
  refine ⟨fun hready => congrArg _ (State.spineRead_via hready _ _), rfl, rfl, rfl, fun hpage hruns => ?irq, fun hup => ?up, fun hdown => ?down⟩
  case irq =>
    exact ⟨fun hchanged => ⟨_, execIrqTelemetry_sends hpage hruns hchanged, s.sendIrq_leaves t i⟩, execIrqTelemetry_same hpage,
      fun hlast hon hlate => ⟨_, execIrqPeriodicMessage_sends hpage hruns hlast hon hlate, s.sendIrq_leaves t i⟩⟩
  case up =>
    refine ⟨if_pos hup, fun hwell => ?word, fun hbad => ?badWord, fun hsome hfew => ⟨_, execI3cWordWrite_writes hup hsome hfew addr, rfl⟩, fun hwell hready => ?read,
      fun hbad => ?badRead, execI3cPrivateRead_notReady hup, if_pos hup, if_pos hup, execIbiDelivery_sends hup⟩
    case word =>
      have hone : s.i3cWords addr.toNat [w] = one := (State.i3cWords_one _ w).trans (if_neg (Bool.eq_false_iff.1 hwell))
      have hwrite := execI3cWordWrite_writes hup (words := [w]) le_rfl (by simp) addr
      rwa [hone] at hwrite
    case badWord =>
      have hone : s.i3cWords addr.toNat [w] = (6, s) := (State.i3cWords_one _ w).trans (if_pos hbad)
      have hwrite := execI3cWordWrite_writes hup (words := [w]) le_rfl (by simp) addr
      rwa [hone] at hwrite
    case read =>
      have hword : s.i3cWord = got := if_neg (Bool.eq_false_iff.1 hwell)
      have hread := execI3cPrivateRead_one hup (.inr hready)
      rw [hword] at hread
      exact ⟨_, hread, rfl, rfl, rfl⟩
    case badRead =>
      have hword : s.i3cWord = (6, 0, s) := if_pos hbad
      have hread := execI3cPrivateRead_one hup (.inl hbad)
      rwa [hword] at hread
  case down =>
    have hno : ¬ s.mgmtUp = true := Bool.eq_false_iff.1 hdown
    have hnot : (!s.mgmtUp) = true := by simp [hdown]
    exact ⟨if_neg hno, if_pos hnot, if_pos hnot, if_neg hno, if_neg hno⟩

end Sys2Proof.Machine
end

section
/-!
Hall memory at the target and at the issuer: words of the kettles and regions (R330, R335, R338, R348, R353), replies, expiry and quarantine (R335, R340 to
R345, R521) and KRELAY (R352). One lemma per outcome of each command; the statement HallOperations is put together from them.
-/
namespace Sys2Proof.Machine

/-! ## Requests at the target (R304, R329, R330) -/

section Requests
variable {s : State}

/-- A hall cell under the job tag in force is taken when no restart is under way (R304, R521). -/
theorem State.hallGate_takes {job : BitVec 16} (hjob : job ≠ 0) (htag : job.toNat = s.jobTag) (hbusy : s.restart.busy = false) (src : BitVec 12) (ty : Nat)
    (f : State → State) : s.hallGate job src ty f = f s := by
  refine if_neg ?_
  rintro (hzero | hother | hrestart)
  · exact hjob hzero
  · exact hother htag
  · exact Bool.eq_false_iff.1 hbusy hrestart

variable {r : HallReq}

/-- The reply to a read of a word or to an atomic is HRSP with the old value. -/
theorem State.hallDone_word (hkind : r.kind = 0 ∨ r.kind = 2) (flags old : Nat) :
    s.hallDone r flags old = s.hallAnswer r 0x28 (payload [(1, 1, flags), (16, 16, old)]) := by
  rcases hkind with h | h <;> simp [State.hallDone, replyType, h]

section Allowed
variable (hglobal : haGlobal r.addr.toNat = true) (hkind : r.kind < 3) (hop : r.op ≤ 5) (hgood : haBad r.addr.toNat r.kind r.op r.size = false)
include hglobal hkind hop hgood

/-- An allowed request of space 1 or 2 goes on to the kettle or the region word that it names. -/
theorem State.hallRequest_word (hspace : haSpace r.addr.toNat = 1 ∨ haSpace r.addr.toNat = 2) :
    s.hallRequest r = if haSpace r.addr.toNat = 1 then s.hallKettle r else s.hallRegion r := by
  have hblock : ¬ 3 ≤ r.kind := Nat.not_le.2 hkind
  have hknown : ¬ 5 < r.op := Nat.not_lt.2 hop
  rcases hspace with h | h <;> simp [State.hallRequest, hblock, hgood, hknown, hglobal, h]

theorem State.hallRequest_kettle (hspace : haSpace r.addr.toNat = 1) : s.hallRequest r = s.hallKettle r :=
  (State.hallRequest_word hglobal hkind hop hgood (.inl hspace)).trans (if_pos hspace)

theorem State.hallRequest_region (hspace : haSpace r.addr.toNat = 2) : s.hallRequest r = s.hallRegion r :=
  (State.hallRequest_word hglobal hkind hop hgood (.inr hspace)).trans (if_neg (by omega))

end Allowed

/-! ## Kettle words (R330, R348, R353) -/

theorem State.hallKettle_reads (hkind : r.kind = 0) :
    s.hallKettle r = s.hallAnswer r 0x28 (payload [(1, 1, 0), (16, 16, s.kettleWord (haLocal r.addr.toNat))]) :=
  (if_pos hkind).trans (State.hallDone_word (.inl hkind) _ _)

section Add
variable (hkind : r.kind = 2) (hlo : 1 ≤ r.lo.toNat) (hhi : r.lo.toNat ≤ 65535)
include hkind hlo hhi

/-- An addend in range is added or refused by the mode of the kettle and the room in its count. -/
theorem State.hallKettle_add : s.hallKettle r =
    if s.kettleMode (haLocal r.addr.toNat) ≠ 1 ∨ 2 ^ 32 ≤ s.kettleCount (haLocal r.addr.toNat) + r.lo.toNat then s.hallRefuse r 6
    else (s.kettleAdd (haLocal r.addr.toNat) r.lo.toNat 1).hallDone r 0 (s.kettleWord (haLocal r.addr.toNat)) :=
  (if_neg (by omega)).trans (if_neg (by omega))

theorem State.hallKettle_counts (hmode : s.kettleMode (haLocal r.addr.toNat) = 1) (hfits : s.kettleCount (haLocal r.addr.toNat) + r.lo.toNat < 2 ^ 32) :
    s.hallKettle r =
      (s.kettleAdd (haLocal r.addr.toNat) r.lo.toNat 1).hallAnswer r 0x28 (payload [(1, 1, 0), (16, 16, s.kettleWord (haLocal r.addr.toNat))]) := by
  rw [State.hallKettle_add hkind hlo hhi, if_neg (by omega), State.hallDone_word (.inr hkind)]

theorem State.hallKettle_refuses (hmode : s.kettleMode (haLocal r.addr.toNat) ≠ 1) : s.hallKettle r = s.hallRefuse r 6 := by
  rw [State.hallKettle_add hkind hlo hhi, if_pos (.inl hmode)]

end Add

/-! ## Region words (R338) -/

/-- A region entry whose owner field takes the value `v`: the hand-off is counted and raises its interrupt (R338). -/
def State.regionMoved (s : State) (i v : Nat) : State :=
  (((s.setFld (entryReg i 8) 8 13 v).bump (entryReg i 12) 0 32 1).bump (regAddr .region 0 0x05C) 0 16 1).irq .region 0 3

section Region
variable (hkind : r.kind = 2) (hvalid : s.regionValid (haLocal r.addr.toNat) = true)
include hkind hvalid

theorem State.hallRegion_moves (hbit : bitOf r.lo.toNat 13 = true) (hmine : s.ownsRegion (haLocal r.addr.toNat) r.src.toNat = true)
    (hsame : r.cmpLo.toNat % 2 ^ 13 = s.regionWord (haLocal r.addr.toNat) % 2 ^ 13) :
    s.hallRegion r = (s.regionMoved (haLocal r.addr.toNat) (r.lo.toNat % 2 ^ 13)).hallAnswer r 0x28
      (payload [(1, 1, 0), (16, 16, s.regionWord (haLocal r.addr.toNat))]) := by
  rw [← State.hallDone_word (.inr hkind)]
  simp [State.hallRegion, State.regionMoved, hkind, hvalid, hbit, hmine, hsame, -Nat.reducePow]

theorem State.hallRegion_refuses (hother : s.ownsRegion (haLocal r.addr.toNat) r.src.toNat = false) : s.hallRegion r = s.hallRefuse r 2 := by
  simp [State.hallRegion, hkind, hvalid, hother]

end Region

/-! ## The commands that bring a request -/

section Commands
variable {job : BitVec 16} (hjob : job ≠ 0) (htag : job.toNat = s.jobTag) (hbusy : s.restart.busy = false)
  (m15 : Bool) (src : BitVec 12) (cls : BitVec 2) (tag : BitVec 17) (addr lo hi : Dword)
include hjob htag hbusy

theorem execHrd_requests (size : Bool) : execHrd m15 job src cls tag addr size s =
    .next (s.hallRequest { m15 := m15, kind := 0, size := size, src := src, cls := cls, tag := tag, addr := addr }) :=
  congrArg Host.Outcome.next (State.hallGate_takes hjob htag hbusy _ _ _)

theorem execHatm_adds (size : Bool) : execHatm m15 job src cls tag addr size 0 lo hi s =
    .next (s.hallRequest { m15 := m15, kind := 2, size := size, src := src, cls := cls, tag := tag, addr := addr, lo := lo, hi := hi }) :=
  congrArg Host.Outcome.next (State.hallGate_takes hjob htag hbusy _ _ _)

/-- A cas of size 0 brings its compare value in the high half (R346). -/
theorem execHatm_swaps : execHatm m15 job src cls tag addr false 4 lo hi s =
    .next (s.hallRequest { m15 := m15, kind := 2, op := 4, src := src, cls := cls, tag := tag, addr := addr, lo := lo, cmpLo := hi }) :=
  congrArg Host.Outcome.next (State.hallGate_takes hjob htag hbusy _ _ _)

theorem execKrelay_counts {kettle : Byte} (hmode : s.kettleMode kettle.toNat = 1) (gen : Word) :
    execKrelay job kettle gen s = .next (s.kettleAdd kettle.toNat 1 1) :=
  congrArg Host.Outcome.next ((State.hallGate_takes hjob htag hbusy _ _ _).trans (if_pos hmode))

end Commands

end Requests

/-! ## Replies at the issuer (R335, R340 to R345, R521) -/

section Replies
variable {s : State}

theorem State.onTag_free {n t : Nat} (h : sfind (s.xe n).tags t = none) (f : TagUse → State) : s.onTag n t f = s.stale := by
  rw [State.onTag, h]

theorem State.onTag_outstanding {n t : Nat} {u : TagUse} (h : sfind (s.xe n).tags t = some u) (hquar : u.quarantined = false) (f : TagUse → State) :
    s.onTag n t f = f u := by
  simp only [State.onTag, h]
  exact if_neg (Bool.eq_false_iff.1 hquar)

theorem State.hallReturn_load {u : TagUse} (hkind : u.kind = 0) (hdrop : u.drop = false) (hsize : u.size = false) (n t : Nat) (flags : BitVec 4) (lo hi : Dword) :
    s.hallReturn n t u flags lo hi =
      ((s.freeTag n t).modCtx (50 * n + u.core) u.ctx (fun k => (clearPend k u.rd false).setG u.rd lo)).numFlags (50 * n + u.core) u.ctx flags := by
  simp [State.hallReturn, hkind, hdrop, hsize]

theorem State.hallReturn_store {u : TagUse} (hkind : u.kind = 1) (hdrop : u.drop = false) (n t : Nat) (flags : BitVec 4) (lo hi : Dword) :
    s.hallReturn n t u flags lo hi =
      ((s.freeTag n t).modCtx (50 * n + u.core) u.ctx (fun k => clearPend k u.rd u.size)).numFlags (50 * n + u.core) u.ctx flags := by
  simp [State.hallReturn, hkind, hdrop]

section Stale
variable {stack : Fin 40} {tag : BitVec 11} (hnone : sfind (s.xe stack).tags tag.toNat = none) (status : Byte)
include hnone

theorem execHrsp_stale (flags : BitVec 4) (lo hi : Dword) : execHrsp stack tag status flags lo hi s = .next s.stale :=
  congrArg Host.Outcome.next (State.onTag_free hnone _)

theorem execHwack_stale : execHwack stack tag status s = .next s.stale :=
  congrArg Host.Outcome.next (State.onTag_free hnone _)

theorem execHbrsp_stale (units : BitVec 4) : execHbrsp stack tag status units s = .next s.stale :=
  congrArg Host.Outcome.next (State.onTag_free hnone _)

end Stale

section Outstanding
variable {stack : Fin 40} {tag : BitVec 11} {u : TagUse} (hu : sfind (s.xe stack).tags tag.toNat = some u)
include hu

theorem execQuarantineRelease_frees (hquar : u.quarantined = true) (hlate : s.expiry u ≤ s.now) :
    execQuarantineRelease stack tag s = .next (s.freeTag stack tag.toNat) := by
  simp only [execQuarantineRelease, hu]
  exact if_pos ⟨hquar, hlate⟩

variable (hquar : u.quarantined = false)
include hquar

/-- A load or an atomic of a core comes back: it completes, or its status refuses it. -/
theorem execHrsp_core (hcore : u.xe = false) (hkind : u.kind = 0) (status : Byte) (flags : BitVec 4) (lo hi : Dword) :
    execHrsp stack tag status flags lo hi s = .next (if status = 0 then s.hallReturn stack tag.toNat u flags lo hi
      else s.hallRefused stack tag.toNat u (status.toNat % 16) 0) :=
  congrArg Host.Outcome.next ((State.onTag_outstanding hu hquar _).trans (if_neg (by simp [hcore, hkind])))

theorem execHwack_store (hcore : u.xe = false) (hkind : u.kind = 1) : execHwack stack tag 0 s = .next (s.hallReturn stack tag.toNat u 0 0 0) :=
  congrArg Host.Outcome.next ((State.onTag_outstanding hu hquar _).trans
    ((if_neg (Bool.eq_false_iff.1 hcore)).trans ((if_neg (not_not.2 hkind)).trans (if_pos rfl))))

/-- The acknowledgement of a write piece of an XE: it has landed, or its status refuses it. -/
theorem execHwack_piece (hxe : u.xe = true) (status : Byte) : execHwack stack tag status s =
    .next (if status = 0 then s.modPiece stack (256 + tag.toNat) (fun q => { q with finished := true })
      else s.remoteFail stack tag.toNat u (status.toNat % 16) 0) :=
  congrArg Host.Outcome.next ((State.onTag_outstanding hu hquar _).trans (if_pos hxe))

theorem execHbrsp_piece (hxe : u.xe = true) (status : Byte) (units : BitVec 4) : execHbrsp stack tag status units s =
    .next (if status = 0 then s else s.remoteFail stack tag.toNat u (status.toNat % 16) 0) :=
  congrArg Host.Outcome.next ((State.onTag_outstanding hu hquar _).trans (if_neg (by simp [hxe])))

/-- An operation past its expiry ends with status 8 (R343). -/
theorem execHangWatchdogExpiry_ends (hlate : s.expiry u ≤ s.now) : execHangWatchdogExpiry stack tag s =
    if u.xe then .next (s.remoteFail stack tag.toNat u 8 1) else .next (s.hallRefused stack tag.toNat u 8 1) := by
  simp only [execHangWatchdogExpiry, hu]
  exact if_neg (by simp [hquar, hlate])

end Outstanding

/-- A data cell of a block read takes the next place of its piece, which lands when it is full (R342). -/
theorem execHbdat_fills {die : Byte} {n : Fin 40} {tag : BitVec 17} {p : Piece} (hdie : die.toNat = 0x40 + n.val)
    (hp : sfind (s.xe n).pieces (256 + tag.toNat % 2048) = some p) (hsrc : p.srcSpace = 3) (hopen : p.finished = false) (hwait : p.full = false)
    (job : BitVec 16) (src : BitVec 12) (data : Payload) :
    let q := p.fill (32 * popCount p.got.toNat 32) data.toNat 1
    let t := s.modPiece n (256 + tag.toNat % 2048) (fun _ => q)
    execHbdat die job src tag data s = .next (if q.full then t.pieceLand n (256 + tag.toNat % 2048) else t) := by
  simp only [execHbdat, stackOfDie_eq n hdie, hp]
  exact if_neg (by simp [hsrc, hopen, hwait])

end Replies

/-- Settles O45: a request of space 1 or 2 by what `State.hallKettle` or `State.hallRegion` does with it, a reply by the tag it names and what that stands for. -/
theorem hallOperations : Obligations.HallOperations := by
  unfold Obligations.HallOperations
  refine ⟨?requests, ?replies⟩
  case requests =>
    intro s m15 job src cls tag addr lo hi i r cas moved hjob htag hbusy hglobal
    simp only [exec_hrd, exec_hatm, execHrd_requests hjob htag hbusy, execHatm_adds hjob htag hbusy, execHatm_swaps hjob htag hbusy]
    refine ⟨fun hspace hgood => ?read, fun hspace hgood hlo hhi => ?add, fun hspace hgood hvalid hbit => ?region⟩
    case read => rw [State.hallRequest_kettle hglobal (by simp) (by simp) hgood hspace, State.hallKettle_reads rfl]
    case add =>
      have hkettle : s.hallRequest r = s.hallKettle r := State.hallRequest_kettle hglobal (by simp [r]) (by simp [r]) hgood hspace
      exact ⟨fun hmode hfits => congrArg _ (hkettle.trans (State.hallKettle_counts rfl hlo hhi hmode hfits)),
        fun hmode => congrArg _ (hkettle.trans (State.hallKettle_refuses rfl hlo hhi hmode))⟩
    case region =>
      have hregion : s.hallRequest cas = s.hallRegion cas := State.hallRequest_region hglobal (by simp [cas, r]) (by simp [cas]) hgood hspace
      exact ⟨fun hmine hsame => congrArg _ (hregion.trans (State.hallRegion_moves rfl hvalid hbit hmine hsame)),
        fun hother => congrArg _ (hregion.trans (State.hallRegion_refuses rfl hvalid hother))⟩
  case replies =>
    intro s stack tag status flags lo hi units die job src rtag data u p kettle gen n t core freed code expires
    simp only [exec_hrsp, exec_hwack, exec_hbrsp, exec_hangWatchdogExpiry, exec_quarantineRelease, exec_hbdat, exec_krelay]
    refine ⟨fun hu hquar => ?outstanding, fun hu hquar hlate => execQuarantineRelease_frees hu hquar hlate,
      fun hnone => ⟨execHrsp_stale hnone status flags lo hi, execHwack_stale hnone status, execHbrsp_stale hnone status units⟩,
      fun hdie hp hsrc hopen hwait => execHbdat_fills hdie hp hsrc hopen hwait job src data,
      fun hjob htag hbusy hmode => execKrelay_counts hjob htag hbusy hmode gen⟩
    have hrefusedPiece (hxe : u.xe = true) (hstatus : status ≠ 0) := (execHwack_piece hu hquar hxe status).trans (congrArg _ (if_neg hstatus))
    have hrefusedBlock (hxe : u.xe = true) (hstatus : status ≠ 0) := (execHbrsp_piece hu hquar hxe status units).trans (congrArg _ (if_neg hstatus))
    refine ⟨fun hcore hkind hdrop hsize => ?load, fun hcore hkind hstatus => ?refused, fun hcore hkind hdrop => ?store,
      fun hxe => (execHwack_piece hu hquar hxe 0).trans (congrArg _ (if_pos rfl)), fun hxe hstatus => ⟨hrefusedPiece hxe hstatus, hrefusedBlock hxe hstatus⟩,
      fun hxe => (execHbrsp_piece hu hquar hxe 0 units).trans (congrArg _ (if_pos rfl)),
      fun hlate hxe => (execHangWatchdogExpiry_ends hu hquar hlate).trans (if_pos hxe),
      fun hlate hcore => (execHangWatchdogExpiry_ends hu hquar hlate).trans (if_neg (Bool.eq_false_iff.1 hcore))⟩
    case load =>
      rw [execHrsp_core hu hquar hcore hkind, if_pos rfl, State.hallReturn_load hkind hdrop hsize]
      rfl
    case refused => rw [execHrsp_core hu hquar hcore hkind, if_neg hstatus]
    case store =>
      rw [execHwack_store hu hquar hcore hkind, State.hallReturn_store hkind hdrop]
      rfl

end Sys2Proof.Machine
end

section
/-!
The commit of a result record's tokens (R382, R383): what `commitToks` appends, and what each of its end codes says. Every lemma is by the recursion of
`commitToks`: no token left, a token that ends the request, a token after which the commit goes on. The statement CommitTokens is put together from them.
-/
namespace Sys2Proof.Machine

section Commit
variable (c : Nat) (r : Request)

/-- A request with one more token committed (R383). -/
def Request.withTok (r : Request) (t : Word) : Request := { r with toks := r.toks ++ [t], pos := r.pos + 1 }

@[simp] theorem Request.withTok_toks (t : Word) : (r.withTok t).toks = r.toks ++ [t] := rfl
@[simp] theorem Request.withTok_pos (t : Word) : (r.withTok t).pos = r.pos + 1 := rfl
@[simp] theorem Request.withTok_maxNew (t : Word) : (r.withTok t).maxNew = r.maxNew := rfl
@[simp] theorem Request.withTok_stops (t : Word) : (r.withTok t).stops = r.stops := rfl

/-- The code with which a token ends its request, 0 where it does not (R383): a stop token, max_new tokens, the context's end. -/
def Request.endBy (c : Nat) (r : Request) (t : Word) : Nat :=
  if r.stops.contains t then 1 else if (r.withTok t).maxNew ≤ (r.withTok t).toks.length then 2 else if c ≤ (r.withTok t).pos then 4 else 0

/-- What each code of a token says of it. -/
theorem Request.endBy_cases (t : Word) :
    (r.endBy c t = 1 ∧ t ∈ r.stops) ∨ (r.endBy c t = 2 ∧ r.maxNew ≤ r.toks.length + 1) ∨ (r.endBy c t = 4 ∧ c ≤ r.pos + 1) ∨
      (r.endBy c t = 0 ∧ t ∉ r.stops ∧ r.toks.length + 1 < r.maxNew ∧ r.pos + 1 < c) := by
  unfold Request.endBy
  split_ifs with hstop hmax hctx
  · exact .inl ⟨rfl, by simpa using hstop⟩
  · exact .inr (.inl ⟨rfl, by simpa using hmax⟩)
  · exact .inr (.inr (.inl ⟨rfl, by simpa using hctx⟩))
  · exact .inr (.inr (.inr ⟨rfl, by simpa using hstop, by simpa using hmax, by simpa using hctx⟩))

theorem Request.of_endBy_eq_zero {t : Word} (h : r.endBy c t = 0) : t ∉ r.stops ∧ r.toks.length + 1 < r.maxNew ∧ r.pos + 1 < c := by
  rcases r.endBy_cases c t with ⟨he, -⟩ | ⟨he, -⟩ | ⟨he, -⟩ | ⟨-, hall⟩
  · simp [he] at h
  · simp [he] at h
  · simp [he] at h
  · exact hall

theorem commitToks_cons (t : Word) (ts : List Word) : commitToks c r (t :: ts) =
    if r.endBy c t ≠ 0 then (r.withTok t, [t], r.endBy c t)
    else ((commitToks c (r.withTok t) ts).1, t :: (commitToks c (r.withTok t) ts).2.1, (commitToks c (r.withTok t) ts).2.2) := rfl

theorem commitToks_cons_ends {t : Word} (ts : List Word) {e : Nat} (h : r.endBy c t = e) (he : e ≠ 0) : commitToks c r (t :: ts) = (r.withTok t, [t], e) := by
  rw [commitToks_cons, h, if_pos he]

theorem commitToks_cons_goes {t : Word} (ts : List Word) (h : r.endBy c t = 0) : commitToks c r (t :: ts) =
    ((commitToks c (r.withTok t) ts).1, t :: (commitToks c (r.withTok t) ts).2.1, (commitToks c (r.withTok t) ts).2.2) := by
  rw [commitToks_cons, if_neg (by simp [h])]

/-- The tokens committed are appended in order, and are the first ones of the record (R382). -/
theorem commitToks_appends (ts : List Word) : (commitToks c r ts).1.toks = r.toks ++ (commitToks c r ts).2.1 ∧
    (commitToks c r ts).1.pos = r.pos + (commitToks c r ts).2.1.length ∧ (commitToks c r ts).2.1 <+: ts := by
  induction ts generalizing r with
  | nil => simp [commitToks]
  | cons t ts ih =>
    by_cases h : r.endBy c t = 0
    · obtain ⟨htoks, hpos, hpre⟩ := ih (r.withTok t)
      rw [commitToks_cons_goes c r ts h]
      refine ⟨by simp [htoks], ?_, List.cons_prefix_cons.2 ⟨rfl, hpre⟩⟩
      simp only [hpos, Request.withTok_pos, List.length_cons]
      omega
    · simp [commitToks_cons_ends c r ts rfl h]

/-- With code 0 no token ended the request: all are committed, and none is a stop token. -/
theorem commitToks_zero {ts : List Word} (h : (commitToks c r ts).2.2 = 0) : (commitToks c r ts).2.1 = ts ∧ ∀ t ∈ ts, t ∉ r.stops := by
  induction ts generalizing r with
  | nil => simp [commitToks]
  | cons t ts ih =>
    rcases r.endBy_cases c t with ⟨he, -⟩ | ⟨he, -⟩ | ⟨he, -⟩ | ⟨he, hstop, -, -⟩
    · simp [commitToks_cons_ends c r ts he] at h
    · simp [commitToks_cons_ends c r ts he] at h
    · simp [commitToks_cons_ends c r ts he] at h
    · rw [commitToks_cons_goes c r ts he] at h ⊢
      obtain ⟨hall, hnone⟩ := ih (r.withTok t) h
      exact ⟨by rw [hall], List.forall_mem_cons.2 ⟨hstop, hnone⟩⟩

/-- With code 1 the last token committed is the first stop token. -/
theorem commitToks_one {ts : List Word} (h : (commitToks c r ts).2.2 = 1) :
    ∃ t l, (commitToks c r ts).2.1 = l ++ [t] ∧ t ∈ r.stops ∧ ∀ w ∈ l, w ∉ r.stops := by
  induction ts generalizing r with
  | nil => simp [commitToks] at h
  | cons t ts ih =>
    rcases r.endBy_cases c t with ⟨he, hstop⟩ | ⟨he, -⟩ | ⟨he, -⟩ | ⟨he, hstop, -, -⟩
    · exact ⟨t, [], by simp [commitToks_cons_ends c r ts he], hstop, by simp⟩
    · simp [commitToks_cons_ends c r ts he] at h
    · simp [commitToks_cons_ends c r ts he] at h
    · rw [commitToks_cons_goes c r ts he] at h ⊢
      obtain ⟨u, l, heq, hu, hl⟩ := ih (r.withTok t) h
      exact ⟨u, t :: l, by simp [heq], hu, List.forall_mem_cons.2 ⟨hstop, hl⟩⟩

/-- With code 2 the request has max_new tokens, with code 4 it stands at the context's end. -/
theorem commitToks_two_four (ts : List Word) :
    ((commitToks c r ts).2.2 = 2 → r.maxNew ≤ (commitToks c r ts).1.toks.length) ∧ ((commitToks c r ts).2.2 = 4 → c ≤ (commitToks c r ts).1.pos) := by
  induction ts generalizing r with
  | nil => simp [commitToks]
  | cons t ts ih =>
    rcases r.endBy_cases c t with ⟨he, -⟩ | ⟨he, hmax⟩ | ⟨he, hctx⟩ | ⟨he, -⟩
    · simp [commitToks_cons_ends c r ts he]
    · simp [commitToks_cons_ends c r ts he, hmax]
    · simp [commitToks_cons_ends c r ts he, hctx]
    · rw [commitToks_cons_goes c r ts he]
      exact ih (r.withTok t)

/-- A request below max_new does not pass it, and one below the context's end does not pass that. -/
theorem commitToks_bounded (ts : List Word) :
    (r.toks.length < r.maxNew → (commitToks c r ts).1.toks.length ≤ r.maxNew) ∧ (r.pos < c → (commitToks c r ts).1.pos ≤ c) := by
  induction ts generalizing r with
  | nil => exact ⟨Nat.le_of_lt, Nat.le_of_lt⟩
  | cons t ts ih =>
    by_cases he : r.endBy c t = 0
    · obtain ⟨-, hmax, hctx⟩ := r.of_endBy_eq_zero c he
      obtain ⟨htoks, hpos⟩ := ih (r.withTok t)
      rw [commitToks_cons_goes c r ts he]
      exact ⟨fun _ => htoks (by simpa using hmax), fun _ => hpos (by simpa using hctx)⟩
    · simp [commitToks_cons_ends c r ts rfl he]

end Commit

/-- Settles O49, by the recursion over the record's tokens. -/
theorem commitTokens : Obligations.CommitTokens := by
  unfold Obligations.CommitTokens
  intro c r ts z
  obtain ⟨htoks, hpos, hprefix⟩ := commitToks_appends c r ts
  obtain ⟨htwo, hfour⟩ := commitToks_two_four c r ts
  obtain ⟨hmax, hctx⟩ := commitToks_bounded c r ts
  exact ⟨htoks, hpos, hprefix, commitToks_zero c r, commitToks_one c r, htwo, hfour, hmax, hctx⟩

end Sys2Proof.Machine
end

section
/-!
The front door (R359 to R372, R386, R391, R393): the checks of R363 in their order, what a message does once they let it through, and the events of a request, of a
fetch and of a port. The statements RequestProtocol, FrontDoorEvents and FinalTokensRepeat are put together from them.
-/
namespace Sys2Proof.Machine

/-! ## The checks of R363 -/

section Checks
variable {s : State} {f : Frame} {m : List Byte} {k : List Byte}

theorem State.fdTake_notOk (hok : s.frameOk f = false) : s.fdTake f false m = (none, s) := by
  simp [State.fdTake, hok]

theorem State.fdTake_malformed (hok : s.frameOk f = true) (hbad : malformed false m = true) :
    s.fdTake f false m = (none, s.bump (fdReg f.peer.port 0x078) 0 16 1) := by
  simp [State.fdTake, hok, hbad]

theorem State.fdTake_noKey (hok : s.frameOk f = true) (hform : malformed false m = false) (hkey : s.job.keys.length ≤ (hdrOf m).key) :
    s.fdTake f false m = (none, (s.bump (fdReg f.peer.port 0x074) 0 16 1).irq .fdoor f.peer.port 1) := by
  simp [State.fdTake, State.keyOfMsg, hok, hform, hkey]

theorem State.fdTake_badCode (hok : s.frameOk f = true) (hform : malformed false m = false) (hkey : s.job.keys[(hdrOf m).key]? = some k)
    (hcode : (hmac256 k (m.take (m.length - 16))).take 16 ≠ m.drop (m.length - 16)) :
    s.fdTake f false m = (none, (s.bump (fdReg f.peer.port 0x074) 0 16 1).irq .fdoor f.peer.port 1) := by
  simp [State.fdTake, State.keyOfMsg, hok, hform, hkey, hcode]

theorem State.fdTake_stale (hok : s.frameOk f = true) (hform : malformed false m = false) (hkey : s.job.keys[(hdrOf m).key]? = some k)
    (hcode : (hmac256 k (m.take (m.length - 16))).take 16 = m.drop (m.length - 16)) (hstale : seqFresh (sget (0, 0) s.serving.rx (hdrOf m).key) (hdrOf m).seq = false) :
    s.fdTake f false m = (none, (s.bump (fdReg f.peer.port 0x074) 16 16 1).irq .fdoor f.peer.port 1) := by
  simp [State.fdTake, State.keyOfMsg, hok, hform, hkey, hcode, hstale]

theorem State.fdMessage_refused {t : State} (h : s.fdTake f false m = (none, t)) (ty : Nat) (g : State → Hdr → State) : s.fdMessage f ty m g = t := by
  simp [State.fdMessage, h]

theorem State.fdMessage_taken {t : State} {h : Hdr} {ty : Nat} (htake : s.fdTake f false m = (some h, t)) (hty : h.ty = ty) (g : State → Hdr → State) :
    s.fdMessage f ty m g = g (t.wakeFor (if ty = 1 then 1 else 5)) h := by
  simp [State.fdMessage, htake, hty]

/-- A message that the checks of R363 refuse leaves the state that they leave. -/
theorem exec_of_fdTake_none {c : Instr} {t : State} (hc : c ∈ ([.submit f m, .cancel f m, .status f m, .ack f m] : List Instr)) (h : s.fdTake f false m = (none, t)) :
    exec c s = .next t := by
  simp only [List.mem_cons, List.not_mem_nil, or_false] at hc
  obtain rfl | rfl | rfl | rfl := hc
  · exact congrArg _ (State.fdMessage_refused h 1 _)
  · exact congrArg _ (State.fdMessage_refused h 3 _)
  · exact congrArg _ (State.fdMessage_refused h 4 _)
  · exact congrArg _ (State.fdMessage_refused h 6 _)

end Checks

/-! ## SUBMIT, CANCEL, STATUS and ACK (R366, R368 to R372, R386) -/

section Messages
variable {s : State} {p : Peer} {h : Hdr} {b : List Byte} {r : Request}

theorem State.submit_new (hnew : s.req h.id = none) (hbusy : s.restart.busy = false) (himago : s.stage = .imago) (hstop : s.stopping = false) (hpart : s.partFault b = 0)
    (hroom : (s.reqsIn (fun x => decide (x = .assembling))).length < 64) :
    let new : Request := { id := BitVec.ofNat 64 h.id, key := h.key, peer := p, born := s.now, head := slice b 2 62 }
    s.submit p h b = ({ s with serving := { s.serving with reqs := s.serving.reqs ++ [new] } } : State).keepPart p h new b := by
  simp [State.submit, hnew, hbusy, himago, hstop, hpart, Nat.not_le.2 hroom]

theorem State.submit_restarting (hnew : s.req h.id = none) (hbusy : s.restart.busy = true) : s.submit p h b = s.fdBusy p h 4 := by
  simp [State.submit, hnew, hbusy]

theorem State.submit_queued (hreq : s.req h.id = some r) (hstate : r.state = .queued) :
    s.submit p h b = (s.modReq h.id (fun q => { q with peer := p, key := h.key })).fdAck p h 1 0xFFFF (s.queuePos h.id) := by
  simp only [State.submit, hreq, hstate]

theorem State.cancelReq_queued (hbody : b = []) (hreq : s.req h.id = some r) (hstate : r.state = .queued) :
    s.cancelReq p h b = ((s.modReq h.id (fun q => { q with peer := p, key := h.key })).fdAck p h 2 0xFFFF 0xFFFFFFFF).endReq h.id r.toks.length [] 3 s.beatNow := by
  simp [State.cancelReq, hbody, hreq, hstate]

theorem State.cancelReq_inSlot (hbody : b = []) (hreq : s.req h.id = some r) (hstate : r.state = .decode ∨ r.state = .prefill) :
    s.cancelReq p h b = ((s.modReq h.id (fun q => { q with peer := p, key := h.key })).modReq h.id
      (fun q => { q with cancel := (if q.cancel.isSome then q.cancel else some s.serving.begun) })).fdAck p h 2 r.slot 0xFFFFFFFF := by
  rcases hstate with hstate | hstate <;> simp [State.cancelReq, hbody, hreq, hstate]

theorem State.statusReq_device {part : List Byte} (hbody : b = 0 :: part) (hlen : b.length = 8) (hzero : beNat (slice b 1 3) = 0) :
    s.statusReq p h b = s.fdSend p h.key 4 0 ([0] ++ beBytes 1 s.statusStage ++ beBytes 2 (s.reqsIn inSlot).length ++ beBytes 2 s.serving.queue.length ++
      beBytes 2 (s.reqsIn (fun x => decide (x = .assembling))).length ++ beBytes 4 (s.wing / 1000) ++ beBytes 4 0 ++ beBytes 8 s.beatNow ++ beBytes 8 s.nextBoundary) := by
  have hkind : beNat (slice b 0 1) = 0 := by simp [hbody, slice, beNat]
  simp only [State.statusReq, hlen, hzero, hkind, ne_eq, not_true_eq_false, Nat.not_lt_zero, or_self, if_false, if_true]

end Messages

/-- Settles O46: the checks by the lemmas about `State.fdTake`, then each message by what its own operation does. -/
theorem requestProtocol : Obligations.RequestProtocol := by
  unfold Obligations.RequestProtocol
  refine ⟨?checks, ?messages⟩
  case checks =>
    intro s f m c k hc p h unproved
    exact ⟨fun hok => exec_of_fdTake_none hc (State.fdTake_notOk hok), fun hok hbad => exec_of_fdTake_none hc (State.fdTake_malformed hok hbad),
      fun hok hform hkey => exec_of_fdTake_none hc (State.fdTake_noKey hok hform hkey),
      fun hok hform hkey hcode => exec_of_fdTake_none hc (State.fdTake_badCode hok hform hkey hcode),
      fun hok hform hkey hcode hstale => exec_of_fdTake_none hc (State.fdTake_stale hok hform hkey hcode hstale)⟩
  case messages =>
    intro s f m h t r part p b bySubmit u new known htake
    have htaken {ty : Nat} (hty : h.ty = ty) (g : State → Hdr → State) := State.fdMessage_taken htake hty g
    refine ⟨fun hty hnew hbusy himago hstop hpart hroom => congrArg _ ((htaken hty _).trans (State.submit_new hnew hbusy himago hstop hpart hroom)),
      fun hty hnew hbusy => congrArg _ ((htaken hty _).trans (State.submit_restarting hnew hbusy)),
      fun hty hreq hstate => congrArg _ ((htaken hty _).trans (State.submit_queued hreq hstate)),
      fun hty hbody hreq hstate => congrArg _ ((htaken hty _).trans (State.cancelReq_queued hbody hreq hstate)),
      fun hty hbody hreq hstate => congrArg _ ((htaken hty _).trans (State.cancelReq_inSlot hbody hreq hstate)),
      fun hty hbody hlen hzero => congrArg _ ((htaken hty _).trans (State.statusReq_device hbody hlen hzero)), fun hty hreq hstate hlen hzero hseq => congrArg _ ((htaken hty _).trans ?ack)⟩
    have hgood : b.length = 16 ∧ beNat (slice b 0 1) = 0 ∧ r.state = .ended ∧ r.seqs.contains (h.key, beNat (slice b 8 8)) :=
      ⟨hlen, hzero, hstate, List.contains_iff_mem.2 hseq⟩
    have hreq' : (t.wakeFor (if 6 = 1 then 1 else 5)).req h.id = some r := hreq
    simp only [hreq']
    exact if_pos hgood

/-! ## The ports and their own addresses (R359, R393) -/

section Ports
variable {s : State} {f : Frame}

theorem execArpRequest_answers {target : BitVec 32} (hok : s.frameOk f = true) (hv4 : f.peer.v6 = false) (hip : s.ip4 f.peer.port = some target.toNat) (mac : BitVec 48) :
    execArpRequest f target mac s = .next (s.emit (.arp f.peer target (s.mac f.peer.port))) := if_pos (by simp [hok, hv4, hip])

theorem execNeighbourSolicitation_answers {target : BitVec 128} (hok : s.frameOk f = true) (hv6 : f.peer.v6 = true) (hip : s.ip6 f.peer.port = target.toNat) (mac : BitVec 48) :
    execNeighbourSolicitation f target mac s = .next (s.emit (.neighbour f.peer target (s.mac f.peer.port))) := if_pos ⟨hok, hv6, hip⟩

theorem execFrontDoorLinkUp_comes {port : Fin 2} (hdst : s.dst ≠ .d3) (hreset : s.rstLow = false) :
    execFrontDoorLinkUp port s = .next (s.setFld (fdReg port 0x044) 0 4 (5 + 2 * s.fld (fdReg port 0x048) 1 1)) := if_neg (by simp [hdst, hreset])

end Ports

/-! ## The times of a request (R371, R372) -/

section Requests
variable {s : State} {id : Dword} {r : Request}

theorem execAssemblyTimeout_drops (hreq : s.req id.toNat = some r) (hstate : r.state = .assembling) (hlate : r.born + 1000000000 ≤ s.now) :
    execAssemblyTimeout id s = .next (s.dropReq id.toNat) := by
  simp only [execAssemblyTimeout, hreq]
  exact if_pos ⟨hstate, hlate⟩

theorem execLingerExpiry_drops (hreq : s.req id.toNat = some r) (hstate : r.state = .ended) (hlate : r.finalAt + 1000000000 * s.fld (fdReg 0 0x0A8) 0 10 ≤ s.now) :
    execLingerExpiry id s = .next (s.dropReq id.toNat) := by
  simp only [execLingerExpiry, hreq]
  exact if_pos ⟨hstate, hlate⟩

theorem execTokensResend_resends (hreq : s.req id.toNat = some r) (hstate : r.state = .ended) (hacked : r.acked = false) (hfew : r.resends < 10)
    (hlate : r.sentAt + 100000000 ≤ s.now) : execTokensResend id s =
      .next ((s.modReq id.toNat (fun q => { q with resends := q.resends + 1, sentAt := s.now })).sendTokens id.toNat r.final true) := by
  simp only [execTokensResend, hreq]
  exact if_pos ⟨hstate, by simp [hacked], hfew, hlate⟩

theorem execTokensResend_rests (hreq : s.req id.toNat = some r) (hrest : r.acked = true ∨ 10 ≤ r.resends ∨ s.now < r.sentAt + 100000000) :
    execTokensResend id s = .next s := by
  simp only [execTokensResend, hreq]
  refine if_neg ?_
  rintro ⟨-, hacked, hfew, hlate⟩
  rcases hrest with h | h | h
  · simp [h] at hacked
  · omega
  · omega

/-- What an update of the first element that satisfies `p` is elsewhere does not matter. -/
theorem modFirst_congr {α : Type} {p : α → Bool} {g g' : α → α} {c : α} : ∀ {l : List α}, l.find? p = some c → g c = g' c → modFirst p g l = modFirst p g' l
  | [], h, _ => by simp at h
  | x :: t, h, hsame => by
    cases hx : p x with
    | true =>
      obtain rfl : x = c := by simpa [hx] using h
      simp [modFirst, hx, hsame]
    | false =>
      have ht : t.find? p = some c := by simpa [hx] using h
      simp [modFirst, hx, modFirst_congr ht hsame]

/-- The request with an id after it is updated. -/
theorem State.req_modReq {n : Nat} {g : Request → Request} (hreq : s.req n = some r) (hid : (g r).id = r.id) : (s.modReq n g).req n = some (g r) :=
  find?_modFirst hreq (by
    have hfound := List.find?_some (hreq : s.serving.reqs.find? _ = some r)
    rwa [hid])

/-- An update that writes what it would compute from the request that is there is the same update. -/
theorem State.modReq_congr {n : Nat} {g g' : Request → Request} (hreq : s.req n = some r) (hsame : g r = g' r) : s.modReq n g = s.modReq n g' := by
  simp only [State.modReq, modFirst_congr hreq hsame]

@[simp] theorem State.req_fdSend (p : Peer) (key ty n : Nat) (body : List Byte) (i : Nat) : (s.fdSend p key ty n body).req i = s.req i := by
  unfold State.fdSend
  split <;> rfl

/-- A request whose final TOKENS is sent again keeps all but the numbers of its sendings. -/
theorem State.req_sendTokens {n : Nat} {body : List Byte} (hreq : s.req n = some r) : ∃ l, (s.sendTokens n body true).req n = some { r with seqs := l } := by
  simp only [State.sendTokens, hreq, if_true]
  exact ⟨_, State.req_modReq (by rw [State.req_fdSend, hreq]) rfl⟩

end Requests

/-! ## The fetch of a segment (R391) -/

section Fetch
variable {s : State} {x : Seg}

/-- A chunk asked for 20 ms ago is asked for again; after ten requests without an answer the source is given up (R391). -/
theorem execFetchChunkTimeout_again {seg : Word} {chunk : Nat} (hseg : s.job.segs.find? (fun y => decide ((segRec s.job.manifest y.idx).id = seg.toNat)) = some x)
    (hdel : x.delivered = false) (hasked : ∃ a ∈ x.asked, a.1 = chunk ∧ a.2 + 20000000 ≤ s.now) :
    execFetchChunkTimeout seg chunk s = .next (if 9 ≤ x.silent
      then (s.modSeg x.idx (fun y => { y with src := nextSrc s.job.manifest x.idx y.src, asked := [], silent := 0 })).fetchAll
      else (s.modSeg x.idx (fun y => { y with silent := y.silent + 1 })).sendFreq x.idx chunk 1) := by
  have hany : x.asked.any (fun a => decide (a.1 = chunk) && decide (a.2 + 20000000 ≤ s.now)) = true := by simpa using hasked
  have hguard : ¬ (x.delivered = true ∨ (!x.asked.any (fun a => decide (a.1 = chunk) && decide (a.2 + 20000000 ≤ s.now))) = true) := by simp [hdel, hany]
  simp only [execFetchChunkTimeout, hseg, if_neg hguard]
  split <;> rfl

/-- A chunk of a segment that is fetched, as its header and the manifest describe it. -/
structure Seg.chunkFits (o : List Word) (x : Seg) (b : List Byte) : Prop where
  header : 16 ≤ b.length
  aligned : beNat (slice b 4 8) % 1024 = 0
  inside : beNat (slice b 4 8) < (segRec o x.idx).len
  whole : (b.drop 16).length = min 1024 ((segRec o x.idx).len - beNat (slice b 4 8))
  reserved : beNat (slice b 12 4) = 0

/-- A chunk that fits a segment is kept; the last one makes the segment whole (R391). -/
theorem execFdata_takesChunk {f : Frame} {msg : List Byte} {h : Hdr} {t : State} (htake : s.fdTake f true msg = (some h, t))
    (hseg : t.job.segs.find? (fun y => decide ((segRec t.job.manifest y.idx).id = beNat (slice (bodyOf msg) 0 4))) = some x)
    (hfits : x.chunkFits t.job.manifest (bodyOf msg)) (hdel : x.delivered = false) :
    let c := beNat (slice (bodyOf msg) 4 8) / 1024
    let got := sput x.got c ((bodyOf msg).drop 16)
    let kept := t.modSeg x.idx (fun y => { y with got := got, asked := y.asked.filter (fun a => decide (a.1 ≠ c)), silent := 0 })
    execFdata f msg s = .next (if got.length = (segRec t.job.manifest x.idx).chunks then (kept.segWhole x.idx (got.flatMap Prod.snd)).fetchAll else kept.fetchSeg x.idx 5) := by
  intro c got kept
  obtain ⟨hheader, haligned, hinside, hwhole, hreserved⟩ := hfits
  have hguard : ¬ ((bodyOf msg).length < 16 ∨ beNat (slice (bodyOf msg) 4 8) % 1024 ≠ 0 ∨ (segRec t.job.manifest x.idx).len ≤ beNat (slice (bodyOf msg) 4 8) ∨
      ((bodyOf msg).drop 16).length ≠ min 1024 ((segRec t.job.manifest x.idx).len - beNat (slice (bodyOf msg) 4 8)) ∨ beNat (slice (bodyOf msg) 12 4) ≠ 0) := by
    rintro (h | h | h | h | h) <;> omega
  have hopen : ¬ x.delivered = true := by simp [hdel]
  simp only [execFdata, htake, hseg, if_neg hguard, if_neg hopen]
  split <;> rfl

end Fetch

/-- Settles O47: each event by its own lemma. -/
theorem frontDoorEvents : Obligations.FrontDoorEvents := by
  unfold Obligations.FrontDoorEvents
  intro s f target target6 mac data id r port seg chunk x msg h t off d rec_
  refine ⟨fun hok hv4 hip => execArpRequest_answers hok hv4 hip mac, fun hok hv6 hip => execNeighbourSolicitation_answers hok hv6 hip mac,
    fun hok hown => if_pos ⟨hok, hown⟩, execAssemblyTimeout_drops, execTokensResend_resends, execLingerExpiry_drops,
    fun htake hjob hseg hheader haligned hinside hwhole hreserved hdel => ?fdata, fun hseg hdel hasked => ?timeout, rfl, execFrontDoorLinkUp_comes⟩
  case fdata =>
    have hfits : x.chunkFits t.job.manifest (bodyOf msg) := hjob ▸ ⟨hheader, haligned, hinside, hwhole, hreserved⟩
    have hkeeps := execFdata_takesChunk htake (hjob ▸ hseg) hfits hdel
    rw [hjob] at hkeeps
    exact ⟨fun hpart => hkeeps.trans (congrArg _ (if_neg hpart)), fun hlast => hkeeps.trans (congrArg _ (if_pos hlast))⟩
  case timeout =>
    have hagain := execFetchChunkTimeout_again hseg hdel hasked
    exact ⟨fun hfew => hagain.trans (congrArg _ (if_neg (by omega))), fun hmany => hagain.trans (congrArg _ (if_pos hmany))⟩

/-- Settles O48: a resend counts and dates the request and then sends its final TOKENS, which keeps both. -/
theorem finalTokensRepeat : Obligations.FinalTokensRepeat := by
  unfold Obligations.FinalTokensRepeat
  intro s id r hreq hstate
  refine ⟨fun hacked hfew hlate => ⟨_, execTokensResend_resends hreq hstate hacked hfew hlate, ?_, ?_⟩, execTokensResend_rests hreq⟩
  · rw [State.modReq_congr (g' := fun q => { q with resends := r.resends + 1, sentAt := s.now }) hreq rfl]
  · obtain ⟨l, hsent⟩ := State.req_sendTokens (body := r.final) (State.req_modReq (g := fun q => { q with resends := q.resends + 1, sentAt := s.now }) hreq rfl)
    exact ⟨_, hsent, rfl, rfl, rfl⟩

end Sys2Proof.Machine
end

section
/-!
Job restarts and the notices between the ranks (R375, R513 to R517, R519, R522 to R524): what each notice and each timeout of a restart does where its condition holds.
The statement JobRestarts is put together from them.
-/
namespace Sys2Proof.Machine

section Restarts
variable {s : State}

theorem execJobRestart_begins (hdue : s.faultsDue ≠ []) (hmay : s.mayRestart = true) :
    execJobRestart s = .next (s.restartWith (s.restart.num + 1) true (s.faultsDue.map (fun f => { f with rank := s.jobRank }))) := if_neg (by simp [hdue, hmay])

theorem State.goBeat_ahead {k : Nat} (hahead : s.now ≤ s.bnd (s.goNamed k)) : s.goBeat k = s.goNamed k := if_neg (Nat.not_lt.2 hahead)

section Notices
variable {job : BitVec 16} (rank : BitVec 16) {num : Word}

theorem State.noticeOk_of {job : BitVec 16} (hours : s.jobTag ≠ 0 ∧ job.toNat = s.jobTag) (hjob : 2 ≤ s.jobPhase) : s.noticeOk job = true := by
  simp [State.noticeOk, hours.1, hours.2, hjob]

variable (hours : s.jobTag ≠ 0 ∧ job.toNat = s.jobTag)
include hours

theorem execRestartNotice_begins (hjob : 2 ≤ s.jobPhase) (hnew : s.restart.num < num.toNat) (hmay : s.mayRestart = true) (cls code : Byte) :
    let heard : FaultRec := { cls := 9, code := cls.toNat, die := 0xFF, inst := 0, flags := 0, rank := rank.toNat, t0 := s.now }
    execRestartNotice job rank num cls code s = .next (s.restartWith num.toNat false (heard :: s.faultsDue.map (fun f => { f with rank := s.jobRank }))) :=
  (if_neg (by simp [State.noticeOk_of hours hjob, Nat.not_le.2 hnew])).trans (if_pos hmay)

/-- READY of a rank that rank 0 does not hold yet is held, and GO is tried (R523). -/
theorem execReadyNotice_holds (hjob : s.jobPhase = 3) (hrank : s.jobRank = 0) (hnum : num.toNat = s.restart.num) (hbusy : s.restart.busy = true)
    (hopen : s.restart.resume = none) (hnew : rank.toNat ∉ s.restart.ready) :
    execReadyNotice job rank num s = .next (({ s with restart := { s.restart with ready := rank.toNat :: s.restart.ready } } : State).tryGo) := by
  have hnotice := State.noticeOk_of hours (by omega)
  simp [execReadyNotice, hnotice, hrank, hnum, hjob, hbusy, hopen, hnew]

theorem execGoNotice_fixes (hjob : s.jobPhase = 3) (hnum : num.toNat = s.restart.num) (hbusy : s.restart.busy = false) (hfirst : s.serving.first = none) {k : Word}
    (hahead : s.now ≤ s.bnd (s.goNamed k.toNat)) :
    execGoNotice job rank num k s = .next { s with serving := { s.serving with first := some (s.goNamed k.toNat) } } := by
  have hnotice := State.noticeOk_of hours (by omega)
  simp [execGoNotice, hnotice, hnum, hjob, hbusy, hfirst, State.goBeat_ahead hahead]

theorem execAbandonNotice_abandons (hjob : 2 ≤ s.jobPhase) (hloaded : s.jobPhase ≤ 3) (hnum : s.restart.num ≤ num.toNat) :
    execAbandonNotice job rank num s = .next s.abandon := if_pos ⟨State.noticeOk_of hours hjob, hnum, hloaded⟩

end Notices

section Waits
variable (hatGo : s.jobPhase = 3 ∧ 2 ≤ s.jobRanks ∧ s.restart.resume = none)
include hatGo

theorem State.waitsForGo_first (hbusy : s.restart.busy = false) (hfirst : s.serving.first = none) : s.waitsForGo = true := by
  obtain ⟨hjob, hranks, hopen⟩ := hatGo
  simp [State.waitsForGo, hjob, hranks, hopen, hbusy, hfirst]

theorem State.waitsForGo_rejoin (hbusy : s.restart.busy = true) (ht5 : s.restart.t5 ≠ 0) : s.waitsForGo = true := by
  obtain ⟨hjob, hranks, hopen⟩ := hatGo
  simp [State.waitsForGo, hjob, hranks, hopen, hbusy, ht5]

theorem execReadyRepeat_repeats (hbusy : s.restart.busy = false) (hfirst : s.serving.first = none) (hlate : s.restart.sentAt + 100000000 ≤ s.now) :
    execReadyRepeat s = .next s.sayReady := if_pos ⟨State.waitsForGo_first hatGo hbusy hfirst, hlate⟩

theorem execRejoinTimeout_abandons (hbusy : s.restart.busy = true) (ht5 : s.restart.t5 ≠ 0) (hlate : s.restart.t5 + 10000000000 ≤ s.now) :
    execRejoinTimeout s = .next s.abandon := if_pos ⟨State.waitsForGo_rejoin hatGo hbusy ht5, hbusy, hlate⟩

theorem execGoWaitTimeout_abandons (hbusy : s.restart.busy = false) (hfirst : s.serving.first = none) (hlate : s.serving.eclosed + 10000000000 ≤ s.now) :
    execGoWaitTimeout s = .next s.abandon := if_pos ⟨State.waitsForGo_first hatGo hbusy hfirst, by simp [hbusy], hlate⟩

end Waits
end Restarts

/-- Settles O51: each notice and each timeout by its own lemma. -/
theorem jobRestarts : Obligations.JobRestarts := by
  unfold Obligations.JobRestarts
  intro s job rank num k cls code ours heard ranked atGo
  exact ⟨execJobRestart_begins, fun hours hjob hnew hmay => execRestartNotice_begins rank hours hjob hnew hmay cls code, execReadyNotice_holds rank,
    fun hours hjob hnum hbusy hfirst hahead => execGoNotice_fixes rank hours hjob hnum hbusy hfirst hahead,
    execAbandonNotice_abandons rank, execReadyRepeat_repeats, execRejoinTimeout_abandons, execGoWaitTimeout_abandons⟩

end Sys2Proof.Machine
end

section
/-!
The whole device: a step on a queue and on an empty one (R407, R411), what stands after reset (R443, R534), and the addresses that no register has (R533). The
statements StepRunsFront, ResetAndIdle and AddressMap are put together from them.
-/
namespace Sys2Proof.Machine

/-! ## A step (R407, R411) -/

section Step
variable {s : State}

theorem step_of_cons {c : Instr} {rest : List Instr} (h : s.pending = c :: rest) : step s = exec c { s with pending := rest } := by
  simp only [step, h]

theorem step_of_nil (h : s.pending = []) : step s = .next s.tick := by
  simp only [step, h]

theorem State.bootCheck_of_ne_larva (h : s.stage ≠ .larva) : s.bootCheck = s := if_neg h

/-- Outside Larva a tick moves the timebase, the clock and the seconds of a Surge alone. -/
theorem State.tick_of_ne_larva (h : s.stage ≠ .larva) : s.tick = { s with
    timebase := s.timebase + BitVec.ofNat 64 s.advance.1, clock := s.advance.2, surgeNow := if s.power.surge then s.surgeNow + s.advance.1 else s.surgeNow } :=
  State.bootCheck_of_ne_larva h

theorem State.advance_d3 (h : s.dst = .d3) : s.advance = (0, s.clock) := if_pos h

theorem State.advance_unlocked (h : s.dst ≠ .d3) (hclock : s.clock.locked = false) : s.advance = (1000, s.clock) := by
  simp [State.advance, h, hclock]

theorem State.advance_locked (h : s.dst ≠ .d3) (hclock : s.clock.locked = true) : s.advance = s.clock.cycle := by
  simp [State.advance, h, hclock]

/-- A base cycle counts no nanosecond, one or two (R411). -/
theorem Clock.cycle_steps (c : Clock) : c.cycle.1 = 0 ∨ c.cycle.1 = 1 ∨ c.cycle.1 = 2 := by
  unfold Clock.cycle
  dsimp only
  split
  · exact .inr (.inr rfl)
  · split
    · exact .inl rfl
    · exact .inr (.inl rfl)

end Step

/-- Settles O1: `step` by the front of the queue. -/
theorem stepRunsFront : Obligations.StepRunsFront := by
  unfold Obligations.StepRunsFront
  intro s c rest h
  exact step_of_cons h

/-! ## After reset (R443, R534) -/

theorem State.reset_rd (a : Nat) : State.reset.rd a = regReset a := rfl

/-- After reset a threshold is that of the factory (R443). -/
theorem State.reset_thresh (c k : Nat) : State.reset.thresh c k = 10 * (bits (resetWord .therm (threshOff c) % 2 ^ 32) (8 * k) 8 : Int) := by
  have hoff : threshOff c < 4096 := by
    unfold threshOff
    split_ifs <;> decide
  have hrd : State.reset.rdn (regAddr .therm 0 (threshOff c)) = resetWord .therm (threshOff c) % 2 ^ 32 := by
    rw [State.rdn, State.reset_rd, regReset, decodeAddr_regAddr .therm (by decide) hoff, BitVec.toNat_ofNat]
  rw [State.thresh, State.fld, hrd]

theorem threshOff_keeper {c : Nat} (hlo : 1 ≤ c) (hhi : c ≤ 3) : threshOff c = 0x06C := by
  rw [threshOff, if_neg (by omega), if_pos (by omega)]

theorem threshOff_compute {n : Nat} (h : n < 40) : threshOff (0x40 + n) = 0x060 := by
  rw [threshOff, if_neg (by omega), if_neg (by omega), if_pos (by omega)]

theorem threshOff_rowStore (n : Nat) : threshOff (0x80 + n) = 0x064 := by
  rw [threshOff, if_neg (by omega), if_neg (by omega), if_neg (by omega)]

/-- Settles O2: the thresholds by `State.reset_thresh`, the tick by how far `State.advance` goes. -/
theorem resetAndIdle : Obligations.ResetAndIdle := by
  unfold Obligations.ResetAndIdle
  refine ⟨⟨rfl, rfl, State.reset_rd, fun n hn => ?factory, by decide, by decide, by decide, by decide, fun k hlo hhi => ?keepers⟩, fun s hnil hlarva => ?idle⟩
  case factory =>
    simp only [State.reset_thresh, threshOff_compute hn, threshOff_rowStore]
    decide
  case keepers =>
    simp only [State.reset_thresh, threshOff_keeper hlo hhi]
    decide
  case idle =>
    refine ⟨s.tick, step_of_nil hnil, ?_⟩
    rw [State.tick_of_ne_larva hlarva]
    refine ⟨rfl, fun hd3 => ?_, fun hon hclock => ?_, fun hon hclock => ?_⟩
    · simp [State.advance_d3 hd3]
    · simp [State.advance_unlocked hon hclock]
    · rw [State.advance_locked hon hclock]
      rcases s.clock.cycle_steps with h | h | h
      · exact .inl (by simp [h])
      · exact .inr (.inl (by simp [h]))
      · exact .inr (.inr (by simp [h]))

/-! ## Addresses (R533) -/

/-- An address that a page answers is that of its register. -/
theorem decodeAddr_eq_some {a i off : Nat} {t : PageType} (h : decodeAddr a = some (t, i, off)) : i < (pageInfo t).insts ∧ off < 4096 ∧ a = regAddr t i off := by
  unfold decodeAddr at h
  split at h
  · simp at h
  · rename_i u hfind
    have hfound := List.find?_some hfind
    have hrange := of_decide_eq_true hfound
    have hf := pageInfo_fits u
    dsimp only at h
    split at h
    · rename_i hi
      simp only [Option.some.injEq, Prod.mk.injEq] at h
      obtain ⟨rfl, rfl, rfl⟩ := h
      refine ⟨hi, Nat.mod_lt _ (by decide), ?_⟩
      unfold regAddr
      omega
    · simp at h

theorem decodeAddr_eq_none {a : Nat} (h : ∀ t i off, i < (pageInfo t).insts → off < 4096 → a ≠ regAddr t i off) : decodeAddr a = none := by
  refine Option.eq_none_iff_forall_ne_some.2 fun ⟨t, i, off⟩ hsome => ?_
  obtain ⟨hi, ho, ha⟩ := decodeAddr_eq_some hsome
  exact h t i off hi ho ha

theorem regAddr_div_page (t : PageType) (i : Nat) {off : Nat} (ho : off < 4096) : regAddr t i off / 4096 = (pageInfo t).base / 4096 + i := by
  have hf := pageInfo_fits t
  unfold regAddr
  omega

section NoRegister
variable {s : State} {ini : Initiator} {ep : Byte} {a : Nat}

theorem State.writeError_no_register (h : decodeAddr a = none) (own : Bool) : s.writeError ini ep a own = 1 := by
  rw [State.writeError, h]
  split <;> rfl

theorem State.writeAt_no_register (h : decodeAddr a = none) (v : Nat) : (s.writeAt ini ep a v).2 = s.answer ini 1 := by
  simp [State.writeAt, State.busWrite, State.writeError_no_register h, State.countRefused, h]

end NoRegister

/-- Settles O6: every register's address by `regAddr`, every other address by `decodeAddr_eq_none`. -/
theorem addressMap : Obligations.AddressMap := by
  unfold Obligations.AddressMap
  refine ⟨fun t i off hi ho => ⟨rfl, regAddr_lt t hi ho, regAddr_mod_page t i ho, regAddr_div_page t i ho, decodeAddr_regAddr t hi ho⟩, fun s ini ep addr data hnone => ?_⟩
  have hdecode := decodeAddr_eq_none hnone
  exact ⟨congrArg _ (State.spineRead_refused (State.readError_no_register (.inr (.inr hdecode))) Nat.one_ne_zero), congrArg _ (State.writeAt_no_register hdecode data.toNat)⟩

end Sys2Proof.Machine
end

section
/-!
Heat (R442 to R456): what holding a die's reading against its thresholds leaves, and with it the sample, the throttle steps, the row-store model, the broken diode and
the trips.
-/
namespace Sys2Proof.Machine

/-! ## A diode after an update -/

section Diodes
variable {s : State}

theorem State.diode_setDiode {c : Nat} {d : Diode} (h : d ≠ {}) : (s.setDiode c d).diode c = d := sget_sset_same_ne _ _ _ h

theorem Diode.ne_reset_of_valid {d : Diode} (h : d.valid = true) : d ≠ {} := by
  rintro rfl
  simp at h

theorem Diode.ne_reset_of_broken {d : Diode} (h : d.broken = true) : d ≠ {} := by
  rintro rfl
  simp at h

theorem Diode.ne_reset_of_model {d : Diode} (h : d.model.isSome = true) : d ≠ {} := by
  rintro rfl
  simp at h

/-! ## A reading against the thresholds (R445 to R447) -/

/-- The diode of a die with its reading in use held against its thresholds (R445 to R447). -/
def State.judged (s : State) (c : Nat) : Diode :=
  let u := s.inUse c
  let d := s.diode c
  let kp := decide (1 ≤ c ∧ c ≤ 3)
  let recent := s.now < d.histAt + 1000000 ∧ !d.hist.isEmpty
  { d with
    use := u, warn := decide (s.thresh c 0 ≤ u) || (d.warn && decide (s.thresh c 0 - 20 < u))
    throttle := !kp && (decide (s.thresh c 1 ≤ u) || (d.throttle && decide (s.thresh c 1 - 20 ≤ u))), stop := !kp && decide (s.thresh c 2 ≤ u)
    subst := d.broken, hist := if recent then d.hist else (u :: d.hist).take 50, histAt := if recent then d.histAt else s.now }

/-- Two states that differ in the registers, the supply and the orderly stop alone. -/
def State.sameButStop (s t : State) : Prop := t = { s with regs := t.regs, power := t.power, stop := t.stop }

theorem State.sameButStop.trans {s t u : State} (h : s.sameButStop t) (h' : t.sameButStop u) : s.sameButStop u := by
  unfold State.sameButStop at *
  rw [h', h]

theorem State.sameButRegs.sameButStop {s t : State} (h : s.sameButRegs t) : s.sameButStop t := by
  rw [h]
  rfl

theorem State.sameButStop_surgeEnd (s : State) (cause : Nat) : s.sameButStop (s.surgeEnd cause) := by
  rw [s.surgeEnd_eq]
  rfl

/-- Judging a die writes its diode, and besides that registers, the supply and the orderly stop alone. -/
theorem State.judge_leaves (s : State) (c : Nat) : (s.setDiode c (s.judged c)).sameButStop (s.judge c) := by
  unfold State.judge
  extract_lets u d kp warn thr hist at_ s1 s2 s3 cool s4
  have h1 : s1 = s.setDiode c (s.judged c) := rfl
  have h2 : s1.sameButStop s2 := by
    simp only [s2]
    split
    · exact State.sameButStop.trans (t := (s1.bump (thermReg 0x054) 0 8 1).irq .therm 0 0) rfl (State.sameButStop_surgeEnd _ _)
    · rfl
  have h3 : s2.sameButStop s3 := by
    simp only [s3]
    split <;> rfl
  rw [← h1]
  exact (h2.trans h3).trans rfl

theorem State.diode_of_sameButStop {t : State} (h : s.sameButStop t) (c : Nat) : t.diode c = s.diode c := by
  rw [h]
  rfl

theorem State.diode_judge {c : Nat} (h : s.judged c ≠ {}) : (s.judge c).diode c = s.judged c :=
  (State.diode_of_sameButStop (s.judge_leaves c) c).trans (State.diode_setDiode h)

/-- What judging a die leaves alone of the memories, the cores, the job, the Keepers and the Tally. -/
theorem State.judge_keeps (s : State) (c : Nat) : (s.judge c).mainMem = s.mainMem ∧ (s.judge c).rowStore = s.rowStore ∧ (s.judge c).cores = s.cores ∧
    (s.judge c).job = s.job ∧ (s.judge c).tally = s.tally ∧ (s.judge c).stage = s.stage := by
  rw [s.judge_leaves c]
  exact ⟨rfl, rfl, rfl, rfl, rfl, rfl⟩

theorem State.keeperCool_eq (s : State) (c : Nat) : s.keeperCool c = { s with keepers := (s.keeperCool c).keepers } := by
  unfold State.keeperCool
  split
  · dsimp only
    split <;> rfl
  · rfl

/-- A threshold stands in a register below 0x800 of its page. -/
theorem State.thresh_wr_reading (s : State) (n : Nat) (v : Word) (c k : Nat) : (s.wr (thermReg (0x800 + n)) v).thresh c k = s.thresh c k := by
  have hne : regAddr .therm 0 (threshOff c) ≠ thermReg (0x800 + n) := by
    have hoff : threshOff c < 0x800 := by
      unfold threshOff
      split_ifs <;> decide
    unfold thermReg regAddr
    omega
  simp only [State.thresh, State.fld_wr_ne _ _ _ _ hne]

end Diodes

/-! ## The sample of a diode (R442 to R445) -/

section Sample
variable {s : State} {c : Nat} {raw : Int}

/-- The state of a sample with the reading noted and not yet judged. -/
def State.sampled (s : State) (c : Nat) (raw : Int) (check : Bool) : State :=
  let d := s.diode c
  let hot := decide (s.thresh c 3 < raw) && !d.broken
  (s.setDiode c { d with
    raw := raw, valid := true, badRun := (if decide (raw < -400 ∨ 1500 < raw) then d.badRun + 1 else 0), checkRun := (if check then 0 else d.checkRun + 1)
    tripSince := (if hot then some (d.tripSince.getD s.now) else none) }).wr (thermReg (0x800 + 4 * c)) (BitVec.ofNat 32 (tempBits raw + 2 ^ 16))

theorem execDiodeSample_reads {die : Byte} (hread : s.diodeRead die.toNat = true) (hlarva : s.stage ≠ .larva) (check : Bool) :
    execDiodeSample die raw check s = .next (((s.sampled die.toNat raw check).judge die.toNat).keeperCool die.toNat) := by
  have hstage : (((s.sampled die.toNat raw check).judge die.toNat).keeperCool die.toNat).stage ≠ .larva := by
    obtain ⟨-, -, -, -, -, hjudge⟩ := (s.sampled die.toNat raw check).judge_keeps die.toNat
    rw [State.keeperCool_eq]
    exact fun h => hlarva (hjudge.symm.trans h)
  rw [← State.bootCheck_of_ne_larva hstage]
  exact if_neg (by simp [hread])

/-- The diode as a sample leaves it before it is judged. -/
theorem State.diode_sampled (check : Bool) : ∃ bad run trip, (s.sampled c raw check).diode c =
    { s.diode c with raw := raw, valid := true, badRun := bad, checkRun := run, tripSince := trip } :=
  ⟨_, _, _, State.diode_setDiode (Diode.ne_reset_of_valid rfl)⟩

theorem State.thresh_sampled (check : Bool) (k : Nat) : (s.sampled c raw check).thresh c k = s.thresh c k := State.thresh_wr_reading _ _ _ _ _

/-- A trusted diode's sample is the reading in use. -/
theorem State.inUse_sampled (hbroken : (s.diode c).broken = false) (hsuspect : (s.diode c).suspect = false) (check : Bool) : (s.sampled c raw check).inUse c = raw := by
  obtain ⟨bad, run, trip, hd⟩ := State.diode_sampled (s := s) (c := c) (raw := raw) check
  simp [State.inUse, hd, hbroken, hsuspect]

theorem State.judged_sampled (hbroken : (s.diode c).broken = false) (hsuspect : (s.diode c).suspect = false) (check : Bool) :
    let x := (s.sampled c raw check).judged c
    let d := s.diode c
    let keeper := 1 ≤ c ∧ c ≤ 3
    x.raw = raw ∧ x.use = raw ∧ x.valid = true ∧ (x.warn = true ↔ s.thresh c 0 ≤ raw ∨ (d.warn = true ∧ s.thresh c 0 - 20 < raw)) ∧
      (x.throttle = true ↔ ¬keeper ∧ (s.thresh c 1 ≤ raw ∨ (d.throttle = true ∧ s.thresh c 1 - 20 ≤ raw))) ∧ (x.stop = true ↔ ¬keeper ∧ s.thresh c 2 ≤ raw) := by
  obtain ⟨bad, run, trip, hd⟩ := State.diode_sampled (s := s) (c := c) (raw := raw) check
  by_cases hkeeper : 1 ≤ c ∧ c ≤ 3 <;> simp [State.judged, hd, State.thresh_sampled, State.inUse_sampled hbroken hsuspect, hkeeper]

end Sample

/-! ## Throttle steps (R446) -/

section Throttle
variable {s : State} {c : Nat} {d : Diode}

/-- A map over the entries of a table reads as the map of what was read, where neither is the default. -/
theorem sget_filterMap {α : Type} [DecidableEq α] {d : α} {f : Nat → α → α} {k : Nat} : ∀ {m : Sparse α}, sget d m k ≠ d → f k (sget d m k) ≠ d →
    sget d (m.filterMap (fun e => if f e.1 e.2 = d then none else some (e.1, f e.1 e.2))) k = f k (sget d m k)
  | [], h, _ => absurd rfl h
  | (j, v) :: t, h, hf => by
    by_cases hj : j = k
    · subst hj
      have hv : f j v ≠ d := by simpa [sget] using hf
      simp [sget, hv]
    · have hrest := sget_filterMap (m := t) (by simpa [sget, hj] using h) (by simpa [sget, hj] using hf)
      by_cases hv : f j v = d <;> simp [sget, hj, hv, hrest]

/-- The most steps of a die (R446). -/
def topSteps (c : Nat) : Nat := if 0x10 ≤ c ∧ c < 0x40 then 4 else 48

/-- A diode after the millisecond's throttle step (R446). -/
def State.stepped (s : State) (c : Nat) (d : Diode) : Diode :=
  if c = 1 ∨ c = 2 ∨ c = 3 then d
  else if s.thresh c 1 ≤ d.use then (if s.now < d.stepAt + 1000000 ∧ d.stepAt ≠ 0 then d else { d with steps := min (topSteps c) (d.steps + 1), stepAt := s.now })
  else if d.use < s.thresh c 1 - 20 ∧ 0 < d.steps ∧ d.stepAt + 10000000 ≤ s.now then { d with steps := d.steps - 1, stepAt := s.now }
  else d

theorem execThrottleStep_steps (hdst : s.dst = .d0 ∨ s.dst = .d1) :
    execThrottleStep s = .next { s with diodes := s.diodes.filterMap (fun e => if s.stepped e.1 e.2 = {} then none else some (e.1, s.stepped e.1 e.2)) } :=
  if_neg (by rcases hdst with h | h <;> simp [h])

variable (hkeeper : ¬(1 ≤ c ∧ c ≤ 3))
include hkeeper

theorem State.stepped_up (hhot : s.thresh c 1 ≤ d.use) (hlate : d.stepAt + 1000000 ≤ s.now) :
    s.stepped c d = { d with steps := min (topSteps c) (d.steps + 1), stepAt := s.now } := by
  rw [State.stepped, if_neg (by omega), if_pos hhot, if_neg (by omega)]

theorem State.stepped_down (hcool : d.use < s.thresh c 1 - 20) (hsome : 0 < d.steps) (hlate : d.stepAt + 10000000 ≤ s.now) :
    s.stepped c d = { d with steps := d.steps - 1, stepAt := s.now } := by
  rw [State.stepped, if_neg (by omega), if_neg (by omega), if_pos ⟨hcool, hsome, hlate⟩]

theorem State.stepped_between (hlow : s.thresh c 1 - 20 ≤ d.use) (hhigh : d.use < s.thresh c 1) : s.stepped c d = d := by
  rw [State.stepped, if_neg (by omega), if_neg (by omega), if_neg (by omega)]

omit hkeeper in
theorem Diode.ne_reset_of_stepAt {d : Diode} (h : d.stepAt ≠ 0) : d ≠ {} := by
  rintro rfl
  simp at h

end Throttle

/-! ## The row-store model and broken diodes (R453, R455) -/

section Model
variable {s : State}

/-- A judged diode keeps its raw reading, its model, its comparator's time and whether it is broken; a broken one has a substitute. -/
theorem State.judge_keeps_diode {c : Nat} (h : s.judged c ≠ {}) : let x := (s.judge c).diode c
    x.raw = (s.diode c).raw ∧ x.model = (s.diode c).model ∧ x.broken = (s.diode c).broken ∧ x.tripSince = (s.diode c).tripSince ∧ x.subst = (s.diode c).broken := by
  rw [State.diode_judge h]
  exact ⟨rfl, rfl, rfl, rfl, rfl⟩

/-- The steady state of a row-store die's model, in °C (R453). -/
def State.steadyTemp (s : State) (n : Nat) : Rat :=
  ((s.diode (0x40 + n)).use : Rat) / 10 + Config.theta n * (((s.fld (rowsReg n 0x06C) 10 10 + s.fld (rowsReg n 0x06C) 20 10 : Nat) : Rat) / 10) +
    Config.beta n * (((s.diode 0).use : Rat) / 10 - ((s.diode (0x40 + n)).use : Rat) / 10)

/-- The model of a row-store die after a millisecond (R453): a twentieth of the way to its steady state. -/
def State.movedModel (s : State) (n : Nat) : Rat :=
  let m0 : Rat := (s.diode (0x80 + n)).model.getD (((s.diode (0x80 + n)).raw : Rat) / 10)
  m0 + (s.steadyTemp n - m0) / 20

/-- The model moves; what else the update writes of the diode are its times and whether it is suspect. -/
theorem execMiddleModelUpdate_moves {stack : Fin 40} (hon : s.stackOn stack = true) : ∃ far near sus at_ t, execMiddleModelUpdate stack s = .next (t.judge (0x80 + stack)) ∧
    (s.setDiode (0x80 + stack) { s.diode (0x80 + stack) with
      model := some (s.movedModel stack), overSince := far, nearSince := near, suspect := sus, suspectSince := at_ }).sameButRegs t := by
  unfold execMiddleModelUpdate
  extract_lets n c d tc tb ps m0 tss m x above near d1 rises falls sus s1
  refine ⟨d1.overSince, d1.nearSince, sus, if rises then s.now else d.suspectSince, _, if_neg (by simp [n, hon]), ?_⟩
  refine State.sameButRegs.trans (t := s1) rfl ?_
  split <;> rfl

theorem execDiodeBroken_breaks {die : Byte} (hdie : dieCodes.contains die.toNat = true) (hwhole : (s.diode die.toNat).broken = false)
    (hbad : 10 ≤ (s.diode die.toNat).badRun ∨ 10 ≤ (s.diode die.toNat).checkRun) :
    execDiodeBroken die s = .next ((((s.setDiode die.toNat { s.diode die.toNat with broken := true, tripSince := none, suspect := false }).irq .therm 0 3).amendLater
      0x0B false die.toNat 0).judge die.toNat) := by
  refine if_neg ?_
  rintro (h | h | ⟨h, h', -⟩)
  · exact absurd hdie (by simpa using h)
  · simp [hwhole] at h
  · omega

/-- Recording an amendment, now or at the job's end, leaves the diodes, main memory and the job. -/
theorem State.amendLater_keeps (s : State) (kind : Nat) (bound : Bool) (res value : Nat) : (s.amendLater kind bound res value).diodes = s.diodes ∧
    (s.amendLater kind bound res value).mainMem = s.mainMem ∧ (s.amendLater kind bound res value).job = s.job := by
  unfold State.amendLater
  split <;> exact ⟨rfl, rfl, rfl⟩

end Model

/-! ## Trips (R450 to R452) -/

section Trips
variable {s : State} {die : Byte}

/-- A device that tripped is in D3 with every domain off, and keeps the record, the time and the queue. -/
theorem State.tripDevice_leaves (s : State) (predicted : Bool) : let u := s.tripDevice die.toNat predicted
    u.dst = .d3 ∧ u.spineUp = false ∧ u.trip = some { die := die, predicted := predicted } ∧ u.timebase = s.timebase ∧ u.mainMem = {} ∧ u.rowStore = {} ∧ u.coreBuf = {} ∧
      u.instStore = {} ∧ u.cores = [] ∧ u.pending = s.pending := by
  rw [State.tripDevice, State.powerOff, State.surgeEnd_eq, BitVec.ofNat_toNat, BitVec.setWidth_eq]
  exact ⟨rfl, rfl, rfl, rfl, rfl, rfl, rfl, rfl, rfl, rfl⟩

theorem execThermalTrip_none (hcool : (s.diode die.toNat).tripSince = none) : execThermalTrip die s = .next s := by
  simp only [execThermalTrip, hcool]

section Thermal
variable {t : Nat} (hsince : (s.diode die.toNat).tripSince = some t) (hwhole : (s.diode die.toNat).broken = false) (hdst : s.dst ≠ .d3) (hlate : t + 100000 ≤ s.now)
include hsince hwhole hdst hlate

theorem execThermalTrip_trips (hkeeper : ¬(1 ≤ die.toNat ∧ die.toNat ≤ 3)) : execThermalTrip die s = .next (s.tripDevice die.toNat false) := by
  simp only [execThermalTrip, hsince]
  rw [if_neg (by simp [hwhole, hdst, hlate]), dif_neg hkeeper]

/-- A Keeper whose own diode tripped (R451). -/
def Keeper.trippedOff (x : Keeper) : Keeper :=
  { x with tripped := true, healthy := false, inSync := false, role := (if x.role = .active ∨ x.role = .failed then x.role else .starting) }

theorem execThermalTrip_keeper {k : Fin 3} (hk : die.toNat = k.val + 1) :
    execThermalTrip die s = .next { s with keepers := s.keepers.set k (s.keepers.get k).trippedOff } := by
  have hin : 1 ≤ die.toNat ∧ die.toNat ≤ 3 := by omega
  simp only [execThermalTrip, hsince]
  rw [if_neg (by simp [hwhole, hdst, hlate]), dif_pos hin]
  simp only [hk, Nat.add_sub_cancel]
  rfl

end Thermal

theorem execPredictedTrip_trips (hdie : dieCodes.contains die.toNat = true) (hstop : (s.diode die.toNat).stop = true) (hrunning : s.stop.stopped = false) (hdst : s.dst ≠ .d3)
    (hwindow : s.now < (if s.stop.cause = 0 then s.now else s.stop.t0) + 500000000) (hhist : 2 ≤ (s.diode die.toNat).hist.length)
    (hreach : (s.thresh die.toNat 3 : Rat) ≤ (fitLine (s.diode die.toNat).hist).2 + (fitLine (s.diode die.toNat).hist).1 *
      ((((if s.stop.cause = 0 then s.now else s.stop.t0) + 500000000 - s.now : Nat) : Rat) / 1000000)) :
    execPredictedTrip die s = .next (s.tripDevice die.toNat true) := by
  refine (if_neg ?_).trans (if_pos (.inl hreach))
  rintro (h | h | h | h | h | h)
  · exact absurd hdie (by simpa using h)
  · simp [hstop] at h
  · simp [hrunning] at h
  · exact hdst h
  · omega
  · omega

theorem execPredictedTrip_waits (hhist : (s.diode die.toNat).hist.length < 2) : execPredictedTrip die s = .next s :=
  if_pos (.inr (.inr (.inr (.inr (.inr hhist)))))

end Trips

/-! ## Calibration (R457 to R462) -/

section Recal
variable {s : State}

/-- Items that are calibrated again are noted as due; the amendments, the job, the cores and the regions stand. -/
theorem State.userChanged_leaves (s : State) (items : List Nat) : (s.userChanged items).vault.userDue = s.vault.userDue ++ items ∧
    (s.userChanged items).vault.amends = s.vault.amends ∧ (s.userChanged items).job = s.job ∧ (s.userChanged items).cores = s.cores ∧
    (s.userChanged items).regions = s.regions := by
  have hitems : ((List.range items.length).map (fun i => (items.getD i 0, (Config.freeWord (s.free * 64 + i)).toNat % 2 ^ 16))).map Prod.fst = items := by
    refine List.ext_getElem (by simp) fun i h _ => ?_
    have hi : i < items.length := by simpa using h
    simp [List.getElem?_eq_getElem hi]
  exact ⟨congrArg (s.vault.userDue ++ ·) hitems, rfl, rfl, rfl, rfl⟩

/-- The recalibration of a region is no longer due. -/
def State.recalDone (s : State) (r : Nat) : State := s.modRegion r (fun x => { x with recalDue := false })

theorem State.swf_recalDone (h : swf (fun _ => {}) s.regions = true) (r : Nat) : swf (fun _ => {}) (s.recalDone r).regions = true :=
  swf_sset (fun _ => ({} : Region)) h r _

theorem State.region_recalDone (h : swf (fun _ => {}) s.regions = true) (r : Nat) : (s.recalDone r).region r = { s.region r with recalDue := false } :=
  sget_sset_same (fun _ => ({} : Region)) h r _

theorem State.recalDue_recalDone (h : swf (fun _ => {}) s.regions = true) {r : Nat} (hr : (s.region r).recalDue = false) (i : Nat) :
    ((s.recalDone i).region r).recalDue = false := by
  by_cases hi : r = i
  · rw [hi, State.region_recalDone h]
  · rwa [State.region, State.recalDone, State.modRegion, sget_sset_ne _ _ _ _ hi]

/-- The state of a die's recalibration before its count. -/
def State.recalibrated (s : State) (c : Nat) (rs : List Nat) : State :=
  rs.foldl State.recalDone ((s.setDiode c { s.diode c with calTemp := (s.diode c).use }).userChanged rs)

theorem State.recalDue_recalibrated (h : swf (fun _ => {}) s.regions = true) (c : Nat) {rs : List Nat} {r : Nat} (hr : r ∈ rs) :
    ((s.recalibrated c rs).region r).recalDue = false := by
  have hstart : swf (fun _ => {}) ((s.setDiode c { s.diode c with calTemp := (s.diode c).use }).userChanged rs).regions = true := h
  exact foldl_reaches (I := fun t => swf (fun _ => {}) t.regions = true) (P := fun t => (t.region r).recalDue = false) (fun t i ht => State.swf_recalDone ht i)
    (fun t i ht hp => State.recalDue_recalDone ht hp i) (fun t ht => by rw [State.region_recalDone ht]) hr hstart

/-- Recalibrating regions changes the regions alone, besides what `State.userChanged` leaves. -/
theorem foldl_recalDone_eq (rs : List Nat) (s : State) : rs.foldl State.recalDone s = { s with regions := (rs.foldl State.recalDone s).regions } :=
  List.foldlRecOn (motive := fun t : State => t = { s with regions := t.regions }) rs State.recalDone rfl fun t ht i _ => by
    rw [ht]
    rfl

theorem State.recalibrated_leaves (s : State) (c : Nat) (rs : List Nat) : (s.recalibrated c rs).vault.userDue = s.vault.userDue ++ rs ∧
    (s.recalibrated c rs).vault.amends = s.vault.amends ∧ (s.recalibrated c rs).job = s.job ∧ (s.recalibrated c rs).cores = s.cores := by
  obtain ⟨hdue, hamends, hjob, hcores, -⟩ := (s.setDiode c { s.diode c with calTemp := (s.diode c).use }).userChanged_leaves rs
  rw [State.recalibrated, foldl_recalDone_eq]
  exact ⟨hdue, hamends, hjob, hcores⟩

theorem execRegionRecal_recalibrates {die : Fin 40} (hidle : s.idleInterval = true) (hon : s.stackOn die = true)
    (hmoved : s.calDelta < ((s.diode (0x40 + die)).use - (s.diode (0x40 + die)).calTemp).natAbs) :
    execRegionRecal die s = .next ((s.recalibrated (0x40 + die) ((List.range 4).map (· + 4 * die.val))).bump (regAddr .cal 0 0x054) 16 16 4) := by
  refine if_neg ?_
  rintro (h | h | ⟨-, h⟩)
  · simp [hidle] at h
  · simp [hon] at h
  · omega

theorem execRegionRecal_waits {die : Fin 40} (hidle : s.idleInterval = false) : execRegionRecal die s = .next s := if_pos (.inl (by simp [hidle]))

theorem execCalStart_taken {ini : Initiator} {ep : Byte} (htakes : s.takes ini ep .cal 0 0x048) (v : Word) :
    execCalStart ini ep v s = .next ((s.calCmd v.toNat).answer ini 0) :=
  congrArg _ (State.busDo_taken _ (by decide) (by decide) htakes.1 htakes.2)

end Recal

/-! ## Ageing (R463 to R466) -/

section Ageing
variable {s : State}

theorem State.sameButRegs_wearCheck (s : State) : s.sameButRegs s.wearCheck := by
  unfold State.wearCheck
  split <;> rfl

theorem execHourCount_counts (hdst : s.dst ≠ .d3) : execHourCount s = .next ({ s with
    vault := { s.vault with hours := s.vault.hours + 1, surgeSecs := (s.surgeNow / 1000000000 :: s.vault.surgeSecs).take 720 }
    surgeNow := s.surgeNow % 1000000000 } : State).wearCheck := if_neg hdst

/-- What a re-plan leaves: the hours, every amendment there was, the job, the cores, the epochs counted and the calibration pass. -/
def State.keepsAge (s t : State) : Prop :=
  t.vault.hours = s.vault.hours ∧ s.vault.amends <+: t.vault.amends ∧ t.job = s.job ∧ t.cores = s.cores ∧ t.epochs = s.epochs ∧ t.calPass = s.calPass

theorem State.keepsAge_self (s : State) : s.keepsAge s := ⟨rfl, List.prefix_rfl, rfl, rfl, rfl, rfl⟩

theorem State.keepsAge.trans {s t u : State} (h : s.keepsAge t) (h' : t.keepsAge u) : s.keepsAge u := by
  obtain ⟨hhours, hamends, hjob, hcores, hepochs, hpass⟩ := h
  obtain ⟨hhours', hamends', hjob', hcores', hepochs', hpass'⟩ := h'
  exact ⟨hhours'.trans hhours, hamends.trans hamends', hjob'.trans hjob, hcores'.trans hcores, hepochs'.trans hepochs, hpass'.trans hpass⟩

theorem foldl_keepsAge {α : Type} {f : State → α → State} (h : ∀ (t : State) a, t.keepsAge (f t a)) (l : List α) (s : State) : s.keepsAge (l.foldl f s) :=
  List.foldlRecOn (motive := s.keepsAge) l f s.keepsAge_self fun t ht a _ => ht.trans (h t a)

theorem State.sameButRegs.keepsAge {s t : State} (h : s.sameButRegs t) : s.keepsAge t := by
  rw [h]
  exact s.keepsAge_self

theorem State.keepsAge_surgeEnd (s : State) (cause : Nat) : s.keepsAge (s.surgeEnd cause) := by
  rw [s.surgeEnd_eq]
  exact s.keepsAge_self

theorem State.keepsAge_amend (s : State) (kind : Nat) (bound : Bool) (res value : Nat) : s.keepsAge (s.amend kind bound res value) :=
  ⟨rfl, List.prefix_append _ _, rfl, rfl, rfl, rfl⟩

theorem State.keepsAge_markCore (s : State) (n p : Nat) : s.keepsAge (s.markCore n p) := by
  unfold State.markCore
  dsimp only
  split
  · exact s.keepsAge_self
  · exact State.keepsAge_amend _ _ _ _ _

theorem State.keepsAge_eccMarks (s : State) : s.keepsAge s.eccMarks :=
  foldl_keepsAge (fun t n => foldl_keepsAge (fun u p => u.keepsAge_markCore n p) _ t) _ s

theorem State.keepsAge_coresAnew (s : State) : s.keepsAge s.coresAnew := ⟨rfl, List.prefix_rfl, rfl, rfl, rfl, rfl⟩

theorem State.keepsAge_planRegion (s : State) (r slow : Nat) : s.keepsAge (s.planRegion r slow) := by
  unfold State.planRegion
  dsimp only
  split
  · exact ⟨rfl, List.prefix_rfl, rfl, rfl, rfl, rfl⟩
  · exact State.keepsAge_amend _ _ _ _ _

theorem State.sameButRegs_regStore (s : State) (t : PageType) (i off v : Nat) : s.sameButRegs (s.regStore t i off v) := by
  unfold State.regStore
  dsimp only
  split <;> rfl

theorem State.sameButRegs_put (s : State) (a v : Nat) : s.sameButRegs (s.put a v) := by
  unfold State.put
  split
  · split
    · exact s.sameButRegs_regStore _ _ _ _
    · rfl
  · rfl

theorem State.sameButRegs_noteAge (s : State) (m : AgeFigures) : s.sameButRegs (s.noteAge m) := by
  unfold State.noteAge
  extract_lets gs fs e h a s1 s2 s3
  have h1 : s.sameButRegs s1 := rfl
  clear_value s1 gs fs
  have h2 : s1.sameButRegs s2 := rfl
  clear_value s2
  have h3 : s2.sameButRegs s3 := by
    simp only [s3]
    split
    · exact s2.sameButRegs_irq _ _ _
    · rfl
  clear_value s3
  refine ((h1.trans h2).trans h3).trans ?_
  split
  · exact s3.sameButRegs_irq _ _ _
  · rfl

/-- The margins re-planned and the figures recorded, before every item is due for calibration (R464 to R466). -/
def State.replanned (s : State) (m : AgeFigures) : State :=
  let s1 : State := { s.eccMarks.coresAnew with epochs := s.vault.hours / 1000 }
  let s2 := (List.range 160).foldl (fun t r => t.planRegion r (m.slow.getD r 0)) s1
  let b := budgetOf (m.rise.foldl max 0) s.vault.hours
  let s3 := ((s2.amend 0x11 false 0 b).put (pwrReg 0x054) (s2.fld (pwrReg 0x054) 0 1 + 256 * b)).wearCheck
  (List.range 59).foldl (fun t n => if m.heater.getD n 0 = 0 then t else t.amend 0x10 true n ((m.heater.getD n 0 % 2 ^ 64).toNat)) s3

theorem State.replanned_keeps (s : State) (m : AgeFigures) : ({ s with epochs := s.vault.hours / 1000 } : State).keepsAge (s.replanned m) := by
  unfold State.replanned
  extract_lets marked s1 s2 b s3
  obtain ⟨hhours, hamends, hjob, hcores, -, hpass⟩ : s.keepsAge marked := s.keepsAge_eccMarks.trans s.eccMarks.keepsAge_coresAnew
  clear_value marked
  have h1 : ({ s with epochs := s.vault.hours / 1000 } : State).keepsAge s1 := ⟨hhours, hamends, hjob, hcores, rfl, hpass⟩
  have h2 : s1.keepsAge s2 := by
    simp only [s2]
    exact foldl_keepsAge (fun t r => t.keepsAge_planRegion r _) _ s1
  have h3 : s2.keepsAge s3 := (s2.keepsAge_amend _ _ _ _).trans ((State.sameButRegs_put _ _ _).trans (State.sameButRegs_wearCheck _)).keepsAge
  refine (h1.trans (h2.trans h3)).trans (foldl_keepsAge (fun t n => ?_) _ s3)
  split
  · exact t.keepsAge_self
  · exact t.keepsAge_amend _ _ _ _

/-- An ageing epoch is the re-plan, then a pass in which every item is due, and notes of the figures (R462 to R466). -/
theorem execAgeingEpoch_plans {m : AgeFigures} (hidle : s.idleInterval = true) (hhours : 1000 * (s.epochs + 1) ≤ s.vault.hours) : ∃ u k c,
    execAgeingEpoch m s = .next u ∧
      ({ s.replanned m with calPass := { (s.replanned m).calPass with pending := true }, stks := k, chans := c } : State).keepsAge u := by
  unfold execAgeingEpoch
  extract_lets marked s1 s2 b s3 s4 pass s5 s6
  refine ⟨_, s5.stks, s5.chans, if_neg (by simp [hidle, Nat.not_lt.2 hhours]), ?_⟩
  have h6 : s5.keepsAge s6 := ((s5.sameButRegs_noteAge m).trans (State.sameButRegs_irq _ _ _ _)).keepsAge
  refine State.keepsAge.trans (t := s6) h6 ?_
  split
  · exact s6.keepsAge_surgeEnd 2
  · exact s6.keepsAge_self

/-! ## The margins of a region (R464, R466) -/

theorem State.boundValue_amend (s : State) (kind : Nat) (bound : Bool) (res value : Nat) : (s.amend kind bound res value).boundValue kind res = some value := by
  simp [State.boundValue, State.amend, Vault.record]

theorem bits_lt (v lsb w : Nat) : bits v lsb w < 2 ^ w := Nat.mod_lt _ (by positivity)

/-- The margins that a re-plan of a region records: a guard band never falls and a table top never rises. -/
theorem State.planRegion_bound (s : State) {r slow a : Nat} (h : (s.planRegion r slow).boundValue 0x0F r = some a) :
    bits ((s.boundValue 0x0F r).getD (80 * 256)) 0 8 ≤ bits a 0 8 ∧ bits a 8 8 ≤ bits ((s.boundValue 0x0F r).getD (80 * 256)) 8 8 := by
  unfold State.planRegion at h
  extract_lets old v s1 at h
  have hguard : max (bits old 0 8) (guardOf slow) < 256 := max_lt (bits_lt old 0 8) (by unfold guardOf; omega)
  have htop : min (bits old 8 8) (ftopOf slow) < 256 := min_lt_of_left_lt (bits_lt old 8 8)
  have ha : a = old ∨ a = v := by
    split at h
    · have hbound : s.boundValue 0x0F r = some a := h
      exact .inl (by simp [old, hbound])
    · rw [State.boundValue_amend] at h
      exact .inr (Option.some.inj h).symm
  rcases ha with ha | ha
  · exact ha ▸ ⟨le_rfl, le_rfl⟩
  · have hlow : bits a 0 8 = max (bits old 0 8) (guardOf slow) := by
      simp only [ha, v]
      unfold bits at *
      omega
    have hhigh : bits a 8 8 = min (bits old 8 8) (ftopOf slow) := by
      simp only [ha, v]
      unfold bits at *
      omega
    rw [hlow, hhigh]
    exact ⟨le_max_left _ _, min_le_left _ _⟩

end Ageing
/-- Settles O55: a sample by `State.judged_sampled` and what judging leaves, the trips by `State.tripDevice_leaves`, an ageing epoch by `State.replanned_keeps`. -/
theorem heatAndAgeing : Obligations.HeatAndAgeing := by
  unfold Obligations.HeatAndAgeing
  refine ⟨?diodes, ?trips, ?ageing⟩
  case diodes =>
    intro s die raw check stack c d top n m tc tb ps m0 tss keeper
    refine ⟨fun hread hbroken hsuspect hlarva => ⟨_, execDiodeSample_reads hread hlarva check, ?sample⟩, fun hread => if_pos (by simp [c, hread]),
      fun hdst hkeeper hlisted => ⟨_, execThrottleStep_steps hdst, rfl, fun hhot hlate => ?up, fun hcool hsome hlate => ?down, fun hlow hhigh => ?between⟩,
      fun hon => ?model, fun hdie hwhole hbad => ⟨_, execDiodeBroken_breaks hdie hwhole hbad, ?broken⟩⟩
    case sample =>
      have hjudged := State.judged_sampled (raw := raw) hbroken hsuspect check
      obtain ⟨hmem, -, hcores, hjob, htally, -⟩ := (s.sampled c raw check).judge_keeps c
      obtain ⟨hraw, huse, hvalid, hwarn, hthrottle, hstop⟩ := hjudged
      have hread : (((s.sampled c raw check).judge c).keeperCool c).diode c = (s.sampled c raw check).judged c := by
        rw [State.keeperCool_eq]
        exact State.diode_judge (Diode.ne_reset_of_valid hvalid)
      rw [hread]
      refine ⟨hraw, huse, hvalid, hwarn, hthrottle, hstop, ?_⟩
      rw [State.keeperCool_eq]
      exact ⟨hmem, hcores, hjob, htally⟩
    case up =>
      have hnow : s.now ≠ 0 := by omega
      have hstep : s.stepped c d = { d with steps := min top (d.steps + 1), stepAt := s.now } := State.stepped_up hkeeper hhot hlate
      rw [State.diode, sget_filterMap hlisted (hstep ▸ Diode.ne_reset_of_stepAt hnow)]
      exact hstep ▸ ⟨rfl, rfl⟩
    case down =>
      have hnow : s.now ≠ 0 := by omega
      have hstep : s.stepped c d = { d with steps := d.steps - 1, stepAt := s.now } := State.stepped_down hkeeper hcool hsome hlate
      rw [State.diode, sget_filterMap hlisted (hstep ▸ Diode.ne_reset_of_stepAt hnow)]
      exact hstep ▸ ⟨rfl, rfl⟩
    case between =>
      have hstep : s.stepped c d = d := State.stepped_between hkeeper hlow hhigh
      rw [State.diode, sget_filterMap hlisted (hstep ▸ hlisted)]
      exact hstep
    case model =>
      obtain ⟨far, near, sus, since, t, hnext, ht⟩ := execMiddleModelUpdate_moves hon
      have hdiode : t.diode (0x80 + n) = { m with model := some (s.movedModel n), overSince := far, nearSince := near, suspect := sus, suspectSince := since } := by
        rw [ht]
        exact State.diode_setDiode (Diode.ne_reset_of_model rfl)
      obtain ⟨hraw, hmodel, -, -, -⟩ := State.judge_keeps_diode (s := t) (c := 0x80 + n) (Diode.ne_reset_of_model (by rw [State.judged, hdiode]; rfl))
      obtain ⟨-, hrow, -, hjob, -, -⟩ := t.judge_keeps (0x80 + n)
      rw [hdiode] at hraw hmodel
      exact ⟨_, hnext, hmodel, hraw, hrow.trans (by rw [ht]; rfl), hjob.trans (by rw [ht]; rfl)⟩
    case broken =>
      obtain ⟨hdiodes, hmem, hjob⟩ := ((s.setDiode c { d with broken := true, tripSince := none, suspect := false }).irq .therm 0 3).amendLater_keeps 0x0B false c 0
      revert hdiodes hmem hjob
      generalize State.amendLater _ _ _ _ _ = t
      intro hdiodes hmem hjob
      have hdiode : t.diode c = { d with broken := true, tripSince := none, suspect := false } := by
        rw [State.diode, hdiodes]
        exact State.diode_setDiode (Diode.ne_reset_of_broken rfl)
      obtain ⟨-, -, hbroken, htrip, hsubst⟩ := State.judge_keeps_diode (s := t) (c := c) (Diode.ne_reset_of_broken (by rw [State.judged, hdiode]))
      obtain ⟨hmem', -, -, hjob', -, -⟩ := t.judge_keeps c
      rw [hdiode] at hbroken htrip hsubst
      exact ⟨hbroken, htrip, hsubst, hmem'.trans hmem, hjob'.trans hjob⟩
  case trips =>
    intro s die t k c d kp t0 l trips
    refine ⟨fun hsince hwhole hdst hlate hkeeper => ⟨_, execThermalTrip_trips hsince hwhole hdst hlate hkeeper, s.tripDevice_leaves false⟩,
      fun hsince hwhole hdst hlate hk => execThermalTrip_keeper hsince hwhole hdst hlate hk, execThermalTrip_none,
      fun hdie hstop hrunning hdst hwindow hhist hreach => ⟨_, execPredictedTrip_trips hdie hstop hrunning hdst hwindow hhist hreach, s.tripDevice_leaves true⟩,
      fun _ _ hhist => execPredictedTrip_waits hhist⟩
  case ageing =>
    intro s ini ep v die m c rs
    refine ⟨fun hform hidle hon hmoved => ⟨_, execRegionRecal_recalibrates hidle hon hmoved, ?recal⟩, execRegionRecal_waits,
      fun htakes hstart => ?start, fun htakes hstart => ?idle, fun hdst => ⟨_, execHourCount_counts hdst, ?hour⟩, fun hidle hhours => ?epoch,
      fun r slow a h => State.planRegion_bound s h⟩
    case recal =>
      have hdue : ∀ r ∈ rs, ((s.recalibrated c rs).region r).recalDue = false := fun r hr => State.recalDue_recalibrated hform c hr
      have hleaves := s.recalibrated_leaves c rs
      revert hdue hleaves
      generalize s.recalibrated c rs = u
      exact fun hdue hleaves => ⟨hdue, hleaves⟩
    case start =>
      have hcmd : s.calCmd v.toNat = { s with calPass := { s.calPass with pending := true } } := if_pos hstart
      exact (execCalStart_taken htakes v).trans (by rw [hcmd])
    case idle =>
      have hcmd : s.calCmd v.toNat = s := if_neg (Bool.eq_false_iff.1 hstart)
      exact (execCalStart_taken htakes v).trans (by rw [hcmd])
    case hour =>
      rw [State.sameButRegs_wearCheck]
      exact ⟨rfl, rfl, rfl⟩
    case epoch =>
      obtain ⟨u, k, c, hnext, hhours', hamends', hjob', hcores', hepochs', hpass'⟩ := execAgeingEpoch_plans (m := m) hidle hhours
      obtain ⟨hhours, hamends, hjob, hcores, hepochs, -⟩ := s.replanned_keeps m
      exact ⟨u, hnext, hepochs'.trans hepochs, congrArg CalPass.pending hpass', hhours'.trans hhours, hamends.trans hamends', hjob'.trans hjob, hcores'.trans hcores⟩

end Sys2Proof.Machine
end

section
/-!
The Keepers and the Tally (R483 to R491): what an update of a Keeper leaves, then heartbeats, decision rounds, health, self-tests and restarts.
-/
namespace Sys2Proof.Machine

/-! ## A Keeper after an update -/

section Keepers
variable {s : State}

theorem State.keeper_fin (s : State) (k : Fin 3) : s.keeper k = s.keepers.get k := by
  simp [State.keeper, Vector.get_eq_getElem]

theorem State.modKeeper_fin (s : State) (k : Fin 3) (f : Keeper → Keeper) :
    s.modKeeper k f = { s with keepers := s.keepers.set k (f (s.keepers.get k)) } := by
  have hset (x : Keeper) : s.keepers.setIfInBounds k x = s.keepers.set k x := Vector.ext fun i hi => by simp [Vector.getElem_set, Vector.getElem_setIfInBounds]
  rw [State.modKeeper, State.keeper_fin, hset]

@[simp] theorem keeper_set_same (v : Vector Keeper 3) (k : Fin 3) (x : Keeper) : (v.set k x).get k = x := by
  simp [Vector.get_eq_getElem]

theorem keeper_set_ne (v : Vector Keeper 3) {k j : Fin 3} (x : Keeper) (h : j ≠ k) : (v.set k x).get j = v.get j := by
  simp [Vector.get_eq_getElem, Fin.val_ne_of_ne h.symm]

theorem keeper_set_self (v : Vector Keeper 3) (k : Fin 3) : v.set k (v.get k) = v := by
  simp [Vector.get_eq_getElem]

/-- A role taken is that Keeper's, and an interrupt of its page (R483). -/
theorem State.setRole_fin (s : State) (k : Fin 3) (r : Role) :
    s.setRole k r = { s with keepers := s.keepers.set k { s.keepers.get k with role := r }, regs := (s.setRole k r).regs } := by
  unfold State.setRole
  rw [State.keeper_fin]
  split
  case isTrue h => rw [← h, keeper_set_self]
  case isFalse => rw [State.modKeeper_fin]; rfl

/-- A Keeper that fails has that role, and one amendment more records it (R483, R491). -/
theorem State.keeperFail_fin (s : State) (k : Fin 3) : s.keeperFail k = { s with
    keepers := s.keepers.set k { s.keepers.get k with role := .failed }, regs := (s.keeperFail k).regs
    vault := s.vault.record [⟨0x0C, false, objVersion s.vault.folio, s.vault.hours, k, 0⟩] } := by
  unfold State.keeperFail State.amend
  rw [State.setRole_fin]

theorem Vault.length_record (v : Vault) (l : List Amend) : (v.record l).amends.length = v.amends.length + l.length := List.length_append

end Keepers

/-! ## Heartbeats (R484) -/

section Heartbeats
variable {s : State} {k : Fin 3} (hruns : s.tallyRuns = true)
include hruns

theorem execHeartbeat_counts {window : Word} (hwindow : window.toNat = s.now / 100000 % 2 ^ 32) (hactive : s.tally.active = some k) (hdemotion : s.tally.demotion = none) :
    execHeartbeat k s.tally.epoch window s = .next { s with tally := { s.tally with beat := true } } := by
  unfold execHeartbeat
  extract_lets t
  rw [if_neg (by simp [hruns, hwindow, t, hactive])]
  simp only [t, hdemotion]
  rfl

omit hruns in
theorem execHeartbeat_refused {ep : Byte} (window : Word) (h : s.tally.active ≠ some k ∨ (s.tally.demotion = none ∧ ep ≠ s.tally.epoch)) :
    execHeartbeat k ep window s = .next s := by
  unfold execHeartbeat
  extract_lets t
  rcases h with hactive | ⟨hdemotion, hep⟩
  · exact if_pos (.inr (.inr hactive))
  · simp only [t, hdemotion, if_neg hep, ite_self]

theorem execHeartbeatWindowEnd_beat (hend : s.tally.window < s.now / 100000) (hbeat : s.tally.beat = true) :
    execHeartbeatWindowEnd s = .next { s with tally := { s.tally with window := s.now / 100000, beat := false, missed := 0 } } := by
  rw [execHeartbeatWindowEnd, if_neg (by simp [hruns, hend])]
  simp only [hbeat, if_true]

theorem execHeartbeatWindowEnd_missed (hend : s.tally.window < s.now / 100000) (hbeat : s.tally.beat = false) : execHeartbeatWindowEnd s =
    .next (({ s with tally := { s.tally with window := s.now / 100000, beat := false, missed := s.tally.missed + 1 } } : State).bump (tallyReg 0x058) 0 16 1) := by
  rw [execHeartbeatWindowEnd, if_neg (by simp [hruns, hend])]
  simp only [hbeat]
  rfl

end Heartbeats

/-! ## Decision rounds (R485) -/

section Rounds
variable {s : State} {k a v w : Fin 3}

theorem execDigest_submits {round : Word} (hruns : s.tallyRuns = true) (hround : round.toNat = (s.now / 1000000 - 1) % 2 ^ 32) (hearly : s.now % 1000000 ≤ 500000)
    (hnew : s.tally.round < s.now / 1000000) (d : Dword) :
    execDigest k round d s = .next { s with keepers := s.keepers.set k { s.keepers.get k with digest := some (s.now / 1000000 - 1, d) } } := by
  unfold execDigest
  extract_lets r
  rw [if_neg (by simp only [hruns, r]; simp [hround]; omega), State.modKeeper_fin]

/-- The digest of a Keeper for the round that ended. -/
def State.roundDigest (s : State) (k : Nat) : Option Dword := (s.keeper k).digestOf (s.now / 1000000 - 1)

/-- The state of a round that is compared, before its outcome: it is noted and counted, and the digests are dropped. -/
def State.roundOver (s : State) : State :=
  ({ s with tally := { s.tally with round := s.now / 1000000 }, keepers := s.keepers.map (fun (x : Keeper) => { x with digest := none }) }).bump (tallyReg 0x05C) 0 16 1

/-- A voter whose digest is not the one that the other voter and the active Keeper agree on. -/
def State.oddVoter (s : State) (a x y : Nat) : Bool :=
  (s.roundDigest x).isSome && (s.roundDigest y).isSome && decide (s.roundDigest y = s.roundDigest a) && decide (s.roundDigest x ≠ s.roundDigest y)

/-- The state of a round that is compared and gives no out-vote. -/
def State.roundQuiet (s : State) : State := { s.roundOver with tally := { s.roundOver.tally with outRow := 0 } }

/-- What a round with two voters comes to (R485). -/
def State.judged2 (s : State) (a v w : Nat) : State :=
  if (s.roundDigest v).isSome ∧ s.roundDigest v = s.roundDigest w ∧ s.roundDigest a ≠ s.roundDigest v then
    (({ s.roundOver with tally := { s.roundOver.tally with outRow := s.roundOver.tally.outRow + 1 } }).bump (tallyReg 0x05C) 16 16 1).irq .tally 0 1
  else if s.oddVoter a v w then s.roundQuiet.dissent v
  else if s.oddVoter a w v then s.roundQuiet.dissent w
  else s.roundQuiet

/-- The two voters, in either order: the outcome does not depend on it. -/
theorem State.judged2_comm (s : State) (a v w : Nat) : s.judged2 a v w = s.judged2 a w v := by
  unfold State.judged2 State.oddVoter
  by_cases heq : s.roundDigest v = s.roundDigest w
  · simp [heq]
  · have hne : s.roundDigest w ≠ s.roundDigest v := Ne.symm heq
    by_cases hv : s.roundDigest w = s.roundDigest a <;> by_cases hw : s.roundDigest v = s.roundDigest a
    · exact absurd (hw.trans hv.symm) heq
    all_goals simp [heq, hne, hv, hw]

/-- The two Keepers that vote besides the active one, the lower first. -/
theorem filter_two {p : Nat → Bool} (hvw : v < w) (hva : v ≠ a) (hwa : w ≠ a) (ha : p a = false) (hv : p v = true) (hw : p w = true) :
    (List.range 3).filter p = [v.val, w.val] := by
  have hpairs : ∀ v w : Fin 3, v < w → (List.range 3).filter (fun x => decide (x = v.val ∨ x = w.val)) = [v.val, w.val] := by decide
  rw [← hpairs v w hvw]
  refine List.filter_congr fun x hx => ?_
  have hx3 : x < 3 := List.mem_range.1 hx
  by_cases hxv : x = v.val
  · simp [hxv, hv]
  by_cases hxw : x = w.val
  · simp [hxw, hw]
  have hxa : x = a.val := by omega
  simp [hxv, hxw]
  rw [hxa, ha]

section Compare
variable (hruns : s.tallyRuns = true) (hactive : s.tally.active = some a) (hnew : s.tally.round < s.now / 1000000) (hover : 500000 ≤ s.now % 1000000)
include hruns hactive hnew hover

theorem execDecisionRoundCompare_two (hvw : v ≠ w) (hva : v ≠ a) (hwa : w ≠ a) (hv : (s.keepers.get v).votes = true) (hw : (s.keepers.get w).votes = true) :
    execDecisionRoundCompare s = .next (s.judged2 a v w) := by
  have hordered {v w : Fin 3} (hlt : v < w) (hva : v ≠ a) (hwa : w ≠ a) (hv : (s.keepers.get v).votes = true) (hw : (s.keepers.get w).votes = true) :
      execDecisionRoundCompare s = .next (s.judged2 a v w) := by
    unfold execDecisionRoundCompare
    split
    next h => simp [h] at hactive
    next b h =>
    obtain rfl : b = a := Option.some.inj (h.symm.trans hactive)
    rw [if_neg (by simp [hruns]; omega), filter_two hlt hva hwa (by simp) (by simp [State.keeper_fin, hv, Fin.val_ne_of_ne hva])
      (by simp [State.keeper_fin, hw, Fin.val_ne_of_ne hwa])]
    unfold State.judged2
    by_cases hout : (s.roundDigest v).isSome = true ∧ s.roundDigest v = s.roundDigest w ∧ s.roundDigest b ≠ s.roundDigest v
    · rw [if_pos hout]
      exact if_pos hout
    · rw [if_neg hout]
      exact if_neg hout
  rcases lt_or_gt_of_ne hvw with hlt | hgt
  · exact hordered hlt hva hwa hv hw
  · rw [s.judged2_comm]
    exact hordered hgt hwa hva hw hv

end Compare

/-- What a compared round leaves: the round noted, the out-votes in a row, main memory, the job and the vault. -/
def State.compared (s u : State) (out : Nat) : Prop :=
  u.tally = { s.tally with round := s.now / 1000000, outRow := out } ∧ u.mainMem = s.mainMem ∧ u.job = s.job ∧ u.vault = s.vault

/-- Both voters against the active Keeper: an out-vote. -/
theorem State.judged2_outvote (hsome : (s.roundDigest v).isSome = true) (hvw : s.roundDigest w = s.roundDigest v) (ha : s.roundDigest a ≠ s.roundDigest v) :
    s.compared (s.judged2 a v w) (s.tally.outRow + 1) ∧ (s.judged2 a v w).keepers = s.keepers.map (fun y => { y with digest := none }) := by
  rw [State.judged2, if_pos ⟨hsome, hvw.symm, ha⟩]
  exact ⟨⟨rfl, rfl, rfl, rfl⟩, rfl⟩

/-- All agree: no out-vote. -/
theorem State.judged2_agree (hvw : s.roundDigest w = s.roundDigest v) (ha : s.roundDigest a = s.roundDigest v) :
    s.compared (s.judged2 a v w) 0 ∧ (s.judged2 a v w).keepers = s.keepers.map (fun y => { y with digest := none }) := by
  rw [State.judged2, if_neg (by simp [ha])]
  simp only [State.oddVoter, hvw, ne_eq, not_true_eq_false, decide_false, Bool.and_false]
  exact ⟨⟨rfl, rfl, rfl, rfl⟩, rfl⟩

/-- The dissents of the last second, this one included. -/
def State.dissentsNow (s : State) (v : Fin 3) : List Nat := (s.keepers.get v).dissents.filter (fun q => decide (s.now < q + 1000000000)) ++ [s.now]

/-- A voter whose dissent is noted and counted. -/
def State.dissented (s : State) (v : Fin 3) : State :=
  ((s.modKeeper v (fun y => { y with dissents := s.dissentsNow v })).bump (tallyReg 0x060) (8 * v) 8 1).irq .tally 0 3

theorem State.dissented_eq (s : State) (v : Fin 3) :
    s.dissented v = { s with keepers := s.keepers.set v { s.keepers.get v with dissents := s.dissentsNow v }, regs := (s.dissented v).regs } := by
  rw [State.dissented, State.modKeeper_fin]
  rfl

/-- A voter that starts again after its fourth dissent. -/
def Keeper.outvoted (x : Keeper) : Keeper := { x with healthy := false, inSync := false, after := x.role, verdict := none, dissents := [] }

theorem State.dissent_eq (s : State) (v : Fin 3) : s.dissent v =
    if 4 ≤ (s.dissentsNow v).length then (((s.dissented v).modKeeper v Keeper.outvoted).setRole v .starting).irq .keeper v 2 else s.dissented v := by
  unfold State.dissent
  rw [State.keeper_fin]
  rfl

theorem State.dissent_few (h : (s.dissentsNow v).length < 4) : s.dissent v = s.dissented v := (s.dissent_eq v).trans (if_neg (by omega))

theorem State.dissent_fourth (h : 4 ≤ (s.dissentsNow v).length) : ∃ regs, s.dissent v = { s with
    keepers := s.keepers.set v { ({ s.keepers.get v with dissents := s.dissentsNow v } : Keeper).outvoted with role := .starting }, regs := regs } := by
  refine ⟨(s.dissent v).regs, ?_⟩
  rw [s.dissent_eq v, if_pos h, State.setRole_fin, State.modKeeper_fin, s.dissented_eq]
  simp only [keeper_set_same, Vector.set_set]
  rfl

/-- One voter alone dissents: it is noted, and its fourth dissent in 1 s restarts it. -/
theorem State.judged2_dissent (hv : (s.roundDigest v).isSome = true) (hw : (s.roundDigest w).isSome = true) (hwa : s.roundDigest w = s.roundDigest a)
    (hvw : s.roundDigest v ≠ s.roundDigest w) : s.compared (s.judged2 a v w) 0 ∧
      ((s.dissentsNow v).length < 4 → ((s.judged2 a v w).keepers.get v).dissents = s.dissentsNow v ∧ ((s.judged2 a v w).keepers.get v).role = (s.keepers.get v).role) ∧
      (4 ≤ (s.dissentsNow v).length → ((s.judged2 a v w).keepers.get v).role = .starting ∧ ((s.judged2 a v w).keepers.get v).healthy = false ∧
        ((s.judged2 a v w).keepers.get v).after = (s.keepers.get v).role) := by
  have hdissent : s.judged2 a v w = s.roundQuiet.dissent v := by
    rw [State.judged2, if_neg (fun h => hvw h.2.1), if_pos (by simp [State.oddVoter, hv, hw, hwa.symm, hvw])]
  have hget : s.roundQuiet.keepers.get v = { s.keepers.get v with digest := none } := by
    simp [State.roundQuiet, State.roundOver, State.bump, State.setFld, State.wr, Vector.get_eq_getElem]
  have hds : s.roundQuiet.dissentsNow v = s.dissentsNow v := by
    rw [State.dissentsNow, hget]
    rfl
  rw [hdissent, ← hds]
  rcases lt_or_ge (s.roundQuiet.dissentsNow v).length 4 with hfew | hfourth
  · rw [State.dissent_few hfew, State.dissented_eq]
    exact ⟨⟨rfl, rfl, rfl, rfl⟩, fun _ => by simp [hget], fun h => absurd hfew (by omega)⟩
  · obtain ⟨regs, hfourth_eq⟩ := State.dissent_fourth hfourth
    rw [hfourth_eq]
    exact ⟨⟨rfl, rfl, rfl, rfl⟩, fun h => absurd hfourth (by omega), fun _ => by simp [Keeper.outvoted, hget]⟩

end Rounds

/-! ## Health, self-tests and restarts (R486, R487, R491) -/

section Health
variable {s : State} {k : Fin 3} (hruns : s.tallyRuns = true)
include hruns

theorem execHealth_noted (hfailed : (s.keepers.get k).role ≠ .failed) (hstarting : (s.keepers.get k).role ≠ .starting) (word : Dword) : execHealth k word s =
    .next { s with keepers := s.keepers.set k { s.keepers.get k with lastHealth := s.now, word := word, healthy := true } } := by
  unfold execHealth
  extract_lets x
  rw [if_neg (by simp [hruns, x, hfailed, hstarting]), State.modKeeper_fin]

theorem execHealthTimeout_unhealthy (hrole : (s.keepers.get k).role = .standby ∨ (s.keepers.get k).role = .held) (hhealthy : (s.keepers.get k).healthy = true)
    (hlate : (s.keepers.get k).lastHealth + 3000000000 ≤ s.now) : execHealthTimeout k s =
      .next (({ s with keepers := s.keepers.set k { s.keepers.get k with healthy := false } } : State).irq .keeper k 2) := by
  unfold execHealthTimeout
  extract_lets x
  rw [if_neg (by rcases hrole with h | h <;> simp [hruns, x, h, hhealthy, hlate]), State.modKeeper_fin]

section SelfTest
variable (hrole : (s.keepers.get k).role = .standby ∨ (s.keepers.get k).role = .held)
  (hdue : (s.keepers.get k).lastTest = 0 ∨ (s.keepers.get k).lastTest + 10000000000 ≤ s.now)
include hrole hdue

/-- What a due self-test does: it is counted and noted, and one that fails restarts the Keeper or, the third in a row, makes it failed. -/
theorem execKeeperSelfTest_due (pass : Bool) : ∃ u : State,
    (s.modKeeper k (fun y => { y with passed := pass, lastTest := s.now, testFails := (if pass then 0 else y.testFails + 1) })).sameButRegs u ∧
    execKeeperSelfTest k pass s = .next (if pass then u else if 2 ≤ (s.keepers.get k).testFails then u.keeperFail k
      else (u.modKeeper k (fun y => { y with healthy := false, inSync := false, after := (s.keepers.get k).role, verdict := none })).setRole k .starting) := by
  unfold execKeeperSelfTest
  extract_lets x s1 s2
  rw [if_neg (by rcases hrole with h | h <;> simp [hruns, x, h] <;> omega)]
  have h1 : (s.modKeeper k (fun y => { y with passed := pass, lastTest := s.now, testFails := (if pass then 0 else y.testFails + 1) })).sameButRegs s1 := rfl
  have h2 : s1.sameButRegs s2 := ((s1.sameButRegs_bump _ _ _ _).trans (State.sameButRegs_irq _ _ _ _)).trans (State.sameButRegs_irq _ _ _ _)
  clear_value s1 s2
  cases pass
  · refine ⟨s2, h1.trans h2, ?_⟩
    rw [if_neg Bool.false_ne_true, if_neg Bool.false_ne_true, apply_ite Host.Outcome.next]
  · exact ⟨s1, h1, rfl⟩

theorem execKeeperSelfTest_passes : ∃ u : State, execKeeperSelfTest k true s = .next u ∧
    u.keepers = s.keepers.set k { s.keepers.get k with passed := true, lastTest := s.now, testFails := 0 } ∧ u.tally = s.tally := by
  obtain ⟨u, hu, he⟩ := execKeeperSelfTest_due hruns hrole hdue true
  refine ⟨u, he, ?_⟩
  rw [State.modKeeper_fin] at hu
  rw [hu]
  exact ⟨rfl, rfl⟩

theorem execKeeperSelfTest_restarts (hfew : (s.keepers.get k).testFails < 2) : ∃ u : State, execKeeperSelfTest k false s = .next u ∧
    (u.keepers.get k).role = .starting ∧ (u.keepers.get k).testFails = (s.keepers.get k).testFails + 1 ∧ (u.keepers.get k).inSync = false ∧
    (u.keepers.get k).after = (s.keepers.get k).role ∧ u.vault = s.vault := by
  obtain ⟨u, hu, he⟩ := execKeeperSelfTest_due hruns hrole hdue false
  rw [if_neg Bool.false_ne_true, if_neg (by omega)] at he
  refine ⟨_, he, ?_⟩
  rw [State.modKeeper_fin] at hu
  rw [State.setRole_fin, State.modKeeper_fin, hu]
  simp

theorem execKeeperSelfTest_fails (hmany : 2 ≤ (s.keepers.get k).testFails) : ∃ u : State, execKeeperSelfTest k false s = .next u ∧
    (u.keepers.get k).role = .failed ∧ s.vault.amends.length < u.vault.amends.length := by
  obtain ⟨u, hu, he⟩ := execKeeperSelfTest_due hruns hrole hdue false
  rw [if_neg Bool.false_ne_true, if_pos hmany] at he
  refine ⟨_, he, ?_⟩
  rw [State.keeperFail_fin]
  have hvault : u.vault = s.vault := by
    rw [hu, State.modKeeper_fin]
  simp [hvault, Vault.length_record]

end SelfTest

section Restart
variable (hrole : (s.keepers.get k).role = .starting) (htripped : (s.keepers.get k).tripped = false) (hverdict : (s.keepers.get k).verdict ≠ some true)
include hrole htripped hverdict

/-- A restarting Keeper's copy of the running image verifies: with no job it takes its role, with one it waits for the next copy (R487). -/
theorem execKeeperRestart_verified (himage : s.imageOk s.vault.running = true) : execKeeperRestart k true s =
    (let s1 := s.modKeeper k (fun y => { y with verdict := some true, since := s.now, lastHealth := s.now, dissents := [] })
     if s.stage = .imago ∧ s.jobPhase = 3 then .next s1
     else .next ((s1.modKeeper k (fun y => { y with inSync := true, healthy := true })).setRole k (s.keepers.get k).after)) := by
  rw [execKeeperRestart, if_neg (by simp [hruns, hrole, htripped, hverdict]), if_pos ⟨rfl, himage⟩]

theorem execKeeperRestart_takes (himage : s.imageOk s.vault.running = true) (hfree : s.stage ≠ .imago ∨ s.jobPhase ≠ 3) : ∃ u : State,
    execKeeperRestart k true s = .next u ∧ (u.keepers.get k).role = (s.keepers.get k).after ∧ (u.keepers.get k).healthy = true ∧ (u.keepers.get k).inSync = true ∧
      (u.keepers.get k).verdict = some true ∧ u.tally = s.tally ∧ u.vault = s.vault := by
  refine ⟨_, (execKeeperRestart_verified hruns hrole htripped hverdict himage).trans (if_neg (by tauto)), ?_⟩
  rw [State.setRole_fin, State.modKeeper_fin, State.modKeeper_fin]
  simp

theorem execKeeperRestart_waits (himage : s.imageOk s.vault.running = true) (hstage : s.stage = .imago) (hjob : s.jobPhase = 3) : execKeeperRestart k true s =
    .next { s with keepers := s.keepers.set k { s.keepers.get k with verdict := some true, since := s.now, lastHealth := s.now, dissents := [] } } := by
  refine (execKeeperRestart_verified hruns hrole htripped hverdict himage).trans ((if_pos ⟨hstage, hjob⟩).trans ?_)
  rw [State.modKeeper_fin]

variable {good : Bool} (hbad : good = false ∨ s.imageOk s.vault.running = false)
include hbad

/-- A restart that fails is counted, and the third makes the Keeper failed. -/
theorem execKeeperRestart_bad : execKeeperRestart k good s =
    (let s1 : State := { s with keepers := s.keepers.set k { s.keepers.get k with restartFails := (s.keepers.get k).restartFails + 1 } }
     .next (if 2 ≤ (s.keepers.get k).restartFails then s1.keeperFail k else s1)) := by
  rw [execKeeperRestart, if_neg (by simp [hruns, hrole, htripped, hverdict]), if_neg (by rcases hbad with h | h <;> simp [h]), State.modKeeper_fin]

theorem execKeeperRestart_fails (hmany : 2 ≤ (s.keepers.get k).restartFails) : ∃ u : State, execKeeperRestart k good s = .next u ∧ (u.keepers.get k).role = .failed := by
  refine ⟨_, (execKeeperRestart_bad hruns hrole htripped hverdict hbad).trans (congrArg _ (if_pos hmany)), ?_⟩
  rw [State.keeperFail_fin]
  simp

end Restart

end Health

/-- Settles O57: each command of the Tally by its own lemma; the two voters of a round are the Keepers that `State.judged2` compares, in either order. -/
theorem tallyRounds : Obligations.TallyRounds := by
  unfold Obligations.TallyRounds
  refine ⟨?rounds, ?standbys⟩
  case rounds =>
    intro s k a v w ep window round d word t r dg x ds compared hruns
    have hdg (j : Fin 3) : dg j = s.roundDigest j := by
      simp only [dg, State.roundDigest, State.keeper_fin]
      rfl
    refine ⟨execHeartbeat_counts hruns, execHeartbeat_refused window, execHeartbeatWindowEnd_beat hruns, execHeartbeatWindowEnd_missed hruns,
      fun hround hearly hnew => execDigest_submits hruns hround hearly hnew d, fun hactive hvw hva hwa hv hw hnew hover => ?compare,
      fun hfailed hstarting => execHealth_noted hruns hfailed hstarting word, execHealthTimeout_unhealthy hruns⟩
    have htwo := execDecisionRoundCompare_two hruns hactive hnew hover hvw hva hwa hv hw
    simp only [hdg]
    exact ⟨fun hsome heq hne => ⟨_, htwo, State.judged2_outvote hsome heq hne⟩, fun heq ha => ⟨_, htwo, State.judged2_agree heq ha⟩,
      fun hsome hsome' heq hne => ⟨_, htwo, State.judged2_dissent hsome hsome' heq hne⟩⟩
  case standbys =>
    intro s k good x hruns
    exact ⟨fun hrole hdue => ⟨execKeeperSelfTest_passes hruns hrole hdue, execKeeperSelfTest_restarts hruns hrole hdue, execKeeperSelfTest_fails hruns hrole hdue⟩,
      fun hrole htripped hverdict => ⟨execKeeperRestart_takes hruns hrole htripped hverdict, execKeeperRestart_waits hruns hrole htripped hverdict,
        fun hbad hfew => (execKeeperRestart_bad hruns hrole htripped hverdict hbad).trans (congrArg _ (if_neg (Nat.not_le.2 hfew))),
        execKeeperRestart_fails hruns hrole htripped hverdict⟩⟩

end Sys2Proof.Machine
end

section
/-!
Demotion, the epoch bump and promotion (R487 to R490, R532).
-/
namespace Sys2Proof.Machine

section Demote
variable {s : State} {a k : Fin 3} {c : Nat}

/-- The device from Ovum on: no Keeper is active, no job is loaded, and the vault holds what the flash holds (R480, R489, R512). -/
theorem State.toOvum_leaves (s : State) : s.toOvum.stage = .ovum ∧ s.toOvum.tally.active = none ∧ s.toOvum.jobPhase = 0 ∧
    s.toOvum.vault = { s.vault with running := [], imageDue := [], image := (if s.vault.imageDue.isEmpty then s.vault.image else []) } := by
  rw [State.toOvum, State.surgeEnd_eq]
  exact ⟨rfl, rfl, rfl, rfl⟩

/-- The roles change hands: the successor is active, and the old active Keeper a standby that is not in sync (R487 t0). -/
def State.handOver (s : State) (a k : Fin 3) : State := ((s.setRole k .active).setRole a .standby).modKeeper a (fun x => { x with inSync := false })

theorem State.handOver_eq (hka : k ≠ a) : ∃ regs, s.handOver a k = { s with
    keepers := (s.keepers.set k { s.keepers.get k with role := .active }).set a { s.keepers.get a with role := .standby, inSync := false }, regs := regs } := by
  refine ⟨(s.handOver a k).regs, ?_⟩
  rw [State.handOver, State.modKeeper_fin, State.setRole_fin, State.setRole_fin]
  simp only [keeper_set_same, keeper_set_ne _ _ hka.symm, Vector.set_set]

/-- A demotion in progress, from one Keeper to another (R487 t0). -/
def State.passOn (s : State) (a k : Fin 3) (c : Nat) : State := { s with
  tally := { s.tally with active := some k, demotion := some { t0 := s.now, old := a, new := k, cause := c }, missed := 0, outRow := 0, beat := false, promote := none }
  staging := {} }

/-- The state of a demotion with its log, its count and its messages. -/
def State.demoted (s : State) (a k : Fin 3) (c : Nat) : State :=
  let e := nextEpoch s.tally.epoch
  ((((((((s.passOn a k c).handOver a k).wr (tallyReg 0x04C) (BitVec.ofNat 32 (a.val + k.val * 4 + c * 16 + e.toNat * 256 + 2 ^ 31))).wr64 (tallyReg 0x050) s.timebase).bump
    (tallyReg 0x058) 16 16 1).irq .tally 0 0).emit (.tally 4 k e 0 1)).emit (.tally 5 a e 0 0))

section Running
variable (hactive : s.tally.active = some a) (hcause : s.demoteCause = c) (hc : c ≠ 0) (hruns : s.tallyRuns = true) (hnone : s.tally.demotion = none)
include hactive hcause hc hruns hnone

/-- A demotion that is due turns on the successor. -/
theorem execDemotion_due : execDemotion s =
    (match s.successor c with
     | none => if c = 3 then .next { s with tally := { s.tally with promote := none } } else .next (s.irq .tally 0 2).toOvum
     | some k => .next (s.demoted a k c)) := by
  subst hcause
  unfold execDemotion
  split
  next h => simp [h] at hactive
  next b h =>
  obtain rfl : b = a := Option.some.inj (h.symm.trans hactive)
  exact if_neg (by simp [hc, hruns, hnone])

theorem execDemotion_handsOver (hsucc : s.successor c = some k) (hka : k ≠ a) : ∃ u : State, execDemotion s = .next u ∧ u.tally.active = some k ∧
    u.tally.epoch = s.tally.epoch ∧ u.tally.demotion = some { t0 := s.now, old := a, new := k, cause := c } ∧ u.tally.missed = 0 ∧ u.tally.outRow = 0 ∧
    u.tally.promote = none ∧ (u.keepers.get k).role = .active ∧ (u.keepers.get a).role = .standby ∧ (u.keepers.get a).inSync = false ∧ u.staging = {} ∧
    u.out = s.out ++ [.tally 4 k (nextEpoch s.tally.epoch) 0 1, .tally 5 a (nextEpoch s.tally.epoch) 0 0] ∧ u.job = s.job ∧ u.vault = s.vault := by
  refine ⟨_, (execDemotion_due hactive hcause hc hruns hnone).trans (by rw [hsucc]), ?_⟩
  obtain ⟨regs, hover⟩ := State.handOver_eq (s := s.passOn a k c) hka
  rw [State.demoted, hover]
  simp [State.emit, State.irq, State.bump, State.setFld, State.wr64, State.wr, State.passOn, keeper_set_ne _ _ hka]

end Running

/-! ## ROLE, HOLD and the bump -/

section Handover
variable {d : Demotion} (hdemotion : s.tally.demotion = some d)

theorem State.epochBump_bumps (s : State) (d : Demotion) : let u := s.epochBump d
    u.tally = { s.tally with epoch := nextEpoch s.tally.epoch, demotion := none, rewrite := some d.new } ∧ (u.keepers.get d.old).role = .starting ∧
      (u.keepers.get d.old).verdict = none ∧ (u.keepers.get d.old).healthy = false ∧
      (u.keepers.get d.old).after = (if d.cause = 3 then .standby else .held) ∧ u.vault = s.vault ∧ u.job = s.job := by
  dsimp only
  rw [State.epochBump, State.modKeeper_fin, State.setRole_fin]
  simp

include hdemotion

theorem execRole_answers (hnew : d.new = k) (hfirst : d.answered = false) : execRole k s =
    .next (({ s with tally := { s.tally with demotion := some { d with answered := true }, beat := true } } : State).emit
      (.tally 1 k (nextEpoch s.tally.epoch) (s.now / 100000) 0)) := by
  simp only [execRole, hdemotion]
  rw [if_neg (by simp [hnew, hfirst])]

theorem execHold_bumps (hold : d.old = k) (htripped : (s.keepers.get k).tripped = false) : execHold k s = .next (s.epochBump d) := by
  simp only [execHold, hdemotion]
  rw [if_pos (by simp [hold, htripped])]

theorem execEpochBump_eq : execEpochBump s = if d.t0 + 20000 ≤ s.now then .next (s.epochBump d) else .next s := by
  simp only [execEpochBump, hdemotion]

end Handover

/-! ## The successor and PROMOTE -/

section Successor
variable (hrewrite : s.tally.rewrite = some k)
include hrewrite

theorem execSuccessorRewrite_idle (hjob : s.jobPhase = 0) : execSuccessorRewrite s = .next { s with tally := { s.tally with rewrite := none } } := by
  rw [execSuccessorRewrite, if_neg (by simp [hrewrite])]
  exact if_pos hjob

/-- The successor goes on from the last copy (R388, R532). -/
def State.fromCopy (s : State) : State := { s with
  tally := { s.tally with rewrite := none }
  serving := { s.serving with reqs := s.serving.copy.reqs, queue := s.serving.copy.queue, tx := s.serving.copy.tx.map (fun q => (q.1, q.2 + 2 ^ 20)), sent := [] } }

theorem execSuccessorRewrite_copy (hjob : s.jobPhase ≠ 0) (hsent : s.serving.copy.sent = []) :
    execSuccessorRewrite s = .next (if s.restart.busy then s.fromCopy.restartRun else s.fromCopy) := by
  unfold execSuccessorRewrite
  extract_lets c s0 s1 s00 s2 s3
  have h3 : s3 = s.fromCopy := by
    simp only [s3, c, hsent, List.foldl_nil]
    rfl
  rw [if_neg (by simp [hrewrite]), if_neg hjob, h3]
  rfl

end Successor

section Promote
variable {ini : Initiator} {ep : Byte} {v : Word}

theorem execPromote_taken (htakes : s.takes ini ep .tally 0 0x048) : execPromote ini ep v s = .next ((s.setPromote v.toNat).answer ini 0) :=
  congrArg _ (State.busDo_taken _ (by decide) (by decide) htakes.1 htakes.2)

theorem State.setPromote_fin (hk : v.toNat % 4 = k) : s.setPromote v.toNat =
    if bits v.toNat 8 8 = 0xA5 ∧ ((s.keepers.get k).role = .standby ∨ (s.keepers.get k).role = .held) ∧ s.tally.demotion.isNone then
      { s with tally := { s.tally with promote := some k } } else s.errCount .tally 0 2 := by
  unfold State.setPromote
  simp only [hk]
  rw [dif_pos k.isLt, State.keeper_fin]

end Promote

end Demote

/-- Settles O58: each part of a demotion by its own lemma; the roles that change hands are `State.handOver`'s, and a device without a successor is `State.toOvum`'s. -/
theorem demotions : Obligations.Demotions := by
  unfold Obligations.Demotions
  intro s a k d ini ep v t e bumped c rewritten
  refine ⟨fun hactive hc hruns hnone => ⟨execDemotion_handsOver hactive rfl hc hruns hnone, fun hsucc hc3 => ?ovum, fun hsucc hc3 => ?dropped⟩,
    fun hd hnew hfirst => execRole_answers hd hnew hfirst, fun hd hold htripped => ⟨_, execHold_bumps hd hold htripped, s.epochBump_bumps d⟩,
    fun hd hlate => ⟨_, (execEpochBump_eq hd).trans (if_pos hlate), s.epochBump_bumps d⟩,
    fun hd hearly => (execEpochBump_eq hd).trans (if_neg (Nat.not_le.2 hearly)), execSuccessorRewrite_idle, fun hrewrite hjob hsent => ?copy, fun htakes hk => ?promote⟩
  case ovum =>
    obtain ⟨hstage, hactive', hjob, -⟩ := (s.irq .tally 0 2).toOvum_leaves
    refine ⟨_, (execDemotion_due hactive rfl hc hruns hnone).trans ?_, hstage, hactive', hjob⟩
    rw [hsucc]
    exact if_neg hc3
  case dropped =>
    rw [exec_demotion, execDemotion_due hactive rfl hc hruns hnone, hsucc]
    exact if_pos hc3
  case copy =>
    have hrun := execSuccessorRewrite_copy hrewrite hjob hsent
    exact ⟨fun hidle => hrun.trans (congrArg _ (if_neg (by simp [hidle]))), fun hbusy => hrun.trans (congrArg _ (if_pos hbusy))⟩
  case promote =>
    rw [exec_promote, execPromote_taken htakes, State.setPromote_fin hk]
    exact ⟨fun hkey hrole hnone => by rw [if_pos ⟨hkey, hrole, Option.isNone_iff_eq_none.2 hnone⟩], fun hkey => by rw [if_neg (fun h => hkey h.1)]⟩

end Sys2Proof.Machine
end

section
/-!
Larva (R471 to R473, R493 to R499): what the retirements, the folio in force and the light leave as they stand.
-/
namespace Sys2Proof.Machine

/-! ## What Larva's steps leave -/

section Kept
variable {s : State}

/-- What retirements, a folio's registers and the light leave: the Keepers and the Tally, the stage and the job's phase, and the folios of the vault. -/
def State.keptInLarva (s : State) :=
  (s.keepers, s.tally, s.stage, s.warm, s.jobPhase, s.vault.folio, s.vault.prior, s.vault.priorRejected, s.vault.pendingFolio)

theorem State.keptInLarva_iff {s t : State} : t.keptInLarva = s.keptInLarva ↔ t.keepers = s.keepers ∧ t.tally = s.tally ∧ t.stage = s.stage ∧ t.warm = s.warm ∧
    t.jobPhase = s.jobPhase ∧ t.vault.folio = s.vault.folio ∧ t.vault.prior = s.vault.prior ∧ t.vault.priorRejected = s.vault.priorRejected ∧
    t.vault.pendingFolio = s.vault.pendingFolio := by
  simp [State.keptInLarva]

theorem foldl_keptInLarva {α : Type} {f : State → α → State} (h : ∀ (t : State) a, (f t a).keptInLarva = t.keptInLarva) (l : List α) (s : State) :
    (l.foldl f s).keptInLarva = s.keptInLarva :=
  List.foldlRecOn (motive := fun t : State => t.keptInLarva = s.keptInLarva) l f rfl fun t ht a _ => (h t a).trans ht

theorem State.sameButRegs.keptInLarva {s t : State} (h : s.sameButRegs t) : t.keptInLarva = s.keptInLarva := by
  rw [h]
  rfl

@[simp] theorem State.keptInLarva_ite {s t u : State} {p : Prop} [Decidable p] (ht : t.keptInLarva = s.keptInLarva) (hu : u.keptInLarva = s.keptInLarva) :
    (if p then t else u).keptInLarva = s.keptInLarva := by
  split <;> assumption

@[simp] theorem State.keptInLarva_irq (s : State) (t : PageType) (i b : Nat) : (s.irq t i b).keptInLarva = s.keptInLarva := rfl
@[simp] theorem State.keptInLarva_setStk (s : State) (n : Nat) (k : Stack) : (s.setStk n k).keptInLarva = s.keptInLarva := rfl
@[simp] theorem State.keptInLarva_setGrp (s : State) (g : Nat) (x : Group) : (s.setGrp g x).keptInLarva = s.keptInLarva := rfl
@[simp] theorem State.keptInLarva_setSite (s : State) (n : Nat) (x : Site) : (s.setSite n x).keptInLarva = s.keptInLarva := rfl
@[simp] theorem State.keptInLarva_amend (s : State) (kind : Nat) (bound : Bool) (res value : Nat) : (s.amend kind bound res value).keptInLarva = s.keptInLarva := rfl

/-! ## Retirements -/

@[simp] theorem State.keptInLarva_retireNow (s : State) (n : Nat) : (s.retireNow n).keptInLarva = s.keptInLarva := rfl
@[simp] theorem State.keptInLarva_retireGroup (s : State) (g kind res : Nat) : (s.retireGroup g kind res).keptInLarva = s.keptInLarva := rfl
@[simp] theorem State.keptInLarva_loseTx (s : State) (n tx : Nat) : (s.loseTx n tx).keptInLarva = s.keptInLarva := rfl

theorem State.keptInLarva_dropThirds (s : State) (failed : List Nat) : (s.dropThirds failed).keptInLarva = s.keptInLarva := by
  unfold State.dropThirds
  extract_lets lost fresh s1 s2
  have h2 : s2.keptInLarva = s.keptInLarva := by
    refine (foldl_keptInLarva (fun t c => ?_) _ s1).trans rfl
    split_ifs <;> rfl
  exact (foldl_keptInLarva (fun t x => t.keptInLarva_amend _ _ _ _) _ s2).trans h2

@[simp] theorem State.keptInLarva_retirements (s : State) : s.retirements.keptInLarva = s.keptInLarva := by
  unfold State.retirements
  extract_lets s1 failed
  have h1 : s1.keptInLarva = s.keptInLarva := by
    refine foldl_keptInLarva (fun t n => ?_) _ s
    dsimp only
    split <;> simp
  split
  · exact h1
  · exact (s1.keptInLarva_dropThirds failed).trans h1

@[simp] theorem State.keptInLarva_homeLosses (s : State) : s.homeLosses.keptInLarva = s.keptInLarva := by
  refine foldl_keptInLarva (fun t n => ?_) _ s
  dsimp only
  split <;> simp

@[simp] theorem State.keptInLarva_cellActions (s : State) : s.cellActions.keptInLarva = s.keptInLarva := by
  refine foldl_keptInLarva (fun t n => ?_) _ s
  refine (State.keptInLarva_setStk _ _ _).trans (foldl_keptInLarva (fun v d => ?_) _ t)
  split_ifs <;> simp

@[simp] theorem State.keptInLarva_remaps (s : State) : s.remaps.keptInLarva = s.keptInLarva := rfl
@[simp] theorem State.keptInLarva_flushAmends (s : State) : s.flushAmends.keptInLarva = s.keptInLarva := rfl

/-! ## The folio in force -/

theorem State.keptInLarva_giveBack (s : State) (kind res : Nat) : (s.giveBack kind res).keptInLarva = s.keptInLarva := by
  unfold State.giveBack
  repeat' split
  all_goals rfl

@[simp] theorem State.keptInLarva_release (s : State) : s.release.keptInLarva = s.keptInLarva := by
  refine foldl_keptInLarva (fun t e => ?_) _ s
  dsimp only
  split
  · exact State.keptInLarva_giveBack _ _ _
  · rfl

@[simp] theorem State.keptInLarva_put (s : State) (a v : Nat) : (s.put a v).keptInLarva = s.keptInLarva := (s.sameButRegs_put a v).keptInLarva

theorem State.sameButRegs_netRegs (s : State) : s.sameButRegs s.netRegs := by
  refine foldl_sameButRegs (fun t p => ?_) _ s
  exact ((State.sameButRegs_put _ _ _).trans ((State.sameButRegs_put _ _ _).trans (State.sameButRegs_put _ _ _))).trans
    (foldl_sameButRegs (fun w i => w.sameButRegs_put _ _) _ _)

@[simp] theorem State.keptInLarva_netRegs (s : State) : s.netRegs.keptInLarva = s.keptInLarva := s.sameButRegs_netRegs.keptInLarva

@[simp] theorem State.keptInLarva_lockAll (s : State) (t : PageType) (on : Bool) : (s.lockAll t on).keptInLarva = s.keptInLarva := (s.sameButRegs_lockAll t on).keptInLarva

theorem State.keptInLarva_folioRegs (s0 : State) : s0.folioRegs.keptInLarva = s0.keptInLarva := by
  unfold State.folioRegs
  extract_lets o pf fab budget s s1 s2 s3 s4 s5 s6
  have h2 : s2.keptInLarva = s0.keptInLarva := by simp [s2, s1]; rfl
  have h3 : s3.keptInLarva = s2.keptInLarva := foldl_keptInLarva (fun t i => by simp) _ s2
  have h4 : s4.keptInLarva = s3.keptInLarva := foldl_keptInLarva (fun t e => by split <;> simp) _ s3
  have h5 : s5.keptInLarva = s4.keptInLarva := s4.keptInLarva_netRegs
  have h6 : s6.keptInLarva = s5.keptInLarva := by
    simp only [s6]
    split <;> simp
  exact (foldl_keptInLarva (fun t y => by simp) _ s6).trans (h6.trans (h5.trans (h4.trans (h3.trans h2))))

theorem State.keptInLarva_applyMargins (s : State) : s.applyMargins.keptInLarva = s.keptInLarva := by
  unfold State.applyMargins
  refine foldl_keptInLarva (fun t r => ?_) _ s
  rfl

theorem State.keptInLarva_discover (s : State) : s.discover.keptInLarva = s.keptInLarva := rfl

@[simp] theorem State.keptInLarva_folioUp (s : State) : s.folioUp.keptInLarva = s.keptInLarva := by
  unfold State.folioUp
  extract_lets s1
  have h1 : s1.keptInLarva = s.release.folioRegs.applyMargins.keptInLarva := State.keptInLarva_discover _
  clear_value s1
  calc s1.keptInLarva = s.release.folioRegs.applyMargins.keptInLarva := h1
    _ = s.release.folioRegs.keptInLarva := State.keptInLarva_applyMargins _
    _ = s.release.keptInLarva := State.keptInLarva_folioRegs _
    _ = s.keptInLarva := State.keptInLarva_release _

end Kept

end Sys2Proof.Machine
end

section
/-!
The object window (R476, R492, R512), and the folios and jobs that begin or end on command (R495, R496, R506, R512).
-/
namespace Sys2Proof.Machine

/-! ## The object window (R476) -/

section Objects
variable {s : State} {ini : Initiator} {ep : Byte}

/-- The command of the object window and of FOLIO.CMD that is taken does its work, and is answered. -/
theorem State.folioDo_taken {off : Nat} (hoff : off < 4096) (htakes : s.takes ini ep .folio 0 off) (f : State → State) :
    s.busDo ini ep .folio 0 off f = (f s).answer ini 0 := State.busDo_taken f (by decide) hoff htakes.1 htakes.2

section Begin
variable {kind : Nat}

theorem State.objBegin_starts (hstage : s.stage ≠ .ovum) (hkind : kind ≠ 0 ∧ kind ≠ 7) (hfree : ¬(s.staging.state = 1 ∧ s.staging.ini ≠ iniCode ini)) :
    s.objBegin ini kind = { s with staging := { state := 1, ini := iniCode ini, kind := kind } } := by
  rw [State.objBegin, if_neg (by simp [hstage, hkind]), if_neg hfree]

theorem State.objBegin_busy (hstage : s.stage ≠ .ovum) (hkind : kind ≠ 0 ∧ kind ≠ 7) (hbusy : s.staging.state = 1 ∧ s.staging.ini ≠ iniCode ini) :
    s.objBegin ini kind = ({ s with staging := { s.staging with code := 7 } } : State).irq .folio 0 1 := by
  rw [State.objBegin, if_neg (by simp [hstage, hkind]), if_pos hbusy]

theorem State.objBegin_counted (h : s.stage = .ovum ∨ kind = 0 ∨ kind = 7) : s.objBegin ini kind = s.errCount .folio 0 2 := if_pos h

end Begin

theorem State.stagedBy_iff : s.stagedBy ini = true ↔ s.staging.state = 1 ∧ s.staging.ini = iniCode ini := by
  simp [State.stagedBy]

section Mine
variable (hmine : s.staging.state = 1 ∧ s.staging.ini = iniCode ini)
include hmine

theorem State.objData_staged (v : Word) : s.objData ini v = { s with staging := { s.staging with words := s.staging.words ++ [v] } } :=
  if_pos (State.stagedBy_iff.2 hmine)

/-- A commit by the initiator that stages an object, and not a report. -/
theorem State.objCommit_object (hkind : s.staging.kind < 5) : s.objCommit ini =
    if s.stagedFault ini s.staging.kind s.staging.words ≠ 0 then s.objRefuse (s.stagedFault ini s.staging.kind s.staging.words) 0 0
    else match s.contentFault s.staging.kind s.staging.words with
      | some (sec, reason) => s.objRefuse 9 sec reason
      | none => (s.objAccept).takeObject s.staging.kind s.staging.words := by
  rw [State.objCommit, if_neg (by simp [State.stagedBy_iff.2 hmine])]
  exact if_neg (by omega)

omit hmine in
/-- The health report that is asked for is ready (R528). -/
theorem State.prepare_health {kind : Nat} {o : List Word} (haccepted : s.kindAccepted ini 6 = true) (hkind : kind = 6) (hempty : o = []) : s.prepare ini kind o =
    ({ s with staging := { s.staging with state := 5, code := 0, words := s.reportOut.report } } : State).irq .folio 0 0 := by
  subst hkind hempty
  rw [State.prepare, if_neg (by simp [haccepted]), if_neg (by decide)]
  rfl

theorem State.objCommit_report (hkind : s.staging.kind = 6) (haccepted : s.kindAccepted ini 6 = true) (hempty : s.staging.words = []) : s.objCommit ini =
    ({ s with staging := { s.staging with state := 5, code := 0, words := s.reportOut.report } } : State).irq .folio 0 0 := by
  rw [State.objCommit, if_neg (by simp [State.stagedBy_iff.2 hmine])]
  exact (if_pos (by omega)).trans (State.prepare_health haccepted hkind hempty)

/-- A commit whose checks all pass takes the object. -/
theorem State.objCommit_taken (hkind : s.staging.kind < 5) (hcode : s.stagedFault ini s.staging.kind s.staging.words = 0)
    (hcontent : s.contentFault s.staging.kind s.staging.words = none) : s.objCommit ini = (s.objAccept).takeObject s.staging.kind s.staging.words := by
  rw [State.objCommit_object hmine hkind, if_neg (by simp [hcode]), hcontent]

end Mine

section NotMine
variable (hnot : ¬(s.staging.state = 1 ∧ s.staging.ini = iniCode ini))
include hnot

theorem State.objData_counted (v : Word) : s.objData ini v = s.errCount .folio 0 2 := if_neg (mt State.stagedBy_iff.1 hnot)

theorem State.objCommit_counted : s.objCommit ini = s.errCount .folio 0 2 := if_pos (by simpa using mt State.stagedBy_iff.1 hnot)

end NotMine

/-- Abort discards the staging, unless another initiator's is in progress. -/
theorem State.objAbort_eq : s.objAbort ini = if s.staging.state = 1 ∧ s.staging.ini ≠ iniCode ini then s.errCount .folio 0 2 else { s with staging := {} } := by
  have hiff : (s.staging.state = 1 ∧ (!s.stagedBy ini) = true) ↔ (s.staging.state = 1 ∧ s.staging.ini ≠ iniCode ini) := by
    simp [State.stagedBy]
    tauto
  simp only [State.objAbort, hiff]

theorem execObjDataRead_word {w : Word} {rest : List Word} (hanswers : s.pageAnswers .folio 0 = true) (hready : s.staging.state = 5) (hwords : s.staging.words = w :: rest) :
    execObjDataRead ini s = .next (({ s with staging := { s.staging with words := rest } } : State).emit (.reply ini (some w))) := by
  have hon : s.holderOn .folio 0 = true := by
    have hd3 : s.dst ≠ .d3 := fun h => by simp [State.pageAnswers, h] at hanswers
    simp [State.holderOn, hd3]
  have hread : s.readReg ini .folio 0 0x05C = (w.toNat, { s with staging := { s.staging with words := rest } }) := by
    rw [State.readReg, if_neg (State.not_holder_off (.inr hon)), if_pos ⟨rfl, rfl⟩, State.objNext, if_neg (by simp [hready]), hwords]
  rw [execObjDataRead, State.spineRead_answered (by decide) (by decide) (by decide) hanswers (.inr (State.resetBusy_of_ne_core (by decide))), hread]
  simp

end Objects

/-! ## The end of a job (R506) -/

section JobEnd
variable {s : State}

theorem foldl_vault {α : Type} {f : State → α → State} (h : ∀ (t : State) a, (f t a).vault = t.vault) (l : List α) (s : State) : (l.foldl f s).vault = s.vault :=
  List.foldlRecOn (motive := fun t : State => t.vault = s.vault) l f rfl fun t ht a _ => (h t a).trans ht

theorem State.sameButRegs.vault {s t : State} (h : s.sameButRegs t) : t.vault = s.vault := by
  rw [h]

theorem State.sendTokens_vault (s : State) (id : Nat) (body : List Byte) (final : Bool) : (s.sendTokens id body final).vault = s.vault := by
  unfold State.sendTokens State.fdSend
  split
  · rfl
  · split <;> split <;> rfl

theorem State.endReq_vault (s : State) (id first : Nat) (ts : List Word) (code k : Nat) : (s.endReq id first ts code k).vault = s.vault :=
  State.sendTokens_vault _ _ _ _

theorem State.surgeEnd_vault (s : State) (cause : Nat) : (s.surgeEnd cause).vault = s.vault := by
  rw [State.surgeEnd_eq]

theorem State.stopCores_vault (s : State) : s.stopCores.vault = s.vault := by
  refine foldl_vault (fun t c => ?_) _ s
  rfl

theorem State.clearXes_vault (s : State) (q : Bool) : (s.clearXes q).vault = s.vault := by
  unfold State.clearXes
  extract_lets s1
  have h1 : s1.vault = s.vault := by
    refine foldl_vault (fun t n => ?_) _ s
    dsimp only
    split <;> rfl
  clear_value s1
  exact h1

theorem State.lockAll_vault (s : State) (t : PageType) (on : Bool) : (s.lockAll t on).vault = s.vault := (s.sameButRegs_lockAll t on).vault

theorem State.unlockPage_vault (s : State) (t : PageType) (i : Nat) : (s.unlockPage t i).vault = s.vault := rfl

/-- A job's end: none is loaded, and the vault has the amendments that waited recorded (R230, R232, R506). -/
theorem State.jobEnd_leaves (s : State) : s.jobEnd.jobPhase = 0 ∧ s.jobEnd.job = {} ∧ s.jobEnd.stage = .pupa ∧
    s.jobEnd.vault = ({ s.vault with amendDue := [] } : Vault).record s.vault.amendDue := by
  unfold State.jobEnd
  extract_lets s1 live s2 s3 s4 s5 s6
  have h2 : s2.vault = s.vault := (foldl_vault (fun t x => t.endReq_vault _ _ _ _ _) _ s1).trans (s.surgeEnd_vault 7)
  clear_value s2
  have h3 : s3.vault = s.vault := ((State.clearXes_vault _ _).trans s2.stopCores_vault).trans h2
  clear_value s3
  have h4 : s4.vault = s.vault := (State.unlockPage_vault _ _ _).trans ((State.lockAll_vault _ _ _).trans ((State.lockAll_vault _ _ _).trans
    ((State.lockAll_vault _ _ _).trans ((State.lockAll_vault _ _ _).trans h3))))
  clear_value s4
  have h5 : s5.vault = s.vault := by
    refine (foldl_vault (fun t e => ?_) _ s4).trans h4
    split <;> rfl
  clear_value s5
  have h6 : s6.vault = ({ s5.vault with amendDue := [] } : Vault).record s5.vault.amendDue := rfl
  rw [h5] at h6
  clear_value s6
  exact ⟨rfl, rfl, rfl, h6⟩

theorem State.jobEnd_folios (s : State) : s.jobEnd.vault.folio = s.vault.folio ∧ s.jobEnd.vault.prior = s.vault.prior ∧
    s.jobEnd.vault.priorRejected = s.vault.priorRejected := by
  obtain ⟨-, -, -, hvault⟩ := s.jobEnd_leaves
  rw [hvault]
  exact ⟨rfl, rfl, rfl⟩

end JobEnd

/-! ## Folios (R495, R496) -/

section Folios
variable {s : State}

theorem State.warmLarva_leaves (s : State) : s.warmLarva.stage = .larva ∧ s.warmLarva.warm = true ∧ s.warmLarva.jobPhase = s.jobPhase ∧ s.warmLarva.vault.folio = s.vault.folio ∧
    s.warmLarva.vault.prior = s.vault.prior ∧ s.warmLarva.vault.priorRejected = s.vault.priorRejected ∧ s.warmLarva.vault.pendingFolio = s.vault.pendingFolio := by
  unfold State.warmLarva
  extract_lets s1 s2 s3
  have h3 : s3.keptInLarva = s2.keptInLarva := by simp [s3]
  clear_value s3
  have hkept : (if s3.larvaStops then { s3 with bootWait := 7 } else s3.folioUp).keptInLarva = s2.keptInLarva := State.keptInLarva_ite h3 (s3.keptInLarva_folioUp.trans h3)
  obtain ⟨-, -, hstage, hwarm, hjob, hfolio, hprior, hrejected, hpending⟩ := State.keptInLarva_iff.1 hkept
  have hvault : s2.vault = s.vault := rfl
  rw [hvault] at hfolio hprior hrejected hpending
  exact ⟨hstage, hwarm, hjob, hfolio, hprior, hrejected, hpending⟩

/-- A pending folio is made current, and the current one prior (R495). -/
theorem State.takePending_leaves (hpending : s.vault.pendingFolio ≠ []) : s.takePending.vault.folio = s.vault.pendingFolio ∧ s.takePending.vault.prior = s.vault.folio ∧
    s.takePending.vault.pendingFolio = [] := by
  rw [State.takePending]
  dsimp only
  rw [if_neg (by simpa using hpending)]
  exact ⟨rfl, rfl, rfl⟩

/-- The device with the prior folio current and the other one rejected (R496). -/
def State.folded (s : State) : State := { s with
  dst := .d0
  vault := { s.vault with folio := s.vault.prior, prior := s.vault.folio, priorRejected := true, newFolio := false, foldBackAsked := false } }

/-- A fold back runs Larva again under the prior folio (R496). -/
theorem State.foldBack_leaves (hprior : s.vault.prior ≠ []) (hrejected : s.vault.priorRejected = false) : s.foldBack.vault.folio = s.vault.prior ∧
    s.foldBack.vault.prior = s.vault.folio ∧ s.foldBack.vault.priorRejected = true ∧ s.foldBack.stage = .larva ∧ s.foldBack.jobPhase = s.jobPhase := by
  have hfold : s.foldBack = s.folded.warmLarva.irq .folio 0 3 := if_neg (by simp [hprior, hrejected])
  have hleaves := s.folded.warmLarva_leaves
  rw [hfold]
  generalize s.folded.warmLarva = w at hleaves ⊢
  obtain ⟨hstage, -, hjob, hfolio, hprior', hrejected', -⟩ := hleaves
  exact ⟨hfolio, hprior', hrejected', hstage, hjob⟩

theorem execFolioApply_applies (hpending : s.vault.pendingFolio ≠ []) (hjob : s.jobPhase = 0) (hstage : s.stage = .pupa) (hstop : s.stop.cause = 0) (hdst : s.dst = .d0) :
    execFolioApply s = .next ((s.takePending.warmLarva).irq .folio 0 2) := if_neg (by simp [hpending, hjob, hstage, hstop, hdst])

theorem execFoldBack_folds (hdue : s.foldDue = true) (hprior : s.vault.prior ≠ []) (hrejected : s.vault.priorRejected = false) : ∃ u : State, execFoldBack s = .next u ∧
    u.vault.folio = s.vault.prior ∧ u.vault.prior = s.vault.folio ∧ u.vault.priorRejected = true ∧ u.stage = .larva ∧ u.jobPhase = 0 := by
  unfold execFoldBack
  extract_lets s1 x
  refine ⟨_, if_neg (by simp [hdue, hprior, hrejected]), ?_⟩
  obtain ⟨hjob, hfolio, hprior1, hrejected1⟩ : s1.jobPhase = 0 ∧ s1.vault.folio = s.vault.folio ∧ s1.vault.prior = s.vault.prior ∧ s1.vault.priorRejected = s.vault.priorRejected := by
    obtain ⟨hjob, -, -, -⟩ := s.jobEnd_leaves
    have hfolios := s.jobEnd_folios
    simp only [s1]
    generalize s.jobEnd = u at hjob hfolios ⊢
    split
    · exact ⟨‹_›, rfl, rfl, rfl⟩
    · exact ⟨hjob, hfolios⟩
  clear_value s1
  obtain ⟨hfolio', hprior', hrejected', hstage, hjob'⟩ := State.foldBack_leaves
    (s := { x.2 with vault := { x.2.vault with failedStep := Config.freeNat x.1 % 256 } }) (hprior1.trans_ne hprior) (hrejected1.trans hrejected)
  exact ⟨hfolio'.trans hprior1, hprior'.trans hfolio, hrejected', hstage, hjob'.trans hjob⟩

end Folios

/-! ## FOLIO.CMD (R506, R512) -/

section Commands
variable {s : State}

theorem State.askFoldBack_asked (hprior : s.vault.prior ≠ []) (hrejected : s.vault.priorRejected = false) :
    s.askFoldBack = { s with vault := { s.vault with foldBackAsked := true } } := if_neg (by simp [hprior, hrejected])

theorem State.askFoldBack_counted (h : s.vault.prior = [] ∨ s.vault.priorRejected = true) : s.askFoldBack = s.errCount .folio 0 2 := if_pos (by simpa using h)

section Unload
variable (hjob : s.jobPhase ≠ 0)
include hjob

theorem State.askUnload_stops (hstopped : s.stop.stopped = false) (hcause : s.stop.cause = 0) : s.askUnload = s.stopBegin 6 0 := by
  rw [State.askUnload, if_neg hjob, if_neg (by simp [hstopped]), if_neg (by omega), if_neg (by simp [hcause])]

theorem State.askUnload_abandons (hstopped : s.stop.stopped = false) (hcause : s.stop.cause ≠ 0) (hcause6 : s.stop.cause ≠ 6) :
    s.askUnload = { s with stop := { s.stop with abandon := true } } := by
  rw [State.askUnload, if_neg hjob, if_neg (by simp [hstopped]), if_neg hcause6, if_pos hcause]

theorem State.askUnload_unloads (hstopped : s.stop.stopped = true) (hfold : s.vault.foldBackAsked = false) : s.askUnload = { s.jobEnd with stop := s.stop } := by
  rw [State.askUnload, if_neg hjob, if_pos hstopped, State.finishUnload, if_neg (by simp [hfold])]

end Unload

end Commands

/-- Settles O59: the object window by what `State.objBegin`, `State.objData`, `State.objCommit` and `State.objAbort` do for the initiator that stages and for another; the
folios by what a warm Larva leaves of the vault. -/
theorem objectsAndFolios : Obligations.ObjectsAndFolios := by
  unfold Obligations.ObjectsAndFolios
  refine ⟨?window, ?folios⟩
  case window =>
    intro s ini ep kind v w rest does ko o code mine another
    have hbegin (htakes : s.takes ini ep .folio 0 0x058) : exec (.objBegin ini ep kind) s = .next ((s.objBegin ini kind.toNat).answer ini 0) :=
      congrArg _ (State.folioDo_taken (by decide) htakes _)
    refine ⟨fun htakes hstage h0 h7 => ?begin, fun htakes h => ?counted, fun htakes => ?data, fun htakes => ?commit, execObjDataRead_word⟩
    case begin =>
      have hkind : kind.toNat ≠ 0 ∧ kind.toNat ≠ 7 := ⟨fun h => h0 (BitVec.eq_of_toNat_eq h), fun h => h7 (BitVec.eq_of_toNat_eq h)⟩
      exact ⟨fun hfree => (hbegin htakes).trans (by rw [State.objBegin_starts hstage hkind hfree]), fun hbusy => (hbegin htakes).trans (by rw [State.objBegin_busy hstage hkind hbusy])⟩
    case counted =>
      refine (hbegin htakes).trans ?_
      rw [State.objBegin_counted (h.imp_right (Or.imp (congrArg BitVec.toNat) (congrArg BitVec.toNat)))]
    case data =>
      have hdata : exec (.objDataWrite ini ep v) s = .next ((s.objData ini v).answer ini 0) := congrArg _ (State.folioDo_taken (by decide) htakes _)
      exact ⟨fun hmine => hdata.trans (by rw [State.objData_staged hmine]), fun hnot => hdata.trans (by rw [State.objData_counted hnot])⟩
    case commit =>
      have hcommit : exec (.objCommit ini ep) s = .next ((s.objCommit ini).answer ini 0) := congrArg _ (State.folioDo_taken (by decide) htakes _)
      have habort : exec (.objAbort ini ep) s = .next ((s.objAbort ini).answer ini 0) := congrArg _ (State.folioDo_taken (by decide) htakes _)
      refine ⟨fun hnot => hcommit.trans (by rw [State.objCommit_counted hnot]), fun hmine hkind hcode => hcommit.trans ?_, fun sec reason hmine hkind hcode hcontent => hcommit.trans ?_,
        fun hmine hkind hcode hstage => hcommit.trans ?_, fun hmine hkind hcode hcontent => ⟨_, hcommit, ?_⟩,
        fun hmine hkind haccepted hempty => hcommit.trans (by rw [State.objCommit_report hmine hkind haccepted hempty]),
        fun hfree => habort.trans (by rw [State.objAbort_eq, if_neg hfree]), fun hother => habort.trans (by rw [State.objAbort_eq, if_pos hother])⟩
      · rw [State.objCommit_object hmine hkind, if_pos hcode]
      · rw [State.objCommit_object hmine hkind, if_neg (not_not.2 hcode), hcontent]
      · change s.staging.kind = 1 at hkind
        rw [State.objCommit_taken hmine (by omega) hcode (by rw [hkind]; rfl), hkind]
        exact congrArg (fun t : State => Host.Outcome.next (t.answer ini 0)) (if_neg hstage)
      · have henrol : s.objCommit ini = s.objAccept.takeEnrolment o := by
          change s.staging.kind = 4 at hkind
          rw [State.objCommit_taken hmine (by omega) hcode (by rw [hkind]; exact hcontent), hkind]
          rfl
        rw [henrol]
        exact ⟨rfl, List.length_append, rfl⟩
  case folios =>
    intro s ini ep does v
    refine ⟨fun hpending hjob hstage hstop hdst => ⟨_, execFolioApply_applies hpending hjob hstage hstop hdst, ?apply⟩, fun _ hjob => if_pos (.inr (.inl hjob)), execFoldBack_folds,
      fun hdue => if_pos (.inl (by simp [hdue])), fun htakes => ?command⟩
    case apply =>
      obtain ⟨hfolio, hprior, hpending'⟩ := State.takePending_leaves hpending
      have hleaves := s.takePending.warmLarva_leaves
      generalize s.takePending.warmLarva = w at hleaves ⊢
      obtain ⟨hstage', hwarm, -, hfolio', hprior', -, hpending''⟩ := hleaves
      exact ⟨hfolio'.trans hfolio, hprior'.trans hprior, hpending''.trans hpending', hstage', hwarm⟩
    case command =>
      have hfold : exec (.foldBackCmd ini ep) s = .next ((s.askFoldBack).answer ini 0) := congrArg _ (State.folioDo_taken (by decide) htakes _)
      have hunload : exec (.unload ini ep) s = .next ((s.askUnload).answer ini 0) := congrArg _ (State.folioDo_taken (by decide) htakes _)
      have hreset : exec (.resetToOvum ini ep) s = .next ((s.askReset).answer ini 0) := congrArg _ (State.folioDo_taken (by decide) htakes _)
      refine ⟨fun hprior hrejected => hfold.trans (by rw [State.askFoldBack_asked hprior hrejected]), fun h => hfold.trans (by rw [State.askFoldBack_counted h]),
        fun hjob => hunload.trans (by rw [State.askUnload, if_pos hjob]), fun hjob hstopped hcause => hunload.trans (by rw [State.askUnload_stops hjob hstopped hcause]),
        fun hjob hstopped hcause hcause6 => hunload.trans (by rw [State.askUnload_abandons hjob hstopped hcause hcause6]), fun hjob hstopped hfold => ?unloads, fun hjob => ?resets,
        fun hjob => hreset.trans (by rw [State.askReset, if_neg hjob])⟩
      case unloads =>
        have hleaves := s.jobEnd_leaves
        rw [State.askUnload_unloads hjob hstopped hfold] at hunload
        generalize s.jobEnd = u at hleaves hunload
        obtain ⟨hjob', hempty, hstage, -⟩ := hleaves
        exact ⟨_, hunload, hjob', hempty, hstage, rfl⟩
      case resets =>
        obtain ⟨hstage, hactive, -, hvault⟩ := s.toOvum_leaves
        refine ⟨_, hreset.trans (by rw [State.askReset, if_pos hjob]), hstage, ?_, hactive⟩
        rw [hvault]

end Sys2Proof.Machine
end

section
/-!
Ovum, the roles and Recovery (R471, R477 to R481), and what eclosion leaves of the device's course (R429, R471, R505, R522).
-/
namespace Sys2Proof.Machine

/-! ## What reads of main memory and messages to other ranks leave -/

section Course
variable {s : State}

/-- What the reads of main memory, the writes of rows and the cells to other ranks leave: the time, the stage, the job's phase, the vault and the time of the eclosion. -/
def State.course (s : State) := (s.timebase, s.stage, s.jobPhase, s.vault, s.serving.eclosed)

theorem State.course_iff {s t : State} : t.course = s.course ↔ t.timebase = s.timebase ∧ t.stage = s.stage ∧ t.jobPhase = s.jobPhase ∧ t.vault = s.vault ∧
    t.serving.eclosed = s.serving.eclosed := by
  simp [State.course]

theorem foldl_course {α : Type} {f : State → α → State} (h : ∀ (t : State) a, (f t a).course = t.course) (l : List α) (s : State) : (l.foldl f s).course = s.course :=
  List.foldlRecOn (motive := fun t : State => t.course = s.course) l f rfl fun t ht a _ => (h t a).trans ht

theorem State.sameButRegs.course {s t : State} (h : s.sameButRegs t) : t.course = s.course := by
  rw [h]
  rfl

theorem State.course_emit (s : State) (m : Msg) : (s.emit m).course = s.course := rfl

theorem State.course_latchLog (s : State) (a v : Nat) : (s.latchLog a v).course = s.course := by
  unfold State.latchLog
  split <;> rfl

theorem State.course_noteCorrected (s : State) (c blk pa unit : Nat) (fixed : List (Nat × Nat)) : (s.noteCorrected c blk pa unit fixed).course = s.course := by
  unfold State.noteCorrected
  dsimp only
  split_ifs <;> rfl

theorem State.course_noteUncorrectable (s : State) (c blk pa unit words : Nat) (scrub : Bool) : (s.noteUncorrectable c blk pa unit words scrub).course = s.course := by
  unfold State.noteUncorrectable
  extract_lets s1 a s2 ch us
  have hlatch (u : State) (b : Nat) (v : Dword) : (if bitOf (u.rd64 b).toNat 63 then u else u.wr64 b v).course = u.course := by
    split <;> rfl
  have h2 : s2.course = s1.course := hlatch s1 a _
  clear_value s2
  exact h2

theorem State.course_readUnit (s : State) (c blk pa u : Nat) (scrub : Bool) : (s.readUnit c blk pa u scrub).2.course = s.course := by
  unfold State.readUnit
  dsimp only
  split
  · exact s.course_noteCorrected _ _ _ _ _
  · exact (State.course_noteUncorrectable _ _ _ _ _ _ _).trans (s.course_noteCorrected _ _ _ _ _)

theorem State.course_readUnits (c : Nat) (r : MemReq) : ∀ (us : List Nat) (s : State), (s.readUnits c r us).course = s.course
  | [], _ => rfl
  | u :: t, s => by
    refine (State.course_readUnits c r t _).trans (Eq.trans ?_ (s.course_readUnit c r.blk r.pa u false))
    split <;> rfl

theorem State.course_scrubUnits (c blk pa : Nat) : ∀ (us : List Nat) (s : State), (s.scrubUnits c blk pa us).course = s.course
  | [], _ => rfl
  | u :: t, s => (State.course_scrubUnits c blk pa t _).trans (s.course_readUnit c blk pa u true)

theorem State.course_storeAt (s : State) (c blk off v n : Nat) : (s.storeAt c blk off v n).course = s.course := by
  unfold State.storeAt
  dsimp only
  split <;> rfl

theorem State.course_hallUnit (s : State) (c blk pa off kind op : Nat) (size : Bool) (operand cmp : Nat) :
    (s.hallUnit c blk pa off kind op size operand cmp).2.course = s.course := by
  have hread := s.course_readUnit c blk pa (off / 64) false
  unfold State.hallUnit
  dsimp only
  split
  · exact hread
  · split
    · exact hread
    · exact (State.course_storeAt _ _ _ _ _ _).trans hread

theorem State.course_performReq (s : State) (c : Nat) (r : MemReq) : (s.performReq c r).course = s.course := by
  cases hop : r.op with
  | read first count =>
    simp only [State.performReq, hop]
    exact State.course_readUnits c r _ s
  | write chunk cells =>
    simp only [State.performReq, hop]
    exact s.course_storeAt _ _ _ _ _
  | part off len data =>
    have hread := s.course_readUnit c r.blk r.pa (off / 64) false
    simp only [State.performReq, hop]
    split
    · exact hread
    · exact (State.course_emit _ _).trans ((State.course_storeAt _ _ _ _ _ _).trans hread)
  | hall lane off kind op size lo hi cmpLo cmpHi =>
    have hhall := s.course_hallUnit c r.blk r.pa off kind op size (lo.toNat + 2 ^ 64 * hi.toNat) (cmpLo.toNat + 2 ^ 64 * cmpHi.toNat)
    simp only [State.performReq, hop]
    split <;> exact hhall
  | scrub =>
    simp only [State.performReq, hop]
    exact State.course_scrubUnits c r.blk r.pa _ s
  | writeBack unit ws =>
    simp only [State.performReq, hop]
    rfl

theorem State.course_runReq (s : State) (c : Nat) (r : MemReq) : (s.runReq c r).course = s.course := by
  unfold State.runReq
  extract_lets ch b s1 s2
  have h2 : s2.course = s.course := by
    simp only [s2]
    split <;> rfl
  exact (s2.course_performReq c r).trans h2

theorem State.course_runClashes (c : Nat) (r : MemReq) : ∀ (l : List MemReq) (s : State), (s.runClashes c r l).course = s.course
  | [], _ => rfl
  | x :: t, s => by
    refine (State.course_runClashes c r t _).trans ?_
    split
    · exact s.course_runReq c x
    · rfl

theorem State.course_settle (s : State) (c : Nat) (r : MemReq) : (s.settle c r).course = s.course := State.course_runClashes c r _ s

theorem State.course_readBulk (pa : Nat) : ∀ (n : Nat) (s : State), (s.readBulk pa n).2.course = s.course := by
  intro n
  induction n generalizing pa with
  | zero => exact fun _ => rfl
  | succ n ih =>
    intro s
    unfold State.readBulk
    extract_lets c blk s1 x y
    have hy : y.2.course = s.course := ((ih _ _).trans (s1.course_readUnit _ _ _ _ _)).trans (s.course_settle _ _)
    split <;> exact hy

theorem State.course_readEntry (s : State) (pa : Nat) : (s.readEntry pa).2.course = s.course := (State.course_readUnit _ _ _ _ _ _).trans (s.course_settle _ _)

theorem State.course_firmWalk (jva : Nat) : ∀ (fuel entry level : Nat) (s : State), (s.firmWalk entry level jva fuel).2.course = s.course := by
  intro fuel
  induction fuel with
  | zero => exact fun _ _ _ => rfl
  | succ fuel ih =>
    intro entry level s
    have hread := s.course_readEntry entry
    unfold State.firmWalk
    dsimp only
    split
    · exact hread
    · split
      · exact hread
      · exact (ih _ _ _).trans hread
      · exact hread

theorem State.course_getPhys (s : State) (pa n : Nat) : (s.getPhys pa n).2.course = s.course := State.course_readBulk _ _ s

theorem State.course_firmRead : ∀ (fuel jva n : Nat) (s : State), (s.firmRead jva n fuel).2.course = s.course := by
  intro fuel
  induction fuel with
  | zero => exact fun _ _ _ => rfl
  | succ fuel ih =>
    intro jva n s
    unfold State.firmRead
    split
    · rfl
    · extract_lets m x
      have hx : x.2.course = s.course := State.course_firmWalk _ _ _ _ s
      split
      · exact hx
      · extract_lets y
        have hy : y.2.course = s.course := (State.course_getPhys _ _ _).trans hx
        split
        · exact hy
        · exact (ih _ _ _).trans hy

theorem State.course_carry (s : State) (m : Mem) (n row : Nat) : (s.carry m n row).2.course = s.course :=
  List.foldlRecOn (motive := fun x : Mem × State => x.2.course = s.course) _ _ rfl fun _ hx _ _ => hx

theorem State.course_writeRow (s : State) (n row v : Nat) : (s.writeRow n row v).course = s.course := State.course_carry (s.dropBacks n row) _ n row

theorem State.course_preload (s : State) : s.preload.course = s.course := by
  unfold State.preload
  extract_lets s0
  refine (foldl_course (fun t p => foldl_course (fun u i => ?_) _ t) _ s0).trans rfl
  have hread : (u.jobRead (p.jva + 512 * i) 512).2.course = u.course := State.course_firmRead _ _ _ u
  dsimp only
  split
  · exact (State.course_writeRow _ _ _ _).trans hread
  · exact hread

/-! ## Notices between the ranks -/

theorem State.course_dropCell (s : State) (c : CellBits) (cause : Nat) : (s.dropCell c cause).course = s.course := by
  unfold State.dropCell
  exact State.course_latchLog (s.bump _ _ _ _) _ _

theorem State.course_sendCell (s : State) (c : CellBits) : (s.sendCell c).course = s.course := by
  unfold State.sendCell
  split
  · rfl
  · split_ifs
    · exact s.course_dropCell c 4
    · exact s.course_dropCell c 3
    · rfl

theorem State.course_sendNotice (s : State) (rank kind num v : Nat) : (s.sendNotice rank kind num v).course = s.course := by
  unfold State.sendNotice
  dsimp only
  split
  · rfl
  · exact s.course_sendCell _

theorem State.course_noticeAll (s : State) (kind num v : Nat) : (s.noticeAll kind num v).course = s.course := by
  refine foldl_course (fun t r => ?_) _ s
  split
  · rfl
  · exact t.course_sendNotice _ _ _ _

theorem State.course_tryGo (s : State) : s.tryGo.course = s.course := by
  unfold State.tryGo
  split
  · have hnotice := s.course_noticeAll 3 s.restart.num (s.beatFrom (s.now + 20000000))
    dsimp only
    split <;> exact hnotice
  · rfl

theorem State.course_sayReady (s : State) : s.sayReady.course = s.course := by
  unfold State.sayReady
  dsimp only
  split
  · exact State.course_tryGo _
  · exact State.course_sendNotice _ _ _ _ _

end Course

end Sys2Proof.Machine
end

section
/-!
Ovum, the roles and Recovery (R471, R477 to R481).
-/
namespace Sys2Proof.Machine

/-! ## Ovum (R471, R477) -/

section Ovum
variable {s : State} {k : Fin 3}

theorem State.ovumStart_leaves (s : State) (k : Fin 3) : s.ovumStart.stage = .ovum ∧ s.ovumStart.dst = .d0 ∧ s.ovumStart.rstLow = false ∧
    (s.ovumStart.keepers.get k).role = (if s.keeperLost k then .failed else .starting) ∧ (s.ovumStart.keepers.get k).verdict = none := by
  have hkeepers : s.ovumStart.keepers = Vector.ofFn (fun j : Fin 3 => { role := (if s.keeperLost j then .failed else .starting), since := s.now }) := rfl
  rw [hkeepers]
  refine ⟨rfl, rfl, rfl, ?_⟩
  simp [Vector.get_eq_getElem]

theorem execResetRelease_starts (hlow : s.rstLow = true) (hdst : s.dst ≠ .d3) : execResetRelease s = .next s.ovumStart := by
  rw [execResetRelease, if_neg (by simp [hlow]), if_neg hdst]

theorem execResetRelease_off (hlow : s.rstLow = true) (hdst : s.dst = .d3) :
    execResetRelease s = .next { s with rstLow := false, power := { s.power with rising := true } } := by
  rw [execResetRelease, if_neg (by simp [hlow]), if_pos hdst]

section Starts
variable (hstage : s.stage = .ovum) (hlow : s.rstLow = false) (hdst : s.dst ≠ .d3)
include hstage hlow hdst

/-- A Keeper's ROM records its verdict and its measurement, and an image that passed is the one that runs (R477). -/
theorem execImageVerify_records (hrole : (s.keepers.get k).role = .starting) (hverdict : (s.keepers.get k).verdict = none) : ∃ u : State,
    execImageVerify k s = .next u ∧
      u.keepers = s.keepers.set k { s.keepers.get k with verdict := some (s.imageOk s.vault.image), measured := beNat (sha512 (objHeader s.vault.image)) } ∧
      u.vault = (if s.imageOk s.vault.image then { s.vault with running := s.vault.image } else s.vault) ∧ u = { s with keepers := u.keepers, vault := u.vault } := by
  unfold execImageVerify
  extract_lets x o ok s1
  refine ⟨_, if_neg (by simp [hstage, hlow, hdst, x, hrole, hverdict]), ?_⟩
  have h1 : s1 = { s with keepers := s.keepers.set k { s.keepers.get k with verdict := some ok, measured := beNat (sha512 (objHeader o)) } } := s.modKeeper_fin k _
  rw [h1]
  split <;> exact ⟨rfl, rfl, rfl⟩

/-- Roles are assigned once every Keeper has a result, or after 2 s: by the first that accepted the image, or Recovery begins (R478). -/
theorem execRoleAssign_ready (hready : ∀ j : Fin 3, (s.keepers.get j).role = .failed ∨ (s.keepers.get j).verdict.isSome = true ∨ (s.keepers.get j).since + 2000000000 ≤ s.now) :
    execRoleAssign s = (match (List.finRange 3).find? (fun j => decide ((s.keepers.get j).verdict = some true)) with
      | some a => .next (s.assignRoles a)
      | none => .next s.enterRecovery) := by
  have hall : (List.range 3).all (fun j => decide ((s.keeper j).role = .failed) || (s.keeper j).verdict.isSome || decide ((s.keeper j).since + 2000000000 ≤ s.now)) = true := by
    refine List.all_eq_true.2 fun j hj => ?_
    have hj' := hready ⟨j, List.mem_range.1 hj⟩
    rw [← State.keeper_fin] at hj'
    simpa [or_assoc] using hj'
  unfold execRoleAssign
  extract_lets ready
  exact if_neg (by simp [ready, hall, hstage, hlow, hdst])

end Starts

/-- The first of the Keepers of which something holds. -/
theorem find?_finRange3 {p : Fin 3 → Bool} {a : Fin 3} (ha : p a = true) (hlow : ∀ j, j < a → p j = false) : (List.finRange 3).find? p = some a := by
  have hlist : List.finRange 3 = [0, 1, 2] := by decide
  rw [hlist]
  match a with
  | 0 => simp [ha]
  | 1 => simp [ha, hlow 0 (by decide)]
  | 2 => simp [ha, hlow 0 (by decide), hlow 1 (by decide)]

/-! ## Roles (R478) -/

/-- The role that a Keeper's verification result gives it, where Keeper `a` is the active one (R478). -/
def Keeper.resultRole (x : Keeper) (k a : Fin 3) : Role := if x.verdict = some true then (if k = a then .active else .standby) else .failed

/-- A Keeper takes the role that its verification result gives it (R478). -/
def State.assignRole (a : Fin 3) (t : State) (k : Nat) : State :=
  if (t.keeper k).verdict = some true then
    (t.setRole k (if k = a.val then .active else .standby)).modKeeper k (fun x => { x with inSync := true, healthy := true, lastHealth := t.now, since := t.now })
  else if (t.keeper k).role = .failed then t
  else t.keeperFail k

theorem State.assignRole_leaves (t : State) (a k : Fin 3) : (t.assignRole a k).tally = t.tally ∧ ((t.assignRole a k).keepers.get k).role = (t.keepers.get k).resultRole k a ∧
    ∀ j, j ≠ k → (t.assignRole a k).keepers.get j = t.keepers.get j := by
  unfold State.assignRole Keeper.resultRole
  rw [State.keeper_fin]
  by_cases hverdict : (t.keepers.get k).verdict = some true
  · rw [if_pos hverdict, if_pos hverdict, State.modKeeper_fin, State.setRole_fin]
    exact ⟨rfl, by simp [Fin.ext_iff], fun j hj => by simp [keeper_set_ne _ _ hj]⟩
  · rw [if_neg hverdict, if_neg hverdict]
    split
    case isTrue hfailed => exact ⟨rfl, hfailed, fun _ _ => rfl⟩
    case isFalse =>
      rw [State.keeperFail_fin]
      exact ⟨rfl, by simp, fun j hj => keeper_set_ne _ _ hj⟩

/-- The three Keepers take their roles, each by its own result. -/
theorem foldl_assignRole_leaves (a j : Fin 3) (s : State) : ((List.range 3).foldl (State.assignRole a) s).tally = s.tally ∧
    (((List.range 3).foldl (State.assignRole a) s).keepers.get j).role = (s.keepers.get j).resultRole j a := by
  obtain ⟨htally0, hrole0, hrest0⟩ := s.assignRole_leaves a 0
  obtain ⟨htally1, hrole1, hrest1⟩ := (s.assignRole a 0).assignRole_leaves a 1
  obtain ⟨htally2, hrole2, hrest2⟩ := ((s.assignRole a 0).assignRole a 1).assignRole_leaves a 2
  refine ⟨htally2.trans (htally1.trans htally0), ?_⟩
  change ((((s.assignRole a 0).assignRole a 1).assignRole a 2).keepers.get j).role = _
  match j with
  | 0 => exact (congrArg Keeper.role ((hrest2 0 (by decide)).trans (hrest1 0 (by decide)))).trans hrole0
  | 1 => exact (congrArg Keeper.role (hrest2 1 (by decide))).trans (hrole1.trans (congrArg (·.resultRole 1 a) (hrest0 1 (by decide))))
  | 2 => exact hrole2.trans (congrArg (·.resultRole 2 a) ((hrest1 2 (by decide)).trans (hrest0 2 (by decide))))

/-! ## Larva leaves the roles -/

/-- The Keepers and the Tally. -/
def State.roles (s : State) := (s.keepers, s.tally)

theorem State.roles_of_keptInLarva {s t : State} (h : t.keptInLarva = s.keptInLarva) : t.roles = s.roles := by
  obtain ⟨hkeepers, htally, -⟩ := State.keptInLarva_iff.1 h
  rw [State.roles, hkeepers, htally]
  rfl

theorem State.sameButRegs.roles {s t : State} (h : s.sameButRegs t) : t.roles = s.roles := State.roles_of_keptInLarva h.keptInLarva

theorem State.roles_takePending (s : State) : s.takePending.roles = s.roles := by
  unfold State.takePending
  dsimp only
  split <;> rfl

theorem State.roles_vrefCheck (s : State) : s.vrefCheck.roles = s.roles := by
  unfold State.vrefCheck
  dsimp only
  split <;> rfl

theorem State.roles_folioUp (s : State) : s.folioUp.roles = s.roles := State.roles_of_keptInLarva s.keptInLarva_folioUp

/-- What Larva settles before the folio is in force. -/
theorem State.roles_settled (s : State) : s.retirements.homeLosses.remaps.flushAmends.takePending.roles = s.roles :=
  (State.roles_takePending _).trans (State.roles_of_keptInLarva (by simp))

theorem State.roles_larvaOn (s : State) {p q : Prop} [Decidable p] [Decidable q] :
    (if p then { s with bootWait := 7 } else if q then { s with bootWait := 3 } else s.folioUp).roles = s.roles := by
  split_ifs
  · rfl
  · rfl
  · exact s.roles_folioUp

theorem State.roles_larvaGo (s : State) : s.larvaGo.roles = s.roles := by
  unfold State.larvaGo
  split
  · rfl
  · split
    · rfl
    · split
      · rfl
      · extract_lets c s1 s2
        have h2 : s2.roles = s.roles := (State.roles_settled _).trans rfl
        exact s2.roles_larvaOn.trans h2

theorem State.roles_discCheck (s : State) : s.discCheck.roles = s.roles := by
  unfold State.discCheck
  split <;> rfl

theorem State.roles_capRegs (s : State) : s.capRegs.roles = s.roles := by
  refine (State.roles_of_keptInLarva (State.keptInLarva_lockAll _ _ _)).trans (State.roles_of_keptInLarva (foldl_keptInLarva (fun t e => ?_) _ s))
  split
  · exact t.keptInLarva_put _ _
  · rfl

theorem State.roles_larvaEnd (s : State) : s.larvaEnd.roles = s.roles := by
  unfold State.larvaEnd
  split
  · extract_lets s1
    have h1 : s1.roles = s.roles := State.roles_of_keptInLarva (by simp [s1])
    clear_value s1
    split
    · exact h1
    · exact (State.roles_capRegs _).trans h1
  · rfl

theorem State.roles_bootCheck (s : State) : s.bootCheck.roles = s.roles := by
  unfold State.bootCheck
  split
  · exact (State.roles_larvaEnd _).trans ((State.roles_discCheck _).trans s.roles_larvaGo)
  · rfl

/-- The state in which roles are given: Larva under the first epoch (R478). -/
def State.larvaUnder (s : State) (a : Fin 3) : State := { s with
  stage := .larva, bootWait := 0, tally := { active := some a, epoch := 1, window := s.now / 100000, round := s.now / 1000000 } }

theorem State.assignRoles_leaves (s : State) (a k : Fin 3) : (s.assignRoles a).tally = (s.larvaUnder a).tally ∧
    ((s.assignRoles a).keepers.get k).role = (s.keepers.get k).resultRole k a := by
  have hassign : s.assignRoles a = ((List.range 3).foldl (State.assignRole a) (s.larvaUnder a)).vrefCheck.bootCheck := rfl
  obtain ⟨htally, hrole⟩ := foldl_assignRole_leaves a k (s.larvaUnder a)
  have hroles := (State.roles_bootCheck _).trans (State.roles_vrefCheck ((List.range 3).foldl (State.assignRole a) (s.larvaUnder a)))
  rw [← hassign] at hroles
  obtain ⟨hkeepers, htally'⟩ := Prod.mk.inj hroles
  exact ⟨htally'.trans htally, (congrArg (fun v : Vector Keeper 3 => (v.get k).role) hkeepers).trans hrole⟩

theorem State.enterRecovery_leaves (s : State) : s.enterRecovery.stage = .recovery ∧ s.enterRecovery.recov = {} ∧ s.enterRecovery.vault = s.vault := by
  unfold State.enterRecovery
  extract_lets s1
  split
  · exact ⟨rfl, rfl, rfl⟩
  · rw [s1.sameButRegs_netRegs]
    exact ⟨rfl, rfl, rfl⟩

end Ovum

/-! ## Recovery (R480, R481) -/

section Recovery
variable {s : State} {f : Frame} {m : List Byte}

theorem execRchunk_staged (hmsg : s.recovMsg f 32 m = true) (hmin : 9 ≤ (bodyOf m).length) (hmax : (bodyOf m).length ≤ 1032)
    (haligned : beNat (slice (bodyOf m) 0 8) % 1024 = 0) (hin : beNat (slice (bodyOf m) 0 8) < 16 * 2 ^ 20) (hstate : s.recov.state ≠ 3) :
    execRchunk f m s = .next { s with
      recov := { s.recov with chunks := sput s.recov.chunks (beNat (slice (bodyOf m) 0 8) / 1024) ((bodyOf m).drop 8), state := 1, code := 0 } } := by
  refine if_neg ?_
  rintro (h | h | h | h | h | h)
  · simp [hmsg] at h
  · omega
  · rw [List.length_drop] at h
    omega
  · exact h haligned
  · omega
  · exact hstate h

/-- The staged bytes that a commit covers. -/
def Recov.data (r : Recov) (n : Nat) : List Byte := (r.chunks.flatMap Prod.snd).take n

theorem execRcommit_verified {n : Nat} (hmsg : s.recovMsg f 33 m = true) (hlen : (bodyOf m).length = 4) (hstate : s.recov.state ≠ 3) (hn : beNat (slice (bodyOf m) 0 4) = n)
    (hmissing : n - n % 1024 ≤ s.recov.missing) (hdata : (s.recov.data n).length = n) :
    let code := if n % 4 ≠ 0 then 1 else s.objFault 1 (wordsOf (s.recov.data n))
    execRcommit f m s = .next ((if code = 0 then { s with recov := { s.recov with state := 3, code := 0, image := wordsOf (s.recov.data n) } }
      else { s with recov := { s.recov with state := 4, code := code } } : State).sendRstat f.peer) := by
  subst hn
  intro code
  refine (if_neg ?_).trans ((if_neg hstate).trans (if_neg ?_))
  · rintro (h | h)
    · simp [hmsg] at h
    · exact h hlen
  · rintro (h | h)
    · omega
    · exact h hdata

theorem State.recovMsg_off (hstage : s.stage ≠ .recovery) (ty : Nat) : s.recovMsg f ty m = false := by
  simp [State.recovMsg, hstage]

theorem execRchunk_off (hstage : s.stage ≠ .recovery) : execRchunk f m s = .next s := if_pos (.inl (by simp [State.recovMsg_off hstage]))
theorem execRcommit_off (hstage : s.stage ≠ .recovery) : execRcommit f m s = .next s := if_pos (.inl (by simp [State.recovMsg_off hstage]))
theorem execRstat_off (hstage : s.stage ≠ .recovery) : execRstat f m s = .next s := if_neg (by simp [State.recovMsg_off hstage])

theorem execRecoveryWriteComplete_restarts (hstage : s.stage = .recovery) (hstate : s.recov.state = 3) : ∃ u : State, execRecoveryWriteComplete s = .next u ∧
    u.stage = .ovum ∧ u.vault.image = s.recov.image := by
  obtain ⟨hovum, -, -, hvault⟩ := ({ s with vault := { s.vault with image := s.recov.image, imageDue := [] } } : State).toOvum_leaves
  refine ⟨_, if_neg (by simp [hstage, hstate]), hovum, ?_⟩
  rw [hvault]
  rfl

end Recovery

/-! ## Eclosion (R471) -/

/-- The first wingbeat that runs work is fixed, or READY goes to rank 0 (R375). -/
theorem State.course_begun (s : State) : (if s.jobRanks ≤ 1 then { s with serving := { s.serving with first := some (s.beatFrom (s.now + 1000000)) } }
    else s.sayReady).course = s.course := by
  split
  · rfl
  · exact s.course_sayReady

theorem State.eclose_leaves (s : State) : s.eclose.stage = .imago ∧ s.eclose.jobPhase = 3 ∧ s.eclose.vault.newFolio = false ∧ s.eclose.serving.eclosed = s.now := by
  unfold State.eclose
  extract_lets s1 v e s2
  have h1 : s1.now = s.now := by
    obtain ⟨htime, -⟩ := State.course_iff.1 s.course_preload
    exact congrArg BitVec.toNat htime
  have h2 : s2.stage = .imago ∧ s2.jobPhase = 3 ∧ s2.vault.newFolio = false ∧ s2.serving.eclosed = s1.now := ⟨rfl, rfl, rfl, rfl⟩
  obtain ⟨himago, hphase, hnew, hnow⟩ := h2
  obtain ⟨-, hstage, hjob, hvault, heclosed⟩ := State.course_iff.1 s2.course_begun
  exact ⟨hstage.trans himago, hjob.trans hphase, (congrArg Vault.newFolio hvault).trans hnew, heclosed.trans (hnow.trans h1)⟩

/-- Settles O56: the ROMs' results by `State.assignRoles_leaves` (Larva leaves the roles, `State.roles_bootCheck`), Recovery by its messages, eclosion by what the preload and
READY leave of the device's course. -/
theorem boot : Obligations.Boot := by
  unfold Obligations.Boot
  intro s k a f m x ok b off n data o code verified starts
  refine ⟨fun hlow hdst => ⟨_, execResetRelease_starts hlow hdst, s.ovumStart_leaves k⟩, execResetRelease_off, fun ⟨hstage, hlow, hdst⟩ hrole hverdict =>
      execImageVerify_records hstage hlow hdst hrole hverdict, fun ⟨hstage, hlow, hdst⟩ hready => ?roles,
    execRchunk_staged, fun hmsg hlen hstate hmissing hdata => ?commit, fun hmsg hempty => if_pos ⟨hmsg, by simpa [b] using hempty⟩,
    fun hstage => ⟨execRchunk_off hstage, execRcommit_off hstage, execRstat_off hstage⟩, execRecoveryWriteComplete_restarts,
    fun hdue hdst => if_neg (by simp [hdue, hdst]), fun hstage hjob hdst hstop hbusy hfaults hpass hsegs => ⟨_, if_pos (by simp [*]), s.eclose_leaves⟩⟩
  case roles =>
    have hassign := execRoleAssign_ready hstage hlow hdst hready
    refine ⟨fun ha hfirst => ?assigned, fun hnone => ?recovery⟩
    case assigned =>
      rw [find?_finRange3 (by simpa using ha) (fun j hj => by simpa using hfirst j hj)] at hassign
      obtain ⟨htally, hactive⟩ := s.assignRoles_leaves a a
      obtain ⟨-, hk⟩ := s.assignRoles_leaves a k
      refine ⟨_, hassign, by rw [htally]; rfl, by rw [htally]; rfl, hactive.trans ?_, fun hka hverified => hk.trans ?_, fun hverified => hk.trans (if_neg hverified)⟩
      · exact (if_pos ha).trans (if_pos rfl)
      · exact (if_pos hverified).trans (if_neg hka)
    case recovery =>
      rw [List.find?_eq_none.2 (fun j _ => by simpa using hnone j)] at hassign
      exact ⟨_, hassign, s.enterRecovery_leaves⟩
  case commit =>
    have hcommit := execRcommit_verified hmsg hlen hstate rfl hmissing hdata
    exact ⟨fun hcode => hcommit.trans (congrArg (fun t : State => Host.Outcome.next (t.sendRstat f.peer)) (if_pos hcode)),
      fun hcode => hcommit.trans (congrArg (fun t : State => Host.Outcome.next (t.sendRstat f.peer)) (if_neg hcode))⟩

end Sys2Proof.Machine
end
